-- ==== Sys2Proof/Messages.lean ====
section
/-! DEFINITION. What reaches the device from outside: frames, packets, readings and the other operands of the commands. -/

namespace Sys2Proof

/-- A work item of a unit (R33): its kind, which fixes its cost and what its output takes of the next stage's credit, the code of the unit that the output goes to
(none where it leaves the units), and what the item itself takes of its own queue, in the unit's own measure (R30). -/
structure WorkItem where
  kind : Nat
  dest : Option Nat := none
  size : Nat := 1
deriving DecidableEq, Repr

/-- A work item that reached a queue of a unit in the bell that has ended: the unit's code, the queue, the unit that handed it on (none: it came from outside the units) and the item. -/
structure Arrival where
  unit : Nat
  queue : Nat
  src : Option Nat
  item : WorkItem
deriving DecidableEq, Repr

/-- What a port's lanes and its link saw in the bell that has ended (R62, R93): aligned lanes as a mask of the port's own lanes, a local and a remote fault, and whether
auto-negotiation and link training have completed. -/
structure LinkReport where
  port : Nat
  aligned : Nat
  localFault : Bool
  remoteFault : Bool
  trained : Bool
deriving DecidableEq, Repr

/-- A received or sent Ethernet frame: the octets from the destination address up to the FCS, whether the FCS is right, and how long after the last edge its reference point
crossed the lane balls, in 1/65,536 ns (R65, R67). -/
structure Frame where
  data : Bytes
  fcsOk : Bool := true
  ts : Nat := 0
deriving DecidableEq, Repr

/-- A management frame's directives (R66): the named port (none: normal lookup), and the timestamp directive 0 none, 1 two-step, 2 one-step with its tag. -/
structure MgmtDirective where
  port : Option Nat
  tsMode : Nat
  tag : Nat
deriving DecidableEq, Repr

/-- A RoCEv2 packet as an engine sees it (R132): addresses in IPv6 form, the ECN field, whether the ICRC is right, the BTH and the extension headers. -/
structure Packet where
  srcIp : Nat
  dstIp : Nat
  ecn : Nat
  icrcOk : Bool
  opcode : Nat
  destQp : Nat
  pkey : Nat
  psn : Nat
  ackReq : Bool
  becn : Bool
  /-- RETH: virtual address, key, DMA length. -/
  reth : Option (Nat × Nat × Nat)
  imm : Option Nat
  /-- AETH: syndrome and message sequence number. -/
  aeth : Option (Nat × Nat)
  /-- IETH of a SEND with Invalidate. -/
  ieth : Option Nat
  payload : Bytes
  /-- Ingress timestamp in 1/65,536 ns (R66). -/
  ts : Nat
deriving DecidableEq, Repr

/-- A packet an engine sends (R119, R126): addressing of the QP, the BTH, the extension headers and the payload. -/
structure TxPacket where
  engine : Nat
  qpn : Nat
  destQp : Nat
  dstMac : Nat
  vid : Nat
  dstIp : Nat
  srcIp : Nat
  cls : Nat
  dscp : Nat
  ecn : Nat
  opcode : Nat
  pkey : Nat
  psn : Nat
  ackReq : Bool
  becn : Bool
  reth : Option (Nat × Nat × Nat)
  imm : Option Nat
  aeth : Option (Nat × Nat)
  ieth : Option Nat
  payload : Bytes
deriving DecidableEq, Repr

/-- A work request firmware posts (R130): operation 1 SEND, 2 SEND with Immediate, 3 RDMA WRITE, 4 RDMA WRITE with Immediate, 5 RDMA READ, 6 SEND with Invalidate. -/
structure WorkRequest where
  op : Nat
  remoteVa : Nat
  remoteKey : Nat
  len : Nat
  data : Bytes
  imm : Nat
  /-- HBM address that an RDMA READ's data goes to. -/
  dest : Nat
deriving DecidableEq, Repr

/-- The answer of a drive to one command (R356, R219): NVMe status type and code, do-not-retry, and the data it returned. -/
structure DriveResult where
  sct : Nat
  sc : Nat
  dw0 : Nat
  data : Bytes
  /-- The submission queue head that the drive reports in the entry (R356). -/
  sqhd : Nat := 0
deriving DecidableEq, Repr

/-- What replay read of the ledger copies and of the map zones (R283-R287). A block that is not listed reads as zeros. -/
structure ReplayScan where
  /-- For copies 0 to 2, the blocks of the ledger slot: number and 4,160 bytes. -/
  copies : List (List (Nat × Bytes))
  /-- Blocks that a copy could not give: copy and block. -/
  unread : List (Nat × Nat)
  /-- Copies that could not be read at all. -/
  failed : List Nat
  /-- The clear blocks of the map zones (R286, R300): group, zone page and 4,160 bytes as read and, behind them, as reconstructed where they could not be used (R243). -/
  zones : List (Nat × Nat × Bytes)
  /-- Groups whose map zone has an unreadable row with three unknowns (R256). -/
  zonesLost : List Nat
deriving DecidableEq, Repr

/-- A change of PERST_EP_N with the strap EP_CLKMODE as it then stands (R404, R546). -/
structure PerstEp where
  asserted : Bool
  /-- EP_CLKMODE: high is separate reference clocks. -/
  clkmode : Bool
deriving DecidableEq, Repr

/-- How a drive's link has trained (R352): speed 1 to 6 and width 1, 2 or 4, as in `drive_info`. -/
structure DriveLink where
  speed : Nat
  width : Nat
deriving DecidableEq, Repr

/-- Capabilities of a drive that its root port reads before it enables it (R352, R353): Max Payload Size in bytes and CAP.TO. -/
structure DriveCap where
  mps : Nat
  timeout : Nat
deriving DecidableEq, Repr

/-- What a drive's Identify returned (R354, R361): SGLS, MDTS with CAP.MPSMIN, ONCS, the format in use and the rest that `drive_info` shows. -/
structure DriveIdentify where
  sgls : Nat
  oncs : Nat
  mpsMin : Nat
  ext : Bool
  model : Bytes
  serial : Bytes
  fwRev : Bytes
  mdts : Nat
  blocks : Nat
  lbaSize : Nat
  metaSize : Nat
  maxQueues : Nat
  nsReady : Bool
deriving DecidableEq, Repr

/-- A BAR4 access (R397). -/
structure Bar4Access where
  wr : Bool
  off : Nat
  len : Nat
  data : Bytes
  /-- A write whose data is poisoned (R411). -/
  poisoned : Bool := false
  /-- The request's Relaxed Ordering attribute (R407). -/
  ro : Bool := false
deriving DecidableEq, Repr

/-- A completion for a master read (R409): status 0 successful, otherwise unsuccessful, and its data. -/
structure Completion where
  status : Nat
  poisoned : Bool
  data : Bytes
deriving DecidableEq, Repr

/-- Who sends a Brodlet request (R449). -/
inductive Requester where
  | core (n : Nat)
  | window
  | corolo (ring : Nat)
  | t1s (ip port : Nat)
  | vlan (ip port : Nat)
deriving DecidableEq, Repr

/-- A write to a register or object that has no row of its own (R438, R396), or a read of a register or of the expansion ROM, or a poisoned write to a BAR, which have none either (R8, R11, R396, R398, R411). -/
inductive RegWrite where
  | obj (index sub : Nat) (v : Bytes)
  | bar0 (off size v : Nat)
  | bar2 (off size v : Nat)
  | readBar0 (off size : Nat) (ro : Bool)
  | readBar2 (off size : Nat) (ro : Bool)
  | readRom (off len : Nat) (ro : Bool)
  | poisoned (bar2 : Bool)
deriving DecidableEq, Repr

/-- What a die's fuse load found (R500): whether a block passed only at a later attempt, and whether the repair map, the trims and (on the Saddle) the identity were read. -/
structure FuseResult where
  retried : Bool
  mapOk : Bool
  trimsOk : Bool
  identityOk : Bool
deriving DecidableEq, Repr

/-- What Erral reads from a boot slot (R318): the 256-byte header and the bytes that follow it. -/
structure BootSlot where
  header : Bytes
  body : Bytes
deriving DecidableEq, Repr

/-- Firmware's own drive command (R98, R216, R268, R388). -/
structure FwDriveIo where
  op : Nat
  lba : Nat
  nblocks : Nat
  cdw : List Nat
  data : Bytes
deriving DecidableEq, Repr

/-- Bits shifted into the boundary register, first bit first (R513). -/
abbrev Bits := List Bool

/-- One bay's readings of the bell that has ended (R335, R336): voltage across the 12 V and the aux sense resistor (nV), 12 V and aux midpoints (mV), gate above the 12 V midpoint (mV). -/
structure AdcReading where
  bay : Nat
  s12 : Int
  sAux : Int
  v12 : Int
  vAux : Int
  gate : Int
deriving DecidableEq, Repr

/-- How a sideband transfer ended (R357): acknowledged, not acknowledged, or with the clock held low for more than 35 ms. -/
inductive SidebandEnd where
  | ack
  | nak
  | clockLow
deriving DecidableEq, Repr

/-- A memory error met in the bell that has ended (R479, R486): word address, verdict 1 corrected or 2 uncorrectable or 3 unwritten, the fault source of the area's consumer where the manual names one, and what the read was for: the port, frame, forwarding entry (VID and MAC), QP, bay, command, lane, ring place or slot. -/
structure MemError where
  inst : Nat
  addr : Nat
  verdict : Nat
  consumer : Option Nat
  handle : Nat
deriving DecidableEq, Repr

/-- What the physical world did in the bell that an edge ends. -/
structure EdgeInput where
  /-- Units whose started item has not completed at this edge, as (die, region, unit) (R36). -/
  late : List (Nat × Nat × Nat)
  /-- Work items that reached a unit's queue in the bell that has ended (R33). -/
  arrive : List Arrival
  /-- What each stage's arbitration has for its upstream neighbours: unit code, neighbour's unit code, amount (R31). -/
  share : List (Nat × Nat × Nat)
  /-- Repeaters that received another number with the edge than the master sent: die and number (R26). -/
  repeater : List (Nat × Nat)
  /-- What the ports' links saw (R62). -/
  link : List LinkReport
  /-- Cells of frames still arriving that wait at each output buffer's five sources, by ridge (R77). -/
  cells : List (Nat × List Nat)
  /-- Cells of frames still arriving that have been written to a buffer, by ridge (R78). -/
  reception : List (Nat × Nat)
  /-- Bytes in the receive FIFO of the frame still arriving, by port (R70). -/
  fifo : List (Nat × Nat)
  /-- Lane, corrected codewords, uncorrectable codewords, corrected symbols (R63). -/
  fec : List (Nat × Nat × Nat × Nat)
  adc : List AdcReading
  /-- Bays whose root port's link reported a correctable error with AER (R356, R363). -/
  aer : List Nat
  /-- Errors of the endpoint's link and received requests, as their places in the order of R411: 0-4 and 7-11. -/
  epErr : List Nat
  memory : List MemError
  /-- PWRFAIL_N sampled low (R218, R293). -/
  pwrfail : Bool
deriving DecidableEq, Repr

end Sys2Proof
end

