-- ==== Sys2Proof/Syntax.lean ====
section
/-! DEFINITION. The commands of the block: one constructor per row of the opcode table. A row that is a write of a CMD object takes the bytes written to it (byte 0 is the opcode, R12); a row of the command path of chapter 07 takes the handle of its command entry; a row that the block's own time brings about takes the numbers that say which instance acts. -/

namespace Sys2Proof

/-- The commands, in the order of the table; the rule named is the row's own. -/
inductive Instr where
  /-- BELL_EDGE (R29): A bell edge arrives and runs the fixed per-bell sequence: credit read, refills, ADC results, fault -/
  | bellEdge (x : EdgeInput)
  /-- LATE_ITEM_COMPLETE (R36): A late item completes in a later bell and hands off under its reserved credit. -/
  | lateItemComplete (die : Nat) (region : Nat) (unit : Nat)
  /-- EDGE_TIMEOUT (R26): No edge reaches a repeater within 2,200 ns; FS2 is raised and the repeater drives edges from its own count. -/
  | edgeTimeout (die : Nat)
  /-- PTP_LOCK_WRITE (R17): A write of ptp_lock asserts, refreshes or drops lock and may make a realignment request. -/
  | ptpLockWrite (v : Nat)
  /-- LOCK_HOLDOVER_EXPIRED (R17): No write of 1 to ptp_lock within lock_holdover bells makes the bell leave the aligned state. -/
  | lockHoldoverExpired
  /-- BELL_PHASE_WRITE (R20): A write of bell_phase sets the phase and, under lock, makes a realignment request. -/
  | bellPhaseWrite (v : Nat)
  /-- TIME_STEP (R20): The time_step command steps the PTP clock at the next edge and, under lock, requests realignment. -/
  | timeStep (par : Bytes)
  /-- TIME_SET (R20): The time_set command sets the PTP clock at the next edge and, under lock, requests realignment. -/
  | timeSet (par : Bytes)
  /-- REBASE (R22): The rebase command realigns without the forward condition, advances the bell era and clears rebase_needed. -/
  | rebase (par : Bytes)
  /-- REALIGNMENT (R21): At the first edge after a realignment request the device computes T* and N*, stretches the bell or sets -/
  | realignment
  /-- REFERENCE_FAIL (R19): The 25 MHz reference stops and the bell master switches to the Millhouse oscillator, sets reference and -/
  | referenceFail
  /-- OVERRUN_REARM (R38): A write of overrun_rearm clears and re-arms the overrun capture of each named die. -/
  | overrunRearm (v : Nat)
  /-- DOMAIN_OFF (R56): hier_command action 0 checks dependants and live work, then command-fences, clamps and opens the named -/
  | domainOff (par : Bytes)
  /-- DOMAIN_ON (R55): hier_command action 1 starts the named domains in rank order after checking dependencies. -/
  | domainOn (par : Bytes)
  /-- CLUSTER_QUIESCE (R43): hier_command action 2 makes a cluster publish zero credit and start no new item. -/
  | clusterQuiesce (par : Bytes)
  /-- CLUSTER_RESUME (R43): hier_command action 3 makes a quiesced cluster publish credit again from the next guard interval. -/
  | clusterResume (par : Bytes)
  /-- REGION_COMMAND_FENCE (R44): hier_command action 4 sets a region's command fence from the next edge. -/
  | regionCommandFence (par : Bytes)
  /-- REGION_COMMAND_UNFENCE (R45): hier_command action 5 releases a region's command fence, reporting outcome 4 if a fault fence remains. -/
  | regionCommandUnfence (par : Bytes)
  /-- DOMAIN_FORCED_OFF (R56): hier_command action 6 switches domains off, discarding held items as wasted. -/
  | domainForcedOff (par : Bytes)
  /-- QUIESCE_COMPLETE (R43): At the first edge with no item of the cluster in flight the quiesce completes and its outcome is set. -/
  | quiesceComplete
  /-- DOMAIN_SWITCH_START (R55): A domain's power switches close once the 50 us stagger and its dependencies allow. -/
  | domainSwitchStart (d : Nat)
  /-- DOMAIN_POWER_GOOD (R55): A switched-on domain reaches power-good and its spare-row map and trims are reapplied. -/
  | domainPowerGood (d : Nat)
  /-- DOMAIN_PG_TIMEOUT (R55): A domain without power-good or a clock-good edge within 200 us of switch start reopens its switches, raises -/
  | domainPgTimeout (d : Nat)
  /-- DOMAIN_RELEASE (R55): A domain's regions are released at the first edge with clock-good, each holding a command fence. -/
  | domainRelease (d : Nat)
  /-- DOMAIN_TRAINED (R55): Calibration and training of a domain finish and its pd_state bit is set. -/
  | domainTrained (d : Nat) (failedLanes : Nat)
  /-- DOMAIN_RETENTION_LOST (R56): A domain being switched off falls below retention, and the next domain starts or the outcome is reported. -/
  | domainRetentionLost (d : Nat)
  /-- CLOCK_GOOD_LOST (R52): A released die loses clock-good, and its housekeeping island fault-fences its regions, clamps its links and -/
  | clockGoodLost (die : Nat)
  /-- UCIE_RETRY (R50): A UCIe link retries a flit or repairs a lane and raises FS23. -/
  | ucieRetry (link : Nat)
  /-- UCIE_LINK_FAIL (R50): A UCIe link fails to train or stops, raising FS24-FS33; a failed mesh link reroutes through a third ridge. -/
  | ucieLinkFail (link : Nat)
  /-- PORT_MODE_WRITE (R61): A write of port_mode or interface on a disabled port sets the mode and makes or frees member lanes. -/
  | portModeWrite (port : Nat) (sub : Nat) (v : Nat)
  /-- PORT_ENABLE_WRITE (R62): A write of port_enable starts or stops link bring-up of a port. -/
  | portEnableWrite (port : Nat) (v : Nat)
  /-- PORT_UP (R62): A port is declared up after every lane has alignment and no fault has been seen for 10 ms, and a port-up -/
  | portUp (port : Nat)
  /-- PORT_DOWN (R64): A port goes down; its learned entries are removed, its queues flushed, its pauses released and a port-down -/
  | portDown (port : Nat) (localFault : Bool)
  /-- FEC_WINDOW_END (R63): At the end of each 1,048,576-bell window the lane's corrected symbols are judged against fec_ser_limit. -/
  | fecWindowEnd (lane : Nat)
  /-- FRAME_RECEIVE (R67): A frame is received whole, FCS-checked and validated, then learned, coloured, forwarded and admitted. -/
  | frameReceive (port : Nat) (f : Frame)
  /-- PFC_REFRESH (R84): A held XOFF repeats its PFC frame before half the pause time has elapsed. -/
  | pfcRefresh (port : Nat) (cls : Nat)
  /-- PFC_RECEIVE (R87): A received PFC frame pauses or resumes classes at the port. -/
  | pfcReceive (port : Nat) (mask : Nat) (quanta : List Nat)
  /-- PAUSE_EXPIRY (R87): A paused class's quanta time runs out and the class resumes. -/
  | pauseExpiry (port : Nat) (cls : Nat)
  /-- PFC_STORM_DETECT (R88): A class held paused for storm_detect bells raises the storm source, posts an event and may ignore pause. -/
  | pfcStormDetect (port : Nat) (cls : Nat)
  /-- PFC_STORM_RESTORE (R88): No non-zero pause for storm_restore bells ends the storm-drop state of a class. -/
  | pfcStormRestore (port : Nat) (cls : Nat)
  /-- XOFF_STORM_DETECT (R89): An XOFF held for storm_detect bells raises the storm-transmitted source. -/
  | xoffStormDetect (port : Nat) (cls : Nat)
  /-- FDB_AGE_EXPIRY (R72): A learned entry not seen for fdb_age bells is removed. -/
  | fdbAgeExpiry (vid : Nat) (mac : Nat)
  /-- FRAME_TRANSMIT (R92): An egress scheduler transmits a frame with tagging, rewrite and mark applied, releasing its cells. -/
  | frameTransmit (inst : Nat) (ts : Nat)
  /-- MGMT_FRAME_SEND (R66): The management port sends a frame under its egress and timestamp directives. -/
  | mgmtFrameSend (dir : MgmtDirective) (f : Frame)
  /-- FDB_ADD_STATIC (R95): switch_command opcode 1 adds a static forwarding entry. -/
  | fdbAddStatic (par : Bytes)
  /-- FDB_DELETE (R95): switch_command opcode 2 deletes a forwarding entry. -/
  | fdbDelete (par : Bytes)
  /-- FDB_FLUSH (R95): switch_command opcode 3 flushes forwarding entries by VID and port. -/
  | fdbFlush (par : Bytes)
  /-- FDB_LOOKUP (R95): switch_command opcode 4 returns a forwarding entry. -/
  | fdbLookup (par : Bytes)
  /-- GROUP_WRITE (R95): switch_command opcode 5 writes a multicast group. -/
  | groupWrite (par : Bytes)
  /-- GROUP_READ (R95): switch_command opcode 6 reads a multicast group. -/
  | groupRead (par : Bytes)
  /-- VLAN_WRITE (R95): switch_command opcode 7 writes a VLAN's member and untagged bitmaps. -/
  | vlanWrite (par : Bytes)
  /-- VLAN_READ (R95): switch_command opcode 8 reads a VLAN's bitmaps. -/
  | vlanRead (par : Bytes)
  /-- SAMPLE_WINDOW_END (R112): At the first edge after a sampling window each queue publishes min, mean and max of depth and delay. -/
  | sampleWindowEnd (kind : Nat)
  /-- GATE_LIST_SWITCH (R115): A pending gate list becomes oper at the first cycle boundary at or after its base. -/
  | gateListSwitch (kind : Nat) (inst : Nat)
  /-- QUEUE_WRITE (R118): sched_command opcode 1 writes a queue's weight, strict flag, class and shaper. -/
  | queueWrite (par : Bytes)
  /-- QUEUE_READ (R118): sched_command opcode 2 reads a queue's configuration. -/
  | queueRead (par : Bytes)
  /-- INSTANCE_SHAPER_WRITE (R118): sched_command opcode 3 writes an instance shaper. -/
  | instanceShaperWrite (par : Bytes)
  /-- INSTANCE_SHAPER_READ (R118): sched_command opcode 4 reads an instance shaper. -/
  | instanceShaperRead (par : Bytes)
  /-- POLICER_WRITE (R108): sched_command opcode 5 writes a policer, refilling its counts at the next edge. -/
  | policerWrite (par : Bytes)
  /-- POLICER_READ (R118): sched_command opcode 6 reads a policer. -/
  | policerRead (par : Bytes)
  /-- POLICE_MAP_WRITE (R107): sched_command opcode 7 maps a port and class to a policer of its ridge. -/
  | policeMapWrite (par : Bytes)
  /-- POLICE_MAP_READ (R118): sched_command opcode 8 reads a police map entry. -/
  | policeMapRead (par : Bytes)
  /-- GATE_ADMIN_WRITE (R118): sched_command opcode 9 writes entries of a gate admin list. -/
  | gateAdminWrite (par : Bytes)
  /-- GATE_COMMIT (R115): sched_command opcode 10 commits the admin list as the pending list with an adjusted base. -/
  | gateCommit (par : Bytes)
  /-- GATE_READ (R118): sched_command opcode 11 reads the oper and pending gate lists. -/
  | gateRead (par : Bytes)
  /-- SAMPLE_FETCH (R118): sched_command opcode 12 returns published depth and delay samples. -/
  | sampleFetch (par : Bytes)
  /-- PACKET_RECEIVE (R132): A RoCEv2 packet delivered to an engine passes the receive checks and is executed, acknowledged, NAKed or -/
  | packetReceive (engine : Nat) (p : Packet)
  /-- CONTEXT_FETCH_COMPLETE (R128): A fetched context is installed and its waiting packets are processed in arrival order. -/
  | contextFetchComplete (qpn : Nat) (bad : Bool)
  /-- CONTEXT_WRITEBACK_COMPLETE (R127): An evicted context's write-back to HBM completes. -/
  | contextWritebackComplete (qpn : Nat)
  /-- RETRANSMIT_TIMEOUT (R139): A QP's retransmission timer expires, resending from una_psn or moving the QP to Error. -/
  | retransmitTimeout (qpn : Nat)
  /-- RNR_WAIT_EXPIRY (R140): An RNR wait ends and the requester goes back to the NAK's PSN. -/
  | rnrWaitExpiry (qpn : Nat)
  /-- QP_CREATE (R122): qp_command opcode 1 places and creates a QP. -/
  | qpCreate (par : Bytes)
  /-- QP_CONNECT (R123): qp_command opcode 2 moves an Init QP to Ready with its connection parameters. -/
  | qpConnect (par : Bytes)
  /-- QP_TO_ERROR (R123): qp_command opcode 3 moves a QP to Error with cause 10. -/
  | qpToError (par : Bytes)
  /-- QP_DESTROY (R125): qp_command opcode 4 starts destroying an Init or Error QP. -/
  | qpDestroy (par : Bytes)
  /-- QP_DESTROY_COMPLETE (R125): At the first edge with no item of the QP in flight the slot's gen advances, its context is zeroed and it -/
  | qpDestroyComplete (qpn : Nat)
  /-- QP_QUERY (R154): qp_command opcode 5 returns the public context. -/
  | qpQuery (par : Bytes)
  /-- DOMAIN_ALLOCATE (R143): qp_command opcode 6 allocates a protection domain. -/
  | domainAllocate (par : Bytes)
  /-- DOMAIN_FREE (R143): qp_command opcode 7 frees an unused protection domain. -/
  | domainFree (par : Bytes)
  /-- MR_REGISTER (R146): mr_command opcode 1 registers a memory region and issues its key. -/
  | mrRegister (par : Bytes)
  /-- MR_REVOKE (R148): mr_command opcode 2 makes a region Draining at the next edge. -/
  | mrRevoke (par : Bytes)
  /-- MR_QUERY (R155): mr_command opcode 3 returns a region's state. -/
  | mrQuery (par : Bytes)
  /-- MR_DRAIN_COMPLETE (R148): At the first edge with no references a Draining region advances its tag and becomes Free. -/
  | mrDrainComplete (idx : Nat)
  /-- REVOKE_TIMEOUT (R149): A region still referenced revoke_timeout bells after Draining forces its QPs to Error and raises FS75. -/
  | revokeTimeout (idx : Nat)
  /-- RATE_UPDATE (R162): At each rate-update edge every QP applies its delay or ECN law and may change mode. -/
  | rateUpdate
  /-- IDLE_RESET (R163): After idle_reset idle intervals a QP's rate state returns to its initial values. -/
  | idleReset (qpn : Nat)
  /-- CC_SET_PROFILE_MODE (R170): cc_command opcode 1 sets a QP's congestion profile and mode. -/
  | ccSetProfileMode (par : Bytes)
  /-- CC_QUERY_RATE (R170): cc_command opcode 2 returns a QP's rate state. -/
  | ccQueryRate (par : Bytes)
  /-- CHAIN_ARM (R173): chain_command opcode 1 arms a chain on a trigger QP after checking its WRs. -/
  | chainArm (par : Bytes)
  /-- CHAIN_DISARM (R177): chain_command opcode 2 disarms a chain from the next edge. -/
  | chainDisarm (par : Bytes)
  /-- CHAIN_DISARM_COMPLETE (R177): A disarm completes once no WR of the chain is posted and not completed. -/
  | chainDisarmComplete (engine : Nat) (chain : Nat)
  /-- CHAIN_QUERY (R182): chain_command opcode 3 returns a chain's state. -/
  | chainQuery (par : Bytes)
  /-- MIRROR_BIND (R179): chain_command opcode 4 binds an intake QP number to a local mirror QP. -/
  | mirrorBind (par : Bytes)
  /-- MIRROR_UNBIND (R182): chain_command opcode 5 removes a mirror binding. -/
  | mirrorUnbind (par : Bytes)
  /-- CHAIN_WR_START (R175): A Running chain starts its next WR once its predecessor is posted or completed. -/
  | chainWrStart (engine : Nat) (chain : Nat)
  /-- CHAIN_WR_COMPLETE (R172): A chain WR is acknowledged or its data lands, and the chain proceeds, re-arms or goes Idle. -/
  | chainWrComplete (engine : Nat) (chain : Nat) (wr : Nat)
  /-- NVME_FLUSH (R204): A Flush command completes successfully in the bell after its parse with no drive I/O. -/
  | nvmeFlush (h : Nat)
  /-- NVME_WRITE (R198): A Write command is checked, chunked, given ledger sequences and its data fetched for staging. -/
  | nvmeWrite (h : Nat)
  /-- NVME_READ (R203): A Read command is checked and each block served from staging, cache or drives. -/
  | nvmeRead (h : Nat)
  /-- NVME_COMPARE (R204): A Compare command reads as a Read and compares each block. -/
  | nvmeCompare (h : Nat)
  /-- NVME_WRITE_ZEROES (R204): A Write Zeroes command writes encrypted zeros or deallocates as a write-class command. -/
  | nvmeWriteZeroes (h : Nat)
  /-- NVME_DATASET_MANAGEMENT (R204): A Dataset Management command deallocates its ranges as a write-class command. -/
  | nvmeDatasetManagement (h : Nat)
  /-- NVME_ABORT (R206): An Abort is completed in the bell after its parse with command-not-aborted. -/
  | nvmeAbort (h : Nat)
  /-- NVME_KEEP_ALIVE (R207): A Keep Alive restarts the association's timer and completes in the bell after its parse. -/
  | nvmeKeepAlive (h : Nat)
  /-- INBOX_ROUTE (R191): A capsule for firmware is written as an inbox record or held in its entry while the inbox is full. -/
  | inboxRoute (h : Nat)
  /-- INBOX_HELD_DELIVER (R192): A capsule held for a full inbox is delivered in order once a record frees. -/
  | inboxHeldDeliver
  /-- OUTBOX_RECORD (R193): The device consumes an outbox record, moves its data and sends its CQE. -/
  | outboxRecord
  /-- KEEP_ALIVE_EXPIRED (R207): An association's keep-alive timer expires, moving its QPs to Error and raising FS92. -/
  | keepAliveExpired (assoc : Nat)
  /-- NAMESPACE_WRITE (R223): target_command opcode 1 writes a namespace. -/
  | namespaceWrite (par : Bytes)
  /-- NAMESPACE_READ (R223): target_command opcode 2 reads a namespace. -/
  | namespaceRead (par : Bytes)
  /-- ACCESS_WRITE (R187): target_command opcode 3 writes access codes of host groups. -/
  | accessWrite (par : Bytes)
  /-- ASSOCIATION_BIND (R223): target_command opcode 4 binds an association. -/
  | associationBind (par : Bytes)
  /-- ASSOCIATION_RELEASE (R223): target_command opcode 5 releases an association. -/
  | associationRelease (par : Bytes)
  /-- QUEUE_BIND (R189): target_command opcode 6 binds a QP as a Pending queue and reserves entries. -/
  | queueBind (par : Bytes)
  /-- QUEUE_ENABLE (R189): target_command opcode 7 makes a queue Live. -/
  | queueEnable (par : Bytes)
  /-- QUEUE_UNBIND (R223): target_command opcode 8 unbinds an empty queue. -/
  | queueUnbind (par : Bytes)
  /-- RESERVATION_VIEW_WRITE (R213): target_command opcode 9 writes a namespace's reservation view, effective at the next edge. -/
  | reservationViewWrite (par : Bytes)
  /-- ASSOCIATION_QUERY (R223): target_command opcode 10 returns an association's state. -/
  | associationQuery (par : Bytes)
  /-- HOST_GROUP_WRITE (R188): target_command opcode 11 sets a host group's tenant. -/
  | hostGroupWrite (par : Bytes)
  /-- CHUNK_STAGE (R273): A chunk is encrypted and its record image built in staging once room exists. -/
  | chunkStage (h : Nat) (chunk : Nat)
  /-- RECORD_SUBMIT (R274): Records are written to each copy as FUA Writes in queue 0 once the 1,024-place window allows. -/
  | recordSubmit
  /-- LEDGER_WRITE_COMPLETE (R275): A ledger Write completes on a copy and records become durable when all live copies have completed. -/
  | ledgerWriteComplete (copy : Nat) (place : Nat) (count : Nat) (ok : Bool)
  /-- LEDGER_COPY_TIMEOUT (R280): A ledger command outstanding for member_timeout bells fails its copy. -/
  | ledgerCopyTimeout (copy : Nat)
  /-- REPLICATION_BUFFER_RELEASE (R273): A replication buffer entry is released 64 bells after it was filled. -/
  | replicationBufferRelease (place : Nat)
  /-- CHECKPOINT_PERSISTED (R279): A write of checkpoint_persisted frees ledger blocks to the descriptor's tail and retires kinds 7 and 8. -/
  | checkpointPersisted (v : Nat)
  /-- SEEDING_COMPLETE (R282): A seeding copy becomes live once its background writes complete, and writes may resume. -/
  | seedingComplete (copy : Nat)
  /-- LEDGER_CREATE (R296): ledger_command opcode 1 creates a new empty ledger on three bays. -/
  | ledgerCreate (par : Bytes)
  /-- COPY_REPLACE (R282): ledger_command opcode 2 starts seeding a new copy in a slot. -/
  | copyReplace (par : Bytes)
  /-- REPLAY (R283): ledger_command opcode 3 starts replay of the ledger from a descriptor. -/
  | replay (par : Bytes)
  /-- REPLAY_COMPLETE (R286): Replay finishes scanning, applies and rewrites records and opens the ledger, or fails with FS120. -/
  | replayComplete (scan : ReplayScan)
  /-- DRAIN (R296): ledger_command opcode 4 merges everything placed before acceptance, ignoring merge_hold. -/
  | drain (par : Bytes)
  /-- DRAIN_COMPLETE (R296): A drain completes when every record placed before it is retired. -/
  | drainComplete
  /-- PWRFAIL_WARNING (R293): PWRFAIL_N sampled low at two edges records pwrfail_bell, raises FS119 and stops all drive command submission. -/
  | pwrfailWarning
  /-- MERGE_START (R234): A merge claims its stripe merge_hold bells after its oldest record is durable and issues its reads or -/
  | mergeStart (group : Nat) (stripe : Nat)
  /-- MERGE_COMMIT_SUBMIT (R236): When every drive write of a merge completes its commit record is submitted. -/
  | mergeCommitSubmit (group : Nat) (stripe : Nat)
  /-- CLAIM_GRANT (R237): A waiting stripe claim is granted in request order with its operand slots. -/
  | claimGrant (group : Nat) (stripe : Nat)
  /-- FLOAT_RETURN (R239): An old physical stripe joins the float once no read using it is in flight. -/
  | floatReturn (group : Nat) (phys : Nat)
  /-- DRIVE_COMPLETION (R356): The root port observes a drive completion entry and hands the result to its consumer. -/
  | driveCompletion (bay : Nat) (cid : Nat) (r : DriveResult)
  /-- MEMBER_TIMEOUT (R245): A drive command outstanding for member_timeout bells fails the member with cause 4. -/
  | memberTimeout (bay : Nat) (cid : Nat)
  /-- SPARE_TAKE (R248): A group with a missing position takes the lowest fitting spare at the next edge and starts rebuilding. -/
  | spareTake (group : Nat)
  /-- REBUILD_ITEM_COMPLETE (R249): A rebuild item writes the missing units of a stripe and advances the cursor, completing the rebuild at the -/
  | rebuildItemComplete (group : Nat) (stripe : Nat)
  /-- SCRUB_ITEM_COMPLETE (R257): A scrub item checks a stripe's syndromes and rewrites what it can resolve. -/
  | scrubItemComplete (group : Nat) (stripe : Nat)
  /-- RESHAPE_COPY_COMMIT (R259): A reshape copy step commits, advancing the copy cursor, and the final step writes the switch record. -/
  | reshapeCopyCommit (vol : Nat)
  /-- GROUP_CREATE (R263): layout_command opcode 1 creates a layout group. -/
  | groupCreate (par : Bytes)
  /-- GROUP_DELETE (R263): layout_command opcode 2 deletes a group without volumes. -/
  | groupDelete (par : Bytes)
  /-- GROUP_QUERY (R263): layout_command opcode 3 returns a group's state and positions. -/
  | groupQuery (par : Bytes)
  /-- VOLUME_CREATE (R263): layout_command opcode 4 creates a volume and sets its epoch window. -/
  | volumeCreate (par : Bytes)
  /-- VOLUME_DELETE (R263): layout_command opcode 5 deletes a volume and clears its written bits. -/
  | volumeDelete (par : Bytes)
  /-- VOLUME_QUERY (R263): layout_command opcode 6 returns a volume's layout and reshape state. -/
  | volumeQuery (par : Bytes)
  /-- RESHAPE_START (R258): layout_command opcode 7 starts reshaping a volume to a target range. -/
  | reshapeStart (par : Bytes)
  /-- RESHAPE_PAUSE_RESUME (R261): layout_command opcode 8 pauses or resumes a reshape. -/
  | reshapePauseResume (par : Bytes)
  /-- REBUILD_START (R263): layout_command opcode 9 starts a rebuild by command. -/
  | rebuildStart (par : Bytes)
  /-- SCRUB_CONTROL (R263): layout_command opcode 10 stops scrub or starts one or continuous passes. -/
  | scrubControl (par : Bytes)
  /-- MEMBER_FAIL_COMMAND (R245): layout_command opcode 11 fails a member with cause 6. -/
  | memberFailCommand (par : Bytes)
  /-- LOST_LIST_FETCH (R263): layout_command opcode 12 returns lost-block list entries. -/
  | lostListFetch (par : Bytes)
  /-- KEY_HOLD_EXPIRY (R306): A held derived key unused for key_hold bells is erased. -/
  | keyHoldExpiry (lane : Nat) (vol : Nat) (epoch : Nat)
  /-- WSEQ_GRANT (R302): A write of wseq_grant raises wseq_limit when the value is in range. -/
  | wseqGrant (v : Nat)
  /-- SERVICE_DESCRIPTOR (R316): The device takes a firmware cipher service descriptor and processes it in 4 KiB items. -/
  | serviceDescriptor
  /-- SERVICE_DESCRIPTOR_COMPLETE (R314): A service descriptor's status is written, svc_cons advances and the cipher interrupt is signalled. -/
  | serviceDescriptorComplete
  /-- RANDOM_HEALTH_FAIL (R317): A random source health test fails, raising FS137 and refusing commands needing random values. -/
  | randomHealthFail
  /-- ROOT_CREATE (R326): cipher_command opcode 1 draws and loads a root key and shelf_id and returns a self-addressed wrap. -/
  | rootCreate (signed : Bool) (par : Bytes)
  /-- UNWRAP (R328): cipher_command opcode 2 unwraps and loads a root key from a wrap entry. -/
  | unwrap (par : Bytes)
  /-- ENROLL (R329): cipher_command opcode 3 verifies an identity block and returns a wrap entry to it. -/
  | enroll (signed : Bool) (par : Bytes)
  /-- ESCROW_EXPORT (R329): cipher_command opcode 4 returns a wrap entry to an escrow key. -/
  | escrowExport (signed : Bool) (par : Bytes)
  /-- ROOT_UNLOAD (R330): cipher_command opcode 5 erases the root key and derived keys at the next edge. -/
  | rootUnload (par : Bytes)
  /-- VOLUME_REKEY (R312): cipher_command opcode 6 moves a volume to a new key epoch. -/
  | volumeRekey (par : Bytes)
  /-- RESTORE (R303): cipher_command opcode 7 restores the write sequence base, epoch_next and operator counters. -/
  | restore (par : Bytes)
  /-- VOLUME_EPOCH_QUERY (R332): cipher_command opcode 8 returns a volume's epoch window. -/
  | volumeEpochQuery (par : Bytes)
  /-- OPERATOR_KEY_WRITE (R324): A write of an operator key slot is accepted unsigned only while all slots are empty. -/
  | operatorKeyWrite (slot : Nat) (signed : Bool) (key : Bytes)
  /-- MEASUREMENT_EXTEND (R321): fw_command opcode 1 extends a measurement register. -/
  | measurementExtend (par : Bytes)
  /-- ATTEST (R323): fw_command opcode 2 returns a signed attestation report for a nonce. -/
  | attest (par : Bytes)
  /-- ROLLBACK_ADVANCE (R320): fw_command opcode 3, signed, blows rollback fuses up to a value. -/
  | rollbackAdvance (signed : Bool) (par : Bytes)
  /-- OEM_REVOKE (R320): fw_command opcode 4, signed, revokes an OEM key hash. -/
  | oemRevoke (signed : Bool) (par : Bytes)
  /-- PRESENCE_CHANGE (R340): A presence pin changes; removal turns the gates off, asserts PERST and fails the member. -/
  | presenceChange (bay : Nat) (a : Bool) (b : Bool)
  /-- SEATING_COMPLETE (R339): A bay seated for 97,657 evaluations starts its ramp. -/
  | seatingComplete (bay : Nat)
  /-- PERST_RELEASE (R337): PERST is released 97,657 bells after power-good while the root-port domain is on. -/
  | perstRelease (bay : Nat)
  /-- FAST_TRIP (R343): The comparator pulls a bay's gate off within 1 us and latches the trip for the next evaluation. -/
  | fastTrip (bay : Nat)
  /-- EFUSE_TRIP (R344): An electronic-fuse timer reaches efuse_time and the bay's gates turn off. -/
  | efuseTrip (bay : Nat) (aux : Bool)
  /-- GATE_STUCK (R345): A gate not 4,000 mV above the midpoint within start_window bells records cause 4. -/
  | gateStuck (bay : Nat)
  /-- PG_TIMEOUT (R347): A ramp without power-good within pg_timeout bells records cause 7. -/
  | pgTimeout (bay : Nat)
  /-- OUTPUT_OUT_OF_WINDOW (R347): A powered bay's midpoint out of window for 98 evaluations records cause 6. -/
  | outputOutOfWindow (bay : Nat)
  /-- PASS_ELEMENT_SHORT (R346): A midpoint above 1,000 mV for 98 evaluations with gates off latches the bay and raises FS147. -/
  | passElementShort (bay : Nat)
  /-- RETRY_TIMER_EXPIRY (R339): A bay's retry timer expires and it ramps again if enabled and not fenced. -/
  | retryTimerExpiry (bay : Nat)
  /-- ADC_FAULT (R336): A channel out of range for 16 bells or a stopped converter raises FS156. -/
  | adcFault (bay : Nat) (channel : Nat) (stopped : Bool)
  /-- DRIVE_SHUTDOWN_COMPLETE (R342): The drive reports shutdown complete and PERST is asserted. -/
  | driveShutdownComplete (bay : Nat)
  /-- SHUTDOWN_TIMEOUT (R342): A drive shutdown exceeding shutdown_timeout is counted and proceeds. -/
  | shutdownTimeout (bay : Nat)
  /-- SHUTDOWN_GATE_OFF (R342): 977 bells after PERST in a shutdown the gates turn off and the bay leaves state 7. -/
  | shutdownGateOff (bay : Nat)
  /-- BAY_ENABLE_WRITE (R339): A write of bay_enable enables or disables a bay, refused while fenced or not in service. -/
  | bayEnableWrite (bay : Nat) (v : Nat)
  /-- BAY_RELEASE (R349): bay_command opcode 1 releases a latched bay and clears its fault history. -/
  | bayRelease (bay : Nat) (par : Bytes)
  /-- BAY_ENERGY_CLEAR (R349): bay_command opcode 2 clears bay_energy. -/
  | bayEnergyClear (bay : Nat) (par : Bytes)
  /-- BAY_POWER_CYCLE (R349): bay_command opcode 3 shuts a powered bay down, waits retry_time and ramps again. -/
  | bayPowerCycle (bay : Nat) (par : Bytes)
  /-- BAY_HISTORY_CLEAR (R349): bay_command opcode 4 clears a bay's fault history. -/
  | bayHistoryClear (bay : Nat) (par : Bytes)
  /-- DRIVE_LINK_UP (R353): A drive link trains and bring-up moves to Enabling. -/
  | driveLinkUp (bay : Nat) (link : DriveLink) (cap : DriveCap)
  /-- DRIVE_LINK_TIMEOUT (R353): No drive link within link_timeout fails bring-up with FS150. -/
  | driveLinkTimeout (bay : Nat)
  /-- DRIVE_CONTROLLER_READY (R353): CSTS.RDY becomes 1 and the port identifies the drive. -/
  | driveControllerReady (bay : Nat) (ams : Bool) (bar0 : Nat)
  /-- DRIVE_ENABLE_TIMEOUT (R353): CSTS.RDY still 0 after the enable timeout fails bring-up with FS152. -/
  | driveEnableTimeout (bay : Nat)
  /-- DRIVE_IDENTIFY_COMPLETE (R354): Identify completes and the drive is accepted, needs format or fails. -/
  | driveIdentifyComplete (bay : Nat) (info : DriveIdentify)
  /-- DRIVE_QUEUES_CREATED (R353): All I/O queue pairs are created and the drive becomes Ready. -/
  | driveQueuesCreated (bay : Nat) (ok : Bool)
  /-- CFS_POLL (R356): Every cfs_poll bells the port reads CSTS, and CFS fails the member with FS153. -/
  | cfsPoll (bay : Nat) (cfs : Bool)
  /-- DRIVE_LINK_DOWN (R356): A drive link down after Ready fails the member with cause 2. -/
  | driveLinkDown (bay : Nat)
  /-- DRIVE_AER_ERROR (R356): An uncorrectable AER error fails the member with cause 2 and FS154 and holds the link disabled. -/
  | driveAerError (bay : Nat)
  /-- SIDEBAND_POLL (R357): Every sb_poll bells the sideband reads temperature and critical warning. -/
  | sidebandPoll (bay : Nat) (how : SidebandEnd) (temp : Nat) (warning : Nat)
  /-- LED_SHIFT (R358): Every 1,024 bells the LED chain shifts 96 bits and pulses LED_LOAD. -/
  | ledShift
  /-- ADMIN_PASSTHROUGH (R362): drive_command opcode 1 sends an admin command to a drive. -/
  | adminPassthrough (par : Bytes)
  /-- ADMIN_TIMEOUT (R362): An admin passthrough not completed in admin_timeout ends with outcome 3. -/
  | adminTimeout (bay : Nat)
  /-- CONTROLLER_RESET (R362): drive_command opcode 2 resets a drive controller and reruns bring-up from Enabling. -/
  | controllerReset (par : Bytes)
  /-- SIDEBAND_TRANSFER (R362): drive_command opcode 3 performs a sideband transfer. -/
  | sidebandTransfer (par : Bytes) (how : SidebandEnd) (rd : Bytes)
  /-- LINK_RETRAIN (R362): drive_command opcode 4 retrains a drive link. -/
  | linkRetrain (par : Bytes)
  /-- ENTER_STANDBY (R365): standby_command opcode 1 moves the device from role 0 to role 1. -/
  | enterStandby (par : Bytes)
  /-- TAKE_OVER (R380): standby_command opcode 2 enters role 2 and enables every seated bay. -/
  | takeOver (par : Bytes)
  /-- HANDOVER_WAIT_END (R380): All enabled bays reach state 3 or handover_wait expires, starting the fence stagger. -/
  | handoverWaitEnd
  /-- FENCE_STAGGER_EXPIRY (R380): After fence_stagger bells the device asserts FENCE_OUT_N and enters role 3. -/
  | fenceStaggerExpiry
  /-- FENCE_RELEASE (R385): standby_command opcode 3 releases FENCE_OUT_N. -/
  | fenceRelease (par : Bytes)
  /-- RESIGN (R386): standby_command opcode 4, signed, stops drive I/O and moves the active device to role 1. -/
  | resign (signed : Bool) (par : Bytes)
  /-- FENCE_IN_ASSERT (R350): FENCE_IN_N low for 200 ns forces ports down, gates off and bay_enable to 0. -/
  | fenceInAssert
  /-- FENCE_IN_RELEASE (R367): FENCE_IN_N high for 1 ms is taken as released. -/
  | fenceInRelease
  /-- WITHDRAW (R366): At the edge after a withdrawal cause the device enters role 4 and stops drive I/O and completions. -/
  | withdraw
  /-- HB_REFRESH (R368): A write of hb_refresh in role 3 keeps ACTIVE_OUT beating for hb_hold bells. -/
  | hbRefresh (v : Nat)
  /-- HB_HOLD_EXPIRY (R368): No hb_refresh within hb_hold bells holds ACTIVE_OUT low. -/
  | hbHoldExpiry
  /-- BEAT_TOGGLE (R368): Every 488 bells while beating ACTIVE_OUT toggles. -/
  | beatToggle
  /-- ACTIVE_IN_EDGE (R369): A level change on ACTIVE_IN stable for 8 bells is taken as an edge and recorded. -/
  | activeInEdge (level : Bool)
  /-- BEAT_WINDOW_END (R369): At the end of each 1,024-edge window beat_seen is evaluated. -/
  | beatWindowEnd
  /-- PEER_FAIL_DETECT (R369): ACTIVE_IN high without an edge for 2,048 edges sets peer_fail and raises FS161. -/
  | peerFailDetect
  /-- ACTIVE_IN_SILENCE (R379): In role 1 no ACTIVE_IN edge for lease_time edges raises FS160. -/
  | activeInSilence
  /-- LEASE_CONFIRM (R378): A write of lease_confirm in role 3 sets lease_deadline. -/
  | leaseConfirm (v : Nat)
  /-- LEASE_DEADLINE (R378): The bell number reaches lease_deadline in role 3 and FS162 is raised. -/
  | leaseDeadline
  /-- EP_LINK_UP (R391): The endpoint link trains, raising FS176 when below its caps. -/
  | epLinkUp (speed : Nat) (width : Nat) (flit : Bool)
  /-- EP_CONFIG_REQUEST (R392): A configuration request is served, or answered with Request Retry Status before ep_config_ready. -/
  | epConfigRequest (wr : Bool) (off : Nat) (be : Nat) (data : Nat)
  /-- EP_CONFIG_READY_WRITE (R392): A write of ep_config_ready lets the endpoint answer configuration requests. -/
  | epConfigReadyWrite (v : Nat)
  /-- BAR4_ACCESS (R397): A BAR4 access is served to HBM inside an open aperture window or refused as Unsupported Request. -/
  | bar4Access (a : Bar4Access)
  /-- EP_FUNDAMENTAL_RESET (R404): PERST_EP_N or PD14 switch-on resets the endpoint and disables every ring. -/
  | epFundamentalReset (p : PerstEp)
  /-- EP_HOT_RESET (R404): An in-band hot reset resets the endpoint and disables every ring. -/
  | epHotReset
  /-- EP_FLR (R404): A write of Initiate FLR starts a function-level reset. -/
  | epFlr
  /-- EP_FLR_COMPLETE (R404): A function-level reset completes within 1 ms. -/
  | epFlrComplete
  /-- RESET_RECORD_WRITE (R406): Once started entries end after a reset the final heads and failures go to the reset record and -/
  | resetRecordWrite
  /-- INTERRUPT_PENDING_SEND (R402): A pending vector sends one message at the first edge it is unmasked and sending is allowed. -/
  | interruptPendingSend (vec : Nat)
  /-- EP_COMPLETION_RECEIVE (R409): A completion for an outstanding master read is accepted, fails its read, or is discarded as unexpected. -/
  | epCompletionReceive (tag : Nat) (c : Completion)
  /-- EP_COMPLETION_TIMEOUT (R409): A master read times out, failing its requester, logging Completion Timeout and quarantining its tag. -/
  | epCompletionTimeout (tag : Nat)
  /-- TAG_QUARANTINE_END (R410): A quarantined tag returns to the free pool at edge e + 2T. -/
  | tagQuarantineEnd (tag : Nat)
  /-- TAIL_DOORBELL (R423): A write of tail_db advances a ring's tail or stops the ring. -/
  | tailDoorbell (q : Nat) (t : Nat)
  /-- PUSH_DOORBELL (R423): A write of push_db advances the tail and copies entries from push_slot. -/
  | pushDoorbell (q : Nat) (t : Nat)
  /-- EXC_CONS_DOORBELL (R426): A write of exc_cons_db frees exception records and lets a stopped head move on. -/
  | excConsDoorbell (q : Nat) (t : Nat)
  /-- ENTRY_FETCH_COMPLETE (R424): A ring's fetch read completes and its entries wait to start, or a failed fetch stops the ring. -/
  | entryFetchComplete (q : Nat) (entries : List Bytes) (status : Nat)
  /-- COROLO_READ (R419): A Corolo read job is parsed and executed as its association's Read. -/
  | coroloRead (q : Nat)
  /-- COROLO_WRITE (R420): A Corolo write job reads its data from host memory and executes as a Write. -/
  | coroloWrite (q : Nat)
  /-- COROLO_FLUSH (R419): A Corolo flush job completes as R204 gives. -/
  | coroloFlush (q : Nat)
  /-- COROLO_DEALLOCATE (R419): A Corolo deallocate job deallocates its range as a write-class command. -/
  | coroloDeallocate (q : Nat)
  /-- DICTIONARY_EXCHANGE (R421): A Corolo job carries a Brodlet request and writes the response to its buffer. -/
  | dictionaryExchange (q : Nat) (msg : Bytes)
  /-- HEAD_PUBLISH (R425): The head of jobs ended in a bell is published with one 8-byte write in the next bell. -/
  | headPublish (q : Nat)
  /-- MOD_TIME_EXPIRY (R428): mod_time bells after the first unreported entry a message is sent on the ring's vector. -/
  | modTimeExpiry (q : Nat)
  /-- ADMIN_RING_ENABLE (R429): A write of 1 to admin_enable makes ring 0 Running at the next edge. -/
  | adminRingEnable
  /-- ADMIN_RING_DISABLE (R431): A write of 0 to admin_enable disables ring 0. -/
  | adminRingDisable
  /-- RESET_RECORD_CLEAR (R433): A write of 1 to rr_clear empties the reset record's failure list. -/
  | resetRecordClear
  /-- RING_CREATE (R429): Admin opcode 0x10 creates a ring, Running at the next edge. -/
  | ringCreate
  /-- RING_DISABLE (R431): Admin opcode 0x11 makes a ring Draining at the next edge. -/
  | ringDisable
  /-- RING_DESTROY (R429): Admin opcode 0x12 disables a ring if needed and frees it. -/
  | ringDestroy
  /-- RING_SET_MODERATION (R429): Admin opcode 0x13 sets a ring's moderation from the next edge. -/
  | ringSetModeration
  /-- RING_ENABLE (R429): Admin opcode 0x14 makes a Disabled ring Running at a start index. -/
  | ringEnable
  /-- RING_DRAIN_COMPLETE (R431): When a Draining ring's last started job ends its final head is published and recorded and it becomes Disabled. -/
  | ringDrainComplete (q : Nat)
  /-- BRODLET_REQUEST (R447): A Brodlet message is checked, answered from the duplicate cache or executed whole, and its response returned. -/
  | brodletRequest (src : Requester) (msg : Bytes)
  /-- DW_GO (R454): A write of dw_go submits the window's request and sets dw_busy. -/
  | dwGo
  /-- REGISTER_WRITE (R438): A write to a register or object without a row of its own sets its value under its checks and may advance -/
  | registerWrite (w : RegWrite)
  /-- DICT_EXPORT (R441): dict_command opcode 1 writes a snapshot of persisted values to HBM. -/
  | dictExport (par : Bytes)
  /-- DICT_IMPORT (R442): dict_command opcode 2 applies a snapshot from HBM. -/
  | dictImport (par : Bytes)
  /-- REQUESTER_TABLE_CLEAR (R461): dict_command opcode 3 clears the requester table. -/
  | requesterTableClear (par : Bytes)
  /-- HALT_FENCE (R468): At the edge after a halt the storage-path regions are fault-fenced. -/
  | haltFence
  /-- FAULT_N_PULSE_END (R470): A 10-bell FAULT_N pulse ends. -/
  | faultNPulseEnd
  /-- FAULT_N_HOLD_WRITE (R470): A write of fault_n_hold holds or releases FAULT_N low. -/
  | faultNHoldWrite (v : Nat)
  /-- FAULT_INJECT (R477): A write of fault_inject raises one injected event of a source. -/
  | faultInject (par : Bytes)
  /-- FIRST_FAULT_REARM (R473): A write of first_rearm empties and re-arms the first-fault capture. -/
  | firstFaultRearm (v : Nat)
  /-- SOURCE_CFG_WRITE (R464): A write of source_cfg sets enables and severities from the next bell, refused whole for codes 5-7. -/
  | sourceCfgWrite (j : Nat) (v : Bytes)
  /-- SEVERITY_ACTIONS_WRITE (R465): A write of severity_actions sets a severity's action set from the next bell. -/
  | severityActionsWrite (sev : Nat) (v : Nat)
  /-- SOURCE_RECOVERY (R474): A source quiet for quiet_period bells leaves the active state. -/
  | sourceRecovery (src : Nat)
  /-- FAULT_FENCE_RELEASE (R475): A region not fenced by an event for quiet_period bells is released from its fault fence. -/
  | faultFenceRelease (die : Nat) (region : Nat)
  /-- CORRECTED_WRITEBACK (R479): A corrected word is written back at the next free cycle of its port. -/
  | correctedWriteback (inst : Nat) (addr : Nat)
  /-- BUCKET_LEAK (R487): At each multiple of leak_interval each bucket is lowered by 1. -/
  | bucketLeak (inst : Nat)
  /-- REGION_FILL (R484): mp_command opcode 1 fills every word of a command-fenced region. -/
  | regionFill (par : Bytes)
  /-- HBM_FILL (R484): mp_command opcode 2 fills an HBM range. -/
  | hbmFill (par : Bytes)
  /-- FILL_COMPLETE (R484): A fill completes, setting its valid and written-map bits. -/
  | fillComplete
  /-- TEST_WRITE (R485): mp_command opcode 3 stores data and check bits unencoded. -/
  | testWrite (par : Bytes)
  /-- TEST_READ (R485): mp_command opcode 4 returns stored bits, syndrome and verdict without correction. -/
  | testRead (par : Bytes)
  /-- INSTANCE_QUERY (R491): mp_command opcode 5 returns an instance's error counts and repair use. -/
  | instanceQuery (par : Bytes)
  /-- POWER_ON_DETECT (R495): A PD-AO rail below threshold takes a reset cause. -/
  | powerOnDetect
  /-- PORST_N_ASSERT (R494): PORST_N low for 375 samples takes a reset cause. -/
  | porstNAssert
  /-- RESET_N_ASSERT (R494): RESET_N low for 375 samples takes a reset cause. -/
  | resetNAssert
  /-- RESET_CAUSE_END (R498): The last reset cause ends and bring-up begins from step 1. -/
  | resetCauseEnd (drvClkmode : Bool) (epClkmode : Bool) (fenceInLow : Bool)
  /-- RESET_STRETCH_END (R497): 1,001,000 oscillator cycles after the cause ends SYSRST_OUT_N and the T1S PHY reset are released. -/
  | resetStretchEnd
  /-- FUSE_LOAD_COMPLETE (R500): Each die finishes loading and checking its fuse blocks, using defaults after three failures. -/
  | fuseLoadComplete (die : Nat) (r : FuseResult)
  /-- CLOCK_GOOD_REACHED (R501): A die's PLL locks and reaches clock-good. -/
  | clockGoodReached (die : Nat)
  /-- CLOCK_GOOD_TIMEOUT (R501): A die without clock-good in 10 ms stops bring-up or is held out of service with FS235. -/
  | clockGoodTimeout (die : Nat)
  /-- SADDLE_RELEASE (R499): Saddle regions 9 and 10 are released, bell 0 begins, PD-AO memories fill, identity is derived and recorded -/
  | saddleRelease
  /-- ERRAL_VERIFY_COMPLETE (R319): Erral finishes verifying the slots and boots firmware after its memory fill, or holds the cores in reset. -/
  | erralVerifyComplete (a : BootSlot) (b : BootSlot)
  /-- DOMAIN_BRING_UP (R499): reset_command opcode 1 switches on the domains of pd_boot_set. -/
  | domainBringUp (par : Bytes)
  /-- LOGIC_BIST (R505): bist_command opcode 1 runs logic BIST on eligible regions. -/
  | logicBist (par : Bytes)
  /-- MEMORY_BIST (R505): bist_command opcode 2 runs memory BIST on eligible regions. -/
  | memoryBist (par : Bytes)
  /-- LOGIC_AND_MEMORY_BIST (R505): bist_command opcode 3 runs logic then memory BIST. -/
  | logicAndMemoryBist (par : Bytes)
  /-- BIST_REGION_COMPLETE (R506): A region's test ends; it is reset and released fenced and its MISRs recorded. -/
  | bistRegionComplete (die : Nat) (region : Nat) (mismatches : Nat)
  /-- DUMP_CAPTURE (R509): dump_command opcode 1 captures the named sections into the dump area. -/
  | dumpCapture (par : Bytes)
  /-- DUMP_CAPTURE_COMPLETE (R509): The hardware sections of a capture are written. -/
  | dumpCaptureComplete (lens : List Nat)
  /-- DUMP_CLOSE (R510): dump_command opcode 2 writes the header and directory and sets closed. -/
  | dumpClose (par : Bytes)
  /-- DUMP_CLEAR (R516): dump_command opcode 3 clears dump_state and releases the retained range. -/
  | dumpClear (par : Bytes)
  /-- TRST_N_ASSERT (R513): TRST_N resets the TAP. -/
  | trstNAssert
  /-- JTAG_BYPASS (R513): The BYPASS instruction selects the bypass register. -/
  | jtagBypass
  /-- JTAG_IDCODE (R513): The IDCODE instruction shifts out the identification code. -/
  | jtagIdcode
  /-- JTAG_SAMPLE_PRELOAD (R513): The SAMPLE/PRELOAD instruction samples and preloads the boundary register. -/
  | jtagSamplePreload (preload : Bits)
  /-- JTAG_EXTEST (R513): The EXTEST instruction drives pins from the boundary register. -/
  | jtagExtest
  /-- JTAG_CLAMP (R513): The CLAMP instruction holds outputs from the boundary register with bypass selected. -/
  | jtagClamp
  /-- JTAG_HIGHZ (R513): The HIGHZ instruction places outputs in high impedance. -/
  | jtagHighz
  /-- SNAPSHOT_TARGET (R523): At the first edge at or above snap_bell the counters are copied to the snapshot bank. -/
  | snapshotTarget
  /-- CLEAR_ALL (R525): ctr_command opcode 1 clears every counter and the lost and fault counts. -/
  | clearAll (par : Bytes)
  /-- CLEAR_STAGE (R532): ctr_command opcode 2 clears one stage's counters and slot instances. -/
  | clearStage (par : Bytes)
  /-- CLEAR_SELECTABLE (R532): ctr_command opcode 3 clears the selectable counters in a mask. -/
  | clearSelectable (par : Bytes)
  /-- SNAPSHOT_NOW (R523): ctr_command opcode 4 takes a snapshot at the next edge. -/
  | snapshotNow (par : Bytes)
  /-- COUNTER_READ (R532): ctr_command opcode 5 returns up to 16 counters of a bank. -/
  | counterRead (par : Bytes)
  /-- DIRECTORY_QUERY (R533): ctr_command opcode 6 returns a counter event's directory entry. -/
  | directoryQuery (par : Bytes)
  /-- PPS_IN_EDGE (R547): A rising PPS_IN edge is timestamped into pps_in_capture. -/
  | ppsInEdge (t : Nat)
  /-- PPS_OUT_RISE (R547): PPS_OUT rises at each whole PTP second while enabled and aligned. -/
  | ppsOutRise
  /-- PPS_OUT_FALL (R547): PPS_OUT falls 100 ms after it rose. -/
  | ppsOutFall
  /-- TEMP_SENSOR_UPDATE (R552): Every 1,024 bells die temperatures update, and 8 readings at the limit drive THERMTRIP_N low. -/
  | tempSensorUpdate (temps : List (Option Int))
  /-- FIRMWARE_DRIVE_IO (R98): Firmware submits its own drive commands (reservation register and acquire, shelf record header and body -/
  | firmwareDriveIo (bay : Nat) (queue : Nat) (io : FwDriveIo)
  /-- WORK_REQUEST_POST (R130): Firmware posts a work request, such as the heartbeat SEND with Immediate, to a QP's send queue, where it -/
  | workRequestPost (qpn : Nat) (wr : WorkRequest)
deriving DecidableEq, Repr

end Sys2Proof
end

