-- ==== Sys2Proof/Decode.lean ====
section
/-! DEFINITION. The words of the opcode table: no row of this block's table gives a command any bits. -/

namespace Sys2Proof

/-- The command that a word spells by the table's bits. Every row of the table has an empty field list, so no word spells one. -/
def decodeTableWord (_nbits _w : Nat) : Option Instr := none

end Sys2Proof
end

