-- ==== Sys2Proof/Machine/Bits.lean ====
section
/-! DEFINITION. Byte order (R3), bit fields (R2), zero-filled short values (R437) and the sparse tables' operations. -/

namespace Sys2Proof

/-- `n` bytes of `w`, least significant first (R3). -/
def le : Nat → Nat → Bytes
  | 0, _ => []
  | n + 1, w => BitVec.ofNat 8 w :: le n (w / 256)

/-- The number an octet string spells, least significant byte first (R3). -/
def ofLe : Bytes → Nat
  | [] => 0
  | b :: bs => b.toNat + 256 * ofLe bs

/-- `n` bytes of `w` in network byte order (R3). -/
def be (n w : Nat) : Bytes := (le n w).reverse

/-- The number an octet string spells in network byte order (R3). -/
def ofBe (b : Bytes) : Nat := ofLe b.reverse

/-- `n` zero bytes. -/
def zeros (n : Nat) : Bytes := List.replicate n 0

/-- An octet string cut or padded with zeros to `n` bytes (R437: the remaining bytes are written as zero). -/
def padTo (n : Nat) (b : Bytes) : Bytes := b.take n ++ zeros (n - b.length)

/-- `n` bytes from offset `off`, zeros past the end. -/
def sub (b : Bytes) (off n : Nat) : Bytes := padTo n (b.drop off)

/-- The little-endian field of `n` bytes at `off` (R3); bytes past the end count as zero (R437). -/
def fld (b : Bytes) (off n : Nat) : Nat := ofLe ((b.drop off).take n)

/-- The network-order field of `n` bytes at `off` (R3). -/
def nfld (b : Bytes) (off n : Nat) : Nat := ofBe (sub b off n)

/-- Bits `hi:lo` of a word, both ends included (R2). -/
def bits (w hi lo : Nat) : Nat := (w / 2 ^ lo) % 2 ^ (hi + 1 - lo)

/-- One bit of a word (R2). -/
def bit (w i : Nat) : Bool := w.testBit i

/-- 1 for true. -/
def b2n (b : Bool) : Nat := if b then 1 else 0

/-- A status word put together from its bits: each pair is a bit position and the bit (R2). -/
def flagWord : List (Nat × Bool) → Nat
  | [] => 0
  | (i, b) :: r => (if b then 2 ^ i else 0) + flagWord r

/-- A bitmap of the numbers `0 … n-1` for which `p` holds. -/
def bitmap (n : Nat) (p : Nat → Bool) : Nat :=
  (List.range' 0 n).foldl (fun a i => a + (if p i then 2 ^ i else 0)) 0

/-- The numbers of the set bits of `w` below `n`, ascending. -/
def bitsOf (n w : Nat) : List Nat := (List.range' 0 n).filter (fun i => w.testBit i)

/-- `n` bytes of a two's complement number (R437). -/
def leI (n : Nat) (i : Int) : Bytes := le n ((i % (2 ^ (8 * n) : Nat)).toNat)

/-- The two's complement number of an octet string (R437). -/
def ofLeI (b : Bytes) : Int :=
  let w := ofLe b
  if w < 2 ^ (8 * b.length - 1) then (w : Int) else (w : Int) - (2 ^ (8 * b.length) : Nat)

/-- Bytes `v` put in place at `off` of `b` (which is padded with zeros to reach). -/
def putAt (b : Bytes) (off : Nat) (v : Bytes) : Bytes :=
  padTo off b ++ v ++ b.drop (off + v.length)

/-- ASCII text as octets. -/
def ascii (t : String) : Bytes := t.toList.map (fun c => BitVec.ofNat 8 c.toNat)

/-- Saturating addition at `2^w - 1`. -/
def satAdd (w a b : Nat) : Nat := min (a + b) (2 ^ w - 1)

/-- Ceiling of `a / b`. -/
def ceilDiv (a b : Nat) : Nat := (a + b - 1) / b

/-- The entry of a key. -/
def tget {α : Type} : Tbl α → Nat → Option α
  | [], _ => none
  | (k, v) :: t, i => if k = i then some v else tget t i

/-- The entry of a key, or `d`. -/
def tgetD {α : Type} (t : Tbl α) (i : Nat) (d : α) : α := (tget t i).getD d

/-- The table with the entry of a key set, keys kept rising. -/
def tset {α : Type} : Tbl α → Nat → α → Tbl α
  | [], i, v => [(i, v)]
  | (k, w) :: t, i, v =>
    if i < k then (i, v) :: (k, w) :: t
    else if i = k then (i, v) :: t
    else (k, w) :: tset t i v

/-- The table without the entry of a key. -/
def terase {α : Type} : Tbl α → Nat → Tbl α
  | [], _ => []
  | (k, w) :: t, i => if k = i then terase t i else (k, w) :: terase t i

/-- The table with an entry changed by `f`, starting from `d` where it is absent. -/
def tmod {α : Type} (t : Tbl α) (i : Nat) (d : α) (f : α → α) : Tbl α := tset t i (f (tgetD t i d))

/-- The table with every entry changed. -/
def tmap {α : Type} (t : Tbl α) (f : Nat → α → α) : Tbl α := t.map (fun p => (p.1, f p.1 p.2))

/-- The least key below `n` that the table lacks. -/
def tfree {α : Type} (t : Tbl α) (n : Nat) : Option Nat :=
  (List.range' 0 n).find? (fun i => (tget t i).isNone)

/-- Position `i` of a list set to `v`, where it exists. -/
def lset {α : Type} (l : List α) (i : Nat) (v : α) : List α := l.set i v

/-- Position `i` of a list, or `d`. -/
def lget {α : Type} (l : List α) (i : Nat) (d : α) : α := l.getD i d

/-- Position `i` of a list changed by `f`, where it exists. -/
def lmod {α : Type} (l : List α) (i : Nat) (f : α → α) : List α := l.modify i f

end Sys2Proof
end

