-- ==== Sys2Proof/Machine/Crc.lean ====
section
/-! DEFINITION. The check sums: IEEE CRC-32 (R71, R445), CRC-64 (R272) and the Internet checksum (R66, R81). -/

namespace Sys2Proof

/-- One bit step of a reflected CRC with polynomial `p` (bit-reversed). -/
def crcBit (p c : Nat) : Nat := if c % 2 = 1 then (c / 2) ^^^ p else c / 2

/-- `n` bit steps. -/
def crcBits (p : Nat) : Nat → Nat → Nat
  | 0, c => c
  | n + 1, c => crcBits p n (crcBit p c)

/-- A reflected CRC over bytes, from register value `c`. -/
def crcGo (p : Nat) (c : Nat) (b : Bytes) : Nat := b.foldl (fun c x => crcBits p 8 (c ^^^ x.toNat)) c

/-- The IEEE CRC-32. -/
def crc32 (b : Bytes) : Nat := (crcGo 0xEDB88320 0xFFFFFFFF b) ^^^ 0xFFFFFFFF

/-- The CRC-64 of R272: polynomial 0x42F0_E1EB_A9EA_3693, reflected, initial value and final XOR all ones. -/
def crc64 (b : Bytes) : Nat := (crcGo 0xC96C5795D7870F42 0xFFFFFFFFFFFFFFFF b) ^^^ 0xFFFFFFFFFFFFFFFF

/-- Sum of the 16-bit network-order words of a byte string, an odd last byte padded with zero. -/
def sum16 : Bytes → Nat
  | [] => 0
  | [a] => a.toNat * 256
  | a :: b :: r => a.toNat * 256 + b.toNat + sum16 r

/-- A sum folded to 16 bits with end-around carry. -/
def fold16 (n : Nat) : Nat := let a := n % 65536 + n / 65536; let b := a % 65536 + a / 65536; b % 65536 + b / 65536

/-- The Internet checksum of a byte string whose checksum field is zero. -/
def inetSum (b : Bytes) : Nat := 65535 - fold16 (sum16 b)

end Sys2Proof
end

