-- ==== Sys2Proof/Config.lean ====
section
/-! DEFINITION. What an implementation fixes and what the spec leaves open: constants without a body, of which nothing can be proved. -/

namespace Sys2Proof

/-- A free value: the number of the free value taken. -/
opaque Config.freeNat : Nat → Nat

/-- A free byte under a tag at an address: contents the spec does not give. -/
opaque Config.freeByte : Nat → Nat → Byte

/-- HBM address of an overflow entry's in-capsule data (R192), by entry: the spec gives the overflow entries no place. -/
opaque Config.overflowBuffer : Nat → Nat

/-- HBM address of the data of a drive command, by bay and command slot (R355 gives the place of its queue entry and SGL segment alone). -/
opaque Config.driveBuffer : Nat → Nat → Nat

/-- Cost in core cycles of a kind of work item of the units (R33), before the bound of R35. -/
opaque Config.itemCost : Nat → Nat

/-- What the output of a kind of work item takes of the credit of the unit it goes to (R30). -/
opaque Config.itemOutput : Nat → Nat

/-- What the queues of a unit hold together, in the unit's own measure of credit, by unit code (R30, R32). -/
opaque Config.queueRoom : Nat → Nat

/-- `silicon_rev` (R459, R513). -/
opaque Config.siliconRev : BitVec 8

/-- `serial` (R459, R322). -/
opaque Config.serial : BitVec 64

/-- `erral_version` (R459). -/
opaque Config.erralVersion : BitVec 32

/-- `t1s_mac` (R460). -/
opaque Config.t1sMac : BitVec 48

/-- Keljor's manufacturer identity in the IDCODE (R513). -/
opaque Config.jtagManufacturer : BitVec 11

/-- Spare rows and columns that the repair map of an instance uses (R491). -/
opaque Config.sparesUsed : Nat → BitVec 16 × BitVec 16

/-- Syndrome and verdict that a read of stored data and check bits reaches: codeword width 13 or 72, data, check bits (R478, R485). -/
opaque Config.eccCheck : Bool → Nat → Nat → Nat × Nat

/-- Word that a corrected read of data and its 8 check bits returns (R478, R479). -/
opaque Config.eccFix : Nat → Nat → Nat

/-- Check bits that an encoded write of a 64-bit word stores (R478). -/
opaque Config.eccEncode : Bool → Nat → Nat

/-- MISR signature by kind (logic or memory), region, revision, seed and pattern count (R507). -/
opaque Config.misr : Bool → Nat → BitVec 8 → Nat → Nat → BitVec 64

/-- Bank offset of an event's counters (R529, R533). -/
opaque Config.eventOffset : Nat → Nat

/-- Fields of the configuration space that the PCIe specification prescribes and no rule gives, by offset of their doubleword (R395). -/
opaque Config.cfgWord : Nat → BitVec 32

/-- What the descriptor of an object holds where the spec states nothing: object, and 0 default, 1 minimum, 2 maximum, 3 unit or 4 name (R446). -/
opaque Config.unstated : Nat → Nat → Nat

/-- `config_error` of a port (R93): the spec names no condition for it. By port and edge. -/
opaque Config.portConfigError : Nat → Nat → Bool

/-- T1S PHY up, PLCA active and BEACON seen in a bell (R460): the segment's doing. By edge. -/
opaque Config.t1sLink : Nat → BitVec 3

/-- Header and body of a shelf record generation as stored on the drives (R388). -/
opaque Config.shelfRecord : Nat → Bytes

/-- HMAC-SHA-512 of a message under a key (R310). -/
opaque Config.hmacSha512 : Bytes → Bytes → Bytes

/-- SHA-512 (R215, R319, R321). -/
opaque Config.sha512 : Bytes → Bytes

/-- AES-256-GCM: key, IV, additional data and plaintext to ciphertext and tag (R298, R299). -/
opaque Config.gcmSeal : Bytes → Bytes → Bytes → Bytes → Bytes × Bytes

/-- AES-256-GCM: key, IV, additional data, ciphertext and tag to plaintext and verdict (R309). -/
opaque Config.gcmOpen : Bytes → Bytes → Bytes → Bytes → Bytes → Bytes × Bool

/-- AES-256 in a mode of R315 (1 CTR to 5 CFB decrypt): key, IV, data. -/
opaque Config.aesMode : Nat → Bytes → Bytes → Bytes → Bytes

/-- Ed25519 public key of a seed, signature of a message, and verification (R322-R325). -/
opaque Config.edPublic : Bytes → Bytes
opaque Config.edSign : Bytes → Bytes → Bytes
opaque Config.edVerify : Bytes → Bytes → Bytes → Bool

/-- X25519 public key of a private key, and shared secret with a public key (R322, R327). -/
opaque Config.xPublic : Bytes → Bytes
opaque Config.xShared : Bytes → Bytes → Bytes

/-- The fused secret (R322), and Keljor's signature over the identity (R322). -/
opaque Config.fusedSecret : Bytes
opaque Config.identityCert : Bytes

/-- The four Keljor manufacturing public keys (R322). -/
opaque Config.keljorKey : Nat → Bytes

/-- The four OEM key hashes in the fuses (R319). -/
opaque Config.oemHash : Nat → Bytes

/-- M0: the digest of the Erral ROM (R321). -/
opaque Config.romDigest : Bytes

end Sys2Proof
end

