-- ==== Sys2Proof/Machine/Ev.lean ====
section
/-! DEFINITION. The event codes of R529: stage × 256 + number, in the order in which the chapters list the events. An event listed by a breakdown is one event for each value, so the first value's code names the rest. -/

namespace Sys2Proof.Machine

/-- Frames received. -/
abbrev Ev.frRx : Nat := 256
/-- Bytes received. -/
abbrev Ev.byRx : Nat := 257
/-- Frames sent. -/
abbrev Ev.frTx : Nat := 258
/-- Bytes sent. -/
abbrev Ev.byTx : Nat := 259
/-- FCS error. -/
abbrev Ev.fcs : Nat := 260
/-- Runt. -/
abbrev Ev.runt : Nat := 261
/-- Oversize. -/
abbrev Ev.oversize : Nat := 262
/-- Bad tag. -/
abbrev Ev.badTag : Nat := 263
/-- VLAN violation. -/
abbrev Ev.vlanViol : Nat := 264
/-- Receive-FIFO overflow. -/
abbrev Ev.fifoOvf : Nat := 265
/-- Corrected codewords. -/
abbrev Ev.fecCorr : Nat := 266
/-- Uncorrectable codewords. -/
abbrev Ev.fecUnc : Nat := 267
/-- Corrected symbols. -/
abbrev Ev.fecSym : Nat := 268
/-- PFC frames received. -/
abbrev Ev.pfcRx : Nat := 269
/-- PFC frames sent. -/
abbrev Ev.pfcTx : Nat := 270
/-- Bells paused by peer (level). -/
abbrev Ev.bellsPaused : Nat := 271
/-- Bells in XOFF (level). -/
abbrev Ev.bellsXoff : Nat := 272
/-- Learned. -/
abbrev Ev.learned : Nat := 512
/-- Station move. -/
abbrev Ev.move : Nat := 513
/-- Static move refused. -/
abbrev Ev.moveRef : Nat := 514
/-- Bucket full. -/
abbrev Ev.bucketFull : Nat := 515
/-- Unicast flood. -/
abbrev Ev.flood : Nat := 516
/-- Hairpin drop. -/
abbrev Ev.hairpin : Nat := 517
/-- Internal-to-internal drop. -/
abbrev Ev.intInt : Nat := 518
/-- Management drop. -/
abbrev Ev.mgmtDrop : Nat := 519
/-- Admitted. -/
abbrev Ev.admitted : Nat := 520
/-- Refused by alpha. -/
abbrev Ev.alphaDrop : Nat := 521
/-- RED drop. -/
abbrev Ev.redDrop : Nat := 522
/-- CE marked. -/
abbrev Ev.ceMark : Nat := 523
/-- Lossless drop. -/
abbrev Ev.llDrop : Nat := 524
/-- Flushed. -/
abbrev Ev.flushed : Nat := 525
/-- Storm drop. -/
abbrev Ev.stormDrop : Nat := 526
/-- Items started. -/
abbrev Ev.itemStart : Nat := 768
/-- Bytes started. -/
abbrev Ev.byteStart : Nat := 769
/-- Bells ineligible by shaper (level). -/
abbrev Ev.ineligShaper : Nat := 770
/-- Bells ineligible by gate (level). -/
abbrev Ev.ineligGate : Nat := 771
/-- Bells ineligible by pause (level). -/
abbrev Ev.ineligPause : Nat := 772
/-- Bells stopped on credit (level). -/
abbrev Ev.creditStop : Nat := 773
/-- Gate-fit waits. -/
abbrev Ev.gateFit : Nat := 774
/-- Bells in fallback (level). -/
abbrev Ev.bellsFallback : Nat := 775
/-- Lists switched. -/
abbrev Ev.listSwitch : Nat := 776
/-- Green frames. -/
abbrev Ev.polGf : Nat := 777
/-- Green bytes. -/
abbrev Ev.polGb : Nat := 778
/-- Yellow frames. -/
abbrev Ev.polYf : Nat := 779
/-- Yellow bytes. -/
abbrev Ev.polYb : Nat := 780
/-- Red frames. -/
abbrev Ev.polRf : Nat := 781
/-- Red bytes. -/
abbrev Ev.polRb : Nat := 782
/-- Policer drops. -/
abbrev Ev.polDrop : Nat := 783
/-- Red drops withheld. -/
abbrev Ev.polWith : Nat := 784
/-- Packets received SEND. -/
abbrev Ev.rxPk0 : Nat := 1024
/-- Packets received WRITE. -/
abbrev Ev.rxPk1 : Nat := 1025
/-- Packets received READ request. -/
abbrev Ev.rxPk2 : Nat := 1026
/-- Packets received READ response. -/
abbrev Ev.rxPk3 : Nat := 1027
/-- Packets received ACK. -/
abbrev Ev.rxPk4 : Nat := 1028
/-- Packets received CNP. -/
abbrev Ev.rxPk5 : Nat := 1029
/-- Bytes received SEND. -/
abbrev Ev.rxBy0 : Nat := 1030
/-- Bytes received WRITE. -/
abbrev Ev.rxBy1 : Nat := 1031
/-- Bytes received READ request. -/
abbrev Ev.rxBy2 : Nat := 1032
/-- Bytes received READ response. -/
abbrev Ev.rxBy3 : Nat := 1033
/-- Bytes received ACK. -/
abbrev Ev.rxBy4 : Nat := 1034
/-- Bytes received CNP. -/
abbrev Ev.rxBy5 : Nat := 1035
/-- Unknown QP. -/
abbrev Ev.unkQp : Nat := 1036
/-- Address mismatch. -/
abbrev Ev.addrMis : Nat := 1037
/-- ICRC error. -/
abbrev Ev.icrc : Nat := 1038
/-- P_Key mismatch. -/
abbrev Ev.pKey : Nat := 1039
/-- Not ready. -/
abbrev Ev.notReady : Nat := 1040
/-- Ahead of sequence. -/
abbrev Ev.ahead : Nat := 1041
/-- Duplicate. -/
abbrev Ev.dup : Nat := 1042
/-- NAKs sent RNR. -/
abbrev Ev.nakTx0 : Nat := 1043
/-- NAKs sent PSN error. -/
abbrev Ev.nakTx1 : Nat := 1044
/-- NAKs sent invalid request. -/
abbrev Ev.nakTx2 : Nat := 1045
/-- NAKs sent access error. -/
abbrev Ev.nakTx3 : Nat := 1046
/-- NAKs sent operational. -/
abbrev Ev.nakTx4 : Nat := 1047
/-- ACKs sent. -/
abbrev Ev.ackTx : Nat := 1048
/-- Packets sent SEND. -/
abbrev Ev.txPk0 : Nat := 1049
/-- Packets sent WRITE. -/
abbrev Ev.txPk1 : Nat := 1050
/-- Packets sent READ request. -/
abbrev Ev.txPk2 : Nat := 1051
/-- Packets sent READ response. -/
abbrev Ev.txPk3 : Nat := 1052
/-- Packets sent ACK. -/
abbrev Ev.txPk4 : Nat := 1053
/-- Packets sent CNP. -/
abbrev Ev.txPk5 : Nat := 1054
/-- Bytes sent SEND. -/
abbrev Ev.txBy0 : Nat := 1055
/-- Bytes sent WRITE. -/
abbrev Ev.txBy1 : Nat := 1056
/-- Bytes sent READ request. -/
abbrev Ev.txBy2 : Nat := 1057
/-- Bytes sent READ response. -/
abbrev Ev.txBy3 : Nat := 1058
/-- Bytes sent ACK. -/
abbrev Ev.txBy4 : Nat := 1059
/-- Bytes sent CNP. -/
abbrev Ev.txBy5 : Nat := 1060
/-- Packets retransmitted. -/
abbrev Ev.retx : Nat := 1061
/-- Timer expiries. -/
abbrev Ev.timerExp : Nat := 1062
/-- NAKs received RNR. -/
abbrev Ev.nakRx0 : Nat := 1063
/-- NAKs received PSN error. -/
abbrev Ev.nakRx1 : Nat := 1064
/-- NAKs received invalid request. -/
abbrev Ev.nakRx2 : Nat := 1065
/-- NAKs received access error. -/
abbrev Ev.nakRx3 : Nat := 1066
/-- NAKs received operational. -/
abbrev Ev.nakRx4 : Nat := 1067
/-- RNR waits. -/
abbrev Ev.rnrWait : Nat := 1068
/-- Context hits. -/
abbrev Ev.ctxHit : Nat := 1069
/-- Write-back-buffer hits. -/
abbrev Ev.ctxWb : Nat := 1070
/-- Context misses. -/
abbrev Ev.ctxMiss : Nat := 1071
/-- Evictions. -/
abbrev Ev.ctxEvict : Nat := 1072
/-- Fetches. -/
abbrev Ev.ctxFetch : Nat := 1073
/-- Miss-queue discards. -/
abbrev Ev.missDisc : Nat := 1074
/-- Context store errors. -/
abbrev Ev.ctxErr : Nat := 1075
/-- Accesses passed. -/
abbrev Ev.accPass : Nat := 1076
/-- Access failures, check 1. -/
abbrev Ev.accF1 : Nat := 1077
/-- Access failures, check 2. -/
abbrev Ev.accF2 : Nat := 1078
/-- Access failures, check 3. -/
abbrev Ev.accF3 : Nat := 1079
/-- Access failures, check 4. -/
abbrev Ev.accF4 : Nat := 1080
/-- Revocations. -/
abbrev Ev.revoke : Nat := 1081
/-- Forced revocations. -/
abbrev Ev.forceRev : Nat := 1082
/-- Events posted type 1. -/
abbrev Ev.evPost1 : Nat := 1083
/-- Events posted type 2. -/
abbrev Ev.evPost2 : Nat := 1084
/-- Events posted type 3. -/
abbrev Ev.evPost3 : Nat := 1085
/-- Events posted type 4. -/
abbrev Ev.evPost4 : Nat := 1086
/-- Events posted type 5. -/
abbrev Ev.evPost5 : Nat := 1087
/-- Events posted type 6. -/
abbrev Ev.evPost6 : Nat := 1088
/-- Events posted type 7. -/
abbrev Ev.evPost7 : Nat := 1089
/-- Events lost. -/
abbrev Ev.evLost : Nat := 1090
/-- Bells a QP was held by A < 0 (level). -/
abbrev Ev.bellsHeld : Nat := 1091
/-- Paced bytes. -/
abbrev Ev.pacedBy : Nat := 1092
/-- Rate decreases. -/
abbrev Ev.rateDec : Nat := 1093
/-- Rate increases. -/
abbrev Ev.rateInc : Nat := 1094
/-- Idle resets. -/
abbrev Ev.idleRst : Nat := 1095
/-- Timed packets. -/
abbrev Ev.timed : Nat := 1096
/-- Plausible samples. -/
abbrev Ev.plaus : Nat := 1097
/-- Implausible samples. -/
abbrev Ev.implaus : Nat := 1098
/-- Void samples. -/
abbrev Ev.void : Nat := 1099
/-- Abandoned timed packets. -/
abbrev Ev.abTimed : Nat := 1100
/-- Sampled intervals. -/
abbrev Ev.intSam : Nat := 1101
/-- Missing intervals. -/
abbrev Ev.intMis : Nat := 1102
/-- Idle intervals. -/
abbrev Ev.intIdle : Nat := 1103
/-- CE received. -/
abbrev Ev.ceRx : Nat := 1104
/-- CNPs sent. -/
abbrev Ev.cnpTx : Nat := 1105
/-- CE suppressed by cnp_interval. -/
abbrev Ev.ceSup : Nat := 1106
/-- CNPs received. -/
abbrev Ev.cnpRx : Nat := 1107
/-- CNPs ignored in delay mode. -/
abbrev Ev.cnpIgn : Nat := 1108
/-- Moves to ECN mode. -/
abbrev Ev.toEcn : Nat := 1109
/-- Moves to delay mode. -/
abbrev Ev.toDelay : Nat := 1110
/-- Matches. -/
abbrev Ev.chMatch : Nat := 1111
/-- Runs completed. -/
abbrev Ev.chDone : Nat := 1112
/-- WRs started. -/
abbrev Ev.chWr : Nat := 1113
/-- Chain failures cause 1. -/
abbrev Ev.chFail1 : Nat := 1114
/-- Chain failures cause 2. -/
abbrev Ev.chFail2 : Nat := 1115
/-- Chain failures cause 3. -/
abbrev Ev.chFail3 : Nat := 1116
/-- Chain failures cause 4. -/
abbrev Ev.chFail4 : Nat := 1117
/-- Triggers while running. -/
abbrev Ev.chTrig : Nat := 1118
/-- Packets translated. -/
abbrev Ev.mirTr : Nat := 1119
/-- Duplicates. -/
abbrev Ev.mirDup : Nat := 1120
/-- READ Requests discarded. -/
abbrev Ev.mirRead : Nat := 1121
/-- Pre-sync discards. -/
abbrev Ev.mirPre : Nat := 1122
/-- Gaps. -/
abbrev Ev.mirGap : Nat := 1123
/-- Capsules parsed. -/
abbrev Ev.capsules : Nat := 1280
/-- Capsules to the inbox reason 1. -/
abbrev Ev.toInbox1 : Nat := 1281
/-- Capsules to the inbox reason 2. -/
abbrev Ev.toInbox2 : Nat := 1282
/-- Capsules to the inbox reason 3. -/
abbrev Ev.toInbox3 : Nat := 1283
/-- Capsules to the inbox reason 4. -/
abbrev Ev.toInbox4 : Nat := 1284
/-- Capsules held for a full inbox. -/
abbrev Ev.inboxHeld : Nat := 1285
/-- Outbox records consumed. -/
abbrev Ev.outCons : Nat := 1286
/-- Outbox records discarded. -/
abbrev Ev.outDisc : Nat := 1287
/-- Completions status row 0. -/
abbrev Ev.status0 : Nat := 1288
/-- Completions status row 1. -/
abbrev Ev.status1 : Nat := 1289
/-- Completions status row 2. -/
abbrev Ev.status2 : Nat := 1290
/-- Completions status row 3. -/
abbrev Ev.status3 : Nat := 1291
/-- Completions status row 4. -/
abbrev Ev.status4 : Nat := 1292
/-- Completions status row 5. -/
abbrev Ev.status5 : Nat := 1293
/-- Completions status row 6. -/
abbrev Ev.status6 : Nat := 1294
/-- Completions status row 7. -/
abbrev Ev.status7 : Nat := 1295
/-- Completions status row 8. -/
abbrev Ev.status8 : Nat := 1296
/-- Completions status row 9. -/
abbrev Ev.status9 : Nat := 1297
/-- Completions status row 10. -/
abbrev Ev.status10 : Nat := 1298
/-- Completions status row 11. -/
abbrev Ev.status11 : Nat := 1299
/-- Completions status row 12. -/
abbrev Ev.status12 : Nat := 1300
/-- Completions status row 13. -/
abbrev Ev.status13 : Nat := 1301
/-- Completions status row 14. -/
abbrev Ev.status14 : Nat := 1302
/-- Completions status row 15. -/
abbrev Ev.status15 : Nat := 1303
/-- Completions status row 16. -/
abbrev Ev.status16 : Nat := 1304
/-- Reads. -/
abbrev Ev.nsRead : Nat := 1305
/-- Blocks from the granary. -/
abbrev Ev.nsGran : Nat := 1306
/-- Blocks from drives. -/
abbrev Ev.nsDrive : Nat := 1307
/-- Deallocated blocks as zeros. -/
abbrev Ev.nsDealloc : Nat := 1308
/-- Bytes read. -/
abbrev Ev.nsRdBytes : Nat := 1309
/-- Write-class commands. -/
abbrev Ev.nsWrCmd : Nat := 1310
/-- Chunks. -/
abbrev Ev.nsChunk : Nat := 1311
/-- Full-stripe chunks. -/
abbrev Ev.nsFull : Nat := 1312
/-- In-capsule transfers. -/
abbrev Ev.nsInCap : Nat := 1313
/-- Keyed transfers. -/
abbrev Ev.nsKeyed : Nat := 1314
/-- Window transfers. -/
abbrev Ev.nsWindow : Nat := 1315
/-- Overlap holds. -/
abbrev Ev.nsOverlap : Nat := 1316
/-- Bytes written. -/
abbrev Ev.nsWrBytes : Nat := 1317
/-- Host conflicts. -/
abbrev Ev.hostConf : Nat := 1318
/-- View writes. -/
abbrev Ev.viewWr : Nat := 1319
/-- Drive conflicts. -/
abbrev Ev.drvConf : Nat := 1320
/-- Binds. -/
abbrev Ev.binds : Nat := 1321
/-- Releases. -/
abbrev Ev.releases : Nat := 1322
/-- Keep-alive expiries. -/
abbrev Ev.katoExp : Nat := 1323
/-- Commands abandoned. -/
abbrev Ev.cmdAband : Nat := 1324
/-- Merges full. -/
abbrev Ev.merge0 : Nat := 1536
/-- Merges reconstruct with a parity-intent record. -/
abbrev Ev.merge1 : Nat := 1537
/-- Merges rmw. -/
abbrev Ev.merge2 : Nat := 1538
/-- Merges reconstruct. -/
abbrev Ev.merge3 : Nat := 1539
/-- Records merged. -/
abbrev Ev.mgRec : Nat := 1540
/-- Records superseded. -/
abbrev Ev.mgSup : Nat := 1541
/-- Parity-intent records. -/
abbrev Ev.mgIntent : Nat := 1542
/-- Rows processed. -/
abbrev Ev.mgRows : Nat := 1543
/-- Stripes written in place. -/
abbrev Ev.fsPlace : Nat := 1544
/-- Stripes remapped. -/
abbrev Ev.fsRemap : Nat := 1545
/-- Float-empty fallbacks. -/
abbrev Ev.fsEmpty : Nat := 1546
/-- Rows reconstructed. -/
abbrev Ev.rdRecon : Nat := 1547
/-- Reads waiting on a claim. -/
abbrev Ev.rdWait : Nat := 1548
/-- Media errors. -/
abbrev Ev.rdMedia : Nat := 1549
/-- Repairs. -/
abbrev Ev.rdRepair : Nat := 1550
/-- Integrity repairs. -/
abbrev Ev.rdInteg : Nat := 1551
/-- Stripes rebuilt. -/
abbrev Ev.rbStripe : Nat := 1552
/-- Stripes skipped as unwritten. -/
abbrev Ev.rbSkip : Nat := 1553
/-- Blocks listed. -/
abbrev Ev.rbList : Nat := 1554
/-- Spares taken. -/
abbrev Ev.rbSpare : Nat := 1555
/-- Stripes checked. -/
abbrev Ev.scCheck : Nat := 1556
/-- Verdicts kind 0. -/
abbrev Ev.scVerd0 : Nat := 1557
/-- Verdicts kind 1. -/
abbrev Ev.scVerd1 : Nat := 1558
/-- Verdicts kind 2. -/
abbrev Ev.scVerd2 : Nat := 1559
/-- Verdicts kind 3. -/
abbrev Ev.scVerd3 : Nat := 1560
/-- Verdicts kind 4. -/
abbrev Ev.scVerd4 : Nat := 1561
/-- Stripes copied. -/
abbrev Ev.rsCopy : Nat := 1562
/-- Merges held by a copy. -/
abbrev Ev.rsHeld : Nat := 1563
/-- Records submitted kind 1. -/
abbrev Ev.lrKind1 : Nat := 1792
/-- Records submitted kind 2. -/
abbrev Ev.lrKind2 : Nat := 1793
/-- Records submitted kind 3. -/
abbrev Ev.lrKind3 : Nat := 1794
/-- Records submitted kind 4. -/
abbrev Ev.lrKind4 : Nat := 1795
/-- Records submitted kind 5. -/
abbrev Ev.lrKind5 : Nat := 1796
/-- Records submitted kind 6. -/
abbrev Ev.lrKind6 : Nat := 1797
/-- Records submitted kind 7. -/
abbrev Ev.lrKind7 : Nat := 1798
/-- Records submitted kind 8. -/
abbrev Ev.lrKind8 : Nat := 1799
/-- Blocks written. -/
abbrev Ev.lrBlocks : Nat := 1800
/-- Writes submitted. -/
abbrev Ev.lrWrites : Nat := 1801
/-- Records durable. -/
abbrev Ev.lrDurable : Nat := 1802
/-- Records held. -/
abbrev Ev.lrHeld : Nat := 1803
/-- Records retired. -/
abbrev Ev.lrRetired : Nat := 1804
/-- Records superseded. -/
abbrev Ev.lrSup : Nat := 1805
/-- Writes completed. -/
abbrev Ev.cpDone : Nat := 1806
/-- Write errors. -/
abbrev Ev.cpErr : Nat := 1807
/-- Failures. -/
abbrev Ev.cpFail : Nat := 1808
/-- Seeding blocks written. -/
abbrev Ev.cpSeed : Nat := 1809
/-- Copies rewritten by replay. -/
abbrev Ev.cpRew : Nat := 1810
/-- Batches filled. -/
abbrev Ev.rpBatch : Nat := 1811
/-- Refetches. -/
abbrev Ev.rpRefetch : Nat := 1812
/-- Bells waiting for buffer credit (level). -/
abbrev Ev.rpWait : Nat := 1813
/-- Chunks waiting for space. -/
abbrev Ev.stWait : Nat := 1814
/-- Bells with staging full (level). -/
abbrev Ev.stFull : Nat := 1815
/-- Bells waiting for a checkpoint (level). -/
abbrev Ev.stCkpt : Nat := 1816
/-- Lookups. -/
abbrev Ev.grLook : Nat := 1817
/-- Hits in staging. -/
abbrev Ev.grStag : Nat := 1818
/-- Hits in the cache. -/
abbrev Ev.grHit : Nat := 1819
/-- Misses. -/
abbrev Ev.grMiss : Nat := 1820
/-- Insertions. -/
abbrev Ev.grIns : Nat := 1821
/-- Insertions dropped. -/
abbrev Ev.grDrop : Nat := 1822
/-- Removals. -/
abbrev Ev.grRem : Nat := 1823
/-- Replacements. -/
abbrev Ev.grRepl : Nat := 1824
/-- Claims waiting for operand slots. -/
abbrev Ev.opWait : Nat := 1825
/-- Blocks encrypted. -/
abbrev Ev.encr : Nat := 2048
/-- Blocks decrypted. -/
abbrev Ev.decr : Nat := 2049
/-- Deallocated blocks passed. -/
abbrev Ev.cipDealloc : Nat := 2050
/-- Tag failures. -/
abbrev Ev.tagFail : Nat := 2051
/-- Metadata failures cause 1. -/
abbrev Ev.metaFail1 : Nat := 2052
/-- Metadata failures cause 2. -/
abbrev Ev.metaFail2 : Nat := 2053
/-- Metadata failures cause 3. -/
abbrev Ev.metaFail3 : Nat := 2054
/-- Metadata failures cause 4. -/
abbrev Ev.metaFail4 : Nat := 2055
/-- Metadata failures cause 5. -/
abbrev Ev.metaFail5 : Nat := 2056
/-- Derivations. -/
abbrev Ev.derive : Nat := 2057
/-- Hold hits. -/
abbrev Ev.holdHit : Nat := 2058
/-- Hold erasures. -/
abbrev Ev.holdErase : Nat := 2059
/-- Bells waiting for a key unit (level). -/
abbrev Ev.keyWait : Nat := 2060
/-- Descriptors completed status 1. -/
abbrev Ev.svcSt1 : Nat := 2061
/-- Descriptors completed status 2. -/
abbrev Ev.svcSt2 : Nat := 2062
/-- Descriptors completed status 3. -/
abbrev Ev.svcSt3 : Nat := 2063
/-- Descriptors completed status 4. -/
abbrev Ev.svcSt4 : Nat := 2064
/-- Descriptors completed status 5. -/
abbrev Ev.svcSt5 : Nat := 2065
/-- Items started. -/
abbrev Ev.svcItem : Nat := 2066
/-- Grants accepted. -/
abbrev Ev.grantAcc : Nat := 2067
/-- Grants refused. -/
abbrev Ev.grantRef : Nat := 2068
/-- Rekeys. -/
abbrev Ev.rekeys : Nat := 2069
/-- Signed requests accepted. -/
abbrev Ev.sigAcc : Nat := 2070
/-- Signed requests rejected. -/
abbrev Ev.sigRej : Nat := 2071
/-- Insertions. -/
abbrev Ev.insert : Nat := 2304
/-- Removals. -/
abbrev Ev.remove : Nat := 2305
/-- Ramps. -/
abbrev Ev.ramps : Nat := 2306
/-- Power-goods. -/
abbrev Ev.pGoods : Nat := 2307
/-- Faults cause 1. -/
abbrev Ev.bayF1 : Nat := 2308
/-- Faults cause 2. -/
abbrev Ev.bayF2 : Nat := 2309
/-- Faults cause 3. -/
abbrev Ev.bayF3 : Nat := 2310
/-- Faults cause 4. -/
abbrev Ev.bayF4 : Nat := 2311
/-- Faults cause 5. -/
abbrev Ev.bayF5 : Nat := 2312
/-- Faults cause 6. -/
abbrev Ev.bayF6 : Nat := 2313
/-- Faults cause 7. -/
abbrev Ev.bayF7 : Nat := 2314
/-- Retries. -/
abbrev Ev.retries : Nat := 2315
/-- Latches. -/
abbrev Ev.latches : Nat := 2316
/-- Shutdown timeouts. -/
abbrev Ev.shutTo : Nat := 2317
/-- Trainings. -/
abbrev Ev.train : Nat := 2318
/-- Link downs. -/
abbrev Ev.linkDn : Nat := 2319
/-- Speed or width changes. -/
abbrev Ev.speedCh : Nat := 2320
/-- AER correctable errors. -/
abbrev Ev.aerC : Nat := 2321
/-- AER uncorrectable errors. -/
abbrev Ev.aerU : Nat := 2322
/-- Submitted queue 0. -/
abbrev Ev.drSub0 : Nat := 2323
/-- Submitted queue 1. -/
abbrev Ev.drSub1 : Nat := 2324
/-- Submitted queue 2. -/
abbrev Ev.drSub2 : Nat := 2325
/-- Submitted queue 3. -/
abbrev Ev.drSub3 : Nat := 2326
/-- Submitted queue 4. -/
abbrev Ev.drSub4 : Nat := 2327
/-- Submitted queue 5. -/
abbrev Ev.drSub5 : Nat := 2328
/-- Submitted queue 6. -/
abbrev Ev.drSub6 : Nat := 2329
/-- Completed queue 0. -/
abbrev Ev.drCpl0 : Nat := 2330
/-- Completed queue 1. -/
abbrev Ev.drCpl1 : Nat := 2331
/-- Completed queue 2. -/
abbrev Ev.drCpl2 : Nat := 2332
/-- Completed queue 3. -/
abbrev Ev.drCpl3 : Nat := 2333
/-- Completed queue 4. -/
abbrev Ev.drCpl4 : Nat := 2334
/-- Completed queue 5. -/
abbrev Ev.drCpl5 : Nat := 2335
/-- Completed queue 6. -/
abbrev Ev.drCpl6 : Nat := 2336
/-- Blocks read. -/
abbrev Ev.drRd : Nat := 2337
/-- Blocks written. -/
abbrev Ev.drWr : Nat := 2338
/-- Completions with error status. -/
abbrev Ev.drErr : Nat := 2339
/-- Member timeouts. -/
abbrev Ev.drTo : Nat := 2340
/-- Admin passthroughs. -/
abbrev Ev.drAdm : Nat := 2341
/-- Polls. -/
abbrev Ev.sbPoll : Nat := 2342
/-- Transfers. -/
abbrev Ev.sbXfer : Nat := 2343
/-- NAKs. -/
abbrev Ev.sbNak : Nat := 2344
/-- Clock-low timeouts. -/
abbrev Ev.sbClk : Nat := 2345
/-- Trainings. -/
abbrev Ev.epTrain : Nat := 2560
/-- Speed or width changes. -/
abbrev Ev.epSpeed : Nat := 2561
/-- AER errors Receiver. -/
abbrev Ev.epAer0 : Nat := 2562
/-- AER errors Bad TLP. -/
abbrev Ev.epAer1 : Nat := 2563
/-- AER errors Bad DLLP. -/
abbrev Ev.epAer2 : Nat := 2564
/-- AER errors Replay Rollover. -/
abbrev Ev.epAer3 : Nat := 2565
/-- AER errors Replay Timeout. -/
abbrev Ev.epAer4 : Nat := 2566
/-- AER errors Corrected Int. -/
abbrev Ev.epAer5 : Nat := 2567
/-- AER errors Advisory NF. -/
abbrev Ev.epAer6 : Nat := 2568
/-- AER errors Hdr Log Ovf. -/
abbrev Ev.epAer7 : Nat := 2569
/-- AER errors DLP. -/
abbrev Ev.epAer8 : Nat := 2570
/-- AER errors FCP. -/
abbrev Ev.epAer9 : Nat := 2571
/-- AER errors Rcvr Ovf. -/
abbrev Ev.epAer10 : Nat := 2572
/-- AER errors Malformed. -/
abbrev Ev.epAer11 : Nat := 2573
/-- AER errors Poisoned. -/
abbrev Ev.epAer12 : Nat := 2574
/-- AER errors Cpl Timeout. -/
abbrev Ev.epAer13 : Nat := 2575
/-- AER errors Unexp Cpl. -/
abbrev Ev.epAer14 : Nat := 2576
/-- AER errors Unsup Req. -/
abbrev Ev.epAer15 : Nat := 2577
/-- AER errors Uncorr Int. -/
abbrev Ev.epAer16 : Nat := 2578
/-- Master reads class 0. -/
abbrev Ev.mrRd0 : Nat := 2579
/-- Master reads class 1. -/
abbrev Ev.mrRd1 : Nat := 2580
/-- Master read bytes class 0. -/
abbrev Ev.mrBy0 : Nat := 2581
/-- Master read bytes class 1. -/
abbrev Ev.mrBy1 : Nat := 2582
/-- Master writes class 0. -/
abbrev Ev.mwWr0 : Nat := 2583
/-- Master writes class 1. -/
abbrev Ev.mwWr1 : Nat := 2584
/-- Master writes class 2. -/
abbrev Ev.mwWr2 : Nat := 2585
/-- Master writes class 3. -/
abbrev Ev.mwWr3 : Nat := 2586
/-- Master write bytes class 0. -/
abbrev Ev.mwBy0 : Nat := 2587
/-- Master write bytes class 1. -/
abbrev Ev.mwBy1 : Nat := 2588
/-- Master write bytes class 2. -/
abbrev Ev.mwBy2 : Nat := 2589
/-- Master write bytes class 3. -/
abbrev Ev.mwBy3 : Nat := 2590
/-- Bells waiting for a tag (level). -/
abbrev Ev.tagWait : Nat := 2591
/-- Timeouts. -/
abbrev Ev.epTo : Nat := 2592
/-- Unexpected completions. -/
abbrev Ev.epUnexp : Nat := 2593
/-- BAR0 accesses. -/
abbrev Ev.bar0 : Nat := 2594
/-- BAR2 accesses. -/
abbrev Ev.bar2 : Nat := 2595
/-- BAR4 accesses. -/
abbrev Ev.bar4 : Nat := 2596
/-- Unsupported Requests. -/
abbrev Ev.epUr : Nat := 2597
/-- Aperture refusals. -/
abbrev Ev.apRef : Nat := 2598
/-- Messages sent. -/
abbrev Ev.msgSent : Nat := 2599
/-- Triggers held pending. -/
abbrev Ev.trigPend : Nat := 2600
/-- Tail doorbells. -/
abbrev Ev.tailDb : Nat := 2601
/-- Push doorbells. -/
abbrev Ev.pushDb : Nat := 2602
/-- Entries pushed. -/
abbrev Ev.pushed : Nat := 2603
/-- Doorbells ignored. -/
abbrev Ev.dbIgn : Nat := 2604
/-- Fetch reads. -/
abbrev Ev.fetRd : Nat := 2605
/-- Entries fetched. -/
abbrev Ev.fetEnt : Nat := 2606
/-- Fetch failures. -/
abbrev Ev.fetFail : Nat := 2607
/-- Jobs started opcode 0x01. -/
abbrev Ev.job0 : Nat := 2608
/-- Jobs started opcode 0x02. -/
abbrev Ev.job1 : Nat := 2609
/-- Jobs started opcode 0x03. -/
abbrev Ev.job2 : Nat := 2610
/-- Jobs started opcode 0x04. -/
abbrev Ev.job3 : Nat := 2611
/-- Jobs started opcode 0x10. -/
abbrev Ev.job4 : Nat := 2612
/-- Jobs started opcode 0x11. -/
abbrev Ev.job5 : Nat := 2613
/-- Jobs started opcode 0x12. -/
abbrev Ev.job6 : Nat := 2614
/-- Jobs started opcode 0x13. -/
abbrev Ev.job7 : Nat := 2615
/-- Jobs started opcode 0x14. -/
abbrev Ev.job8 : Nat := 2616
/-- Jobs started opcode 0x20. -/
abbrev Ev.job9 : Nat := 2617
/-- Jobs failed class 1. -/
abbrev Ev.jobF1 : Nat := 2618
/-- Jobs failed class 2. -/
abbrev Ev.jobF2 : Nat := 2619
/-- Jobs failed class 3. -/
abbrev Ev.jobF3 : Nat := 2620
/-- Jobs failed class 4. -/
abbrev Ev.jobF4 : Nat := 2621
/-- Entries discarded by disable. -/
abbrev Ev.jobDis : Nat := 2622
/-- Head publications. -/
abbrev Ev.headPub : Nat := 2623
/-- Messages sent. -/
abbrev Ev.rgMsg : Nat := 2624
/-- Bells with the head stopped (level). -/
abbrev Ev.headStop : Nat := 2625
/-- Requests executed. -/
abbrev Ev.rqExec : Nat := 2816
/-- Answered from cache. -/
abbrev Ev.rqCache : Nat := 2817
/-- Refused msg_status 1. -/
abbrev Ev.rqRef1 : Nat := 2818
/-- Refused msg_status 2. -/
abbrev Ev.rqRef2 : Nat := 2819
/-- Refused msg_status 3. -/
abbrev Ev.rqRef3 : Nat := 2820
/-- Refused msg_status 4. -/
abbrev Ev.rqRef4 : Nat := 2821
/-- CRC discards. -/
abbrev Ev.rqCrc : Nat := 2822
/-- Bells with requests waiting (level). -/
abbrev Ev.rqWait : Nat := 2823
/-- Ops op 1. -/
abbrev Ev.op1 : Nat := 2824
/-- Ops op 2. -/
abbrev Ev.op2 : Nat := 2825
/-- Ops op 3. -/
abbrev Ev.op3 : Nat := 2826
/-- Ops op 4. -/
abbrev Ev.op4 : Nat := 2827
/-- Ops op 5. -/
abbrev Ev.op5 : Nat := 2828
/-- Ops status 0. -/
abbrev Ev.opSt0 : Nat := 2829
/-- Ops status 1. -/
abbrev Ev.opSt1 : Nat := 2830
/-- Ops status 2. -/
abbrev Ev.opSt2 : Nat := 2831
/-- Ops status 3. -/
abbrev Ev.opSt3 : Nat := 2832
/-- Ops status 4. -/
abbrev Ev.opSt4 : Nat := 2833
/-- Ops status 5. -/
abbrev Ev.opSt5 : Nat := 2834
/-- Ops status 6. -/
abbrev Ev.opSt6 : Nat := 2835
/-- Ops status 7. -/
abbrev Ev.opSt7 : Nat := 2836
/-- Ops status 8. -/
abbrev Ev.opSt8 : Nat := 2837
/-- Ops status 9. -/
abbrev Ev.opSt9 : Nat := 2838
/-- Ops status 10. -/
abbrev Ev.opSt10 : Nat := 2839
/-- Ops status 11. -/
abbrev Ev.opSt11 : Nat := 2840
/-- Entries taken. -/
abbrev Ev.rqTaken : Nat := 2841
/-- Evictions. -/
abbrev Ev.rqEvict : Nat := 2842
/-- Exports. -/
abbrev Ev.exports : Nat := 2843
/-- Imports. -/
abbrev Ev.imports : Nat := 2844
/-- Entries skipped. -/
abbrev Ev.impSkip : Nat := 2845
/-- Evaluations with events. -/
abbrev Ev.evals : Nat := 3072
/-- Events severity 0. -/
abbrev Ev.evSev0 : Nat := 3073
/-- Events severity 1. -/
abbrev Ev.evSev1 : Nat := 3074
/-- Events severity 2. -/
abbrev Ev.evSev2 : Nat := 3075
/-- Events severity 3. -/
abbrev Ev.evSev3 : Nat := 3076
/-- Events severity 4. -/
abbrev Ev.evSev4 : Nat := 3077
/-- Fences applied. -/
abbrev Ev.fncApp : Nat := 3078
/-- Fences released. -/
abbrev Ev.fncRel : Nat := 3079
/-- FAULT_N pulses. -/
abbrev Ev.fnPulse : Nat := 3080
/-- Injections. -/
abbrev Ev.inject : Nat := 3081
/-- Corrected errors. -/
abbrev Ev.mCorr : Nat := 3082
/-- Uncorrectable errors. -/
abbrev Ev.mUnc : Nat := 3083
/-- Unwritten reads. -/
abbrev Ev.mUnw : Nat := 3084
/-- Write-backs. -/
abbrev Ev.mWb : Nat := 3085
/-- Bucket overflows. -/
abbrev Ev.mBkt : Nat := 3086
/-- Fill bytes. -/
abbrev Ev.mFill : Nat := 3087
/-- Regions tested kind 1. -/
abbrev Ev.bistT1 : Nat := 3328
/-- Regions tested kind 2. -/
abbrev Ev.bistT2 : Nat := 3329
/-- Regions tested kind 3. -/
abbrev Ev.bistT3 : Nat := 3330
/-- Regions skipped status 2. -/
abbrev Ev.bistS2 : Nat := 3331
/-- Regions skipped status 3. -/
abbrev Ev.bistS3 : Nat := 3332
/-- Regions skipped status 4. -/
abbrev Ev.bistS4 : Nat := 3333
/-- Captures. -/
abbrev Ev.dumpCap : Nat := 3334
/-- Sections truncated. -/
abbrev Ev.dumpTr : Nat := 3335
/-- Closes. -/
abbrev Ev.dumpCl : Nat := 3336
/-- dump_image bytes read. -/
abbrev Ev.dumpRd : Nat := 3337

/-- The level events (R519): the counter adds 1 for a bell in which the condition held. -/
def Ev.isLevel (code : Nat) : Bool :=
  [271, 272, 770, 771, 772, 773, 775, 1091, 1813, 1815, 1816, 2060, 2591, 2625, 2823].contains code

end Sys2Proof.Machine
end

