-- ==== Sys2Proof/Machine/BayParts.lean ====
section
/-! DEFINITION. State of the drive bays and the drives' root ports (spec 11). -/

namespace Sys2Proof.Machine

/-- Who waits for a drive command: a host command's run of blocks, a row job's position, a merge's read or write, a full stripe's write, a ledger Write of a copy,
a seeding write, a block of a record that staging lost, a repaired block, firmware. -/
inductive Consumer where
  | host (h blk : Nat)
  | row (job pos : Nat)
  | mergeRead (stripe pos row : Nat)
  | mergeWrite (stripe : Nat)
  | fullWrite (h chunk : Nat)
  | item (id part pos row : Nat)
  | itemWrite (id : Nat)
  | ledger (copy place count : Nat)
  | seed (copy blocks : Nat)
  | image (copy place blk : Nat)
  | repair
  | firmware
deriving DecidableEq, Repr

/-- A command for a drive (R97, R356): NVMe opcode, first drive block and count, data to write, and its admission queue; submitted at `edge`. -/
structure DriveCmd where
  op : Nat
  lba : Nat
  n : Nat
  data : Bytes := []
  cdw : List Nat := []
  consumer : Consumer
  queue : Nat
  edge : Nat := 0
  /-- The submission queue it went to (R356). -/
  sq : Nat := 0
deriving DecidableEq, Repr

/-- A bay's last measurement (R336, R359). -/
structure Measure where
  bell : Nat := 0
  i12 : Int := 0
  v12 : Nat := 0
  iAux : Int := 0
  vAux : Nat := 0
  power : Nat := 0
  gate : Nat := 0
deriving DecidableEq, Repr

/-- A drive as its root port sees it (R353, R361). -/
structure Drive where
  state : Nat := 0
  stateBell : Nat := 0
  stateEra : Nat := 0
  stateEdge : Nat := 0
  speed : Nat := 0
  width : Nat := 0
  /-- Max Payload Size that the port has set, and the drive's CAP.TO (R352, R353). -/
  mps : Nat := 0
  capTo : Nat := 0
  ams : Bool := false
  ext : Bool := false
  sgl : Bool := false
  queues : Nat := 0
  nsBlocks : Nat := 0
  serial : Bytes := []
  model : Bytes := []
  fwRev : Bytes := []
  temp : Nat := 0
  warning : Nat := 0
  mdts : Nat := 0
  /-- Submitted commands by command slot. -/
  out : Tbl DriveCmd := []
  /-- Tails of the submission queues and heads of the completion queues, and the queues whose doorbells are due in this bell (R356). -/
  sqTail : Tbl Nat := []
  cqHead : Tbl Nat := []
  /-- Completion queues whose phase tag has turned to 0 (R356). -/
  cqTurned : List Nat := []
  sqRing : List Nat := []
  cqRing : List Nat := []
  /-- Admin passthrough: edge of submission. -/
  admin : Option Nat := none
  /-- The port holds the link disabled until the bay leaves state 3 (R356). -/
  linkHeld : Bool := false
  /-- A retrain of drive command 4 runs. -/
  retrain : Bool := false
  /-- Member failure cause; the device takes no commands of it until the bay's drive is anew (R246). -/
  failed : Option Nat := none
  /-- Edges of media errors within the window (R243). -/
  media : List Nat := []
  lastCfs : Nat := 0
  lastSb : Nat := 0
  /-- Edge of the last completion, for the activity LED (R358). -/
  lastDone : Option Nat := none
deriving DecidableEq, Repr

/-- A drive bay (R335-R351). -/
structure Bay where
  state : Nat := 6
  pinA : Bool := false
  pinB : Bool := false
  /-- Consecutive evaluations with both pins seated. -/
  seat : Nat := 0
  /-- The 12 V gate and the aux gate are driven. -/
  gate : Bool := false
  auxGate : Bool := false
  /-- How far the ramp has raised BAYn_GATE, in nV (R341). -/
  gateNv : Nat := 0
  rampEdge : Nat := 0
  /-- The gate has reached 4,000 mV above the midpoint since the ramp began (R345). -/
  gateMet : Bool := false
  pgEdge : Option Nat := none
  perst : Bool := false
  fuse12 : Nat := 0
  fuseAux : Nat := 0
  /-- Consecutive evaluations of R346 and R347, of the 12 V midpoint and of the aux midpoint. -/
  short : Nat := 0
  shortAux : Nat := 0
  out : Nat := 0
  outAux : Nat := 0
  /-- Edge at which a gate turned off, or at which PD19 was released. -/
  offEdge : Nat := 0
  retry : Option Nat := none
  /-- A power cycle of bay command 3 runs (R349). -/
  cycle : Bool := false
  /-- Edge at which state 7 was entered, and at which its shutdown asserted PERST. -/
  shutEdge : Nat := 0
  shutPerst : Option Nat := none
  /-- A trip latched since the last evaluation (R343). -/
  trip : Bool := false
  /-- A fault has ended this bell's evaluation (R338). -/
  evaluated : Bool := false
  /-- Edge counts of the recorded faults (R348). -/
  history : List Nat := []
  cause : Nat := 0
  adcFault : Bool := false
  /-- Consecutive bells in which a channel has read outside its range, and the channels whose converter has stopped (R336). -/
  adcOut : Tbl Nat := []
  adcStopped : List Nat := []
  measure : Measure := {}
  /-- Energy in units of 10^-15 J (R336). -/
  energy : Nat := 0
  fenced : Bool := false
  drive : Drive := {}
deriving DecidableEq, Repr

/-- The bays (spec 11). -/
structure BayState where
  bays : Tbl Bay := []
  /-- Drive commands waiting in admission queues, by reference number. -/
  waiting : Tbl DriveCmd := []
  nextRef : Nat := 0
  /-- Edge of the last LED shift. -/
  ledEdge : Nat := 0
deriving DecidableEq, Repr

end Sys2Proof.Machine
end

