-- ==== Sys2Proof/Machine/CipherParts.lean ====
section
/-! DEFINITION. State of the cipher, the key vault, the boot record and the measurements (spec 10). -/

namespace Sys2Proof.Machine

/-- A derived key held by a lane (R306): volume, epoch, edge of its last use. -/
structure HeldKey where
  vol : Nat
  epoch : Nat
  last : Nat
deriving DecidableEq, Repr

/-- A cipher lane (R304-R307): held keys, least recently used first; cycles used in this bell by each pipeline and by the key unit. -/
structure Lane where
  inService : Bool := true
  keys : List HeldKey := []
  pipes : List Nat := [0, 0, 0]
  keyUnit : Nat := 0
  /-- A block waited for its key unit in the current bell (R519). -/
  short : Bool := false
deriving DecidableEq, Repr

/-- A stored block on its way to a reader of the cipher (R304, R309): the command's parse number, its block, the bytes as stored, their origin (R211) and bay. Origin 3 is the verify-only check of row job `h` (R244). -/
structure WaitBlock where
  h : Nat
  blk : Nat
  stored : Bytes
  origin : Nat
  bay : Nat
deriving DecidableEq, Repr

/-- A service descriptor in progress (R314-R316): its bytes and the 4 KiB items not yet started. -/
structure SvcRun where
  desc : Bytes
  left : Nat
  /-- The descriptor itself could not be read. -/
  bad : Bool := false
deriving DecidableEq, Repr

/-- The cipher and the chain of trust (spec 10). -/
structure CipherState where
  root : Option Bytes := none
  shelfId : Nat := 0
  wseqNext : Nat := 0
  wseqLimit : Nat := 0
  /-- Edge from which encryption may start again after a grant that ended a wait (R302). -/
  waitEdge : Nat := 0
  epochNext : Nat := 0
  lanes : Tbl Lane := []
  waiting : List WaitBlock := []
  svcCons : Nat := 0
  svc : Option SvcRun := none
  /-- Last accepted counter by operator key slot (R325). -/
  opCounters : Tbl Nat := []
  /-- Root unload accepted, effective at the next edge (R330). -/
  unload : Bool := false
  randomFailed : Bool := false
  identityOk : Bool := true
  bootSlot : Nat := 0
  fallback : Bool := false
  runningSvn : Nat := 0
  /-- The body in management SRAM that the cores were started on, and its entry offset (R318, R499). -/
  image : Bytes := []
  entry : Nat := 0
  /-- OEM hash that verified the running image. -/
  signer : Nat := 0
  rollback : Nat := 0
  revoked : Nat := 0
  /-- M0-M7 (R321). -/
  measure : Tbl Bytes := []
  /-- Erral found no valid slot and holds the cores in reset (R319). -/
  bootHeld : Bool := false
deriving DecidableEq, Repr

end Sys2Proof.Machine
end

