-- ==== Sys2Proof/Machine/CoreParts.lean ====
section
/-! DEFINITION. State of the bell (spec 01), the hierarchy (spec 02), the dictionary engine (spec 15), the fault collector and the memories (spec 16) and the counters (spec 18). -/

namespace Sys2Proof.Machine

/-! ### The bell (spec 01) -/

/-- A pending change of the PTP clock, applied at the next edge (R20). -/
inductive ClockChange where
  | step (ns : Int)
  | set (t : Nat)
deriving DecidableEq, Repr

/-- A pending realignment request (R20, R23): the edge count of its write and whether it is a rebase. -/
structure Realign where
  edge : Nat
  rebase : Bool
deriving DecidableEq, Repr

/-- A stretched bell in progress (R21): where it ends, the number it ends in, whether it is a rebase. -/
structure Stretch where
  tStar : Nat
  nStar : Nat
  rebase : Bool
deriving DecidableEq, Repr

/-- One die's overrun capture (R38). -/
structure OverrunCapture where
  firstBell : Nat := 0
  unit : Nat := 0
  region : Nat := 0
  stuck : Bool := false
  empty : Bool := true
  count : Nat := 0
  /-- Edge of the last overrun, and how often, where first and whether stuck it was seen there: what a re-arm in the same bell leaves (R9). -/
  lastEdge : Option Nat := none
  lastCount : Nat := 0
  lastUnit : Nat := 0
  lastRegion : Nat := 0
  lastStuck : Bool := false
deriving DecidableEq, Repr

/-- One unit (R30-R36): its queues, what it has promised and what it may use in the current bell, and its late item. `late` counts the consecutive edges its started item has been busy past. -/
structure UnitWork where
  /-- Items waiting, by queue, oldest first. -/
  queues : Tbl (List WorkItem) := []
  /-- Credit promised to each upstream neighbour for the current bell and not yet used, by the neighbour's unit code (R30, R31). -/
  grants : Tbl Nat := []
  /-- Credit read from each downstream unit for the current bell and not yet used, by unit code (R30). -/
  credit : Tbl Nat := []
  /-- Cycles of the budget of the current bell that are left. -/
  left : Nat := 0
  /-- The item started last, until the edge finds it completed. -/
  busy : Option WorkItem := none
  late : Nat := 0
deriving DecidableEq, Repr

/-- The bell master, its repeaters and the units' bell budgets (spec 01). -/
structure BellState where
  /-- Edges passed since device reset (R557). -/
  edges : Nat := 0
  number : Nat := 0
  era : Nat := 0
  /-- Number and era of the bell that has just ended. -/
  prev : Nat := 0
  prevEra : Nat := 0
  /-- PTP time of the current edge, whole nanoseconds since the epoch (R14). -/
  ptp : Nat := 0
  /-- Length of the bell that has just ended, in nanoseconds (R13). -/
  lastLen : Nat := 1024
  aligned : Bool := false
  /-- `aligned` as it stood at the start of the current bell (`edge_time`, R40). -/
  alignedAtStart : Bool := false
  lock : Bool := false
  lockEdge : Nat := 0
  rebaseNeeded : Bool := false
  /-- R19: true once the Millhouse oscillator is the reference. -/
  fallback : Bool := false
  /-- `freq_adjust` in force (R19); the object holds the written value. -/
  freq : Int := 0
  request : Option Realign := none
  clock : Option ClockChange := none
  stretch : Option Stretch := none
  /-- Whether the edge that began the current bell was a discontinuity (R15). -/
  discontinuity : Bool := false
  /-- Whether that edge was a rebase (R22). -/
  rebased : Bool := false
  stretched : Nat := 0
  /-- Per die: the number that its repeater drives from its own count after a failed check, until the fault action takes effect (R26). -/
  ownCount : Tbl Nat := []
  captures : Tbl OverrunCapture := []
  /-- By unit code (die, region, unit). -/
  units : Tbl UnitWork := []
deriving DecidableEq, Repr

/-! ### Hierarchy (spec 02) -/

/-- Where a switchable domain stands in R55 and R56. -/
inductive DomPhase where
  | off | switching | good | released | on | fenced | clamped
deriving DecidableEq, Repr

/-- One switchable domain: its phase and the edge its switches last started to close or its switch-off step 2. -/
structure DomSt where
  phase : DomPhase := .off
  edge : Nat := 0
deriving DecidableEq, Repr

/-- A running domain command (R57): switching on or off, the domains still to start, whether one has failed. -/
structure HierRun where
  on : Bool
  forced : Bool
  /-- Domain bring-up (R499, step 7) rather than a `hier_command`. -/
  bringUp : Bool
  queue : List Nat
  failed : Bool := false
deriving DecidableEq, Repr

/-- A running quiesce (R43): the clusters and the edge of acceptance. -/
structure QuiesceRun where
  die : Nat
  region : Nat
  clusters : List Nat
  edge : Nat
deriving DecidableEq, Repr

/-- Domains, fences, clusters, clocks and die links (spec 02). -/
structure HierState where
  doms : Tbl DomSt := []
  run : Option HierRun := none
  /-- Edge at which any domain last started its switches (R55 step 2). -/
  lastSwitch : Option Nat := none
  /-- Regions holding a command fence (R45), as die × 256 + region, with no order and no repeats. -/
  cmdFence : List Nat := []
  /-- Command fences that take effect or fall at the next edge (R44): region and set or clear. -/
  fencePend : List (Nat × Bool) := []
  /-- Quiesced clusters (R43), as region key × 256 + cluster, and those that become so or are resumed at the next edge. -/
  quiesced : List Nat := []
  quietPend : List (Nat × Bool) := []
  quiesce : Option QuiesceRun := none
  clockGood : List Bool := [false, false, false, false, false, false]
  /-- Dies held out of service until device reset (R52, R501). -/
  heldOut : List Nat := []
  /-- Dies whose link adapters are clamped (R52). -/
  clamped : List Nat := []
  /-- Dies whose PD-AO logic runs from the always-on reference oscillator (R52). -/
  oscillator : List Nat := []
  /-- Failed links: 0-3 Ridge n to Saddle, 4-9 the mesh pairs of FS28-FS33 (R50). -/
  linkDown : List Nat := []
deriving DecidableEq, Repr

/-! ### The dictionary engine (spec 15, R12) -/

/-- The companion result objects of one CMD object (R12). -/
structure CmdRes where
  seq : Nat := 0
  ready : Bool := true
  outcome : Nat := 0
  result : Bytes := []
  doneBell : Nat := 0
  /-- Outcome and result that are set at the next edge. -/
  pend : Option (Nat × Bytes) := none
deriving DecidableEq, Repr

/-- One executed request kept for its requester (R449). -/
structure CachedReq where
  id : Nat
  crc : Nat
  response : Bytes
deriving DecidableEq, Repr

/-- A requester's entry (R449): path code, address, and its last 16 executed requests, oldest first. -/
structure RequesterEntry where
  path : Nat
  addr : Nat
  port : Nat
  reqs : List CachedReq := []
deriving DecidableEq, Repr

/-- A request that waits for the engine (R457): path, address and port of R449, the edge count of its arrival, its message, and the job of a Corolo exchange. -/
structure WaitReq where
  path : Nat
  addr : Nat
  port : Nat
  edge : Nat
  msg : Bytes
  job : Nat := 0
deriving DecidableEq, Repr

/-- The dictionary engine (spec 15). -/
structure DictState where
  /-- Values written to objects, by index × 256 + sub-index; an object that is not listed holds its default. -/
  objs : Tbl Bytes := []
  /-- Parameters of the last accepted command of each CMD object (R12). -/
  params : Tbl Bytes := []
  /-- Result objects by the key of their CMD object. -/
  sets : Tbl CmdRes := []
  persistGen : Nat := 0
  /-- Requester table, least recently used first (R449). -/
  requesters : List RequesterEntry := []
  /-- Requests executed in the current bell (R457). -/
  execCount : Nat := 0
  waiting : List WaitReq := []
  /-- Relayed requests that found the queue full in this bell and are answered `msg_status` 4 in the next (R457). -/
  refused : List WaitReq := []
  dwRequest : Bytes := []
  dwResponse : Bytes := []
  dwBusy : Bool := false
  dwSeq : Nat := 0
  dwVector : Nat := 0
  /-- Objects that read as they stood at the last edge (R9), where that differs from reset. -/
  atEdge : Tbl Bytes := []
  /-- MODEL: status of the last write made by a row of its own (R443, R448). -/
  lastStatus : Nat := 0
deriving DecidableEq, Repr

/-! ### Faults and memories (spec 16) -/

/-- An event on its way to the package collector (R463, R472). 0xFF and 0xFFFF stand where no die, region or unit applies. -/
structure FaultEvent where
  source : Nat
  die : Nat := 0xFF
  region : Nat := 0xFF
  unit : Nat := 0xFFFF
  detail : Nat := 0
  injected : Bool := false
deriving DecidableEq, Repr

/-- A source's record (R474, R489). `lastEdge` is the edge count of the bell of its last enabled event. -/
structure SourceStatus where
  count : Nat := 0
  recoveries : Nat := 0
  lastBell : Nat := 0
  lastEra : Nat := 0
  lastEdge : Nat := 0
  active : Nat := 0
  worst : Nat := 0
  actions : Nat := 0
  activeBell : Nat := 0
deriving DecidableEq, Repr

/-- A region's fault fence (R475): the edge count of the last bell in which an event fenced it, and whether it stays until reset. -/
structure FaultFence where
  lastEdge : Nat
  permanent : Bool
deriving DecidableEq, Repr

/-- The package fault collector (spec 16, R463-R477). -/
structure FaultState where
  /-- Events of the current bell, in order of arrival. -/
  events : List FaultEvent := []
  sources : Tbl SourceStatus := []
  /-- `source_cfg`, `severity_actions` and `log_min` in force for the evaluation (R464, R465), by object key. -/
  cfg : Tbl Bytes := []
  fences : Tbl FaultFence := []
  /-- The 256 log positions written so far. -/
  log : Tbl Bytes := []
  logProd : Nat := 0
  /-- The first-fault capture; none is armed and empty (R473). -/
  firstFault : Option Bytes := none
  irqBell : Nat := 0
  halted : Bool := false
  /-- Edge of a halt whose fences fall at the following edge (R468). -/
  haltEdge : Option Nat := none
  /-- Source that caused the halt. -/
  haltSource : Nat := 0
  /-- Edge at which the FAULT_N pulse began (R470). -/
  pulseEdge : Option Nat := none
  erralHold : Bool := false
deriving DecidableEq, Repr

/-- Counts of one protected memory (R480, R486, R487). `fresh` counts corrected errors of the current bell. -/
structure MemInst where
  corrected : Nat := 0
  uncorrectable : Nat := 0
  bucket : Nat := 0
  fresh : Nat := 0
  lastAddr : Nat := 0
  lastVerdict : Nat := 0
  /-- A fill of every word with this pattern has set every valid bit (R482, R484). -/
  filled : Option Nat := none
  /-- The region has run since: what its words hold is no longer known from the fill. -/
  ran : Bool := false
  /-- Words written unencoded by a test write: data and check bits (R485). -/
  words : Tbl (Nat × Nat) := []
  /-- Edge at which its bucket last leaked (R487). -/
  leakEdge : Nat := 0
  /-- Words that await the write-back of their corrected value (R479). -/
  writeBack : List Nat := []
deriving DecidableEq, Repr

/-- A running fill (R484). -/
structure FillRun where
  hbm : Bool
  die : Nat
  region : Nat
  base : Nat
  len : Nat
  pattern : Nat
  /-- Edge count of its acceptance (R484). -/
  edge : Nat
deriving DecidableEq, Repr

/-- The on-die memories' protection state and the fill engine (spec 16, R478-R487). -/
structure ProtState where
  insts : Tbl MemInst := []
  fill : Option FillRun := none
  /-- Per die: instance and word address of the last uncorrectable error. -/
  lastUnc : Tbl (Nat × Nat) := []
deriving DecidableEq, Repr

/-- What lies under an HBM range: a repeated 64-bit word, free values under a tag of their own, or 32-bit words that count up. -/
inductive FillPat where
  | word (w : Nat)
  | free (tag : Nat)
  | rising (first : Nat)
deriving DecidableEq, Repr

/-- A background of an HBM range; `a` and `b` say whether each stack still holds it. -/
structure HbmFill where
  base : Nat
  len : Nat
  pat : FillPat
  a : Bool := true
  b : Bool := true
deriving DecidableEq, Repr

/-- HBM (R266, R482): bytes that differ from the background in rising address order, the background ranges (latest first),
and each stack's written map as ranges of its own page numbers, from the first up to but not including the second. -/
structure Hbm where
  cells : List Host.Cell := []
  fills : List HbmFill := []
  writtenA : List (Nat × Nat) := []
  writtenB : List (Nat × Nat) := []
  /-- Check bits of words that a test write stored and nothing has written since (R485), by byte address / 8. -/
  checks : Tbl Nat := []
deriving DecidableEq, Repr

/-! ### Counters (spec 18) -/

/-- A slot instance's six counters (R521). -/
structure SlotCtr where
  retired : Nat := 0
  wasted : Nat := 0
  front : Nat := 0
  back : Nat := 0
  late : Nat := 0
  bells : Nat := 0
deriving DecidableEq, Repr

/-- What a slot instance's slots did in the current bell (R527). -/
structure SlotUse where
  retired : Nat := 0
  wasted : Nat := 0
  /-- Class of the last item started: true for wasted. -/
  lastWasted : Bool := false
  /-- Slots whose budget did not cover a head that had credit, or was held by a late item. -/
  budget : Nat := 0
  /-- An eligible head lacked downstream credit. -/
  creditBlocked : Bool := false
  late : Nat := 0
deriving DecidableEq, Repr

/-- A copy of every counter: events by code × 65,536 + counter index, slot instances, selectable counters. -/
structure CtrBank where
  events : Tbl Nat := []
  slots : Tbl SlotCtr := []
  sel : Tbl Nat := []
deriving DecidableEq, Repr

/-- The counters (spec 18). -/
structure CtrState where
  live : CtrBank := {}
  snap : CtrBank := {}
  /-- Amounts of the current bell, added in its guard interval (R519). -/
  amounts : Tbl Nat := []
  /-- Amounts of the bell before, for mode 2 (R522). -/
  prev : Tbl Nat := []
  slotUse : Tbl SlotUse := []
  /-- `select_cfg` in force (R522). -/
  selCfg : Tbl Bytes := []
  snapTaken : Nat := 0
  snapEra : Nat := 0
  snapCount : Nat := 0
  /-- Edge of the write that armed `snap_bell`, and edge of the last snapshot (R523, R524). -/
  armEdge : Nat := 0
  snapEdge : Option Nat := none
  clearBell : Nat := 0
  /-- Edge of acceptance of a snapshot-now command (R523). -/
  snapNow : Option Nat := none
deriving DecidableEq, Repr

end Sys2Proof.Machine
end

