-- ==== Sys2Proof/Machine/Emission.lean ====
section
/-! DEFINITION. What leaves the device: the model's own record of it, appended to and never read by a command. -/

namespace Sys2Proof.Machine

/-- Something the device sends. The record is the model's own: the spec gives the acts, not a list of them. -/
inductive Emission where
  /-- A frame leaves a port at a time (R65, R92). -/
  | frame (port : Nat) (data : Bytes) (ts : Nat)
  /-- An engine's packet leaves a port, with destination MAC and VID tag (R73, R92). -/
  | packet (port : Nat) (mac : Nat) (vid : Option Nat) (p : TxPacket) (ts : Nat)
  /-- A PFC frame leaves a port: class mask and quanta (R84). -/
  | pfc (port mask quanta : Nat)
  /-- A frame is delivered to an internal port: 0-7 the engines, 8 the management port, with ingress port, VID, class, colour and timestamp (R66). -/
  | internal (inst inPort vid cls colour ts : Nat) (data : Bytes)
  /-- An engine's packet is delivered to the management port. -/
  | internalPacket (inst vid cls colour : Nat) (p : TxPacket)
  /-- A command goes to a drive (R356): bay, submission queue, command slot, NVMe opcode, first block, blocks, command words and data to write. -/
  | drive (bay sq slot op lba n : Nat) (cdw : List Nat) (data : Bytes)
  /-- A doorbell of a drive is written (R356): bay, whether a completion queue's, queue, value. -/
  | driveDoorbell (bay : Nat) (cq : Bool) (q value : Nat)
  /-- An admin command goes to a drive past drive admission (R362): bay and submission entry. -/
  | driveAdmin (bay : Nat) (sqe : Bytes)
  /-- A drive's root port is set up (R352): bay, bus, memory window, Max Payload Size and Max Read Request Size in bytes. -/
  | driveSetup (bay bus window mps mrrs : Nat)
  /-- A sideband transfer goes to a drive (R357, R362): bay, `sb_mode`, mode of the transfer, address, bytes written, bytes to read. -/
  | sideband (bay bus mode addr : Nat) (w : Bytes) (n : Nat)
  /-- The 96 bits of one shift of the LED chain, bay 0's bit 0 lowest (R358). -/
  | leds (bits : Nat)
  /-- A posted write to host memory (R407): address, Relaxed Ordering, data. -/
  | hostWrite (addr : Nat) (ro : Bool) (data : Bytes)
  /-- A read of host memory (R408): tag, address, length, Relaxed Ordering. -/
  | hostRead (tag addr len : Nat) (ro : Bool)
  /-- An MSI or MSI-X message (R400): address and data. -/
  | message (addr data : Nat)
  /-- A configuration request is completed (R392): 0 successful with data, 1 Unsupported Request, 2 Request Retry Status. -/
  | cfgCpl (status data : Nat)
  /-- A BAR read is completed (R396, R397, R407): 0 successful or 1 Unsupported Request, whether the data is poisoned, Relaxed Ordering as in the request, the data. -/
  | barCpl (status : Nat) (poisoned ro : Bool) (data : Bytes)
  /-- An error message goes to the host (R411): 0 correctable, 1 non-fatal, 2 fatal. -/
  | errMessage (severity : Nat)
  /-- A read of the QSPI NOR (R318): address and length. -/
  | norRead (addr len : Nat)
  /-- Bits shifted out of the TAP on TDO, first bit lowest (R513). -/
  | jtag (bits : Nat) (n : Nat)
  /-- A Brodlet response goes back to its requester (R449, R456): path code, address and port. -/
  | brodlet (path addr port : Nat) (msg : Bytes)
  /-- A work request that firmware posted on a QP has ended: completed, or flushed (R124). -/
  | workEnd (qpn : Nat) (ok : Bool)
  /-- The management cores' target interrupt (R192) is signalled. -/
  | targetIrq
  /-- The management cores' cipher interrupt (R314) is signalled. -/
  | cipherIrq
  /-- The management cores' event interrupt (R150) is signalled. -/
  | eventIrq
  /-- The management cores' fault interrupt (R465) is signalled. -/
  | faultIrq
deriving DecidableEq, Repr

end Sys2Proof.Machine
end

