-- ==== Sys2Proof/Machine/EndpointParts.lean ====
section
/-! DEFINITION. State of the host endpoint (spec 13) and of the Corolo queues (spec 14). -/

namespace Sys2Proof.Machine

/-- What an outstanding master read serves (R407, R408): a run of ring entries, or part of a write job's data from an offset of its segment. -/
inductive ReadFor where
  | entries (ring first count : Nat)
  | data (ring idx seg off : Nat)
  /-- Its requester no longer wants it. -/
  | dropped
deriving DecidableEq, Repr

/-- A tag in use (R408, R409): what it serves, the edge of issue, bytes asked for, and the data of the completions received. -/
structure TagUse where
  use : ReadFor
  edge : Nat
  len : Nat
  data : Bytes := []
deriving DecidableEq, Repr

/-- A master read that waits for a tag (R408). -/
structure ReadWait where
  use : ReadFor
  addr : Nat
  len : Nat
deriving DecidableEq, Repr

/-- A posted write that waits to leave (R407, R420): class of R407 (0 read data, 1 exception record, 2 head), address, data. -/
structure HostWrite where
  cls : Nat
  addr : Nat
  data : Bytes
deriving DecidableEq, Repr

/-- The PCIe function (spec 13). -/
structure EndpointState where
  link : Bool := false
  speed : Nat := 0
  width : Nat := 0
  flit : Bool := false
  /-- Speed and width of the last training. -/
  last : Option (Nat × Nat) := none
  /-- Written configuration doublewords, by offset (R393-R395). -/
  cfg : Tbl Nat := []
  /-- `ep_subsys` and `ep_rom_enable` as loaded at the last fundamental reset (R393, R412). -/
  subsys : Nat := 0x00001F3B
  rom : Bool := false
  /-- Written MSI-X table entries (R401). -/
  msix : Tbl Bytes := []
  /-- Vectors held pending (R402), with no repeats. -/
  vectors : List Nat := []
  /-- The event bits of R403, their enables, and whether one has risen in this bell. -/
  ev : Nat := 8
  evEnable : Nat := 0
  evVector : Nat := 0
  evRose : Bool := false
  /-- Event and status bits that occurred in this bell, which a clear leaves set (R9): of R403, and of configuration doublewords. -/
  evNew : Nat := 0
  cfgNew : Tbl Nat := []
  /-- PERST_EP_N is asserted (R404). -/
  perst : Bool := false
  /-- Edge of the start of a function-level reset (R404). -/
  flr : Option Nat := none
  fundamental : Nat := 0
  hot : Nat := 0
  flrs : Nat := 0
  /-- `ep_aperture` in force (R397). -/
  aperture : Bytes := []
  tags : Tbl TagUse := []
  /-- Quarantined tags, each with the edge from which it can be reused (R410). -/
  quarantine : Tbl Nat := []
  reads : List ReadWait := []
  writes : List HostWrite := []
  /-- An Uncorrectable Internal Error has happened since the last reset (R411). -/
  dead : Bool := false
deriving DecidableEq, Repr

/-- A job of a ring (R416, R417): index and number of its entries, tag, opcode, segments, the edge of the bell in which it ended, its failure as class, status and detail. -/
structure Job where
  idx : Nat
  n : Nat
  tag : Nat
  op : Nat
  segs : List (Nat × Nat) := []
  /-- Host data of a write as it arrives, and master reads still out. -/
  buf : Bytes := []
  left : Nat := 0
  /-- Blocks of a read that wait for earlier ones, by offset, and the next offset to write (R420). -/
  got : Tbl Bytes := []
  next : Nat := 0
  ended : Option Nat := none
  endBell : Nat := 0
  endEra : Nat := 0
  fail : Option (Nat × Nat × Nat) := none
  /-- Its exception record has been written (R426). -/
  recorded : Bool := false
deriving DecidableEq, Repr

/-- A change of a ring that takes effect at the next edge (R429, R431): running from a start index, draining, or moderation. -/
inductive RingChange where
  | run (start : Nat)
  | drain
  | moderate (count time : Nat)
deriving DecidableEq, Repr

/-- A Corolo ring (R414, R415, R426, R428). State 0 Free, 1 Running, 2 Stopped, 3 Draining, 4 Disabled. -/
structure Ring where
  state : Nat := 0
  cause : Nat := 0
  /-- State and stop cause as they stood at the last edge (R9, R427). -/
  shown : Nat × Nat := (0, 0)
  mgmt : Bool := false
  assoc : Nat := 0
  vector : Nat := 0
  base : Nat := 0
  size : Nat := 0
  excBase : Nat := 0
  excSize : Nat := 0
  headAddr : Nat := 0
  modCount : Nat := 0
  modTime : Nat := 0
  tail : Nat := 0
  fetched : Nat := 0
  started : Nat := 0
  head : Nat := 0
  excProd : Nat := 0
  excCons : Nat := 0
  /-- Next index to be asked for or taken from a push copy. -/
  asked : Nat := 0
  /-- The push slot of R422, and entries copied from it by index (R423). -/
  push : Bytes := []
  pushed : Tbl Bytes := []
  /-- Entries taken and not started, each with the edge from which it may start (R424). -/
  entries : Tbl (Bytes × Nat) := []
  jobs : List Job := []
  /-- Entries passed since the last message, and the edge at which the first of them was (R428). -/
  passed : Nat := 0
  passEdge : Nat := 0
  /-- A record has been written, and a stop has happened, since the last head publication (R428). -/
  newRecord : Bool := false
  newStop : Bool := false
  /-- FS185 has been raised for the failed job at the head (R426). -/
  full : Bool := false
  change : Option RingChange := none
  /-- The ring becomes Free when it has drained (R429). -/
  destroy : Bool := false
deriving DecidableEq, Repr

/-- A failure record of the reset record (R433). -/
structure FailRec where
  ring : Nat
  cls : Nat
  op : Nat
  idx : Nat
  tag : Nat
  status : Nat
deriving DecidableEq, Repr

/-- The Corolo queues (spec 14). -/
structure CoroloState where
  rings : Tbl Ring := []
  /-- Setup registers of ring 0 (R429). -/
  base : Nat := 0
  size : Nat := 0
  headAddr : Nat := 0
  excBase : Nat := 0
  excSize : Nat := 0
  vector : Nat := 0
  enable : Bool := false
  start : Nat := 0
  modCount : Nat := 0
  modTime : Nat := 0
  /-- Edge of an endpoint reset whose rings have not been recorded (R406). -/
  reset : Option Nat := none
  /-- The reset record (R433). -/
  rrBell : Nat := 0
  rrEra : Nat := 0
  rrList : List FailRec := []
  rrOverflow : Bool := false
  /-- A record was lost in the current bell, which a clear leaves set (R9). -/
  rrNew : Bool := false
  rrSeq : Nat := 0
  finals : Tbl Nat := []
  /-- Jobs started in the current bell (R528). -/
  starts : Nat := 0
deriving DecidableEq, Repr

end Sys2Proof.Machine
end

