-- ==== Sys2Proof/Machine/LedgerParts.lean ====
section
/-! DEFINITION. State of the ledger and the granary (spec 09). -/

namespace Sys2Proof.Machine

/-- Whose record it is: a chunk of a host command, a merge, a full stripe of a command, group metadata, or a volume's reshape. -/
inductive RecOwner where
  | chunk (h chunk : Nat)
  | merge (stripe : Nat)
  | full (h chunk : Nat)
  | zone
  | reshape (vol : Nat)
  | replayed
deriving DecidableEq, Repr

/-- A ledger record and its image in staging (R270-R275). -/
structure Rec where
  kind : Nat
  lseq : Nat
  vol : Nat
  group : Nat
  lba : Nat
  /-- Blocks covered (kinds 1 and 2) and payload blocks. -/
  count : Nat
  n : Nat
  /-- Kind-specific bytes from offset 128. -/
  extra : Bytes
  owner : RecOwner
  /-- First staging slot of the image, and whether room is taken. -/
  slot : Nat := 0
  roomed : Bool := false
  /-- MODEL: slots before its image that images given up before their submission have left: they are freed with it, in order (R278). -/
  gap : Nat := 0
  place : Nat := 0
  block : Nat := 0
  /-- Copies its Write has completed on, and copies it was written to. -/
  acked : List Nat := []
  sentTo : List Nat := []
  durable : Bool := false
  durEdge : Nat := 0
  held : Bool := false
  /-- Settled (R277); blocks merged or superseded, by index within the record (R278). -/
  settled : Bool := false
  merged : List Nat := []
  retired : Bool := false
  /-- Its sequence is taken at submission (R271). -/
  late : Bool := false
deriving DecidableEq, Repr

/-- A ledger copy (R279-R282). State 0 none, 1 live, 2 seeding, 3 failed. -/
structure Copy where
  st : Nat := 0
  bay : Nat := 0xFF
  /-- Seeding: first place written to it directly, and blocks still to be written in the background. -/
  seedPlace : Nat := 0
  seedLeft : Nat := 0
  /-- The live bay that stays until seeding ends. -/
  old : Option Nat := none
deriving DecidableEq, Repr

/-- A remembered descriptor (R279): number, tail place and block, head place. -/
structure Descriptor where
  id : Nat
  tailPlace : Nat
  tailBlock : Nat
  head : Nat
  headBlock : Nat
deriving DecidableEq, Repr

/-- A cached block (R290). -/
structure CacheEntry where
  vol : Nat
  lba : Nat
  slot : Nat
  ref : Bool := false
deriving DecidableEq, Repr

/-- The ledger and the granary (spec 09). -/
structure LedgerState where
  isOpen : Bool := false
  /-- The descriptor of a running replay. -/
  replaying : Option Bytes := none
  id : Nat := 0
  nextLseq : Nat := 0
  nextPlace : Nat := 0
  nextBlock : Nat := 0
  epoch : Nat := 0
  epochFirst : Nat := 0
  copies : List Copy := [{}, {}, {}]
  paused : Bool := false
  /-- Images staged and not yet placed, in order. -/
  ready : List Rec := []
  /-- Records made and not yet staged, with their payload: they wait for staging room, or for writes to resume, in order (R273, R281). -/
  unstaged : List (Rec × List Bytes) := []
  /-- Slots left by images given up, after the last one staged (R278). -/
  stageGap : Nat := 0
  /-- Blocks of commands that wait for an image's block to be read again from a copy: command, block, place, index (R292). -/
  imageWaits : List (Nat × Nat × Nat × Nat) := []
  /-- Targets that have failed and drop out at the next edge (R280). -/
  failing : List Nat := []
  /-- Records placed and not yet freed, in place order. -/
  recs : List Rec := []
  ckptId : Nat := 0
  /-- The last descriptor as bytes, and the last 16 (R279). -/
  desc : Bytes := []
  descs : List Descriptor := []
  persisted : Nat := 0
  persistedTail : Nat := 0
  persistedBlock : Nat := 0
  /-- Drain: every record below this place (R296). -/
  drain : Option Nat := none
  stagingNext : Nat := 0
  stagingUsed : Nat := 0
  /-- Most staging slots used at any time in the current bell (R519). -/
  stagingPeak : Nat := 0
  operandUsed : Nat := 0
  /-- Replication buffer entries: place, edge of filling, blocks (R273). -/
  buffer : List (Nat × Nat × Nat) := []
  cache : List CacheEntry := []
  hand : Nat := 0
  cacheUsed : Nat := 0
  pwrfailBell : Nat := 0
  /-- Consecutive edges at which PWRFAIL_N was sampled low, at most 2 (R293). -/
  pwrLow : Nat := 0
deriving DecidableEq, Repr

end Sys2Proof.Machine
end

