-- ==== Sys2Proof/Machine/NetParts.lean ====
section
/-! DEFINITION. State of the Ethernet ports and the switch core (spec 03) and of the schedulers, policers and gates (spec 04). -/

namespace Sys2Proof.Machine

/-- A pause of one class at a port (R87): its length in nanoseconds, the edge it began and the edge since which the class has been paused without a break. -/
structure Pause where
  ns : Nat
  edge : Nat
  since : Nat
deriving DecidableEq, Repr

/-- One port and class: pause held by the peer, storm states, XOFF (R84, R87-R89). -/
structure PortClass where
  pause : Option Pause := none
  /-- Edge of the last pause with non-zero quanta (R88). -/
  lastPause : Nat := 0
  stormRx : Bool := false
  stormDrop : Bool := false
  stormTx : Bool := false
  /-- Edge at which the pair (port, class) entered XOFF (R83). -/
  xoff : Option Nat := none
  lastPfc : Nat := 0
deriving DecidableEq, Repr

/-- One lane's forward error correction window (R63). -/
structure LaneFec where
  symbols : Nat := 0
  start : Nat := 0
  degraded : Bool := false
deriving DecidableEq, Repr

/-- One port, or one lane index that is a member lane (spec 03). -/
structure PortState where
  /-- A member lane of a wider port (R61), with the lane number of that port. -/
  member : Option Nat := none
  bringUp : Bool := false
  up : Bool := false
  localFault : Bool := false
  remoteFault : Bool := false
  /-- Lanes of the port that have PCS alignment, as a mask (R93). -/
  lanes : Nat := 0
  /-- Auto-negotiation and link training have completed (R62). -/
  trained : Bool := false
  /-- Edge of the enable, of the last going down, or of the last bell in which a lane was not aligned or a fault was seen (R62). -/
  cleanSince : Nat := 0
  /-- Bytes in the receive FIFO of the frame still arriving, at the last edge (R70). -/
  fifo : Nat := 0
  /-- Nanoseconds after the last edge for which the transmitter is busy (R97). -/
  txBusy : Nat := 0
  classes : Tbl PortClass := []
  tsFifo : List Bytes := []
deriving DecidableEq, Repr

/-- A forwarding table entry (R71). Target 0 port, 1 local, 2 group, 3 drop. -/
structure FdbEntry where
  vid : Nat
  mac : Nat
  target : Nat
  num : Nat
  static : Bool
  lastSeen : Nat
  /-- Edge count at which it was last seen, for ageing (R72, R557). -/
  lastEdge : Nat
deriving DecidableEq, Repr

/-- A VLAN's bitmaps (R95). -/
structure Vlan where
  member : Nat := 0
  untagged : Nat := 0
deriving DecidableEq, Repr

/-- A multicast group (R90, R91). -/
structure Group where
  members : Nat := 0
  rewrite : Bool := false
  mac : Nat := 0
  vid : Nat := 0
deriving DecidableEq, Repr

/-- One copy of a frame in an output queue (R76, R79, R85): `frame` numbers the frame, so copies on one ridge share its cells. -/
structure FrameCopy where
  frame : Nat
  inst : Nat
  cls : Nat
  colour : Nat
  inPort : Nat
  vid : Nat
  size : Nat
  data : Bytes
  cells : Nat
  qmin : Nat
  pmin : Nat
  shared : Nat
  headroom : Nat
  mac : Option Nat
  /-- The VID of a group's rewrite (R91). -/
  rvid : Option Nat
  ts : Nat
  /-- Timestamp directive of a management frame: 0 none, 1 two-step, 2 one-step, with its tag (R66). -/
  tsMode : Nat
  tsTag : Nat
  /-- The engine's packet a frame from an internal port carries. -/
  pkt : Option TxPacket
deriving DecidableEq, Repr

/-- A received frame whose cells are not all in their buffers (R67, R70, R77): the copy to link, each destination with its rewrite of MAC and VID, and by ridge the cells still to write, now and when the bell began. -/
structure Waiting where
  copy : FrameCopy
  dests : List (Nat × Option Nat × Option Nat)
  left : Tbl Nat
  was : Tbl Nat
deriving DecidableEq, Repr

/-- The ports and the switch core (spec 03). -/
structure SwitchState where
  ports : Tbl PortState := []
  lanes : Tbl LaneFec := []
  fdb : List FdbEntry := []
  learned : Nat := 0
  vlans : Tbl Vlan := []
  groups : Tbl Group := []
  copies : Tbl FrameCopy := []
  nextCopy : Nat := 0
  nextFrame : Nat := 0
  /-- Average depth of each output queue (R80) in 1/65,536 cells, by instance × 8 + class. -/
  avg : Tbl Nat := []
  /-- Frames that wait for write credit, oldest first, by the port (0-143) or internal port (144-152) that they came in by (R70). -/
  ingress : Tbl (List Waiting) := []
  /-- Cells of frames still arriving that have been written, per ridge (R78), at the last edge. -/
  reception : Tbl Nat := []
  /-- Write credit left per ridge: local ingress, three mesh links, Saddle link (R77); 540 each where none is listed. -/
  credit : Tbl (List Nat) := []
  /-- Bytes carried in the current bell by direction of a UCIe link (R49): 4a + b for ridge a to ridge b, 16 + n from the Saddle to ridge n, 20 + n the other way. -/
  linkUse : Tbl Nat := []
  /-- What the management port has taken, and what it has sent, beyond `mgmt_rate`, in 1/1,000 bytes (R75). -/
  mgmtIn : Nat := 0
  mgmtOut : Nat := 0
deriving DecidableEq, Repr

/-! ### Scheduling (spec 04) -/

/-- A queued item: size in bytes, the edge it was enqueued, and what it stands for. -/
structure SItem where
  size : Nat
  enq : Nat
  ref : Nat
deriving DecidableEq, Repr

/-- A queue's configuration (R118). -/
structure QCfg where
  weight : Nat
  strict : Bool
  cls : Nat
  rate : Nat
  burst : Nat
deriving DecidableEq, Repr

/-- Depth and delay of one sampling window (R111, R112). -/
structure Sampler where
  minD : Nat := 0
  sumD : Nat := 0
  maxD : Nat := 0
  minY : Nat := 0
  sumY : Nat := 0
  maxY : Nat := 0
deriving DecidableEq, Repr

/-- One scheduler queue (R101, R104). `tokens` counts 1/65,536 bytes; rate, burst and weight are those in force (weight none: the default of R98 or R118). -/
structure SchedQ where
  items : List SItem := []
  fLast : Nat := 0
  tagS : Nat := 0
  tagF : Nat := 0
  tokens : Int := 0
  weight : Option Nat := none
  rate : Nat := 0
  burst : Nat := 65536
  /-- The head has been counted as a gate-fit wait (R114). -/
  fitWait : Bool := false
  run : Sampler := {}
  closing : Sampler := {}
  published : Sampler := {}
deriving DecidableEq, Repr

/-- One scheduler instance: virtual time, its own shaper, and whether it has stopped on credit in this bell (R100). -/
structure SchedI where
  v : Nat := 0
  rate : Nat := 0
  burst : Nat := 65536
  cfgRate : Nat := 0
  cfgBurst : Nat := 65536
  tokens : Int := 0
  stopped : Bool := false
deriving DecidableEq, Repr

/-- A two-rate three-colour policer (R107, R108); the counts are in 1/65,536 bytes. -/
structure Policer where
  aware : Bool := false
  dropRed : Bool := false
  cir : Nat := 0
  cbs : Nat := 0
  pir : Nat := 0
  pbs : Nat := 0
  tc : Nat := 0
  tp : Nat := 0
  /-- An accepted write refills both counts at the next edge. -/
  fill : Bool := false
deriving DecidableEq, Repr

/-- A list of gate entries with its base (R113). -/
structure GateProg where
  base : Nat
  entries : List (Nat × Nat)
  fallback : Nat
  align : Bool
deriving DecidableEq, Repr

/-- A port's or bay's gate list (R113-R116). -/
structure GateList where
  admin : Tbl (Nat × Nat) := []
  pend : Option GateProg := none
  oper : Option GateProg := none
deriving DecidableEq, Repr

/-- A kind's sampling windows (R112): `N >> k` and k in force, samples and last bell of the running, closing and published windows. -/
structure Window where
  id : Nat := 0
  k : Nat
  runN : Nat := 0
  closeN : Nat := 0
  closeBell : Nat := 0
  pubN : Nat := 0
  pubBell : Nat := 0
  /-- Bells of each window in which a domain received no edge, by domain (R27, R112). -/
  off : Tbl Nat := []
  closeOff : Tbl Nat := []
  pubOff : Tbl Nat := []
deriving DecidableEq, Repr

/-- Schedulers, samplers, policers and gates (spec 04). Queues are keyed kind × 2^20 + number × 2^10 + queue. -/
structure SchedState where
  queues : Tbl SchedQ := []
  insts : Tbl SchedI := []
  cfg : Tbl QCfg := []
  /-- Per kind: the window in progress. -/
  windows : Tbl Window := []
  policers : Tbl Policer := []
  policeMap : Tbl Nat := []
  /-- By kind × 256 + instance number. -/
  gates : Tbl GateList := []
deriving DecidableEq, Repr

end Sys2Proof.Machine
end

