-- ==== Sys2Proof/Machine/ResetParts.lean ====
section
/-! DEFINITION. State of reset, self-test, dump and test access (spec 17). -/

namespace Sys2Proof.Machine

/-- Where a device reset stands (R499): a cause holds, fuses load (steps 1 and 2), the clocks lock (step 3), bring-up has stopped at step 3, or the Saddle has been released. -/
inductive ResetPhase where
  | cause | fuses | clocks | stopped | up
deriving DecidableEq, Repr

/-- A capture directory entry (R509, R510). -/
structure DumpSection where
  kind : Nat
  flags : Nat
  off : Nat
  len : Nat
deriving DecidableEq, Repr

/-- The dump (R509-R512). -/
structure DumpState where
  captured : Bool := false
  closed : Bool := false
  retained : Bool := false
  truncated : Bool := false
  length : Nat := 0
  retBase : Nat := 0
  retLen : Nat := 0
  sections : List DumpSection := []
  /-- Mask of a capture that runs. -/
  run : Option Nat := none
  bell : Nat := 0
  era : Nat := 0
  reason : Nat := 0xFFFF
  role : Nat := 0
  faults : Nat := 0
deriving DecidableEq, Repr

/-- One region's self-test result (R515). -/
structure BistEntry where
  kind : Nat := 0
  status : Nat := 0
  mismatches : Nat := 0
  logic : Nat := 0
  memory : Nat := 0
deriving DecidableEq, Repr

/-- A running self-test (R505): kind, patterns, seed, regions still to test (at most the first four run), results by die × 256 + region. -/
structure BistRun where
  kind : Nat
  patterns : Nat
  seed : Nat
  todo : List Nat
  results : Tbl BistEntry
deriving DecidableEq, Repr

/-- The TAP (R513). Instruction 0 stands for the reset state. -/
inductive JtagInstr where
  | reset | bypass | idcode | sample | extest | clamp | highz
deriving DecidableEq, Repr

/-- The time pins and the temperature sensors (spec 19). -/
structure PinState where
  /-- The last PPS_IN edge: bell, PTP time in ns, edges since device reset (R547, R556). -/
  ppsBell : Nat := 0
  ppsTime : Nat := 0
  ppsCount : Nat := 0
  /-- PPS_OUT is high, since the whole PTP second at which it rose (R547). -/
  ppsOut : Option Nat := none
  /-- Readings of die 0-5, HBM-A and HBM-B in 0.1 °C at the last update, and the highest of each (R552). -/
  temps : List (Option Int) := []
  peaks : List (Option Int) := []
  /-- Consecutive updates at or above `thermtrip_limit`, by die. -/
  hot : List Nat := [0, 0, 0, 0, 0, 0]
  tempEdge : Nat := 0
  /-- THERMTRIP_N is low. -/
  tripped : Bool := false
deriving DecidableEq, Repr

/-- Reset, self-test, dump and test access (spec 17). -/
structure ResetState where
  phase : ResetPhase := .up
  /-- Causes that hold: 1 power-on detector, 2 PORST_N, 3 RESET_N. -/
  holding : List Nat := []
  /-- The strongest cause of the current or last device reset (R502). -/
  deciding : Nat := 1
  /-- Every cause of it was RESET_N and the dump is kept so far (R512). -/
  keep : Bool := false
  cause : Nat := 1
  warm : Nat := 0
  fuseStatus : Nat := 0
  /-- Dies whose valid flag is set (R500). -/
  valid : List Nat := [0, 1, 2, 3, 4, 5]
  /-- Events recorded in steps 2 and 3, raised in bell 0. -/
  recorded : List FaultEvent := []
  /-- The outward resets of R497 are asserted. -/
  stretch : Bool := true
  /-- FAULT_N held low after a failed step 3 (R501). -/
  stopLow : Bool := false
  bringUpIssued : Bool := false
  /-- Erral has not ended its verification (R499, step 5). -/
  booting : Bool := true
  /-- Bring-up waits for the edge after its command (R499). -/
  bringUpPend : Bool := false
  /-- Reset mode of the drive and endpoint reference pins, sampled (R546). -/
  drvClkmode : Bool := false
  epClkmode : Bool := false
  bist : Option BistRun := none
  dump : DumpState := {}
  jtag : JtagInstr := .reset
  /-- Preloaded boundary register, by free bit positions (R513). -/
  boundary : List Bool := []
deriving DecidableEq, Repr

end Sys2Proof.Machine
end

