-- ==== Sys2Proof/Machine/StandbyParts.lean ====
section
/-! DEFINITION. State of the standby role, the fence and the heartbeat (spec 12). -/

namespace Sys2Proof.Machine

/-- A take-over in progress (R380): edge of step 1, the bays it enabled, and the edge at which the handover wait ended. -/
structure TakeOver where
  start : Nat
  bays : List Nat
  waitEnd : Option Nat := none
deriving DecidableEq, Repr

/-- Active, standby and takeover (spec 12). -/
structure StandbyState where
  role : Nat := 0
  /-- FENCE_IN_N is asserted, after its filter (R367). -/
  fenceIn : Bool := false
  /-- FENCE_OUT_N is asserted. -/
  fenceOut : Bool := false
  /-- A command accepted and effective at the next edge: 2 take over, 4 resign. -/
  pend : Option Nat := none
  take : Option TakeOver := none
  /-- Cause of a withdrawal that is due, and the edge of the bell in which it first arose (R366). -/
  withdrawal : Option (Nat × Nat) := none
  /-- Last withdrawal cause (R388). -/
  cause : Nat := 0
  /-- No drive command is admitted and no completion sent (R366, R386). -/
  stopped : Bool := false
  /-- Edge of the last `hb_refresh` in role 3 (R368). -/
  hb : Option Nat := none
  /-- Edge of the last level change of ACTIVE_OUT in a beating period. -/
  beat : Option Nat := none
  /-- ACTIVE_OUT is high. -/
  activeOut : Bool := false
  /-- ACTIVE_IN as taken (R369), and the edge and bell of the last edge taken. -/
  activeIn : Bool := false
  inEdge : Nat := 0
  inBell : Nat := 0
  /-- Windows of 1,024 edges completed; whether the last one and the current one held an edge. -/
  windows : Nat := 0
  lastHad : Bool := false
  curHad : Bool := false
  beatSeen : Bool := false
  peerFail : Bool := false
  /-- FS160 has been raised for the current silence (R379). -/
  silent : Bool := false
  /-- Last `lease_confirm` accepted (R378). -/
  confirm : Option Nat := none
  deadline : Nat := 0
  /-- The deadline has been reached. -/
  lapsed : Bool := false
deriving DecidableEq, Repr

end Sys2Proof.Machine
end

