-- ==== Sys2Proof/Machine/TargetParts.lean ====
section
/-! DEFINITION. State of the fabric target (spec 07). -/

namespace Sys2Proof.Machine

/-- A namespace (R186, R187, R212). State 0 absent, 1 ready, 2 not ready, 3 offline. -/
structure Namespace where
  state : Nat := 0
  subsys : Nat := 0
  nsid : Nat := 0
  vol : Nat := 0
  tenant : Nat := 0
  /-- Access code by host group; absent 0. -/
  access : Tbl Nat := []
  rtype : Nat := 0
  registrants : List Nat := []
  holders : List Nat := []
deriving DecidableEq, Repr

/-- A reservation view write that takes effect at the next edge (R213): namespace, type, and bits by association. -/
structure ViewWrite where
  ns : Nat
  rtype : Nat
  bits : List (Nat × Nat)
deriving DecidableEq, Repr

/-- A host association (R185, R207). State 0 Free, 1 Live, 2 expired. -/
structure Assoc where
  state : Nat := 0
  subsys : Nat := 0
  group : Nat := 0
  kato : Nat := 0
  /-- Key of the direct window, 0 none. -/
  window : Nat := 0
  lastEdge : Nat := 0
  lastBell : Nat := 0
deriving DecidableEq, Repr

/-- A queue binding (R189), by QP key. -/
structure QBind where
  assoc : Nat
  qid : Nat
  size : Nat
  live : Bool := false
  noFlow : Bool := false
  /-- Submission queue head reported in SQHD (R205). -/
  head : Nat := 0
deriving DecidableEq, Repr

/-- How a command goes on: waiting to be parsed, waiting for its own row, with firmware, held for a full inbox, moving firmware's data, fetching write data,
being staged, waiting for its records, durable and held behind an earlier write, reading blocks, or ended. -/
inductive CmdPhase where
  | arriving | parsed | firmware | held | moving | fetching | staging | logged | durable | reading | ended
deriving DecidableEq, Repr

/-- One chunk of a write-class command (R198): first block within the command, blocks, ledger sequence, place of its record, and whether it is staged, submitted and durable. -/
structure Chunk where
  lba : Nat
  n : Nat
  seq : Nat
  /-- Blocks between the first and the last that the command does not name, by index: ranges of a Dataset Management in one span of 32 blocks share a chunk (R199). -/
  gaps : List Nat := []
  full : Bool := false
  /-- Blocks encrypted so far, as stored. -/
  enc : List Bytes := []
  /-- Full stripe (R239): its claim is requested, it is granted, its target, whether the target came from the float, its key, whether the intent is durable, unit writes outstanding, the commit placed. -/
  claimed : Bool := false
  granted : Bool := false
  moved : Bool := false
  target : Nat := 0
  key : Nat := 0
  intent : Bool := false
  left : Nat := 0
  committed : Bool := false
  /-- It has been counted as waiting for staging space. -/
  waited : Bool := false
  staged : Bool := false
  submitted : Bool := false
  durable : Bool := false
deriving DecidableEq, Repr

/-- Whether a chunk names a block of its volume. -/
def Chunk.covers (k : Chunk) (lba : Nat) : Bool := k.lba ≤ lba && lba < k.lba + k.n && !k.gaps.contains (lba - k.lba)

/-- A command entry (R189, R190). -/
structure Cmd where
  key : Nat
  qpn : Nat
  assoc : Nat
  qid : Nat
  sqe : Bytes
  icd : Bytes
  /-- Corolo job instead of a capsule: ring and entry index. -/
  ring : Option (Nat × Nat) := none
  bell : Nat
  edge : Nat
  /-- Ridge whose link brought the capsule (R190). -/
  link : Nat := 0
  /-- Parse order (R190), by which other parts of the model name the command; above every parse order while it arrives. -/
  order : Nat
  phase : CmdPhase := .parsed
  /-- Fixed at its parse: where it goes (R191), and whether its CID is held by a command still outstanding (R209). -/
  route : Nat := 0
  conflict : Bool := false
  /-- Namespace index; 0xFFFF none. -/
  ns : Nat := 0xFFFF
  vol : Nat := 0
  lba : Nat := 0
  nlb : Nat := 0
  tenant : Nat := 0
  /-- 0 read, 1 compare, 2 write, 3 write zeroes, 4 deallocate. -/
  kind : Nat := 0
  ranges : List (Nat × Nat) := []
  chunks : List Chunk := []
  /-- Data of a write, compare or Dataset Management as far as it has arrived, and whether all of it has. -/
  buf : Bytes := []
  bufReady : Bool := false
  /-- First of the ledger sequences set aside at the parse of a Dataset Management whose ranges come later (R198). -/
  seqBase : Option Nat := none
  /-- Its reservation check (R212) fails, where an earlier check waits for data. -/
  resvBad : Bool := false
  /-- Blocks of a Compare that came before its own data. -/
  early : Tbl Bytes := []
  /-- Blocks of a read or compare that have not been delivered. -/
  waiting : List Nat := []
  /-- Where the data descriptor points: 0 keyed, 1 in-capsule, 2 direct window, 3 host memory of a Corolo job, 4 none. -/
  src : Nat := 4
  /-- Firmware's move: HBM address and length (R193); where the data of a direct window lies (R197). -/
  dest : Nat := 0
  want : Nat := 0
  /-- Status to complete with, as SCT × 256 + SC, and DNR. -/
  status : Nat := 0
  dnr : Bool := false
  /-- Offset of the first block that failed its integrity check (R210). -/
  bad : Nat := 0
  /-- Its queue's QP entered Error: it sends nothing more (R208). -/
  dropped : Bool := false
  /-- Firmware's CQE of an outbox record (R193). -/
  cqe : Bytes := []
deriving DecidableEq, Repr

/-- What the target hands to the Corolo engine (R419): a job's end with its status, or data for its buffer; by the command's parse number. -/
inductive RingNote where
  | ended (ring idx status : Nat) (dnr : Bool) (detail : Nat)
  | data (ring idx off : Nat) (b : Bytes)
deriving DecidableEq, Repr

/-- The fabric target (spec 07). -/
structure TargetState where
  namespaces : Tbl Namespace := []
  views : List ViewWrite := []
  groupTenant : Tbl Nat := []
  assocs : Tbl Assoc := []
  binds : Tbl QBind := []
  cmds : Tbl Cmd := []
  nextOrder : Nat := 0
  inboxProd : Nat := 0
  /-- Entries whose inbox records wait, in order (R192). -/
  inboxHeld : List Nat := []
  outboxCons : Nat := 0
  /-- Capsules that wait on their Ridge-Saddle links, in arrival order (R190). -/
  arrived : List Nat := []
  /-- Capsules and jobs parsed in this bell (R190, R419). -/
  parse : Nat := 0
  /-- MODEL: what the target hands to the Corolo engine at the end of a command; empty between commands. -/
  ring : List RingNote := []
  integProd : Nat := 0
  integLost : Nat := 0
  /-- Records lost in the current bell, which a clear leaves counted (R10). -/
  integNew : Nat := 0
  /-- Edge at which the power-fail warning was seen (R218). -/
  pwrfail : Option Nat := none
  /-- Edge of the bell in which a drive answered Reservation Conflict (R217). -/
  resvLost : Option Nat := none
deriving DecidableEq, Repr

end Sys2Proof.Machine
end

