-- ==== Sys2Proof/Machine/TransportParts.lean ====
section
/-! DEFINITION. State of the transport engines (spec 05), of congestion control, triggered chains and mirror intake (spec 06). -/

namespace Sys2Proof.Machine

/-- Who posted a work request and is told of its end (R124, R172). -/
inductive Poster where
  | firmware (qpn : Nat)
  | capsule (h : Nat)
  | dataRead (h : Nat)
  | dataWrite (h : Nat)
  | chain (engine chain wr : Nat)
deriving DecidableEq, Repr

/-- What the transport hands to its consumers at the end of a command: a received SEND, data of an RDMA READ for a command entry, the end of a work request, a QP's entry to Error. MODEL: empty between commands. -/
inductive Notice where
  | capsule (key : Nat) (data : Bytes)
  | data (h off : Nat) (b : Bytes)
  | done (p : Poster) (ok : Bool)
  | qpError (key : Nat)
deriving DecidableEq, Repr

/-- A work request in a QP's send queue (R120, R130). -/
structure Work where
  poster : Poster
  req : WorkRequest
  /-- Bytes of it already built into packets. -/
  done : Nat := 0
  /-- It has an item in its response group's queue (R97). -/
  queued : Bool := false
deriving DecidableEq, Repr

/-- A packet sent and not yet acknowledged (R142). A READ Request spans the PSNs of its response. -/
structure SentPkt where
  psn : Nat
  span : Nat
  pkt : TxPacket
  poster : Poster
  last : Bool
  /-- Bytes of a read's response already received (R139), those received when it was last sent, where its data goes, and all it asked for. -/
  got : Nat := 0
  base : Nat := 0
  dest : Nat := 0
  want : Nat := 0
deriving DecidableEq, Repr

/-- RDMA READ response packets still to send as responder (R135, R147): their data as it was read when the request was executed. -/
structure Resp where
  psn : Nat
  data : Bytes
  first : Bool
  region : Option Nat
deriving DecidableEq, Repr

/-- The message a responder is in the middle of (R119, R147). -/
structure InMsg where
  write : Bool
  hbm : Nat
  left : Nat
  data : Bytes
  region : Option Nat
deriving DecidableEq, Repr

/-- A QP's connection parameters (R126, R154). -/
structure QpConn where
  pd : Nat := 0
  assoc : Nat := 0
  respGroup : Nat := 0
  mtu : Nat := 0
  retryCnt : Nat := 0
  rnrRetry : Nat := 0
  remoteQpn : Nat := 0
  remoteGid : Nat := 0
  localGid : Nat := 0
  mac : Nat := 0
  vid : Nat := 0
  tclass : Nat := 0
  dscp : Nat := 0
  pkey : Nat := 0
  initDepth : Nat := 0
  respDepth : Nat := 0
  sport : Nat := 0
  ackTimeout : Nat := 0
deriving DecidableEq, Repr

/-- A QP slot (R121, R123, R126). State 0 Free, 1 Init, 2 Ready, 3 Error. -/
structure Qp where
  state : Nat := 0
  gen : Nat := 1
  conn : QpConn := {}
  sqPsn : Nat := 0
  unaPsn : Nat := 0
  ePsn : Nat := 0
  msn : Nat := 0
  retryLeft : Nat := 0
  rnrLeft : Nat := 0
  readsIn : Nat := 0
  cause : Nat := 0
  errBell : Nat := 0
  errEra : Nat := 0
  /-- One NAK has been sent for the present gap (R136). -/
  nakSent : Bool := false
  /-- Packets accepted since the last ACK, whether one is due in the next bell, and the PSN after the last acknowledged (R138). -/
  sinceAck : Nat := 0
  ackPend : Bool := false
  ackPsn : Nat := 0
  /-- Edge at which the retransmission timer was armed (R139). -/
  timer : Option Nat := none
  /-- An RNR wait: edge, bells, PSN to go back to (R140). -/
  rnrWait : Option (Nat × Nat × Nat) := none
  sendQ : List Work := []
  flight : List SentPkt := []
  /-- Packets to send again before anything new (R139, R140). -/
  resend : List SentPkt := []
  resps : List Resp := []
  /-- Messages' packets sent since the last AckReq (R138). -/
  sinceReq : Nat := 0
  inMsg : Option InMsg := none
  /-- Regions this QP holds a reference on (R147). -/
  refs : List Nat := []
  /-- Destroy accepted, with the edge of acceptance (R125). -/
  destroying : Option Nat := none
deriving DecidableEq, Repr

/-- One cluster's context cache, write-back buffer, fetches, miss queue and posted-work queue (R127-R130). -/
structure ClusterCache where
  /-- Slots cached, least recently used first. -/
  cached : List Nat := []
  writeBack : List Nat := []
  /-- Writes to HBM under way, with the bytes they write (R127). -/
  writing : Tbl Bytes := []
  /-- Work posted to QPs whose context is not cached, or whose send queue is full (R120, R130), oldest first. It never discards. DESIGN CHOICE (log 134): it has no
  bound, since the spec gives it no size, so it is never full and never withholds its credit (R32). -/
  posted : List (Nat × Work) := []
  /-- Slots being fetched, with the edge of issue; issue none while beyond 16 in a bell. -/
  fetching : List (Nat × Option Nat) := []
  issued : Nat := 0
  missQ : List (Nat × Packet) := []
deriving DecidableEq, Repr

/-- A memory region's table entry (R146). State 0 Free, 1 Valid, 2 Draining. -/
structure Region where
  state : Nat := 0
  pd : Nat := 0
  access : Nat := 0
  tag : Nat := 1
  hbm : Nat := 0
  va : Nat := 0
  len : Nat := 0
  refs : Nat := 0
  /-- A revoke that takes effect at the next edge (R148). -/
  revoke : Bool := false
  drainEdge : Nat := 0
  drainBell : Nat := 0
deriving DecidableEq, Repr

/-- The transport engines (spec 05). QPs are keyed engine × 2,048 + cluster × 512 + slot. -/
structure TransportState where
  qps : Tbl Qp := []
  caches : Tbl ClusterCache := []
  /-- CNPs, ACKs and NAKs that wait for the engine's transmit path (R164). -/
  control : List TxPacket := []
  /-- Packets held for an engine that starts nothing, with the engine, in order of arrival (R44). -/
  held : List (Nat × Packet) := []
  created : Nat := 0
  domains : List Nat := []
  regions : Tbl Region := []
  lastRegion : Option Nat := none
  eventProd : Nat := 0
  eventLost : Nat := 0
  /-- Event records of the current bell with their source (R150), written at its end in source order. -/
  events : List (Nat × Bytes) := []
  /-- MODEL: what the transport hands on at the end of a command; empty between commands. -/
  notices : List Notice := []
deriving DecidableEq, Repr

/-- A timed packet (R159). -/
structure TimedPkt where
  psn : Nat
  /-- Egress timestamp in 1/65,536 ns, once the port has returned it. -/
  sent : Option Nat := none
  /-- Intervals ended since it was sent. -/
  age : Nat := 0
  /-- The clock has jumped since it was sent (R160). -/
  void : Bool := false
  /-- It has been sent again (R159). -/
  resent : Bool := false
deriving DecidableEq, Repr

/-- The rate state of a QP slot (R158). `r` and `rT` in 1/1,024 Mbit/s, `a` in 1/65,536 bytes, `alpha` in 1/65,536. -/
structure Rate where
  r : Nat := 0
  a : Int := 0
  rT : Nat := 0
  alpha : Nat := 65536
  srtt : Option Nat := none
  profile : Option Nat := none
  ccMode : Option Nat := none
  pendMode : Option Nat := none
  ecn : Bool := false
  stage : Nat := 0
  miss : Nat := 0
  good : Nat := 0
  idle : Nat := 0
  sent : Bool := false
  sentTimed : Bool := false
  plausible : Bool := false
  voided : Bool := false
  cnpSeen : Bool := false
  timed : Option TimedPkt := none
  lastCnp : Option Nat := none
  cnpRx : Nat := 0
  cnpTx : Nat := 0
deriving DecidableEq, Repr

/-- A triggered chain (R171-R177). State 0 Idle, 1 Armed, 2 Running, 3 Failed. -/
structure Chain where
  state : Nat := 0
  len : Nat := 0
  persistent : Bool := false
  trig : Nat := 0
  value : Nat := 0
  mask : Nat := 0
  cur : Nat := 0
  failed : Nat := 0
  cause : Nat := 0
  runs : Nat := 0
  lastBell : Nat := 0
  missed : Nat := 0
  crc : Nat := 0
  order : Nat := 0
  trigLen : Nat := 0
  imm : Nat := 0
  matchEdge : Nat := 0
  /-- MODEL: what is added to a WR's index in the numbers below and in its poster: it tells the WRs of the present run from those that a failed run has left posted (R175, R176). -/
  base : Nat := 0
  /-- WRs posted and not completed, and of those the ones acknowledged or with their data in HBM. -/
  posted : List Nat := []
  acked : List Nat := []
  /-- Region held for each posted WR. -/
  held : List (Nat × Nat) := []
  disarm : Option Nat := none
deriving DecidableEq, Repr

/-- A mirror binding (R179, R180). -/
structure Mirror where
  intake : Nat
  qpn : Nat
  key : Nat
  sync : Bool
deriving DecidableEq, Repr

/-- Congestion control, chains and mirrors (spec 06). -/
structure CongestState where
  rates : Tbl Rate := []
  /-- By engine × 256 + chain. -/
  chains : Tbl Chain := []
  armSeq : Nat := 0
  /-- Profiles in force (R169). -/
  profiles : Tbl Bytes := []
  /-- Edge of the last rate update. -/
  lastUpdate : Nat := 0
  /-- Chain WRs started in the current bell, per engine (R175). -/
  started : Tbl Nat := []
  /-- By engine × 64 + binding. -/
  mirrors : Tbl Mirror := []
deriving DecidableEq, Repr

end Sys2Proof.Machine
end

