-- ==== Sys2Proof/Machine/VolumeParts.lean ====
section
/-! DEFINITION. State of the layout groups, volumes, stripe claims and merges (spec 08). -/

namespace Sys2Proof.Machine

/-- An entry of a group's lost-block list (R255). -/
structure LostEntry where
  bell : Nat
  era : Nat
  vol : Nat
  lba : Nat
  reason : Nat
  pos : Nat
deriving DecidableEq, Repr

/-- A layout group (R225-R230, R247-R257, R264). State 1 optimal, 2 degraded, 3 critical, 4 offline. -/
structure LGroup where
  state : Nat := 1
  k : Nat
  /-- Stripe unit in blocks. -/
  u : Nat
  start : Nat
  count : Nat
  f : Nat
  /-- Bay at each position; none where the member has failed and no spare has been taken. -/
  bays : List (Option Nat)
  /-- Positions missing, in the order in which they failed (R247, R251); a rebuilding one is among them. -/
  missing : List Nat := []
  /-- Positions a spare has been taken for, being rebuilt. -/
  rebuilding : List Nat := []
  waitingSpare : Bool := false
  /-- Rebuild started by command where `auto_rebuild` is 0. -/
  byCommand : Bool := false
  cur1 : Nat := 0
  cur2 : Nat := 0
  c0 : Nat := 0
  /-- The second pass of R251 runs. -/
  pass2 : Bool := false
  /-- Map entries that differ from their value at creation: logical stripe to physical stripe and `written` (R229). -/
  map : Tbl (Nat × Bool) := []
  /-- The float: ranges of physical stripes, from the first up to but not including the second (R227). -/
  float : List (Nat × Nat)
  /-- Old physical stripes that join the float once no read uses them (R239). -/
  oldPhys : List Nat := []
  lost : List LostEntry := []
  /-- 0 stopped, 1 one pass, 2 continuous (R263). -/
  scrub : Nat := 0
  scrubCur : Nat := 0
  scrubStripe : Nat := 0
  scrubRow : Nat := 0
  /-- Where the group's map begins in the HBM map area (R229). -/
  mapOff : Nat := 0
  /-- By missing position: the edge at which its member failed, and the next ledger sequence then (R236, R248). -/
  lostAt : Tbl (Nat × Nat) := []
deriving DecidableEq, Repr

/-- A reshape in progress (R258-R261). -/
structure Reshape where
  target : Nat
  ft : Nat
  c : Nat := 0
  paused : Bool := false
deriving DecidableEq, Repr

/-- A volume (R228) with its epoch window (R312). -/
structure Volume where
  group : Nat
  f : Nat
  size : Nat
  reshape : Option Reshape := none
  epochBase : Nat
  epochCur : Nat
  /-- Epoch that encryptions use from the next edge. -/
  pendCur : Option Nat := none
  copied : Nat := 0
deriving DecidableEq, Repr

/-- Who claims a stripe (R237). -/
inductive Claimant where
  | merge
  | full (h chunk : Nat)
  | item (id : Nat)
deriving DecidableEq, Repr

/-- Where a merge stands (R235, R236). -/
inductive MergePhase where
  | reading | intent | writing | written | committing
deriving DecidableEq, Repr

/-- A running merge (R234-R236). Blocks are keyed position or unit × 65,536 + row. -/
structure Merge where
  /-- Places of the records it took, and the highest sequence. -/
  places : List Nat
  through : Nat
  method : Nat
  phys : Nat
  /-- New content by unit and row, and rows touched. -/
  data : Tbl Bytes
  rows : List Nat
  /-- Old content read, by position and row. -/
  old : Tbl Bytes := []
  /-- Positions and rows that could not be read, and whether the rest of those rows has been asked for (R243). -/
  bad : List Nat := []
  expanded : Bool := false
  /-- Reads or writes outstanding. -/
  left : Nat := 0
  phase : MergePhase := .reading
  /-- P and Q rows computed, by row. -/
  par : Tbl (Bytes × Bytes) := []
  /-- Parity-intent records placed and not yet durable, and all of them. -/
  intentsLeft : Nat := 0
  intents : Nat := 0
  /-- It redoes records that replay loaded, and so uses no old parity (R236). -/
  replayed : Bool := false
  /-- P and Q rows that a replayed parity-intent record gives, by row. -/
  fixed : Tbl (Bytes × Bytes) := []
deriving DecidableEq, Repr

/-- A row being reconstructed for a read (R242-R244). Reason 0 missing position, 1 media error, 2 integrity failure. -/
structure RowJob where
  group : Nat
  phys : Nat
  row : Nat
  unit : Nat
  reason : Nat
  h : Nat
  blk : Nat
  vol : Nat
  lba : Nat
  queue : Nat
  /-- Positions asked for and not yet answered, what was read, and positions that cannot be read. -/
  need : List Nat
  got : Tbl Bytes := []
  bad : List Nat
  /-- Positions among them whose block the drive could not read: they are written back (R243). -/
  media : List Nat := []
  /-- Stripe whose claim it waits for, until it has started (R237). -/
  key : Nat
  started : Bool := false
  /-- Operand slots drawn for the rows that it reads (R291). -/
  slots : Nat := 0
deriving DecidableEq, Repr

/-- A stripe that an item reads: its key and its physical stripe. -/
structure StripePart where
  key : Nat
  phys : Nat
deriving DecidableEq, Repr

/-- Where an item stands. -/
inductive StripePhase where
  | claiming | reading | writing | written | committing
deriving DecidableEq, Repr

/-- A rebuild item, a scrub item or a reshape copy (R249, R257, R259). Blocks are keyed part × 2^32 + position × 65,536 + row. -/
structure StripeItem where
  /-- The stripes it reads, the stripes it claims, and those of them that have not been granted. -/
  parts : List StripePart
  keys : List Nat
  waits : List Nat
  phase : StripePhase := .claiming
  /-- Drive commands outstanding. -/
  left : Nat := 0
  got : Tbl Bytes := []
  /-- Blocks that could not be read, and whether the rest of their rows has been asked for (R243, R252). -/
  bad : List Nat := []
  expanded : Bool := false
  /-- Positions whose units a rebuild item writes. -/
  targets : List Nat := []
  /-- It ends without effect, and is begun anew, once its commands have ended. -/
  cancelled : Bool := false
deriving DecidableEq, Repr

/-- The volume layer (spec 08). Stripes are keyed group × 2^32 + logical stripe, a map-zone stripe p as logical stripe 2^31 + p. -/
structure VolumeState where
  groups : Tbl LGroup := []
  volumes : Tbl Volume := []
  /-- Claims by stripe, holder first, in order of request. -/
  claims : Tbl (List Claimant) := []
  /-- Stripes whose first claim has been granted. -/
  granted : List Nat := []
  /-- Stripes whose first claim has been counted as waiting for operand slots (R297). -/
  opWaited : List Nat := []
  merges : Tbl Merge := []
  /-- Edge of the last durable commit of a stripe (R290). -/
  commits : Tbl Nat := []
  rowJobs : Tbl RowJob := []
  nextJob : Nat := 0
  /-- Items by number: a group's rebuild as its number, its scrub as 32 + its number, a volume's reshape as 64 + its id. -/
  items : Tbl StripeItem := []
deriving DecidableEq, Repr

end Sys2Proof.Machine
end

