-- ==== Sys2Proof/Machine/State.lean ====
section
/-! DEFINITION. The state of the block, the reasons a step can stop, and the state after reset. -/

namespace Sys2Proof.Machine

/-- The reasons for which a step would end in a fault. No command of the table has none of its effects given by the spec, so nothing raises one. -/
inductive Fault where
  /-- Raised by nobody; it stands for an access that the spec gives no effect (safe). -/
  | noEffect
deriving DecidableEq, Repr

/-- The reasons for which a command is refused. -/
inductive Refusal where
  /-- Raised by an arm of `exec` whose command has no meaning in this model yet (safe: nothing is claimed of it). -/
  | notModelled (mnemonic : String)
deriving DecidableEq, Repr

/-- The state of the block: one part for each chapter of the spec, the queue of waiting commands, and the model's own record and counter. -/
structure State where
  pending : List Instr := []
  bell : BellState := {}
  hier : HierState := {}
  sw : SwitchState := {}
  sched : SchedState := {}
  xp : TransportState := {}
  cc : CongestState := {}
  tgt : TargetState := {}
  vol : VolumeState := {}
  led : LedgerState := {}
  ciph : CipherState := {}
  bay : BayState := {}
  stby : StandbyState := {}
  ep : EndpointState := {}
  cor : CoroloState := {}
  dict : DictState := {}
  flt : FaultState := {}
  mp : ProtState := {}
  rst : ResetState := {}
  pins : PinState := {}
  ctr : CtrState := {}
  mem : Hbm := {}
  /-- MODEL: what the device has sent, oldest first. -/
  sent : List Emission := []
  /-- MODEL: how many free values have been taken. -/
  freeIdx : Nat := 0
deriving DecidableEq, Repr

/-- Every field at the value it takes in a device reset (R503): VLAN 1 holds every port untagged (R95), and the first adjustment outcome is 2 (R40). -/
def State.born : State where
  sw := { vlans := [(1, { member := 2 ^ 144 - 1, untagged := 2 ^ 144 - 1 })] }
  dict := { sets := [(0x120008, { outcome := 2 })] }

/-- The machine right after reset: Saddle release after a power-on (R16, R499 step 4). Bell 0 has begun, every die has reached clock-good, every domain is off,
the outward resets are still asserted and Erral verifies the boot slots next. -/
def State.reset : State := { State.born with hier := { clockGood := [true, true, true, true, true, true] } }

end Sys2Proof.Machine
end

