-- ==== Sys2Proof/Machine/Ops.lean ====
section
/-! DEFINITION. The operations that every chapter's meanings share: time, free values, what leaves the device, objects and command objects (R12), fault events (R463), counters (R519) and HBM (R266, R482). -/

namespace Sys2Proof.Machine

/-! ### Running a command -/

/-- The outcome of a command: the state with its effect, and the queue as it was. -/
def effect (s t : State) : Host.Outcome State Fault Refusal := .next { t with pending := s.pending }

/-- A pin whose level counts: `f` once the Saddle has been released, and before that its level alone is taken, by `g` (R367, R561). -/
def pin (s : State) (f g : State → State) : Host.Outcome State Fault Refusal :=
  effect s (if s.rst.phase = .up then f s else g s)

/-- Run `f` once the Saddle has been released; before that an input is lost (R561). -/
def up (s : State) (f : State → State) : Host.Outcome State Fault Refusal :=
  effect s (if s.rst.phase = .up then f s else s)

/-- Run `f` where `c` holds; a command of the block's own time whose condition does not hold changes nothing. -/
def State.when (s : State) (c : Bool) (f : State → State) : State := if c then f s else s

/-! ### Free values and what leaves the device -/

/-- The next free value. -/
def State.free (s : State) : Nat := Config.freeNat s.freeIdx

/-- The state after a free value has been taken. -/
def State.took (s : State) : State := { s with freeIdx := s.freeIdx + 1 }

/-- Something leaves the device. -/
def State.emit (s : State) (e : Emission) : State := { s with sent := s.sent ++ [e] }

/-! ### Objects (R437, R439) -/

/-- Value of a stored object, or its default. The key is index × 256 + sub-index. -/
def State.obj (s : State) (k : Nat) (d : Bytes) : Bytes := tgetD s.dict.objs k d

/-- Value of a stored scalar object, or its default. -/
def State.objN (s : State) (k d : Nat) : Nat :=
  match tget s.dict.objs k with
  | some b => ofLe b
  | none => d

/-- The state with an object's value stored. -/
def State.setObj (s : State) (k : Nat) (v : Bytes) : State := { s with dict.objs := tset s.dict.objs k v }

/-- An accepted write of a persisted object or command advances `persist_gen` (R440). -/
def State.persist (s : State) : State := { s with dict.persistGen := s.dict.persistGen + 1 }

/-- The status of the last write made by a row of its own (R448). -/
def State.status (s : State) (n : Nat) : State := { s with dict.lastStatus := n }

/-! ### Command objects (R12) -/

/-- The companion results of a command object. -/
def State.res (s : State) (set : Nat) : CmdRes := tgetD s.dict.sets set {}

/-- Whether an earlier command of the set still runs (R12). -/
def State.busy (s : State) (set : Nat) : Bool := !(s.res set).ready

/-- Change the companion results of a command object. -/
def State.onRes (s : State) (set : Nat) (f : CmdRes → CmdRes) : State :=
  { s with dict.sets := tmod s.dict.sets set {} f }

/-- A write of a CMD object: refused as busy while an earlier command of its set runs (R12, R443) or when longer than the object (R437);
otherwise `ready` clears, the parameters are kept, and the action runs on the parameters padded with zeros. -/
def State.command (s : State) (key set size : Nat) (par : Bytes) (act : Bytes → State → State) : State :=
  if s.busy set then s.status 6
  else if size < par.length then s.status 3
  else
    let p := padTo size par
    act p ((({ s with dict.params := tset s.dict.params key p }).onRes set (fun r => { r with ready := false })).status 0)

/-- The action has ended; its outcome and result are set at the next edge (R12). -/
def State.done (s : State) (set outcome : Nat) (result : Bytes := []) : State :=
  s.onRes set (fun r => { r with pend := some (outcome, result) })

/-- Outcome and result are set at the edge that begins the current bell (R12). -/
def State.doneNow (s : State) (set outcome : Nat) (result : Bytes := []) : State :=
  s.onRes set (fun r => { r with seq := (r.seq + 1) % 2 ^ 32, ready := true, outcome := outcome, result := result,
                                 doneBell := s.bell.number, pend := none })

/-- Every outcome that is waiting is set at this edge (R12). -/
def State.commitResults (s : State) : State :=
  s.dict.sets.foldl (fun t p => match p.2.pend with
    | some (o, r) => t.doneNow p.1 o r
    | none => t) s

/-! ### Faults (R463, R469) -/

/-- An event reaches the collector in the current bell. -/
def State.raise (s : State) (e : FaultEvent) : State := { s with flt.events := s.flt.events ++ [e] }

/-- An event with no place. -/
def State.fault (s : State) (src detail : Nat) : State := s.raise { source := src, detail := detail }

/-- An event of a region, with no unit. -/
def State.faultAt (s : State) (src die region detail : Nat) : State :=
  s.raise { source := src, die := die, region := region, detail := detail }

/-! ### Counters (R519, R526) -/

/-- An event of the directory: `amt` more of it in the current bell (R519). -/
def State.count (s : State) (code inst : Nat) (amt : Nat := 1) : State :=
  if amt = 0 then s else { s with ctr.amounts := tmod s.ctr.amounts (code * 65536 + inst) 0 (· + amt) }

/-- An item takes a slot of instance `i` in the current bell (R526), its class retired or wasted (R527). -/
def State.slot (s : State) (i : Nat) (wasted : Bool := false) : State :=
  { s with ctr.slotUse := tmod s.ctr.slotUse i {} (fun u =>
      if wasted then { u with wasted := u.wasted + 1, lastWasted := true }
      else { u with retired := u.retired + 1, lastWasted := false }) }

/-- `n` items of one kind take a slot each (R526). -/
def State.slots (s : State) (i n : Nat) : State :=
  if n = 0 then s else { s with ctr.slotUse := tmod s.ctr.slotUse i {} (fun u => { u with retired := u.retired + n, lastWasted := false }) }

/-- Slots that instance `i` has used in the current bell (R527). -/
def State.slotsUsed (s : State) (i : Nat) : Nat :=
  let u := tgetD s.ctr.slotUse i {}
  u.retired + u.wasted

/-- Items that took their slots in the current bell turn out wasted (R528). -/
def State.slotToWaste (s : State) (i : Nat) (n : Nat := 1) : State :=
  { s with ctr.slotUse := tmod s.ctr.slotUse i {} (fun u => { u with wasted := u.wasted + n, retired := u.retired - n }) }

/-- Work discarded in a later bell, or without ever taking a slot (R528). -/
def State.lateWaste (s : State) (i : Nat) (n : Nat := 1) : State :=
  if n = 0 then s else { s with ctr.slotUse := tmod s.ctr.slotUse i {} (fun u => { u with late := u.late + n }) }

/-- `n` slots stay unused because their budget does not cover a head that has credit, or a late item holds it (R527). -/
def State.budgetHeld (s : State) (i n : Nat) : State :=
  { s with ctr.slotUse := tmod s.ctr.slotUse i {} (fun u => { u with budget := u.budget + n }) }

/-- A head stayed unstarted because downstream credit did not cover it (R527). -/
def State.creditBlocked (s : State) (i : Nat) : State :=
  { s with ctr.slotUse := tmod s.ctr.slotUse i {} (fun u => { u with creditBlocked := true }) }

/-- Slots per bell of an instance (R528). -/
def slotsPerBell (i : Nat) : Nat :=
  if i < 4 then 2700 else if i < 36 then 128 else if i = 36 then 256 else if i < 69 then 22 else if i = 69 then 64
  else if i < 86 then 15 else if i < 110 then 32 else if i = 110 then 64 else if i = 111 then 32 else 0

/-! ### HBM (R266, R482) -/

/-- The byte addresses of HBM end here (R266). -/
def hbmSize : Nat := 0xC00000000

/-- HBM-B holds the pages whose address bit 12 is 1 (R266). -/
def inStackB (a : Nat) : Bool := a.testBit 12

/-- The page's number within its stack (R266, R482). -/
def stackPage (a : Nat) : Nat := a / 8192

/-- The byte that lies under the listed cells at an address. -/
def background : List HbmFill → Nat → Byte
  | [], _ => 0
  | f :: r, a =>
    if f.base ≤ a ∧ a < f.base + f.len ∧ (if inStackB a then f.b else f.a) then
      match f.pat with
      | .word w => BitVec.ofNat 8 (w / 256 ^ (a % 8))
      | .free t => Config.freeByte t a
      | .rising n => BitVec.ofNat 8 ((n + (a - f.base) / 4) / 256 ^ (a % 4))
    else background r a

/-- The listed byte at an address. -/
def cellAt : List Host.Cell → Nat → Option Byte
  | [], _ => none
  | (k, v) :: r, a => if k = a then some v else cellAt r a

/-- One byte of HBM. -/
def Hbm.byte (m : Hbm) (a : Nat) : Byte := (cellAt m.cells a).getD (background m.fills a)

/-- The cells with the byte at `a` set to `v`, over a background byte `g`. -/
def cellPut (g : Byte) : List Host.Cell → Nat → Byte → List Host.Cell
  | [], a, v => if v = g then [] else [(a, v)]
  | (k, w) :: r, a, v =>
    if a < k then (if v = g then (k, w) :: r else (a, v) :: (k, w) :: r)
    else if a = k then (if v = g then r else (a, v) :: r)
    else (k, w) :: cellPut g r a v

/-- Write one byte; an address outside HBM holds nothing. -/
def Hbm.setByte (m : Hbm) (a : Nat) (v : Byte) : Hbm :=
  if a < hbmSize then { m with cells := cellPut (background m.fills a) m.cells a v, checks := terase m.checks (a / 8) } else m

/-- Write bytes from an address upward. -/
def Hbm.write (m : Hbm) : Nat → Bytes → Hbm
  | _, [] => m
  | a, b :: bs => (m.setByte a b).write (a + 1) bs

/-- Read `n` bytes from an address upward. -/
def Hbm.read (m : Hbm) (a n : Nat) : Bytes := (List.range' 0 n).map (fun i => m.byte (a + i))

/-- Whether a number lies in a list of ranges. -/
def inRanges (l : List (Nat × Nat)) (p : Nat) : Bool := l.any (fun r => r.1 ≤ p && p < r.2)

/-- Whether the written map covers the page of an address (R482). -/
def Hbm.pageWritten (m : Hbm) (a : Nat) : Bool :=
  inRanges (if inStackB a then m.writtenB else m.writtenA) (stackPage a)

/-- Whether every page of a range is written (an empty map covers nothing). -/
def Hbm.written (m : Hbm) (a n : Nat) : Bool :=
  match m.writtenA, m.writtenB with
  | [], [] => n = 0
  | _, _ => n = 0 || (List.range' 0 ((a + n - 1) / 4096 + 1 - a / 4096)).all (fun i => m.pageWritten ((a / 4096 + i) * 4096))

/-- The check bits written with a word by a test write (R478). -/
def Hbm.setCheck (m : Hbm) (w c : Nat) : Hbm := { m with checks := tset m.checks w c }

/-- The written map of one stack (`true`: the upper), cleared (R482). -/
def Hbm.unwrite (m : Hbm) (b : Bool) : Hbm := if b then { m with writtenB := [] } else { m with writtenA := [] }

/-- Set the written-map bits of the pages `[p, p + n)` of the address space. -/
def Hbm.markPages (m : Hbm) (p n : Nat) : Hbm :=
  if n = 0 then m
  else { m with
    writtenA := (p / 2 + p % 2, (p + n + 1) / 2) :: m.writtenA
    writtenB := (p / 2, (p + n) / 2) :: m.writtenB }

/-- A background over a range, which clears the cells in it. -/
def Hbm.lay (m : Hbm) (base len : Nat) (pat : FillPat) : Hbm :=
  { m with fills := { base := base, len := len, pat := pat } :: m.fills
           cells := m.cells.filter (fun c => c.1 < base || base + len ≤ c.1)
           checks := m.checks.filter (fun c => c.1 * 8 < base || base + len ≤ c.1 * 8) }

/-- The stack loses its contents and its written map (R53, R482). -/
def Hbm.lose (m : Hbm) (stackB : Bool) : Hbm :=
  { cells := m.cells.filter (fun c => inStackB c.1 != stackB)
    fills := m.fills.map (fun f => if stackB then { f with b := false } else { f with a := false })
    writtenA := if stackB then m.writtenA else []
    writtenB := if stackB then [] else m.writtenB
    checks := m.checks.filter (fun c => inStackB (c.1 * 8) != stackB) }

/-- The listed form: addresses strictly rise, lie in HBM, and no cell repeats the background. -/
def cellsWf (fills : List HbmFill) : Nat → List Host.Cell → Bool
  | _, [] => true
  | lo, (k, v) :: r => lo ≤ k && k < hbmSize && v != background fills k && cellsWf fills (k + 1) r

/-- The canonical form of HBM. -/
def Hbm.wf (m : Hbm) : Bool := cellsWf m.fills 0 m.cells

/-- Write bytes to HBM. -/
def State.hbmPut (s : State) (a : Nat) (b : Bytes) : State := { s with mem := s.mem.write a b }

/-- Memory instance of the stack that holds an address (R480): an instance number is die × 256 + index. -/
def hbmInst (a : Nat) : Nat := if inStackB a then 1036 else 1035

/-- Word address of an HBM byte within its stack (R266, R480). -/
def hbmWord (a : Nat) : Nat := stackPage a * 512 + a % 4096 / 8

/-- `detail` of a memory source (R472): instance, word address, and whether the word had never been written. -/
def memDetail (inst addr : Nat) (unwritten : Bool) : Nat := inst + addr % 2 ^ 47 * 65536 + (if unwritten then 2 ^ 63 else 0)

/-- Die and region where an uncorrectable read of HBM arises for a source (R42, R480): its consumer's region, else the stack's. -/
def hbmPlace (src a : Nat) : Nat × Nat :=
  if 64 ≤ src ∧ src < 72 then ((src - 64) / 2, 3 + src % 2)
  else if src = 90 then (4, 4)
  else if src = 105 then (4, 5)
  else if 116 ≤ src ∧ src ≤ 121 then (4, 6)
  else (4, if inStackB a then 8 else 7)

/-- A corrected read of a word (R479, R487). -/
def State.memCorrected (s : State) (inst addr : Nat) : State :=
  { (s.count Ev.mCorr inst) with
    mp.insts := tmod s.mp.insts inst {} (fun m =>
      { m with corrected := m.corrected + 1, fresh := m.fresh + 1, lastAddr := addr, lastVerdict := 1,
               writeBack := if m.writeBack.contains addr then m.writeBack else m.writeBack ++ [addr] }) }

/-- An uncorrectable or unwritten read of a word is counted (R486). -/
def State.memUncorrectable (s : State) (inst addr : Nat) (unwritten : Bool) : State :=
  let s := s.count Ev.mUnc inst
  let s := if unwritten then s.count Ev.mUnw inst else s
  { s with
    mp.insts := tmod s.mp.insts inst {} (fun m =>
      { m with uncorrectable := m.uncorrectable + 1, lastAddr := addr, lastVerdict := if unwritten then 3 else 2 })
    mp.lastUnc := tset s.mp.lastUnc (inst / 256) (inst, addr) }

/-- An uncorrectable read of HBM at an address raises `src` (R486): FS212 and FS213 carry the word, a consumer's source its own `handle`. -/
def State.hbmLost (s : State) (src handle a : Nat) (unwritten : Bool) : State :=
  let p := hbmPlace src a
  (s.faultAt src p.1 p.2 (if src = 212 ∨ src = 213 then memDetail (hbmInst a) (hbmWord a) unwritten else handle)).memUncorrectable
    (hbmInst a) (hbmWord a) unwritten

/-- Words of a range whose check bits a test write stored. -/
def Hbm.tested (m : Hbm) (a n : Nat) : List (Nat × Nat) := m.checks.filter (fun c => a / 8 ≤ c.1 && c.1 * 8 < a + n)

/-- One test-written word is met by a read (R478, R485): the state, the memory as it reads, and whether it is poisoned. -/
def readTested (src handle : Nat) (x : State × Hbm × Bool) (c : Nat × Nat) : State × Hbm × Bool :=
  let (s, m, bad) := x
  let w := ofLe (m.read (c.1 * 8) 8)
  let v := (Config.eccCheck true w c.2).2
  let a := c.1 * 8
  if v = 1 then (s.memCorrected (hbmInst a) (hbmWord a), m.write a (le 8 (Config.eccFix w c.2)), bad)
  else if v = 0 then (s, m, bad)
  else (s.hbmLost src handle a false, m, true)

/-- A read of HBM by the device. Where a page has not been written, or a word cannot be corrected, the read raises `src`, counts, and answers poisoned (R483, R486). -/
def State.hbmGet (s : State) (src handle a n : Nat) : State × Bytes × Bool :=
  if !s.mem.written a n then (s.hbmLost src handle a true, s.mem.read a n, true)
  else
    let r := (s.mem.tested a n).foldl (readTested src handle) (s, s.mem, false)
    (r.1, r.2.1.read a n, r.2.2)

/-! ### Fences and domains (R44, R45, R53, R558) -/

/-- Region key: die × 256 + region. -/
abbrev regionKey (die region : Nat) : Nat := die * 256 + region

/-- The domain of a region; none for PD-AO or no region (R47). -/
def domainOf (die region : Nat) : Option Nat :=
  if die < 4 then
    if region = 0 then some (3 * die)
    else if region = 1 then some (3 * die + 1)
    else if region < 5 then some (3 * die + 2)
    else none
  else if die = 4 then
    if region < 4 then some (12 + region)
    else if region < 7 then some 16
    else if region < 9 then some (10 + region)
    else none
  else if die = 5 ∧ region = 0 then some 19
  else none

/-- Number of regions of a die (R47). -/
def regionCount (die : Nat) : Nat := if die < 4 then 6 else if die = 4 then 11 else if die = 5 then 2 else 0

/-- Phase of a domain. -/
def State.domPhase (s : State) (d : Nat) : DomPhase := (tgetD s.hier.doms d {}).phase

/-- `pd_state` bit of a domain (R58): it has finished training and has not begun its switch-off. -/
def State.domOn (s : State) (d : Nat) : Bool :=
  match s.domPhase d with
  | .on | .fenced => true
  | _ => false

/-- Both stacks are on: an area of HBM can be used (R266). -/
def State.hbmOn (s : State) : Bool := s.domOn 17 && s.domOn 18

/-- Whether a domain's regions have been released and not yet clamped. -/
def State.domReleased (s : State) (d : Nat) : Bool :=
  match s.domPhase d with
  | .released | .on | .fenced => true
  | _ => false

/-- The region holds a command fence, or is treated so (R45, R558). -/
def State.cmdFenced (s : State) (die region : Nat) : Bool :=
  match domainOf die region with
  | none => false
  | some d => s.hier.cmdFence.contains (regionKey die region) || !s.domReleased d || s.hier.heldOut.contains die

/-- The region holds a fault fence (R475). -/
def State.faultFenced (s : State) (die region : Nat) : Bool := (tget s.flt.fences (regionKey die region)).isSome

/-- The region is fenced by either cause (R45). -/
def State.fenced (s : State) (die region : Nat) : Bool := s.cmdFenced die region || s.faultFenced die region

/-- Clusters of a region (R47). -/
def clusterCount (die region : Nat) : Nat :=
  if die < 4 then (if region < 2 then 3 else if region < 5 then 4 else if region = 5 then 1 else 0)
  else if die = 4 then (if region < 2 then 2 else if region < 9 then 4 else if region < 11 then 1 else 0)
  else if die = 5 then (if region = 0 then 4 else if region = 1 then 1 else 0)
  else 0

/-- Units in each cluster of a region (R47); the table gives none for the regions of PD-AO other than the management complex, and the model counts one. -/
def unitsPerCluster (die region : Nat) : Nat :=
  if die < 4 then (if region < 2 then 6 else if region = 2 then 9 else if region < 5 then 8 else 1)
  else if die = 4 then
    if region < 2 then 6 else if region = 2 then 1 else if region = 3 then 12 else if region = 4 then 16
    else if region = 5 then 8 else if region < 9 then 4 else if region = 9 then 8 else 1
  else if region = 0 then 6 else 1

/-- Die-local number of a unit (R38, R42). DEDUCED (log 102): the units of a die count through its regions in order. -/
def unitId (die region unit : Nat) : Nat :=
  (List.range' 0 region).foldl (fun n r => n + clusterCount die r * unitsPerCluster die r) 0 + unit

/-- Cluster key: region key × 256 + cluster. -/
abbrev clusterKey (die region c : Nat) : Nat := regionKey die region * 256 + c

/-- The cluster has been quiesced and not resumed (R43). -/
def State.quiet (s : State) (die region c : Nat) : Bool := s.hier.quiesced.contains (clusterKey die region c)

/-- Every cluster of the region is quiesced. DESIGN CHOICE (log 122): work of a region that the manual gives to none of its clusters goes on until all of them are quiesced. -/
def State.allQuiet (s : State) (die region : Nat) : Bool :=
  !s.hier.quiesced.isEmpty && 0 < clusterCount die region && (List.range' 0 (clusterCount die region)).all (s.quiet die region)

/-- The region starts items: its domain is on and released, it holds no fence, and some cluster of it is not quiesced. -/
def State.runs (s : State) (die region : Nat) : Bool := !s.fenced die region && !s.allQuiet die region

/-- A cluster of a region that runs is not quiesced. -/
def State.clusterRuns (s : State) (die region c : Nat) : Bool := s.runs die region && !s.quiet die region c

/-- Number of the UCIe link of two ridges (R49, R50): 4 to 9 for the pairs 0-1, 0-2, 0-3, 1-2, 1-3, 2-3. -/
def meshLink (a b : Nat) : Nat :=
  let lo := min a b
  let hi := max a b
  if lo = 0 then 3 + hi else if lo = 1 then 5 + hi else 9

/-- The UCIe link of two ridges passes cells: it has not failed, neither adapter is clamped, and the domain of each end is on (R49, R50, R52, R53). -/
def State.meshUp (s : State) (a b : Nat) : Bool :=
  !s.hier.linkDown.contains (meshLink a b) && !s.hier.clamped.contains a && !s.hier.clamped.contains b && s.domOn (3 * a + 2) && s.domOn (3 * b + 2)

/-- The UCIe link of a ridge and the Saddle passes traffic (R49, R50, R52, R53). -/
def State.saddleUp (s : State) (n : Nat) : Bool :=
  !s.hier.linkDown.contains n && !s.hier.clamped.contains n && !s.hier.clamped.contains 4 && s.domOn (3 * n + 2)

/-- Traffic crosses the link of a ridge and the Saddle: it is up, and the region that holds the ridge's adapters is not fenced (R44, R47). -/
def State.saddleOpen (s : State) (n : Nat) : Bool := s.saddleUp n && !s.fenced n 2

/-- The ridge from which cells of ridge `a` enter ridge `b`: `a` itself, or the lowest-numbered third ridge whose links to both are up (R50). -/
def State.meshHop (s : State) (a b : Nat) : Option Nat :=
  if a = b ∨ s.meshUp a b then some a
  else (List.range' 0 4).find? (fun c => c ≠ a && c ≠ b && s.meshUp a c && s.meshUp c b)

/-- Payload bytes that a link carries in one direction in a bell (R49): 0-3 Ridge n to Saddle, 4-9 the mesh, 10 and 11 the HBM stacks, 12 the Millhouse. The last three enter the costs of the
items that use them (R33; DEDUCED, log 132). -/
def linkPayload (l : Nat) : Nat := if l < 4 then 153600 else if l < 10 then 460800 else if l < 12 then 1228800 else 1024

/-- Length of the current bell in nanoseconds, and the number of the bell after it (R13, R21). -/
def State.bellSpan (s : State) : Nat × Nat :=
  match s.bell.stretch with
  | some r => (r.tStar - s.bell.ptp, r.nStar)
  | none => (1024, s.bell.number + 1)

/-- The budget window of a bell in nanoseconds (R28): no unit starts work after it. -/
abbrev budgetWindow : Nat := 1000

/-- Edges passed since an edge count (R557). -/
def State.since (s : State) (e : Nat) : Nat := s.bell.edges - e

end Sys2Proof.Machine
end

