-- ==== Sys2Proof/Machine/CipherCore.lean ====
section
/-! DEFINITION. The stored block, key derivation, lanes, encryption and decryption (R298-R313). -/

namespace Sys2Proof.Machine

/-- The cipher's region runs (R47). -/
def State.cipherRuns (s : State) : Bool := s.runs 4 3

/-! ### Key derivation (R310, R311) -/

/-- The 24-byte PRF input: purpose, label and context (R310). -/
def prfInput (purpose : Nat) (label context : Bytes) : Bytes :=
  be 4 1 ++ le 1 purpose ++ padTo 6 label ++ [0] ++ padTo 8 context ++ be 4 256

/-- A derived key (R310): the first 32 bytes of one PRF output. -/
def derive (key : Bytes) (purpose : Nat) (label context : Bytes) : Bytes :=
  padTo 32 (Config.hmacSha512 key (prfInput purpose label context))

/-- The label of a volume's data key (R311). -/
def volLabel (vol epoch : Nat) : Bytes := be 2 vol ++ be 4 epoch

/-- The root check value (R311). -/
def rootCheck (root : Bytes) (shelf : Nat) : Bytes := (derive root 3 (zeros 6) (be 8 shelf)).take 8

/-- The identity's signing seed, signing key, agreement private key and agreement key (R322). -/
def signSeed : Bytes := derive Config.fusedSecret 0x40 (zeros 6) (zeros 8)
def signPub : Bytes := Config.edPublic signSeed
def agreePriv : Bytes := derive Config.fusedSecret 0x41 (zeros 6) (zeros 8)
def agreePub : Bytes := Config.xPublic agreePriv

/-! ### The stored block (R298-R300) -/

/-- A stored block: data, then the 64 metadata bytes with their CRC-64 (R298). -/
def mkStored (data tag : Bytes) (wseq epoch vol flags : Nat) : Bytes :=
  let d := padTo 4096 data
  let m := padTo 16 tag ++ le 8 wseq ++ le 4 epoch ++ le 2 vol ++ le 1 flags ++ [1] ++ zeros 24
  d ++ m ++ le 8 (crc64 (d ++ m))

/-- A deallocated block of a volume (R300). -/
def deallocBlock (vol : Nat) : Bytes := mkStored [] [] 0 0 vol 1

/-- A clear block of group metadata (R300). -/
def clearBlock (page : Bytes) : Bytes := mkStored page [] 0 0 0xFFFF 2

/-- Fields of a stored block's metadata (R298). -/
def stFlags (b : Bytes) : Nat := fld b 4126 1
def stDealloc (b : Bytes) : Bool := (stFlags b).testBit 0
def stClear (b : Bytes) : Bool := (stFlags b).testBit 1
def stCrcOk (b : Bytes) : Bool := fld b 4152 8 == crc64 (b.take 4152)

/-- The IV and the additional data of a block (R299). -/
def gcmIv (epoch wseq : Nat) : Bytes := be 4 epoch ++ be 8 wseq
def gcmAad (vol lba epoch : Nat) : Bytes := be 2 vol ++ be 8 lba ++ be 4 epoch

/-! ### Lanes (R304-R307) -/

/-- A lane. -/
def State.lane (s : State) (i : Nat) : Lane := tgetD s.ciph.lanes i {}

/-- The lowest pipeline with `n` cycles of budget left in the bell (R28, R304). -/
def Lane.pipe (x : Lane) (n : Nat) : Option Nat := [0, 1, 2].find? (fun i => x.pipes.getD i 0 + n ≤ 1500)

/-- Whether a lane holds a key. -/
def Lane.holds (x : Lane) (vol epoch : Nat) : Bool := x.keys.any (fun k => k.vol = vol ∧ k.epoch = epoch)

/-- A lane's key becomes the most recently used; a new one takes the place of the least recently used of eight (R306). -/
def Lane.useKey (x : Lane) (vol epoch edge : Nat) : Lane :=
  let r := x.keys.filter (fun k => k.vol ≠ vol ∨ k.epoch ≠ epoch)
  let r := if 8 ≤ r.length then r.drop 1 else r
  { x with keys := r ++ [{ vol := vol, epoch := epoch, last := edge }] }

/-- The dispatcher's choice of lane for one block (R305), with the cycles taken; none where no lane has room. -/
def dispatch (vol epoch : Nat) (s : State) : Option (State × Nat) :=
  let lanes := (List.range' 0 16).filter (fun i => (s.lane i).inService && !s.quiet 4 3 (i / 4))
  match lanes.find? (fun i => (s.lane i).holds vol epoch && ((s.lane i).pipe 296).isSome) with
  | some i =>
    let x := s.lane i
    let p := (x.pipe 296).getD 0
    let x := { x.useKey vol epoch s.bell.edges with pipes := lmod x.pipes p (· + 296) }
    some ((({ s with ciph.lanes := tset s.ciph.lanes i x }).count Ev.holdHit i).slot (70 + i), i)
  | none =>
    match lanes.find? (fun i => (s.lane i).keyUnit + 400 ≤ 1500 && ((s.lane i).pipe 696).isSome) with
    | some i =>
      let x := s.lane i
      let p := (x.pipe 696).getD 0
      let x := { x.useKey vol epoch s.bell.edges with pipes := lmod x.pipes p (· + 696), keyUnit := x.keyUnit + 400 }
      some ((({ s with ciph.lanes := tset s.ciph.lanes i x }).count Ev.derive i).slot (70 + i), i)
    | none => none

/-- The lane for a block that needs no key, because it is deallocated or fails its metadata check: the lowest with a pipeline's room (R300, R305, R308; log 116). -/
def dispatchPlain (wasted : Bool) (s : State) : Option (State × Nat) :=
  match (List.range' 0 16).find? (fun i => (s.lane i).inService && !s.quiet 4 3 (i / 4) && ((s.lane i).pipe 296).isSome) with
  | some i =>
    let x := s.lane i
    some (({ s with ciph.lanes := tset s.ciph.lanes i { x with pipes := lmod x.pipes ((x.pipe 296).getD 0) (· + 296) } }).slot (70 + i) wasted, i)
  | none => none

/-- A block that no lane takes holds back the slots that the lanes have left (R527), and waits for a key unit at each lane in service whose pipelines had room for it (R304, R305). -/
def markShort (s : State) : State :=
  if s.ciph.root.isNone ∨ !s.cipherRuns then s
  else
    let s := (List.range' 0 16).foldl (fun s i => if (s.lane i).inService && !s.quiet 4 3 (i / 4) then s.budgetHeld (70 + i) (slotsPerBell (70 + i)) else s) s
    { s with ciph.lanes := tmap s.ciph.lanes (fun _ x => if x.inService && (x.pipe 696).isSome && 1500 < x.keyUnit + 400 then { x with short := true } else x) }

/-- The guard interval counts the bells in which a block waited for a lane's key unit (R334). -/
def countKeyWaits (s : State) : State :=
  let t := s.ciph.lanes.foldl (fun s x => s.count Ev.keyWait x.1 (b2n x.2.short)) s
  { t with ciph.lanes := tmap s.ciph.lanes (fun _ x => { x with short := false }) }

/-- Each bell the lanes' budgets start anew, where their region receives its edge (R27). -/
def refillLanes (s : State) : State :=
  if !s.domReleased 15 then s else { s with ciph.lanes := tmap s.ciph.lanes (fun _ x => { x with pipes := [0, 0, 0], keyUnit := 0 }) }

/-- Held keys that satisfy `p` are erased (R306). -/
def eraseKeys (p : HeldKey → Bool) (s : State) : State :=
  let s := s.ciph.lanes.foldl (fun s x => s.count Ev.holdErase x.1 (x.2.keys.filter p).length) s
  { s with ciph.lanes := tmap s.ciph.lanes (fun _ x => { x with keys := x.keys.filter (fun k => !p k) }) }

/-! ### Encryption (R301, R302) -/

/-- Whether an encryption of a data block may start (R302, R313). -/
def State.mayEncrypt (s : State) : Bool := s.cipherRuns && s.ciph.root.isSome && max 1 s.ciph.wseqNext < s.ciph.wseqLimit && s.ciph.waitEdge ≤ s.bell.edges

/-- Encrypt one data block (R298-R302): none where it must wait. The value 0 is never taken. -/
def encryptBlock (vol lba epoch : Nat) (data : Bytes) (s : State) : Option (State × Bytes) :=
  match s.ciph.root with
  | none => none
  | some root =>
    if !s.mayEncrypt then none
    else match dispatch vol epoch s with
      | none => none
      | some (s, i) =>
        let w := max 1 s.ciph.wseqNext
        let s := { s with ciph.wseqNext := w + 1 }
        let s := if w + 1 = s.ciph.wseqLimit then s.faultAt 128 4 3 0 else s
        let key := derive root 1 (volLabel vol epoch) (be 8 s.ciph.shelfId)
        let r := Config.gcmSeal key (gcmIv epoch w) (gcmAad vol lba epoch) (padTo 4096 data)
        some (s.count Ev.encr i, mkStored r.1 r.2 w epoch vol 0)

/-- Encrypt consecutive blocks, all or none. -/
def encryptAll (vol epoch : Nat) : Nat → List Bytes → State → Option (State × List Bytes)
  | _, [], s => some (s, [])
  | lba, d :: ds, s =>
    match encryptBlock vol lba epoch d s with
    | none => none
    | some (s, b) =>
      match encryptAll vol epoch (lba + 1) ds s with
      | none => none
      | some (s, bs) => some (s, b :: bs)

/-! ### Decryption (R308, R309) -/

/-- A volume's epoch window (R312). -/
def State.epochWindow (s : State) (vol : Nat) : Nat × Nat :=
  match tget s.vol.volumes vol with
  | some v => (v.epochBase, v.epochCur)
  | none => (1, 0)

/-- The first metadata check of R308 that fails, or 0; a deallocated block with a correct CRC passes. -/
def metaFails (b : Bytes) (vol lo hi : Nat) : Nat :=
  if !stCrcOk b then 1
  else if stDealloc b then 0
  else if fld b 4127 1 ≠ 1 then 2
  else if stClear b then 3
  else if fld b 4124 2 ≠ vol then 4
  else if fld b 4120 4 < lo ∨ hi < fld b 4120 4 then 5
  else 0

/-- A stored block read for a host address (R308, R309): plaintext and verdict; none where it must wait for a lane or the root key. -/
def decryptBlock (vol lba : Nat) (b : Bytes) (s : State) : Option (State × Bytes × Bool) :=
  match s.ciph.root with
  | none => none
  | some root =>
    let w := s.epochWindow vol
    let f := metaFails b vol w.1 w.2
    if !s.cipherRuns then none
    else if f ≠ 0 then (dispatchPlain true s).map (fun x => (x.1.count (Ev.metaFail1 + (f - 1)) x.2, zeros 4096, false))
    else if stDealloc b then (dispatchPlain false s).map (fun x => (x.1.count Ev.cipDealloc x.2, zeros 4096, true))
    else
      let epoch := fld b 4120 4
      match dispatch vol epoch s with
      | none => none
      | some (s, i) =>
        let key := derive root 1 (volLabel vol epoch) (be 8 s.ciph.shelfId)
        let r := Config.gcmOpen key (gcmIv epoch (fld b 4112 8)) (gcmAad vol lba epoch) (b.take 4096) (sub b 4096 16)
        some ((s.count Ev.decr i).count Ev.tagFail i (b2n (!r.2)), r.1, r.2)

end Sys2Proof.Machine
end

