-- ==== Sys2Proof/Machine/Sched.lean ====
section
/-! DEFINITION. Scheduling, shaping, policing and time gates (spec 04). -/

namespace Sys2Proof.Machine

/-! ### Instances and queues (R97, R98) -/

/-- Key of `sched_command` and of its results. -/
abbrev schedSet : Nat := 0x260010

/-- Instances of a kind (R97). -/
def instCount (kind : Nat) : Nat := if kind = 0 then 153 else if kind = 1 then 8 else if kind = 2 then 24 else 0

/-- Queues of an instance of a kind (R97). -/
def queueCount (kind : Nat) : Nat := if kind = 0 then 8 else if kind = 1 then 256 else if kind = 2 then 128 else 0

/-- Key of a queue. -/
abbrev qKey (kind inst q : Nat) : Nat := kind * 1048576 + inst * 1024 + q

/-- Key of an instance. -/
abbrev iKey (kind inst : Nat) : Nat := kind * 1024 + inst

/-- Counter instance of a queue: the kinds one after the other (R529). -/
def qCtr (kind inst q : Nat) : Nat :=
  if kind = 0 then inst * 8 + q else if kind = 1 then 1224 + inst * 256 + q else 3272 + inst * 128 + q

/-- Default weight of a drive admission queue (R98). -/
def driveWeight (q : Nat) : Nat := if q = 112 then 2048 else if q = 114 then 256 else if q = 115 then 512 else 1024

/-- Default configuration of a queue (R98, R118). -/
def defaultQCfg (kind q : Nat) : QCfg :=
  { weight := if kind = 2 then driveWeight q else 1024
    strict := kind = 2 && q = 0
    cls := if kind ≠ 2 then q else if q = 0 then 0 else if q < 112 then 1 else if q < 116 then q - 110 else 6
    rate := 0, burst := 65536 }

/-- Configuration of a queue as written (R118). -/
def State.qcfg (s : State) (kind inst q : Nat) : QCfg := tgetD s.sched.cfg (qKey kind inst q) (defaultQCfg kind q)

/-- A queue. -/
def State.queue (s : State) (kind inst q : Nat) : SchedQ := tgetD s.sched.queues (qKey kind inst q) {}

/-- An instance. -/
def State.sinst (s : State) (kind inst : Nat) : SchedI := tgetD s.sched.insts (iKey kind inst) {}

/-- Change a queue. -/
def State.onQueue (s : State) (kind inst q : Nat) (f : SchedQ → SchedQ) : State :=
  { s with sched.queues := tmod s.sched.queues (qKey kind inst q) {} f }

/-- Change an instance. -/
def State.onInst (s : State) (kind inst : Nat) (f : SchedI → SchedI) : State :=
  { s with sched.insts := tmod s.sched.insts (iKey kind inst) {} f }

/-- Weight in force (R103). -/
def SchedQ.weightOf (x : SchedQ) (kind q : Nat) : Nat := x.weight.getD (defaultQCfg kind q).weight

/-- Tags of a head (R101). -/
def SchedQ.tag (x : SchedQ) (kind q v : Nat) : SchedQ :=
  match x.items with
  | [] => x
  | h :: _ =>
    let st := max v x.fLast
    { x with fitWait := false, tagS := st, tagF := st + ceilDiv (h.size * 4096) (x.weightOf kind q) }

/-- An item joins the tail of a queue; one that becomes head is tagged (R101). -/
def State.enqueue (s : State) (kind inst q size ref : Nat) : State :=
  let v := (s.sinst kind inst).v
  s.onQueue kind inst q (fun x =>
    let y := { x with items := x.items ++ [{ size := size, enq := s.bell.edges, ref := ref }] }
    if x.items.isEmpty then y.tag kind q v else y)

/-- The head of a queue starts: tags, shapers and counters (R101, R104). -/
def State.startHead (s : State) (kind inst q : Nat) : State :=
  match (s.queue kind inst q).items with
  | [] => s
  | h :: _ =>
    let v := (s.sinst kind inst).v
    let s := s.onQueue kind inst q (fun x =>
      ({ x with items := x.items.drop 1, fLast := x.tagF
                tokens := if x.rate = 0 then x.tokens else x.tokens - (h.size * 65536 : Nat) }).tag kind q v)
    let s := s.onInst kind inst (fun i => if i.rate = 0 then i else { i with tokens := i.tokens - (h.size * 65536 : Nat) })
    (s.count Ev.itemStart (qCtr kind inst q)).count Ev.byteStart (qCtr kind inst q) h.size

/-! ### Time gates (R113-R116) -/

/-- Cycle time of a list. -/
def GateProg.cycle (p : GateProg) : Nat := p.entries.foldl (fun a e => a + e.2) 0

/-- Entry in which a position falls. -/
def entryAt : List (Nat × Nat) → Nat → Nat → Nat
  | [], _, i => i
  | e :: r, p, i => if p < e.2 then i else entryAt r (p - e.2) (i + 1)

/-- Entry in force in bell `n`; none where the fallback mask is in force (R113). -/
def GateProg.entryIn (p : GateProg) (n : Nat) : Option Nat :=
  if n < p.base ∨ p.cycle = 0 then none else some (entryAt p.entries ((n - p.base) % p.cycle) 0)

/-- Mask of a list in bell `n` (R113, R116). -/
def GateProg.maskIn (p : GateProg) (aligned : Bool) (n : Nat) : Nat :=
  if p.align && !aligned then p.fallback
  else match p.entryIn n with
    | some i => (lget p.entries i (0, 0)).1
    | none => p.fallback

/-- The gate list of a port (kind 0) or bay (kind 2). -/
def State.gate (s : State) (kind inst : Nat) : GateList := tgetD s.sched.gates (kind * 256 + inst) {}

/-- Whether the pending list becomes oper in bell `n` (R115, R116). DESIGN CHOICE (log 92): while the bell is unaligned, `gate_align` of the oper list holds the switch back,
and of the pending list where there is no oper list. -/
def GateList.switchesAt (g : GateList) (aligned : Bool) (n : Nat) : Bool :=
  match g.pend with
  | none => false
  | some p =>
    p.base ≤ n &&
    (match g.oper with
     | none => !p.align || aligned
     | some o => (!o.align || aligned) && o.base ≤ n && o.cycle != 0 && (n - o.base) % o.cycle == 0)

/-- Mask in force in bell `n`, given the lists as they stand; a list that has switched by then is the new one. DESIGN CHOICE (log 92): until its first list becomes oper a gate
holds 0xFF, aligned or not, also once a list has been committed. -/
def GateList.maskIn (g : GateList) (aligned : Bool) (n : Nat) : Nat :=
  match g.oper with
  | none => 0xFF
  | some o => o.maskIn aligned n

/-- Mask in force in the current bell (R113). -/
def State.gateMask (s : State) (kind inst : Nat) : Nat :=
  if kind = 1 ∨ (kind = 0 ∧ 144 ≤ inst) then 0xFF else (s.gate kind inst).maskIn s.bell.aligned s.bell.number

/-- Whether the fallback mask is in force in the current bell (R113, R116). -/
def State.gateFallback (s : State) (kind inst : Nat) : Bool :=
  match (s.gate kind inst).oper with
  | none => false
  | some o => (o.align && !s.bell.aligned) || (o.entryIn s.bell.number).isNone

/-- A class stays open through bell `n` and the `f` bells after it, the list switching when its time comes (R114). -/
def openThrough (aligned : Bool) (c : Nat) : Nat → GateList → Nat → Bool
  | f, g, n =>
    let g := if g.switchesAt aligned n then { g with oper := g.pend, pend := none } else g
    (g.maskIn aligned n).testBit c && (match f with
      | 0 => true
      | f + 1 => openThrough aligned c f g (n + 1))

/-- Whether a frame of `wire` nanoseconds started `off` nanoseconds after the last edge ends before its class closes (R114). -/
def State.gateFits (s : State) (inst c wire off : Nat) : Bool :=
  let g := s.gate 0 inst
  let (len, next) := s.bellSpan
  (g.maskIn s.bell.aligned s.bell.number).testBit c &&
    (off + wire ≤ len || openThrough (s.bell.aligned || s.bell.stretch.isSome) c (ceilDiv (off + wire - len) 1024 - 1) g next)

/-! ### Port rates -/

/-- Line rate of a port mode in Gbit/s (R60). -/
def modeRate (m : Nat) : Nat := if m = 1 then 50 else if m = 2 then 100 else if m = 3 then 200 else if m = 4 then 400 else if m = 5 then 800 else 0

/-- Lanes of a port mode (R60). -/
def modeLanes (m : Nat) : Nat := if m = 1 ∨ m = 2 then 1 else if m = 3 then 2 else if m = 4 then 4 else if m = 5 then 8 else 0

/-- Key of a port object (R93). -/
abbrev portKey (port sub : Nat) : Nat := (0x2000 + port) * 256 + sub

/-- `port_mode` as written; a member lane's own value has no effect (R61). -/
def State.portMode (s : State) (port : Nat) : Nat := s.objN (portKey port 1) 0

/-- Nanoseconds a frame of `len` bytes takes on the wire of a port, with preamble and gap (R114). -/
def State.wireTime (s : State) (port len : Nat) : Nat :=
  let r := modeRate (s.portMode port)
  if r = 0 then 0 else ceilDiv ((len + 20) * 8) r

/-- A port's state. -/
def State.port (s : State) (port : Nat) : PortState := tgetD s.sw.ports port {}

/-- One port and class. -/
def PortState.cls (p : PortState) (c : Nat) : PortClass := tgetD p.classes c {}

/-- The class is paused by the peer, and the port does not ignore the pause (R87, R88). -/
def State.paused (s : State) (port c : Nat) : Bool :=
  let k := (s.port port).cls c
  k.pause.isSome && !k.stormDrop

/-! ### Eligibility and selection (R99, R100) -/

/-- Whether the device submits no commands of a queue (R217, R293, R366, R386, R468). -/
def State.driveStops (s : State) (queue : Nat) : Bool :=
  s.tgt.pwrfail.any (· < s.bell.edges) || s.flt.halted || s.stby.stopped
    || (s.tgt.resvLost.any (· < s.bell.edges) && !(116 ≤ queue && queue ≤ 127))

/-- The cluster of a QP slot's key is quiesced (R43). -/
def State.keyQuiet (s : State) (key : Nat) : Bool := s.quiet (key / 2048 / 2) (3 + key / 2048 % 2) (key / 512 % 4)

/-- Why a backlogged queue is not eligible for a start `off` nanoseconds after the last edge: 0 eligible, 1 shaper, 2 gate, 3 pause; 4 its head does not fit the open time;
5 the cluster of its head's QP is quiesced (R43); 6 the device admits nothing of it (R217, R218). -/
def State.ineligible (s : State) (kind inst q off : Nat) : Nat :=
  let x := s.queue kind inst q
  let i := s.sinst kind inst
  let c := (s.qcfg kind inst q).cls
  let size := (x.items.headD { size := 0, enq := 0, ref := 0 }).size
  if kind = 1 ∧ x.items.head?.any (fun h => s.keyQuiet h.ref) then 5
  else if kind = 2 ∧ s.driveStops q then 6
  else if kind = 0 ∧ inst < 144 ∧ s.paused inst q then 3
  else if (kind = 0 && inst < 144 && !(s.gateMask 0 inst).testBit q) || (kind = 2 && q != 0 && c != 0 && !(s.gateMask 2 inst).testBit c) then 2
  else if kind = 0 ∧ inst < 144 ∧ !s.gateFits inst q (s.wireTime inst size) off then 4
  else if (x.rate ≠ 0 ∧ x.tokens < 0) ∨ (i.rate ≠ 0 ∧ i.tokens < 0) then 1
  else 0

/-- The causes that keep a queue from being eligible, each on its own: its shaper or its instance's, its gate, a pause (R99, R118). -/
def State.blocks (s : State) (kind inst q : Nat) : List Nat :=
  let x := s.queue kind inst q
  let i := s.sinst kind inst
  let c := (s.qcfg kind inst q).cls
  (if (x.rate ≠ 0 ∧ x.tokens < 0) ∨ (i.rate ≠ 0 ∧ i.tokens < 0) then [Ev.ineligShaper] else [])
    ++ (if (kind = 0 && inst < 144 && !(s.gateMask 0 inst).testBit q) || (kind = 2 && q != 0 && c != 0 && !(s.gateMask 2 inst).testBit c) then [Ev.ineligGate] else [])
    ++ (if kind = 0 ∧ inst < 144 ∧ s.paused inst q then [Ev.ineligPause] else [])

/-- A bell in which a queue is backlogged but not eligible is counted for each cause that holds at some time in it (R118, R519). -/
def noteQueue (kind inst q : Nat) (s : State) : State :=
  if (s.queue kind inst q).items.isEmpty then s else (s.blocks kind inst q).foldl (fun s e => s.count e (qCtr kind inst q)) s

/-- The queues of an instance that hold items. -/
def State.backlogged (s : State) (kind inst : Nat) : List Nat :=
  (List.range' 0 (queueCount kind)).filter (fun q => !(s.queue kind inst q).items.isEmpty)

/-- The eligible queues of an instance for a start `off` nanoseconds after the last edge (R99). -/
def State.eligible (s : State) (kind inst off : Nat) : List Nat :=
  (s.backlogged kind inst).filter (fun q => s.ineligible kind inst q off = 0)

/-- Of two queues, the one with the smaller finish tag, ties to the lower number (R100). -/
def State.better (s : State) (kind inst a b : Nat) : Nat :=
  if (s.queue kind inst b).tagF < (s.queue kind inst a).tagF then b else a

/-- The queue whose head an instance takes next (R100). DESIGN CHOICE (log 126): a write of `strict` or of a drive class is in force at once. -/
def State.selectQueue (s : State) (kind inst off : Nat) : Option Nat :=
  let e := s.eligible kind inst off
  match (e.filter (fun q => (s.qcfg kind inst q).strict)).getLast? with
  | some q => some q
  | none => match e with
    | [] => none
    | q :: r => some (r.foldl (s.better kind inst) q)

/-! ### The edge (R102, R104, R106, R111, R112) -/

/-- Bytes of a rate per bell, in 1/65,536 bytes (R104). -/
def refillOf (rate : Nat) : Nat := rate * 128 * 65536 / 1000000

/-- Domain of the region that holds a scheduler instance (R47, R75, R97). -/
def State.instDomain (s : State) (kind inst : Nat) : Nat :=
  if kind = 0 then 3 * (if inst < 144 then inst / 36 else if inst < 152 then (inst - 144) / 2 else s.objN 0x240005 0) + 2
  else if kind = 1 then 3 * (inst / 2) + 2
  else 12 + inst / 12

/-- The region of a scheduler instance receives edges (R27). -/
def State.instEdges (s : State) (kind inst : Nat) : Bool := s.domReleased (s.instDomain kind inst)

/-- Domain of the instance of a queue's key. -/
def State.keyDomain (s : State) (k : Nat) : Nat := s.instDomain (k / 1048576) (k / 1024 % 1024)

/-- Whether the region of a queue's key receives edges. -/
def State.keyEdges (s : State) (k : Nat) : Bool := s.instEdges (k / 1048576) (k / 1024 % 1024)

/-- Queues and instances take the configuration in force from this edge, and refill (R103-R106); a region that is off receives no edge (R27). -/
def refillShapers (s : State) : State :=
  { s with sched.queues := tmap s.sched.queues (fun k x =>
      if !s.keyEdges k then x else
      let c := (tget s.sched.cfg k).getD (defaultQCfg (k / 1048576) (k % 1024))
      { x with weight := some c.weight, rate := c.rate, burst := c.burst
               tokens := min (x.tokens + (if c.rate = 0 then 0 else refillOf c.rate : Nat)) ((c.burst * 65536 : Nat) : Int) })
           sched.insts := tmap s.sched.insts (fun k i =>
      if !s.instEdges (k / 1024) (k % 1024) then i else
      { i with rate := i.cfgRate, burst := i.cfgBurst, stopped := false
               tokens := min (i.tokens + (refillOf i.cfgRate : Nat)) ((i.cfgBurst * 65536 : Nat) : Int) }) }

/-- Policer counts refill, or are set by an accepted write (R108); the policers of a ridge are with its lanes (R47), and receive edges while either lane domain does (R27; DEDUCED, log 101). -/
def refillPolicers (s : State) : State :=
  { s with sched.policers := tmap s.sched.policers (fun n p =>
      if !s.domReleased (3 * (n / 256)) && !s.domReleased (3 * (n / 256) + 1) then p
      else if p.fill then { p with tc := p.cbs * 65536, tp := p.pbs * 65536, fill := false }
      else { p with tc := min (p.tc + refillOf p.cir) (p.cbs * 65536), tp := min (p.tp + refillOf p.pir) (p.pbs * 65536) }) }

/-- The greatest F_last of an instance. -/
def State.maxFLast (s : State) (kind inst : Nat) : Nat :=
  (List.range' 0 (queueCount kind)).foldl (fun a q => max a (s.queue kind inst q).fLast) 0

/-- Virtual time and re-tagging of one instance (R102). -/
def updateVirtual (kind inst : Nat) (s : State) : State :=
  let e := s.eligible kind inst 0
  let v := (s.sinst kind inst).v
  let v := match e with
    | [] => max v (s.maxFLast kind inst)
    | q :: r => max v (r.foldl (fun a x => min a (s.queue kind inst x).tagS) (s.queue kind inst q).tagS)
  let s := s.onInst kind inst (fun i => { i with v := v })
  (s.backlogged kind inst).foldl (fun s q => s.onQueue kind inst q (fun x =>
    match x.items with
    | [] => x
    | h :: _ =>
      let st := max x.tagS v
      { x with tagS := st, tagF := st + ceilDiv (h.size * 4096) (x.weightOf kind q) })) s

/-- The instances that hold any queue. -/
def State.instances (s : State) : List (Nat × Nat) :=
  (s.sched.queues.map (fun p => (p.1 / 1048576, p.1 / 1024 % 1024))).eraseDups

/-- Virtual times of every instance whose region receives edges (R27, R102). -/
def updateVirtuals (s : State) : State := (s.instances.filter (fun i => s.instEdges i.1 i.2)).foldl (fun s i => updateVirtual i.1 i.2 s) s

/-- Cells of a frame (R76). -/
def cellsOf (size : Nat) : Nat := ceilDiv size 256

/-- Depth of a queue in its kind's unit (R111). -/
def depthOf (kind : Nat) (x : SchedQ) : Nat :=
  if kind = 0 then x.items.foldl (fun a i => a + cellsOf i.size) 0 else x.items.length

/-- Delay of a queue's head in edges (R111). -/
def delayOf (edges : Nat) (x : SchedQ) : Nat :=
  match x.items with
  | [] => 0
  | h :: _ => min (edges - h.enq) 0xFFFFFFFF

/-- One more sample; `n` samples have been taken in the window before it. -/
def Sampler.add (w : Sampler) (n d y : Nat) : Sampler :=
  { minD := if n = 0 then d else min w.minD d, sumD := (if n = 0 then 0 else w.sumD) + d, maxD := if n = 0 then d else max w.maxD d
    minY := if n = 0 then y else min w.minY y, sumY := (if n = 0 then 0 else w.sumY) + y, maxY := if n = 0 then y else max w.maxY y }

/-- `sample_k` of a kind as written (R117). -/
def State.sampleK (s : State) (kind : Nat) : Nat := s.objN (0x260001 + kind) (if kind = 2 then 14 else 10)

/-- A kind's windows; the edge that begins bell 0 has recorded one sample of every queue (R16, R111). -/
def State.window (s : State) (kind : Nat) : Window := tgetD s.sched.windows kind { k := if kind = 2 then 14 else 10, runN := 1 }

/-- Bells of the running window that a queue has sampled: those in which its region has received the edge (R27, R112). -/
def Window.sampled (w : Window) (dom : Nat) : Nat := w.runN - tgetD w.off dom 0

/-- The domains whose scheduler instances of a kind receive no edge now (R27). -/
def State.darkDomains (s : State) : List Nat := (List.range' 0 20).filter (fun d => !s.domReleased d)

/-- At an edge a kind's window closes if its bells are over or the edge is a discontinuity (R112), and every queue whose region receives it records a sample (R27, R111).
`prev` is the bell that has ended. -/
def sampleKind (prev kind : Nat) (s : State) : State :=
  let w := s.window kind
  let ends := s.bell.discontinuity || s.bell.number >>> w.k != w.id
  let k := if ends then s.sampleK kind else w.k
  let w' : Window := if ends then { w with k := k, id := s.bell.number >>> k, closeN := w.runN, closeOff := w.off, closeBell := prev, runN := 0, off := [] } else w
  let qs := tmap s.sched.queues (fun key x =>
    if key / 1048576 ≠ kind then x
    else
      let x := if ends then { x with closing := if w.sampled (s.keyDomain key) = 0 then {} else x.run } else x
      if s.keyEdges key then { x with run := x.run.add (w'.sampled (s.keyDomain key)) (depthOf kind x) (delayOf s.bell.edges x) } else x)
  { s with sched.queues := qs
           sched.windows := tset s.sched.windows kind { w' with runN := w'.runN + 1, off := s.darkDomains.foldl (fun t d => tmod t d 0 (· + 1)) w'.off } }

/-- Sampling of the three kinds. -/
def sampleAll (prev : Nat) (s : State) : State := sampleKind prev 2 (sampleKind prev 1 (sampleKind prev 0 s))

/-- SAMPLE_WINDOW_END (R112): every queue of the kind publishes the window that has closed. -/
def sampleWindowEnd (kind : Nat) (s : State) : State :=
  let w := s.window kind
  s.when (kind < 3 && w.closeN ≠ 0) (fun s =>
    { s with sched.queues := tmap s.sched.queues (fun key x => if key / 1048576 = kind then { x with published := x.closing } else x)
             sched.windows := tset s.sched.windows kind { w with closeN := 0, closeOff := [], pubN := w.closeN, pubOff := w.closeOff, pubBell := w.closeBell } })

def execSampleWindowEnd (kind : Nat) (s : State) := up s (sampleWindowEnd kind)

/-- The head of a queue does not fit the open time: a gate-fit wait, once for the head (R114). -/
def fitWaits (inst q : Nat) (s : State) : State :=
  if (s.queue 0 inst q).fitWait then s else (s.onQueue 0 inst q (fun x => { x with fitWait := true })).count Ev.gateFit inst

/-- The gate-fit waits that a selection of a port finds (R114). -/
def countFits (inst off : Nat) (s : State) : State :=
  (s.backlogged 0 inst).foldl (fun s q => if s.ineligible 0 inst q off = 4 then fitWaits inst q s else s) s

/-- The instances whose region receives edges (R27). -/
def State.liveInstances (s : State) : List (Nat × Nat) := s.instances.filter (fun i => s.instEdges i.1 i.2)

/-- Bells backlogged but ineligible, by cause, and bells in fallback, as things stand now (R118, R519): noted at each edge and in each guard interval. -/
def noteIneligible (s : State) : State :=
  let s := s.liveInstances.foldl (fun s i => (s.backlogged i.1 i.2).foldl (fun s q => noteQueue i.1 i.2 q s) s) s
  s.sched.gates.foldl (fun s g => s.when (s.instEdges (g.1 / 256) (g.1 % 256) && s.gateFallback (g.1 / 256) (g.1 % 256))
    (fun s => s.count Ev.bellsFallback (if g.1 < 256 then g.1 else 144 + g.1 % 256))) s

/-- At an edge, what keeps queues from being eligible in the bell that begins, and the heads of ports that do not fit the open time (R114, R118). -/
def countIneligible (s : State) : State :=
  (s.liveInstances.filter (fun i => i.1 = 0 && i.2 < 144)).foldl (fun s i => countFits i.2 0 s) (noteIneligible s)

/-! ### Gate lists -/

/-- GATE_LIST_SWITCH (R115, R116): the pending list becomes oper in the bell that begins. -/
def gateListSwitch (kind inst : Nat) (s : State) : State :=
  let g := s.gate kind inst
  s.when (g.switchesAt s.bell.aligned s.bell.number) (fun s =>
    ({ s with sched.gates := tset s.sched.gates (kind * 256 + inst) { g with oper := g.pend, pend := none } }).count
      Ev.listSwitch (if kind = 0 then inst else 144 + inst))

/-- Every list whose time has come switches at the edge, so that it governs from that bell on (R115); a region that is off receives no edge (R27). -/
def gateListsEdge (s : State) : State :=
  s.sched.gates.foldl (fun s g => s.when (s.instEdges (g.1 / 256) (g.1 % 256)) (gateListSwitch (g.1 / 256) (g.1 % 256))) s

def execGateListSwitch (kind inst : Nat) (s : State) := up s (gateListSwitch kind inst)

/-! ### sched_command (R118) -/

/-- Run an opcode of `sched_command`; its configuration is persisted where the opcode writes one and succeeds. -/
def schedCommand (par : Bytes) (act : Bytes → State → State) (s : State) : State := s.command schedSet schedSet 64 par act

/-- End with outcome 0; a write of configuration advances `persist_gen` (R440). -/
def State.schedWrote (s : State) : State := (s.persist).done schedSet 0

/-- QUEUE_WRITE (R98, R103, R105, R118). -/
def queueWrite (p : Bytes) (s : State) : State :=
  let kind := fld p 1 1
  let inst := fld p 2 2
  let q := fld p 4 2
  let fixed := kind = 2 ∧ q = 0
  let hasCls := kind = 2 ∧ 116 ≤ q
  let w := fld p 6 2
  let c := fld p 9 1
  if instCount kind ≤ inst ∨ queueCount kind ≤ q then s.done schedSet 1
  else if ¬fixed ∧ (w < 1 ∨ 4096 < w) then s.done schedSet 1
  else if hasCls ∧ ¬(c = 6 ∨ c = 7) then s.done schedSet 1
  else
    let d := defaultQCfg kind q
    let cfg : QCfg := { weight := if fixed then d.weight else w, strict := if fixed then true else (fld p 8 1).testBit 0
                        cls := if hasCls then c else d.cls, rate := fld p 12 4, burst := fld p 16 4 }
    (({ s with sched.cfg := tset s.sched.cfg (qKey kind inst q) cfg }).onQueue kind inst q id).schedWrote

def execQueueWrite (par : Bytes) (s : State) := up s (schedCommand par queueWrite)

/-- QUEUE_READ (R118): the layout of the write. -/
def queueRead (p : Bytes) (s : State) : State :=
  let kind := fld p 1 1
  let inst := fld p 2 2
  let q := fld p 4 2
  if instCount kind ≤ inst ∨ queueCount kind ≤ q then s.done schedSet 1
  else
    let c := s.qcfg kind inst q
    s.done schedSet 0 (p.take 6 ++ le 2 c.weight ++ le 1 (b2n c.strict) ++ le 1 (if kind = 2 ∧ 116 ≤ q then c.cls else 0)
      ++ zeros 2 ++ le 4 c.rate ++ le 4 c.burst)

def execQueueRead (par : Bytes) (s : State) := up s (schedCommand par queueRead)

/-- INSTANCE_SHAPER_WRITE (R105, R118). -/
def instanceShaperWrite (p : Bytes) (s : State) : State :=
  let kind := fld p 1 1
  let inst := fld p 2 2
  if instCount kind ≤ inst then s.done schedSet 1
  else (s.onInst kind inst (fun i => { i with cfgRate := fld p 12 4, cfgBurst := fld p 16 4 })).schedWrote

def execInstanceShaperWrite (par : Bytes) (s : State) := up s (schedCommand par instanceShaperWrite)

/-- INSTANCE_SHAPER_READ (R118). -/
def instanceShaperRead (p : Bytes) (s : State) : State :=
  let kind := fld p 1 1
  let inst := fld p 2 2
  if instCount kind ≤ inst then s.done schedSet 1
  else
    let i := s.sinst kind inst
    s.done schedSet 0 (p.take 4 ++ zeros 8 ++ le 4 i.cfgRate ++ le 4 i.cfgBurst)

def execInstanceShaperRead (par : Bytes) (s : State) := up s (schedCommand par instanceShaperRead)

/-- POLICER_WRITE (R108, R118). -/
def policerWrite (p : Bytes) (s : State) : State :=
  let n := fld p 2 2
  let cir := fld p 8 4
  let cbs := fld p 12 4
  let pir := fld p 16 4
  let pbs := fld p 20 4
  if 1024 ≤ n ∨ pir < cir ∨ cbs < 64 ∨ pbs < 64 then s.done schedSet 1
  else
    let f := fld p 4 1
    ({ s with sched.policers := tmod s.sched.policers n {} (fun x =>
        { x with aware := f.testBit 0, dropRed := f.testBit 1, cir := cir, cbs := cbs, pir := pir, pbs := pbs, fill := true }) }).schedWrote

def execPolicerWrite (par : Bytes) (s : State) := up s (schedCommand par policerWrite)

/-- POLICER_READ (R118). -/
def policerRead (p : Bytes) (s : State) : State :=
  let n := fld p 2 2
  if 1024 ≤ n then s.done schedSet 1
  else
    let x := tgetD s.sched.policers n {}
    s.done schedSet 0 (p.take 4 ++ le 1 (flagWord [(0, x.aware), (1, x.dropRed)]) ++ zeros 3 ++ le 4 x.cir ++ le 4 x.cbs ++ le 4 x.pir ++ le 4 x.pbs)

def execPolicerRead (par : Bytes) (s : State) := up s (schedCommand par policerRead)

/-- POLICE_MAP_WRITE (R107, R118): a policer of another ridge is a range error. -/
def policeMapWrite (p : Bytes) (s : State) : State :=
  let port := fld p 2 2
  let c := fld p 4 1
  let n := fld p 6 2
  if 144 ≤ port ∨ 8 ≤ c ∨ 1024 < n ∨ (n ≠ 0 ∧ (n - 1) / 256 ≠ port / 36) then s.done schedSet 1
  else ({ s with sched.policeMap := tset s.sched.policeMap (port * 8 + c) n }).schedWrote

def execPoliceMapWrite (par : Bytes) (s : State) := up s (schedCommand par policeMapWrite)

/-- POLICE_MAP_READ (R118). -/
def policeMapRead (p : Bytes) (s : State) : State :=
  let port := fld p 2 2
  let c := fld p 4 1
  if 144 ≤ port ∨ 8 ≤ c then s.done schedSet 1
  else s.done schedSet 0 (p.take 6 ++ le 2 (tgetD s.sched.policeMap (port * 8 + c) 0))

def execPoliceMapRead (par : Bytes) (s : State) := up s (schedCommand par policeMapRead)

/-- What a gate command names: none is a range error, an internal port a state error (R117). -/
def gateTarget (kind inst : Nat) : Option Nat :=
  if kind = 0 then (if inst < 144 then none else if inst < 153 then some 2 else some 1)
  else if kind = 2 then (if inst < 24 then none else some 1)
  else some 1

/-- GATE_ADMIN_WRITE (R115, R118). -/
def gateAdminWrite (p : Bytes) (s : State) : State :=
  let kind := fld p 1 1
  let inst := fld p 2 2
  let first := fld p 6 1
  let n := fld p 7 1
  match gateTarget kind inst with
  | some o => s.done schedSet o
  | none =>
    if n < 1 ∨ 16 < n ∨ 256 < first + n then s.done schedSet 1
    else
      ({ s with sched.gates := tmod s.sched.gates (kind * 256 + inst) {} (fun g =>
          { g with admin := (List.range' 0 n).foldl (fun a i => tset a (first + i) (fld p (8 + 3 * i) 1, fld p (9 + 3 * i) 2)) g.admin }) }).schedWrote

def execGateAdminWrite (par : Bytes) (s : State) := up s (schedCommand par gateAdminWrite)

/-- GATE_COMMIT (R115, R117, R118): the base is moved to at least the current bell plus 2, and the result gives the base used. -/
def gateCommit (p : Bytes) (s : State) : State :=
  let kind := fld p 1 1
  let inst := fld p 2 2
  let b := fld p 8 8
  let len := fld p 16 2
  let align := (fld p 19 1).testBit 0
  match gateTarget kind inst with
  | some o => s.done schedSet o
  | none =>
    let g := s.gate kind inst
    let es := (List.range' 0 len).map (fun i => tgetD g.admin i (0, 0))
    if len < 1 ∨ 256 < len ∨ es.any (fun e => e.2 = 0) then s.done schedSet 1
    else if kind = 0 ∧ align = false then s.done schedSet 2
    else
      let t := es.foldl (fun a e => a + e.2) 0
      let lim := s.bell.number + 2
      let b := if b < lim then b + ceilDiv (lim - b) t * t else b
      let prog : GateProg := { base := b, entries := es, fallback := fld p 18 1, align := align }
      (({ s with sched.gates := tset s.sched.gates (kind * 256 + inst) { g with pend := some prog } }).persist).done schedSet 0 (le 8 b)

def execGateCommit (par : Bytes) (s : State) := up s (schedCommand par gateCommit)

/-- GATE_READ (R118). -/
def gateRead (p : Bytes) (s : State) : State :=
  let kind := fld p 1 1
  let inst := fld p 2 2
  match gateTarget kind inst with
  | some o => s.done schedSet o
  | none =>
    let g := s.gate kind inst
    let o := g.oper.getD { base := 0, entries := [], fallback := 0xFF, align := kind = 0 }
    let q := g.pend.getD { base := 0, entries := [], fallback := 0xFF, align := kind = 0 }
    s.done schedSet 0 (le 8 o.base ++ le 2 o.entries.length ++ le 4 o.cycle ++ le 2 ((o.entryIn s.bell.number).getD 0)
      ++ le 1 o.fallback ++ le 1 (flagWord [(0, o.align), (1, g.pend.isSome), (2, s.gateFallback kind inst)])
      ++ le 8 q.base ++ le 2 q.entries.length ++ zeros 4 ++ o.entries.flatMap (fun e => le 1 e.1 ++ le 2 e.2))

def execGateRead (par : Bytes) (s : State) := up s (schedCommand par gateRead)

/-- One queue's published samples (R112, R118). -/
def sampleBytes (w : Sampler) (n : Nat) : Bytes :=
  le 4 w.minD ++ le 4 (if n = 0 then 0 else w.sumD / n) ++ le 4 w.maxD ++
  le 4 w.minY ++ le 4 (if n = 0 then 0 else w.sumY / n) ++ le 4 w.maxY ++ le 4 n ++ zeros 4

/-- SAMPLE_FETCH (R118). -/
def sampleFetch (p : Bytes) (s : State) : State :=
  let kind := fld p 1 1
  let inst := fld p 2 2
  let q := fld p 4 2
  let n := fld p 6 1
  if instCount kind ≤ inst ∨ n < 1 ∨ 31 < n ∨ queueCount kind < q + n then s.done schedSet 1
  else
    let w := s.window kind
    s.done schedSet 0 (le 8 w.pubBell ++ zeros 8 ++
      (List.range' 0 n).flatMap (fun i => sampleBytes (s.queue kind inst (q + i)).published (w.pubN - tgetD w.pubOff (s.instDomain kind inst) 0)))

def execSampleFetch (par : Bytes) (s : State) := up s (schedCommand par sampleFetch)

/-! ### The policer (R107-R110) -/

/-- Colour of a frame of `b` bytes under a policer: 0 green, 1 yellow, 2 red, and the counts after it (R108). -/
def Policer.colour (p : Policer) (pre b : Nat) : Nat × Policer :=
  let n := b * 65536
  if p.tp < n ∨ (p.aware ∧ pre = 2) then (2, p)
  else if p.tc < n ∨ (p.aware ∧ pre = 1) then (1, { p with tp := p.tp - n })
  else (0, { p with tp := p.tp - n, tc := p.tc - n })

end Sys2Proof.Machine
end

