-- ==== Sys2Proof/Machine/DriveCore.lean ====
section
/-! DEFINITION. The granary's geometry (R288), and drive commands: admission, submission and the bookkeeping of completions (R97, R98, R355, R356). -/

namespace Sys2Proof.Machine

/-! ### The granary (R288) -/

/-- Slots for an index of `t` MiB (R288). -/
def slotsFor (size t : Nat) : Nat := min (t * 32768) ((size - t * 1048576) / 4160)

/-- Index size in MiB: the least that does not bound the slots, or one less where that gives as many. -/
def indexMiB (size : Nat) : Nat :=
  let t := ceilDiv size (32768 * 4160 + 1048576)
  if slotsFor size t ≤ slotsFor size (t - 1) then t - 1 else t

/-- Slots of the granary. -/
def State.granarySlots (s : State) : Nat := let z := s.objN 0x480011 0; slotsFor z (indexMiB z)

def State.stagingBlocks (s : State) : Nat := s.objN 0x480012 524288
def State.operandBlocks (s : State) : Nat := s.objN 0x480013 262144

/-- HBM address of a slot (R288). -/
def State.slotAddr (s : State) (i : Nat) : Nat := s.objN 0x480010 0 + indexMiB (s.objN 0x480011 0) * 1048576 + i * 4160

/-- Staging slot `i` of an image that begins at slot `first`: the partition is circular (R288). -/
def State.stageAddr (s : State) (first i : Nat) : Nat := s.slotAddr ((first + i) % s.stagingBlocks)

/-- Slots of a record's image. -/
abbrev Rec.size (r : Rec) : Nat := 1 + r.n

/-- A run's blocks as its Write carries them. -/
def runData (rs : List Rec) (s : State) : Bytes :=
  rs.flatMap (fun r => (List.range' 0 r.size).flatMap (fun i => s.mem.read (s.stageAddr r.slot i) 4160))

/-! ### Bays and drives -/

/-- A bay. -/
def State.bayOf (s : State) (n : Nat) : Bay := tgetD s.bay.bays n {}

/-- Change a bay. -/
def State.onBay (s : State) (n : Nat) (f : Bay → Bay) : State := { s with bay.bays := tmod s.bay.bays n {} f }

/-- Change a bay's drive. -/
def State.onDrive (s : State) (n : Nat) (f : Drive → Drive) : State := s.onBay n (fun b => { b with drive := f b.drive })

/-- A drive changes its state, with its stamp (R353, R361). -/
def driveState (n st : Nat) (s : State) : State :=
  s.onDrive n (fun d => { d with state := st, stateBell := s.bell.number, stateEra := s.bell.era, stateEdge := s.bell.edges })

/-- A drive whose PERST is asserted or whose power is off is absent: what the port knew of it goes, and a retrain ends with a transfer error (R353, R361, R362). -/
def driveGone (n : Nat) (s : State) : State :=
  let d := (s.bayOf n).drive
  if d.state = 0 then s
  else
    let s := if d.retrain then s.done 0x610030 4 else s
    s.onDrive n (fun d => { ({ stateBell := s.bell.number, stateEra := s.bell.era, stateEdge := s.bell.edges } : Drive) with
      out := d.out, failed := d.failed, admin := d.admin, linkHeld := d.linkHeld, lastSb := d.lastSb, lastDone := d.lastDone })

/-- A bay counts as powered with its link up (R337). -/
def State.bayReady (s : State) (n : Nat) : Bool := n < 24 && (s.bayOf n).state = 3 && (s.bayOf n).drive.state = 5

/-- A bay is powered with its link up (R296). -/
def State.bayLinked (s : State) (n : Nat) : Bool := n < 24 && (s.bayOf n).state = 3 && (s.bayOf n).drive.speed ≠ 0

/-- The root port's region of a bay (R47). -/
def portRegion (n : Nat) : Nat := if n < 12 then 0 else 1

/-- Submission slots of a drive (R356). -/
def State.driveSlots (s : State) : Nat := s.objN 0x610003 16 * (s.objN 0x610004 64 - 1)

/-- A command's transfer length and cost (R97). -/
def State.driveSize (s : State) (c : DriveCmd) : Nat := c.n * 4160 + s.objN 0x260004 4096

/-- A command joins its admission queue (R98). DESIGN CHOICE (log 127): its cost is the one in force when it joins. -/
def driveEnqueue (bay : Nat) (c : DriveCmd) (s : State) : State :=
  let r := s.bay.nextRef
  ({ s with bay.waiting := tset s.bay.waiting r c, bay.nextRef := r + 1 }).enqueue 2 bay c.queue (s.driveSize c) r

/-- Counter group of an admission queue. -/
def queueGroup (q : Nat) : Nat := if q = 0 then 0 else if q < 112 then 1 else if q < 116 then q - 110 else 6

/-- Whether a drive takes a command now (R246, R356). -/
def State.driveTakes (s : State) (bay : Nat) : Bool :=
  s.bayReady bay && (s.bayOf bay).drive.failed.isNone && s.clusterRuns 4 (portRegion bay) (bay % 12 / 6)

/-- Commands with data toward the drive. -/
def isWriteOp (op : Nat) : Bool := op = 1

/-- Free entries of a drive's submission queue (R356). -/
def State.sqFree (s : State) (bay q : Nat) : Nat := (s.objN 0x610004 64 - 1) - (s.bayOf bay).drive.out.countP (fun c => c.2.sq = q)

/-- The submission queue of a command (R356): queue 0's go to SQ 1 while it has room, others to the one with the most free entries, the lower number at a tie;
SQ 1 is left out while urgent, unless no other has room. -/
def State.chooseSq (s : State) (bay queue : Nat) : Nat :=
  let most (a b : Nat) : Nat := if s.sqFree bay a < s.sqFree bay b then b else a
  if queue = 0 ∧ 0 < s.sqFree bay 1 then 1
  else if (s.bayOf bay).drive.ams then
    let q := (List.range' 2 (s.objN 0x610003 16 - 1)).foldl most 2
    if 2 ≤ s.objN 0x610003 16 ∧ 0 < s.sqFree bay q then q else 1
  else (List.range' 1 (s.objN 0x610003 16)).foldl most 1

/-- An entry of a ring of `io_depth` entries moves on, and its doorbell is due. -/
def ringStep (depth q : Nat) (t : Tbl Nat) : Tbl Nat := tset t q ((tgetD t q 0 + 1) % depth)

def oncePer (q : Nat) (l : List Nat) : List Nat := if l.contains q then l else l ++ [q]

/-! ### The queue area (R355) -/

/-- The queue area of a bay: 8 MiB. -/
def State.dqBay (s : State) (bay : Nat) : Nat := s.objN 0x610002 0 + bay * 0x800000

/-- Address of an entry of a submission queue; queue 0 is the admin queue. -/
def State.sqeAddr (s : State) (bay q i : Nat) : Nat :=
  s.dqBay bay + (if q = 0 then i * 64 else 0x100000 + ((q - 1) * s.objN 0x610004 64 + i) * 64)

/-- Address of an entry of a completion queue. -/
def State.cqeAddr (s : State) (bay q i : Nat) : Nat :=
  s.dqBay bay + (if q = 0 then 0x1000 + i * 16 else 0x200000 + ((q - 1) * s.objN 0x610004 64 + i) * 16)

/-- Address of a command's SGL segment. -/
def State.sglAddr (s : State) (bay slot : Nat) : Nat := s.dqBay bay + 0x400000 + slot * 4096

/-- The ranges of HBM that a command's data lies in: a ledger Write's images stand in the staging partition, which is circular; other data lies in one range. -/
def State.dataRanges (s : State) (bay slot : Nat) (c : DriveCmd) : List (Nat × Nat) :=
  match c.consumer with
  | .ledger _ place _ =>
    match s.led.recs.find? (fun r => r.place = place) with
    | some r =>
      let first := r.slot % s.stagingBlocks
      let n := min c.n (s.stagingBlocks - first)
      if n = c.n then [(s.stageAddr r.slot 0, n * 4160)] else [(s.stageAddr r.slot 0, n * 4160), (s.stageAddr r.slot n, (c.n - n) * 4160)]
    | none => [(Config.driveBuffer bay slot, c.n * 4160)]
  | _ => [(Config.driveBuffer bay slot, c.n * 4160)]

/-- An SGL descriptor: 0 Data Block or 3 Last Segment. -/
def sglDesc (kind : Nat) (x : Nat × Nat) : Bytes := le 8 x.1 ++ le 4 x.2 ++ zeros 3 ++ le 1 (kind * 16)

/-- A command is laid in its submission queue's tail entry with PSDT 01b (R354, R355): one Data Block descriptor for a contiguous range, or a Last Segment descriptor that points to its segment. -/
def layCommand (bay slot : Nat) (c : DriveCmd) (s : State) : State :=
  let x := s.dataRanges bay slot c
  let (s, sgl) := match x with
    | [a] => (s, sglDesc 0 a)
    | x => (s.hbmPut (s.sglAddr bay slot) (x.flatMap (sglDesc 0)), sglDesc 3 (s.sglAddr bay slot, 16 * x.length))
  s.hbmPut (s.sqeAddr bay c.sq (tgetD (s.bayOf bay).drive.sqTail c.sq 0))
    (le 1 c.op ++ le 1 0x40 ++ le 2 slot ++ le 4 1 ++ zeros 16 ++ sgl ++ le 8 c.lba ++ le 4 (c.cdw.headD 0 + (c.n - 1)) ++ padTo 12 ((c.cdw.drop 1).flatMap (le 4)))

/-- The completion entry that a drive writes for a command, with the phase tag of the queue's pass (R356). -/
def State.cqEntry (s : State) (bay q cid : Nat) (r : DriveResult) : Bytes :=
  let phase := !(s.bayOf bay).drive.cqTurned.contains q
  le 4 r.dw0 ++ zeros 4 ++ le 2 r.sqhd ++ le 2 q ++ le 2 cid ++ le 2 (b2n phase + 2 * r.sc + 512 * r.sct)

/-- An entry that a drive has written into a completion queue of `depth` entries is observed: its doorbell is due, and the phase turns at the end of the queue (R355, R356, R358). -/
def takeEntry (bay q depth : Nat) (e : Bytes) (s : State) : State :=
  let h := tgetD (s.bayOf bay).drive.cqHead q 0
  (s.hbmPut (s.cqeAddr bay q h) e).onDrive bay (fun d => { d with
    lastDone := some s.bell.edges, cqHead := ringStep depth q d.cqHead, cqRing := oncePer q d.cqRing
    cqTurned := if h + 1 < depth then d.cqTurned else if d.cqTurned.contains q then d.cqTurned.filter (· ≠ q) else d.cqTurned ++ [q] })

/-- The doorbells of the bell that ends are written, one per queue (R356). -/
def ringDoorbells (s : State) : State :=
  (List.range' 0 24).foldl (fun s bay =>
    let d := (s.bayOf bay).drive
    if d.sqRing.isEmpty && d.cqRing.isEmpty then s
    else
      let s := d.sqRing.foldl (fun s q => s.emit (.driveDoorbell bay false q (tgetD d.sqTail q 0))) s
      let s := d.cqRing.foldl (fun s q => s.emit (.driveDoorbell bay true q (tgetD d.cqHead q 0))) s
      s.onDrive bay (fun d => { d with sqRing := [], cqRing := [] })) s

/-- The replication buffer gives back a batch that every copy has fetched: no Write of it waits any more (R273). -/
def releaseBatch (place : Nat) (s : State) : State :=
  let uses (c : DriveCmd) : Bool := match c.consumer with
    | .ledger _ p _ => p = place
    | _ => false
  if s.bay.waiting.any (fun c => uses c.2) then s
  else { s with led.buffer := s.led.buffer.filter (fun e => e.1 ≠ place) }

/-- A copy's drive fetches the data of its Write from the replication buffer, or, after the batch's release, by a second HBM read (R273). -/
def ledgerFetch (c : DriveCmd) (s : State) : State × DriveCmd :=
  match c.consumer with
  | .ledger _ place n =>
    if s.led.buffer.any (fun e => e.1 = place) then (releaseBatch place s, c)
    else (s.count Ev.rpRefetch 0, { c with data := runData (s.led.recs.filter (fun r => place ≤ r.place && r.place < place + n)) s })
  | _ => (s, c)

/-- The chosen head is submitted: it takes the least free command slot. -/
def submitHead (bay q : Nat) (s : State) : State :=
  match (s.queue 2 bay q).items with
  | [] => s
  | h :: _ =>
    let s := s.startHead 2 bay q
    match tget s.bay.waiting h.ref with
    | none => s
    | some c =>
      let sq := s.chooseSq bay q
      let c := { c with edge := s.bell.edges, sq := sq }
      let slot := (tfree (s.bayOf bay).drive.out 131072).getD 0
      let (s, c) := ledgerFetch c (layCommand bay slot c { s with bay.waiting := terase s.bay.waiting h.ref })
      let s := s.onDrive bay (fun d => { d with out := tset d.out slot c, sqTail := ringStep (s.objN 0x610004 64) sq d.sqTail, sqRing := oncePer sq d.sqRing })
      let s := (s.count (Ev.drSub0 + queueGroup q) bay).slot (86 + bay)
      s.emit (.drive bay sq slot c.op c.lba c.n c.cdw c.data)

/-- Submissions of one bay, at most `fuel` in a bell. -/
def serveBay (bay : Nat) : Nat → State → State
  | 0, s => s
  | f + 1, s =>
    if !s.driveTakes bay ∨ (s.sinst 2 bay).stopped then s
    else match s.selectQueue 2 bay 0 with
      | none => s
      | some q =>
        if s.driveSlots ≤ (s.bayOf bay).drive.out.length then
          ((s.onInst 2 bay (fun i => { i with stopped := true })).count Ev.creditStop (qCtr 2 bay q)).creditBlocked (86 + bay)
        else serveBay bay f (submitHead bay q s)

/-- Every bay's admission in the bell that begins. -/
def serveDrives (s : State) : State := (List.range' 0 24).foldl (fun s b => serveBay b 32 s) s

/-- Commands of a bay that wait for admission and satisfy `p` leave their queues; the ones that left. -/
def unqueue (bay : Nat) (p : DriveCmd → Bool) (s : State) : State × List DriveCmd :=
  let refs := (List.range' 0 128).flatMap (fun q => (s.queue 2 bay q).items.map (·.ref))
  let gone := refs.filter (fun r => (tget s.bay.waiting r).any p)
  let wait := gone.filterMap (fun r => tget s.bay.waiting r)
  let s := (List.range' 0 128).foldl (fun s q =>
    if (s.queue 2 bay q).items.any (fun i => gone.contains i.ref) then
      s.onQueue 2 bay q (fun x => ({ x with items := x.items.filter (fun i => !gone.contains i.ref) }).tag 2 q (s.sinst 2 bay).v)
    else s) s
  ({ s with bay.waiting := gone.foldl terase s.bay.waiting }, wait)

/-- A command of a bay that waits or is outstanding and satisfies `p` is dropped; the dropped ones. -/
def takeCommands (bay : Nat) (p : DriveCmd → Bool) (s : State) : State × List DriveCmd :=
  let out := ((s.bayOf bay).drive.out.filter (fun c => p c.2)).map (·.2)
  let (s, wait) := unqueue bay p (s.onDrive bay (fun d => { d with out := d.out.filter (fun c => !p c.2) }))
  (s, out ++ wait)

end Sys2Proof.Machine
end

