-- ==== Sys2Proof/Machine/VolumeCore.lean ====
section
/-! DEFINITION. Layout groups: placement, the stripe map, P and Q arithmetic, missing positions and lost blocks (R225-R233, R247-R256). -/

namespace Sys2Proof.Machine

/-! ### P and Q (R231-R233) -/

/-- Multiplication by g = 0x02 with polynomial 0x11D (R231). -/
def gfTwo (a : Nat) : Nat := if 128 ≤ a then (a * 2) ^^^ 0x11D else a * 2

/-- Product in GF(2^8): `b` from its least significant bit up. -/
def gfMulGo : Nat → Nat → Nat → Nat
  | 0, _, _ => 0
  | n + 1, a, b => (if b % 2 = 1 then a else 0) ^^^ gfMulGo n (gfTwo a) (b / 2)

/-- Product in GF(2^8) (R231). -/
def gfMul (a b : Nat) : Nat := gfMulGo 8 a b

/-- Power in GF(2^8). -/
def gfPow (a : Nat) : Nat → Nat
  | 0 => 1
  | n + 1 => gfMul a (gfPow a n)

/-- Inverse in GF(2^8): the 254th power. -/
def gfInv (a : Nat) : Nat := gfPow a 254

/-- XOR of two blocks. -/
def xorBytes (a b : Bytes) : Bytes := List.zipWith (fun x y => x ^^^ y) a b

/-- A block multiplied by a constant. -/
def scaleBytes (c : Nat) (a : Bytes) : Bytes := a.map (fun x => BitVec.ofNat 8 (gfMul c x.toNat))

/-- A zero block as stored. -/
def zeroBlock : Bytes := zeros 4160

/-- P of a row's data blocks, in unit order (R231). -/
def parityP (d : List Bytes) : Bytes := d.foldl xorBytes zeroBlock

/-- Q of a row's data blocks, the first being unit `i` (R231). -/
def parityQ : Nat → List Bytes → Bytes
  | _, [] => zeroBlock
  | i, d :: ds => xorBytes (scaleBytes (gfPow 2 i) d) (parityQ (i + 1) ds)

/-- A row's data with the unknown units as zero blocks: `known i` gives unit `i` where it is known. -/
def rowData (k : Nat) (known : Nat → Option Bytes) : List Bytes := (List.range' 0 k).map (fun i => (known i).getD zeroBlock)

/-- Recover data unit `x` of a row (R232): with P, with Q, or with both where another unit `y` is unknown as well. None where too much is unknown. -/
def recover (k : Nat) (known : Nat → Option Bytes) (p q : Option Bytes) (x : Nat) : Option Bytes :=
  let unk := (List.range' 0 k).filter (fun i => (known i).isNone)
  let d := rowData k known
  if unk = [x] then
    (match p, q with
     | some p, _ => some (xorBytes p (parityP d))
     | none, some q => some (scaleBytes (gfInv (gfPow 2 x)) (xorBytes q (parityQ 0 d)))
     | none, none => none)
  else if unk.length = 2 ∧ unk.contains x then
    (match p, q with
     | some p, some q =>
       let a := unk.getD 0 0
       let b := unk.getD 1 0
       let pxy := xorBytes p (parityP d)
       let qxy := xorBytes q (parityQ 0 d)
       let dy := scaleBytes (gfInv (gfPow 2 a ^^^ gfPow 2 b)) (xorBytes (scaleBytes (gfPow 2 a) pxy) qxy)
       if x = b then some dy else some (xorBytes pxy dy)
     | _, _ => none)
  else none

/-- P and Q after unit `i` of a row changes from `old` to `new` (R233). -/
def updateP (p old new : Bytes) : Bytes := xorBytes p (xorBytes old new)
def updateQ (q : Bytes) (i : Nat) (old new : Bytes) : Bytes := xorBytes q (scaleBytes (gfPow 2 i) (xorBytes old new))

/-- The parity lanes whose cluster is not quiesced (R43). -/
def State.parityLanes (s : State) : List Nat := (List.range' 0 32).filter (fun j => !s.quiet 4 5 (j / 8))

/-- An item's rows take parity-lane slots (R232, R526): each goes to the first of the lanes that work with a row left in the bell. -/
def State.parityRows (s : State) (n : Nat) : State :=
  (List.range' 0 n).foldl (fun s _ =>
    let l := s.parityLanes
    s.slot (37 + (l.find? (fun j => s.slotsUsed (37 + j) < 22)).getD (l.headD 0))) s

/-! ### Geometry (R225-R229) -/

def LGroup.w (g : LGroup) : Nat := g.k + 2
/-- Data blocks per stripe (R228). -/
def LGroup.d (g : LGroup) : Nat := g.k * g.u
/-- Physical stripes (R226). -/
def LGroup.nP (g : LGroup) : Nat := g.count / g.u
/-- Map pages (R227). -/
def LGroup.pages (g : LGroup) : Nat := ceilDiv g.nP 1024
/-- Map-zone stripes (R227). -/
def LGroup.m (g : LGroup) : Nat := ceilDiv (g.pages + 512) g.d
/-- Logical stripes (R227). -/
def LGroup.nL (g : LGroup) : Nat := g.nP - g.m - g.f

/-- Positions of P, Q and data unit `i` in physical stripe `p` (R226). -/
def LGroup.posP (g : LGroup) (p : Nat) : Nat := g.w - 1 - p % g.w
def LGroup.posQ (g : LGroup) (p : Nat) : Nat := (g.posP p + 1) % g.w
def LGroup.posD (g : LGroup) (p i : Nat) : Nat := (g.posQ p + 1 + i) % g.w

/-- Data unit at a position of a physical stripe (R226). -/
def LGroup.unitAt (g : LGroup) (p pos : Nat) : Nat := (pos + g.w - (g.posQ p + 1) % g.w) % g.w

/-- The block of a row that a position holds, given the row's data blocks in unit order (R226, R231). -/
def LGroup.rowBlock (g : LGroup) (p pos : Nat) (d : List Bytes) : Bytes :=
  if pos = g.posP p then parityP d else if pos = g.posQ p then parityQ 0 d else d.getD (g.unitAt p pos) zeroBlock

/-- Drive block of a physical stripe's row (R226). -/
def LGroup.block (g : LGroup) (p b : Nat) : Nat := g.start + p * g.u + b

/-- Map entry of a logical stripe; `2^31 + p` names map-zone stripe `p`, which holds the map itself (R227, R229). -/
def LGroup.entry (g : LGroup) (st : Nat) : Nat × Bool :=
  if 2 ^ 31 ≤ st then (st - 2 ^ 31, true) else tgetD g.map st (g.m + st, false)

/-- Change a map entry. -/
def LGroup.setEntry (g : LGroup) (st phys : Nat) (written : Bool) : LGroup := { g with map := tset g.map st (phys, written) }

/-- Lowest physical stripe of the float (R239). -/
def LGroup.floatMin (g : LGroup) : Option Nat :=
  g.float.foldl (fun a r => if r.1 < r.2 then (match a with | some x => some (min x r.1) | none => some r.1) else a) none

/-- Stripes in the float. -/
def LGroup.floatFree (g : LGroup) : Nat := g.float.foldl (fun a r => a + (r.2 - r.1)) 0

/-- Take a stripe from the float. -/
def LGroup.floatTake (g : LGroup) (p : Nat) : LGroup :=
  { g with float := g.float.flatMap (fun r => if r.1 ≤ p ∧ p < r.2 then [(r.1, p), (p + 1, r.2)].filter (fun x => x.1 < x.2) else [r]) }

/-- Stripe key: group and logical stripe. -/
abbrev stripeKey (g st : Nat) : Nat := g * 4294967296 + st

/-- A group. -/
def State.group (s : State) (i : Nat) : Option LGroup := tget s.vol.groups i

/-- Change a group that exists. -/
def State.onGroup (s : State) (i : Nat) (f : LGroup → LGroup) : State :=
  match tget s.vol.groups i with
  | some g => { s with vol.groups := tset s.vol.groups i (f g) }
  | none => s

/-- A volume. -/
def State.volume (s : State) (v : Nat) : Option Volume := tget s.vol.volumes v

/-! ### The map in HBM (R229) -/

/-- HBM bytes of a group's map (R229). -/
def LGroup.mapBytes (g : LGroup) : Nat := ceilDiv (4 * g.nP) 4096 * 4096

/-- HBM address of a logical stripe's map entry. -/
def State.mapAddr (s : State) (g : LGroup) (st : Nat) : Nat := s.objN 0x440003 0 + g.mapOff + 4 * st

/-- A map entry as its 32-bit word. -/
def mapWord (e : Nat × Bool) : Nat := e.1 % 2 ^ 31 + (if e.2 then 2 ^ 31 else 0)

/-- Change a map entry, in HBM too (R229). -/
def setMap (gi st phys : Nat) (written : Bool) (s : State) : State :=
  match s.group gi with
  | some g => (s.onGroup gi (fun g => g.setEntry st phys written)).hbmPut (s.mapAddr g st) (le 4 (mapWord (phys, written)))
  | none => s

/-- Lay a group's whole map in the HBM map area: every stripe at its place of creation, and then what differs (R227, R229). -/
def layMap (gi : Nat) (s : State) : State :=
  match s.group gi with
  | some g =>
    g.map.foldl (fun s e => s.hbmPut (s.mapAddr g e.1) (le 4 (mapWord e.2))) { s with mem := s.mem.lay (s.mapAddr g 0) g.mapBytes (.rising g.m) }
  | none => s

/-- The device looks up a map entry in HBM: one that cannot be read raises FS105 (R229). -/
def mapMet (gi st : Nat) (s : State) : State :=
  match s.group gi with
  | some g => if 2 ^ 31 ≤ st then s else (s.hbmGet 105 gi (s.mapAddr g st) 4).1
  | none => s

/-- The lowest offset in the map area at which a map of `n` bytes fits between the maps of the other groups. -/
def State.mapRoom (s : State) (n : Nat) : Option Nat :=
  let used := s.vol.groups.map (fun g => (g.2.mapOff, g.2.mapOff + g.2.mapBytes))
  let free (c : Nat) : Bool := c + n ≤ s.objN 0x440004 0 && used.all (fun r => r.2 ≤ c || c + n ≤ r.1)
  ((0 :: used.map (·.2)).filter free).foldl (fun a c => match a with
    | some x => some (min x c)
    | none => some c) none

/-- Change a volume that exists. -/
def State.onVolume (s : State) (i : Nat) (f : Volume → Volume) : State :=
  match tget s.vol.volumes i with
  | some g => { s with vol.volumes := tset s.vol.volumes i (f g) }
  | none => s

/-- Where a volume block lies (R228, R260): group, logical stripe, data unit, row. `write` asks for the place of merges. -/
structure Loc where
  group : Nat
  stripe : Nat
  unit : Nat
  row : Nat
deriving DecidableEq, Repr

/-- Location under a group's geometry from a first stripe. -/
def locIn (gi : Nat) (g : LGroup) (f l : Nat) : Loc :=
  let o := l % g.d
  { group := gi, stripe := f + l / g.d, unit := o / g.u, row := o % g.u }

/-- Where a volume's block is read or merged (R228, R260). Group metadata: volume 0xFFFF of a group, by zone page (R229). -/
def State.locate (s : State) (vol group l : Nat) : Option Loc :=
  if vol = 0xFFFF then
    (s.group group).map (fun g => { locIn group g 0 l with stripe := 2 ^ 31 + l / g.d })
  else
    match s.volume vol with
    | none => none
    | some v =>
      match v.reshape with
      | some r => if l < r.c then (s.group r.target).map (fun g => locIn r.target g r.ft l) else (s.group v.group).map (fun g => locIn v.group g v.f l)
      | none => (s.group v.group).map (fun g => locIn v.group g v.f l)

/-- Volumes of a group, reshape targets included. -/
def State.volumesOf (s : State) (gi : Nat) : List (Nat × Volume) :=
  s.vol.volumes.filter (fun v => v.2.group = gi ∨ v.2.reshape.any (fun r => r.target = gi))

/-- The volume block that a data block of a stripe holds, with its volume (R228). -/
def State.blockOf (s : State) (gi st unit row : Nat) : Option (Nat × Nat) :=
  match s.group gi with
  | none => none
  | some g =>
    s.vol.volumes.findSome? (fun v =>
      let off (f : Nat) : Option (Nat × Nat) :=
        if f ≤ st ∧ (st - f) * g.d + unit * g.u + row < v.2.size then some (v.1, (st - f) * g.d + unit * g.u + row) else none
      if v.2.group = gi ∧ (off v.2.f).isSome then off v.2.f
      else match v.2.reshape with
        | some r => if r.target = gi then off r.ft else none
        | none => none)

/-! ### Missing positions (R247-R251) -/

/-- Whether a position of a physical stripe holds nothing that can be read (R247, R250, R251). -/
def LGroup.absent (g : LGroup) (p pos : Nat) : Bool :=
  if !g.missing.contains pos then false
  else if !g.rebuilding.contains pos then true
  else if g.missing.head? = some pos then g.cur1 ≤ p
  else !((g.c0 ≤ p && p < g.cur1) || p < g.cur2)

/-- Positions of a stripe that cannot be read. -/
def LGroup.absentList (g : LGroup) (p : Nat) : List Nat := (List.range' 0 g.w).filter (g.absent p)

/-- State of a group by its missing positions (R247). -/
def groupStateOf (missing : Nat) : Nat := if missing = 0 then 1 else if missing = 1 then 2 else if missing = 2 then 3 else 4

/-- The stripe that lies on a physical stripe: a map-zone stripe as `2^31 + p`; none for a float stripe (R227, R229). -/
def LGroup.logicalOf (g : LGroup) (p : Nat) : Option Nat :=
  if p < g.m then some (2 ^ 31 + p)
  else match g.map.find? (fun e => e.2.1 = p) with
    | some e => some e.1
    | none => if p - g.m < g.nL ∧ (tget g.map (p - g.m)).isNone then some (p - g.m) else none

/-- The float as the map leaves it: the last F stripes at creation, what remapped stripes left, without what they took (R227, R239). -/
def LGroup.floatOfMap (g : LGroup) : LGroup :=
  let g0 := { g with float := (g.nP - g.f, g.nP) :: (g.map.filter (fun e => e.2.1 ≠ g.m + e.1)).map (fun e => (g.m + e.1, g.m + e.1 + 1)) }
  g.map.foldl (fun x e => if e.2.1 ≠ g.m + e.1 then x.floatTake e.2.1 else x) g0

/-- After a rebuild item or a change of the missing positions (R251, R254): pass 1 ends at the last stripe, pass 2 runs up to c0 for the second position,
and when the last pass is over each spare is the member at its position. -/
def LGroup.settleRebuild (g : LGroup) : LGroup :=
  if g.rebuilding = [] then { g with pass2 := false, byCommand := false }
  else if g.cur1 < g.nP then { g with pass2 := false }
  else if 2 ≤ g.rebuilding.length ∧ g.cur2 < g.c0 then { g with pass2 := true }
  else
    let left := g.missing.filter (fun p => !g.rebuilding.contains p)
    { g with missing := left, rebuilding := [], state := if g.state = 4 then 4 else groupStateOf left.length, cur1 := 0, cur2 := 0, c0 := 0, pass2 := false, byCommand := false }

/-- A rebuilding position's spare has failed: the position returns to missing with its cursor at 0 (R253). Where it was the first, the second
takes its place, with the stripes rebuilt for it from 0 up as its cursor. -/
def LGroup.loseSpare (g : LGroup) (pos : Nat) : LGroup :=
  let r := g.rebuilding.erase pos
  if g.missing.head? = some pos then
    (if r = [] then { g with rebuilding := [], cur1 := 0, cur2 := 0, c0 := 0, pass2 := false }
     else { g with rebuilding := r, missing := r ++ [pos], cur1 := if g.pass2 then g.cur2 else if g.c0 = 0 then g.cur1 else 0, cur2 := 0, c0 := 0, pass2 := false })
  else { g with rebuilding := r, cur2 := 0, c0 := 0, pass2 := false }.settleRebuild

/-- A spare begins to rebuild a missing position (R248, R251): a second one joins a pass that begins at c0, the first one's cursor when its own position failed. -/
def LGroup.takeSpare (g : LGroup) (pos bay : Nat) : LGroup :=
  let g := { g with bays := lset g.bays pos (some bay), waitingSpare := false }
  if g.rebuilding = [] then { g with rebuilding := [pos], missing := pos :: g.missing.erase pos, cur1 := 0, cur2 := 0, c0 := 0, pass2 := false }
  else { g with rebuilding := g.rebuilding ++ [pos], cur1 := g.c0, cur2 := 0, pass2 := false }

/-- Missing positions for which no spare has been taken. -/
def LGroup.unspared (g : LGroup) : List Nat := g.missing.filter (fun p => !g.rebuilding.contains p)

/-- Positions of a group that a bay holds. -/
def LGroup.positionsOf (g : LGroup) (bay : Nat) : List Nat := (List.range' 0 g.w).filter (fun p => g.bays.getD p none = some bay)

/-! ### Zone pages and lost blocks (R229, R255) -/

/-- A map page's bytes (R229). -/
def LGroup.mapPage (g : LGroup) (n : Nat) : Bytes :=
  (List.range' 0 1024).flatMap (fun i => le 4 (mapWord (g.entry (1024 * n + i))))

/-- A lost-list entry's bytes (R255). -/
def LostEntry.bytes (e : LostEntry) : Bytes :=
  le 8 e.bell ++ le 4 e.era ++ le 2 e.vol ++ zeros 2 ++ le 8 e.lba ++ le 1 e.reason ++ le 1 e.pos ++ zeros 6

/-- A list page's bytes (R229). -/
def LGroup.listPage (g : LGroup) (j : Nat) : Bytes :=
  (List.range' 0 128).flatMap (fun i => match g.lost[128 * j + i]? with
    | some e => e.bytes
    | none => zeros 32)

/-- Bytes of a zone page (R229). -/
def LGroup.zonePage (g : LGroup) (n : Nat) : Bytes := if n < g.pages then g.mapPage n else g.listPage (n - g.pages)

/-- Zone page of a logical stripe's entry. -/
def pageOf (st : Nat) : Nat := st / 1024

/-- Whether a volume block is listed lost (R255). -/
def State.isLost (s : State) (gi vol lba : Nat) : Bool :=
  match s.group gi with
  | some g => g.lost.any (fun e => e.vol = vol ∧ e.lba = lba)
  | none => false

/-- Index of a listed entry. -/
def LGroup.lostIdx (g : LGroup) (vol lba : Nat) : Option Nat := g.lost.findIdx? (fun e => e.vol = vol ∧ e.lba = lba)

/-- Remove an entry: the list's last takes its place (R255). -/
def LGroup.unlist (g : LGroup) (i : Nat) : LGroup :=
  match g.lost.getLast? with
  | some e => { g with lost := (lset g.lost i e).dropLast }
  | none => g

end Sys2Proof.Machine
end

