-- ==== Sys2Proof/Machine/LedgerCore.lean ====
section
/-! DEFINITION. Ledger records, their placement on the copies, durability, retirement, and the granary's slots and cache (R268-R282, R288-R292). -/

namespace Sys2Proof.Machine

/-! ### Copies (R279-R282) -/

/-- A copy slot. -/
def State.copyOf (s : State) (c : Nat) : Copy := s.led.copies.getD c {}

/-- Change a copy slot. -/
def State.onCopy (s : State) (c : Nat) (f : Copy → Copy) : State := { s with led.copies := lmod s.led.copies c f }

/-- The bay of a slot's live copy: its own, or the outgoing one while another seeds (R282). -/
def Copy.liveBay (c : Copy) : Option Nat := if c.st = 1 then some c.bay else if c.st = 2 then c.old else none

/-- Slots with a live copy (R281). -/
def State.liveSlots (s : State) : List Nat := [0, 1, 2].filter (fun c => (s.copyOf c).liveBay.isSome)

/-- Targets of new records: a live copy as its slot, a seeding one as its slot + 3, with the bay. -/
def State.writeTargets (s : State) : List (Nat × Nat) :=
  [0, 1, 2].flatMap (fun c =>
    let x := s.copyOf c
    (match x.liveBay with | some b => [(c, b)] | none => []) ++ (if x.st = 2 then [(c + 3, x.bay)] else []))

/-- The bay a write target names. -/
def State.targetBay (s : State) (c : Nat) : Option Nat := ((s.writeTargets).find? (fun t => t.1 = c)).map (·.2)

/-! ### Records (R270, R271) -/

/-- Whether staging has room for `n` more slots (R273). -/
def State.stagingRoom (s : State) (n : Nat) : Bool := s.led.stagingUsed + n ≤ s.stagingBlocks

/-- A block of a record that can no longer be found (R292). -/
def loseIndexed (place i : Nat) (s : State) : State :=
  { s with led.recs := s.led.recs.map (fun x => if x.place = place then { x with merged := x.merged ++ [i] } else x) }

/-- The live copy, with its bay, from which a record's image can be repaired: the record is valid in it (R292). -/
def State.repairCopy (s : State) (r : Rec) : Option (Nat × Nat) :=
  (s.liveSlots.find? (fun c => r.acked.contains c && !s.led.failing.contains c)).bind (fun c => (s.copyOf c).liveBay.map (fun bay => (c, bay)))

/-- A payload block of an image cannot be corrected: it is read again from the drive of a copy, or can no longer be found (R292). -/
def imageLost (r : Rec) (i : Nat) (s : State) : State :=
  match s.repairCopy r with
  | some (c, bay) =>
    let x : Consumer := .image c r.place i
    if s.bay.waiting.any (fun w => w.2.consumer = x) || (s.bayOf bay).drive.out.any (fun w => w.2.consumer = x) then s
    else driveEnqueue bay { op := 2, lba := r.block + 1 + i, n := 1, consumer := x, queue := 0 } s
  | none => loseIndexed r.place i s

/-- A payload block as staged (R288, R292): read from HBM, and none where it cannot be corrected: FS117 where a copy can repair the image, else FS118. -/
def stagedBlock (r : Rec) (i : Nat) (s : State) : State × Option Bytes :=
  let (s, b, bad) := s.hbmGet (if (s.repairCopy r).isSome then 117 else 118) (r.place % 2 ^ 32) (s.stageAddr r.slot (1 + i)) 4160
  if bad then (imageLost r i s, none) else (s, some b)

/-- A block of a record's image is being read again from a copy (R292). -/
def State.repairing (s : State) (place : Nat) : Bool :=
  let its (c : DriveCmd) : Bool := match c.consumer with
    | .image _ p _ => p = place
    | _ => false
  s.bay.waiting.any (fun w => its w.2) || s.bay.bays.any (fun b => b.2.drive.out.any (fun w => its w.2))

/-- A copy's drive has returned a block of a record: the image is repaired (R292). -/
def repairImage (place i : Nat) (b : Bytes) (s : State) : State :=
  match s.led.recs.find? (fun r => r.place = place) with
  | some r => s.hbmPut (s.stageAddr r.slot (1 + i)) (padTo 4160 b)
  | none => s

/-- Whether the index entry of a granary slot can be read: one that cannot raises FS116, and its blocks can no longer be found (R288, R292). -/
def indexMet (slot : Nat) (s : State) : State × Bool :=
  let (s, _, bad) := s.hbmGet 116 slot (s.objN 0x480010 0 + slot * 32) 32
  (s, !bad)

/-- All payload blocks of a record, as far as they can be had now. -/
def stagedAll (r : Rec) (s : State) : State × List (Option Bytes) :=
  (List.range' 0 r.n).foldl (fun (x : State × List (Option Bytes)) i => let y := stagedBlock r i x.1; (y.1, x.2 ++ [y.2])) (s, [])

/-- Tail: the lowest unretired place, or the next place (R278). -/
def State.tailPlace (s : State) : Nat :=
  match s.led.recs.find? (fun r => !r.retired) with
  | some r => r.place
  | none => s.led.nextPlace

/-- Block of the tail record. -/
def State.tailBlock (s : State) : Nat :=
  match s.led.recs.find? (fun r => !r.retired) with
  | some r => r.block
  | none => s.led.nextBlock

/-- Header block of a record (R270). -/
def headerBlock (r : Rec) (payload : List Bytes) (s : State) : Bytes :=
  let b := le 4 0x4447524C ++ le 2 1 ++ le 1 r.kind ++ zeros 1 ++ le 8 s.led.id ++ le 8 r.place ++ le 4 r.block ++ le 2 r.n ++ zeros 2 ++ le 8 r.lseq
    ++ le 2 r.vol ++ le 1 r.group ++ zeros 1 ++ le 8 r.lba ++ le 4 (if r.kind = 1 ∨ r.kind = 2 then r.count else 0) ++ le 8 s.tailPlace
    ++ le 8 (if r.n = 0 then 0 else crc64 payload.flatten) ++ le 8 s.bell.number ++ le 4 s.bell.era ++ le 4 s.led.epoch ++ zeros 40
  let h := padTo 4088 (padTo 128 b ++ r.extra)
  h ++ le 8 (crc64 h) ++ zeros 64

/-- Build a record's image in staging and queue it for placement (R273). The payload lies from the second slot on. -/
def putImage (r : Rec) (payload : List Bytes) (s : State) : State :=
  let slot := s.led.stagingNext
  let n := 1 + payload.length
  let r := { r with n := payload.length, slot := slot, roomed := true, gap := s.led.stageGap }
  let s := (payload.foldl (fun (x : State × Nat) b => (x.1.hbmPut (x.1.stageAddr slot x.2) b, x.2 + 1)) (s, 1)).1
  { s with led.ready := s.led.ready ++ [r], led.stagingNext := (slot + n) % (max 1 s.stagingBlocks), led.stagingUsed := s.led.stagingUsed + n
           led.stagingPeak := max s.led.stagingPeak (s.led.stagingUsed + n), led.stageGap := 0 }

/-- Whether a record can be staged now: staging has room for all of it, and while writes are paused merges, full-stripe writes and copy steps start none (R273, R281). -/
def State.recStarts (s : State) (r : Rec) (n : Nat) : Bool := s.stagingRoom (1 + n) && !(s.led.paused && 3 ≤ r.kind)

/-- A record is staged, or waits until it can be, behind those that wait already (R273, R278, R281). -/
def stageRec (r : Rec) (payload : List Bytes) (s : State) : State :=
  if s.led.unstaged.isEmpty && s.recStarts r payload.length then putImage r payload s
  else { s with led.unstaged := s.led.unstaged ++ [({ r with n := payload.length }, payload)] }

/-- Records that waited are staged in order as far as they can be; at most as many as the first argument. -/
def stageWaiting : Nat → State → State
  | 0, s => s
  | f + 1, s =>
    match s.led.unstaged with
    | [] => s
    | x :: l => if s.recStarts x.1 x.2.length then stageWaiting f (putImage x.1 x.2 { s with led.unstaged := l }) else s

/-- Records made and not yet placed, staged or not. -/
def State.unplaced (s : State) : List Rec := s.led.ready ++ s.led.unstaged.map (·.1)

/-- Allocate a ledger sequence (R198, R271). -/
def State.takeSeq (s : State) : State × Nat := ({ s with led.nextLseq := s.led.nextLseq + 1 }, s.led.nextLseq)

/-- A record the device makes is staged at once; its sequence is taken at its submission (R271). -/
def deviceRec (kind vol group lba : Nat) (extra : Bytes) (owner : RecOwner) (payload : List Bytes) (s : State) : State :=
  stageRec { kind := kind, lseq := 0, vol := vol, group := group, lba := lba, count := payload.length, n := payload.length, extra := extra, owner := owner,
             late := true } payload s

/-- A group with the remaps that full stripes have committed and that are not visible yet: what a map page shows that is made now (R239, R241). -/
def State.committedMap (s : State) (gi : Nat) (g : LGroup) : LGroup :=
  (s.tgt.cmds.flatMap (fun c => c.2.chunks)).foldl (fun g k =>
    if k.full ∧ k.committed ∧ k.key / 4294967296 = gi then g.setEntry (k.key % 4294967296) k.target true else g) g

/-- A changed zone page is written as a record of volume 0xFFFF (R229). -/
def zoneRec (gi page : Nat) (s : State) : State :=
  match s.group gi with
  | none => s
  | some g => deviceRec 1 0xFFFF gi page (le 2 0xFFFF ++ le 2 0xFFFF) .zone [clearBlock ((s.committedMap gi g).zonePage page)] s

/-! ### The descriptor (R279) -/

/-- The descriptor (R279) without its number. -/
def State.descFields (s : State) : Nat → Bytes := fun id =>
  let cp := [0, 1, 2].map (fun c => s.copyOf c)
  let out := (cp.findSome? (fun x => x.old)).getD 0xFF
  le 8 s.led.id ++ le 8 s.tailPlace ++ le 4 s.tailBlock ++ le 4 id ++ le 8 s.led.nextLseq ++ le 8 s.led.epochFirst ++ le 4 s.led.epoch
    ++ cp.flatMap (fun x => le 1 (if x.st = 0 then 0xFF else x.bay))
    ++ le 1 ((s.copyOf 0).st + 4 * (s.copyOf 1).st + 16 * (s.copyOf 2).st) ++ le 1 out ++ zeros 15

/-- At an edge at which a field of the descriptor has changed, it is updated and its number advances (R279). -/
def updateDescriptor (s : State) : State :=
  if s.led.desc = [] ∧ !s.led.isOpen then s
  else if s.led.desc = s.descFields s.led.ckptId then s
  else
    let id := (s.led.ckptId + 1) % 2 ^ 32
    let d : Descriptor := { id := id, tailPlace := s.tailPlace, tailBlock := s.tailBlock, head := s.led.nextPlace, headBlock := s.led.nextBlock }
    let l := s.led.descs ++ [d]
    { s with led.ckptId := id, led.desc := s.descFields id, led.descs := l.drop (l.length - 16) }

/-! ### Submission (R274) -/

/-- Whether record `place` lies in the 1,024-place window (R274). -/
def State.inWindow (s : State) (place : Nat) : Bool := s.led.recs.all (fun r => place < r.place + 1024 || r.durable || r.held)

/-- The chunk that a record carries counts as submitted (R200). -/
def submitChunk (o : RecOwner) (s : State) : State :=
  let mark (u i : Nat) : State :=
    { s with tgt.cmds := tmap s.tgt.cmds (fun _ c => if c.order = u then { c with chunks := lmod c.chunks i (fun k => { k with submitted := true }) } else c) }
  match o with
  | .chunk u i => mark u i
  | .full u i => mark u i
  | _ => s

/-- Place the first ready record (R269): its place, its block and its header. -/
def placeRec (r : Rec) (s : State) : State × Rec :=
  let s := submitChunk r.owner s
  let (s, r) : State × Rec := if r.late then (let x := s.takeSeq; (x.1, { r with lseq := x.2, late := false })) else (s, r)
  let block := if 4194304 < s.led.nextBlock + r.size then 0 else s.led.nextBlock
  let r := { r with place := s.led.nextPlace, block := block, sentTo := s.writeTargets.map (·.1) }
  let pay := (List.range' 0 r.n).map (fun i => s.mem.read (s.stageAddr r.slot (1 + i)) 4160)
  let s := s.hbmPut (s.stageAddr r.slot 0) (headerBlock r pay s)
  let s := { s with led.ready := s.led.ready.drop 1, led.recs := s.led.recs ++ [r], led.nextPlace := r.place + 1, led.nextBlock := block + r.size }
  (((s.count (Ev.lrKind1 + (r.kind - 1)) 0).count Ev.lrBlocks 0 r.size).slot 69, r)

/-- Blocks in the 2 MiB replication buffer (R273). -/
def State.bufferUsed (s : State) : Nat := (s.led.buffer.map (fun e => e.2.2)).sum

/-- Place ready records while the window and the replication buffer's room of `room` blocks allow, at most `fuel` (R273, R274). -/
def placeAll : Nat → Nat → List Rec → State → State × List Rec
  | 0, _, acc, s => (s, acc)
  | f + 1, room, acc, s =>
    match s.led.ready with
    | [] => (s, acc)
    | r :: _ =>
      if room < r.size then ((s.count Ev.rpWait 0).creditBlocked 69, acc)
      else if s.inWindow s.led.nextPlace then (let (s, x) := placeRec r s; placeAll f (room - r.size) (acc ++ [x]) s)
      else (s, acc)

/-- Split placed records into runs of consecutive blocks of at most 256 (R274): each run's records. -/
def runsOf : List Rec → List (List Rec)
  | [] => []
  | r :: rs =>
    match runsOf rs with
    | (x :: xs) :: more =>
      if r.block + r.size = x.block ∧ r.size + ((x :: xs).map Rec.size).sum ≤ 256 then (r :: x :: xs) :: more else [r] :: (x :: xs) :: more
    | other => [r] :: other

/-- One Write for each target of a run, in queue 0 with FUA set (bit 30 of CDW12) (R274). -/
def writeRun (rs : List Rec) (s : State) : State :=
  match rs with
  | [] => s
  | r :: _ =>
    let n := (rs.map Rec.size).sum
    let s := { s with led.buffer := s.led.buffer ++ [(r.place, s.bell.edges, n)] }
    let s := s.count Ev.rpBatch 0
    let data := runData rs s
    s.writeTargets.foldl (fun s t =>
      (driveEnqueue t.2 { op := 1, lba := r.block, n := n, data := data, cdw := [2 ^ 30], consumer := .ledger t.1 r.place rs.length, queue := 0 } s).count Ev.lrWrites 0) s

/-- Whether records may be submitted (R281, R283, R293, R366). -/
def State.maySubmit (s : State) : Bool := s.led.isOpen && !s.led.paused && s.runs 4 6 && !s.driveStops 0

/-! ### Durability (R275, R281) -/

/-- Mark the records that every live copy has completed; they are durable unless held or writes are paused. The newly durable ones. -/
def markDurable (s : State) : State × List Rec :=
  if s.led.paused then (s, [])
  else
    let live := s.liveSlots
    let now (r : Rec) : Bool := !r.durable && !r.held && live.all (fun c => r.acked.contains c)
    let done := s.led.recs.filter now
    let s := { s with led.recs := s.led.recs.map (fun r => if now r then { r with durable := true, durEdge := s.bell.edges } else r) }
    (s, done)

/-- Retirement conditions that depend on the record alone (R271, R278). -/
def Rec.isRetired (all : List Rec) (persistedHead : Nat) (r : Rec) : Bool :=
  r.retired || (r.durable &&
    (match r.kind with
     | 1 => r.count ≤ r.merged.length
     | 2 => r.count ≤ r.merged.length
     | 3 => r.merged.contains 0
     | 4 => true
     | 5 => all.any (fun x => x.kind = 6 && x.lseq = r.lseq && x.durable) || r.merged.contains 0
     | 6 => r.merged.contains 0
     | _ => r.place < persistedHead))

/-- Retire what can be retired, and free in place order up to the persisted tail (R278). -/
def retireAll (s : State) : State :=
  let head := s.led.descs.foldl (fun a d => if d.id = s.led.persisted then d.head else a) 0
  let before := (s.led.recs.filter (fun r => r.retired)).length
  let recs : List Rec := s.led.recs.map (fun r => if r.isRetired s.led.recs head then { r with retired := true } else r)
  let s := (({ s with led.recs := recs }).count Ev.lrRetired 0 ((recs.filter (fun (r : Rec) => r.retired)).length - before))
  let gone := recs.takeWhile (fun (r : Rec) => r.retired && r.place < s.led.persistedTail)
  { s with led.recs := recs.drop gone.length, led.stagingUsed := s.led.stagingUsed - (gone.map (fun r => r.gap + r.size)).sum }

/-- The guard interval counts a bell in which staging was full, and one in which a checkpoint that has not been persisted keeps it so (R278, R297). -/
def countStaging (s : State) : State :=
  let full := s.led.isOpen && s.stagingBlocks ≤ s.led.stagingPeak
  let waits := full && (match s.led.recs with
    | r :: _ => r.retired && s.led.persistedTail ≤ r.place
    | [] => false)
  { ((s.count Ev.stFull 0 (b2n full)).count Ev.stCkpt 0 (b2n waits)) with led.stagingPeak := s.led.stagingUsed }

/-- Live blocks: from the persisted tail to the head, around the slot (R278). -/
def State.liveBlocks (s : State) : Nat := (s.led.nextBlock + 4194304 - s.led.persistedBlock) % 4194304

/-- The state of writes after a change of the live copies (R280, R281). -/
def afterCopyLoss (s : State) : State :=
  let n := s.liveSlots.length
  let s := if n < 2 ∧ !s.led.paused ∧ s.led.isOpen then
      (let h := (s.led.recs.filter (fun (r : Rec) => !r.durable && !r.held)).length
       let s := { s with led.paused := true, led.recs := s.led.recs.map (fun (r : Rec) => if r.durable then r else { r with held := true }) }
       (s.faultAt 113 4 6 0).count Ev.lrHeld 0 h)
    else s
  if n = 0 ∧ s.led.isOpen then s.faultAt 114 4 6 0 else s

/-- A write target drops out (R280, R282): a live copy, an outgoing one, or one that seeds. Its outstanding commands are ignored. -/
def dropTarget (c : Nat) (s : State) : State :=
  match s.targetBay c with
  | none => s
  | some bay =>
    let (s, gone) := takeCommands bay (fun x => match x.consumer with
      | .ledger t _ _ => t = c
      | .seed t _ => t = c
      | .image t _ _ => t = c
      | _ => false) s
    let s := gone.foldl (fun s x => match x.consumer with
      | .ledger _ p _ => releaseBatch p s
      | _ => s) s
    let slot := c % 3
    let s := if 3 ≤ c then s.onCopy slot (fun x => match x.old with
        | some o => { x with st := 1, bay := o, old := none, seedLeft := 0 }
        | none => { x with st := 3, seedLeft := 0 })
      else s.onCopy slot (fun x => if x.st = 2 then { x with old := none } else { x with st := 3 })
    afterCopyLoss ((s.faultAt 112 4 6 slot).count Ev.cpFail slot)

/-- A write target fails: it drops out at the next edge (R280). -/
def failTarget (c : Nat) (s : State) : State :=
  if (s.targetBay c).isSome && !s.led.failing.contains c then { s with led.failing := s.led.failing ++ [c] } else s

/-- At an edge, the targets that have failed drop out (R280). -/
def dropTargets (s : State) : State := s.led.failing.foldl (fun s c => dropTarget c s) { s with led.failing := [] }

/-- A bay fails as a holder of copies (R280). -/
def failCopiesOn (bay : Nat) (s : State) : State :=
  [3, 4, 5, 0, 1, 2].foldl (fun s c => if s.targetBay c = some bay then failTarget c s else s) s

/-! ### Lookups (R289, R290) -/

/-- The staged record that holds the newest settled and unmerged version of a block, with the block's index in it (R289). -/
def State.stagedFor (s : State) (vol group lba : Nat) : Option (Rec × Nat) :=
  (s.led.recs.foldl (fun (a : Option Rec) r =>
    if (r.kind = 1 ∨ r.kind = 2) ∧ r.settled ∧ !r.retired ∧ r.vol = vol ∧ (vol ≠ 0xFFFF ∨ r.group = group) ∧ r.lba ≤ lba ∧ lba < r.lba + r.count
        ∧ !r.merged.contains (lba - r.lba) then
      (match a with
       | some x => if x.lseq < r.lseq then some r else a
       | none => some r)
    else a) none).map (fun r => (r, lba - r.lba))

/-- A cached block (R290). -/
def State.cached (s : State) (vol lba : Nat) : Option CacheEntry := s.led.cache.find? (fun e => e.vol = vol ∧ e.lba = lba)

/-- Cache slots. -/
def State.cacheSlots (s : State) : Nat := s.granarySlots - s.stagingBlocks - s.operandBlocks

/-- Remove cache entries (R290). -/
def cacheRemove (p : CacheEntry → Bool) (s : State) : State :=
  let n := (s.led.cache.filter p).length
  ({ s with led.cache := s.led.cache.filter (fun e => !p e), led.cacheUsed := s.led.cacheUsed - n }).count Ev.grRem 0 n

/-- The clock hand's victim among `n` slots: it goes round, clearing reference bits, until it reaches a slot whose bit is clear (R290). -/
def clockVictim (n : Nat) : Nat → Nat → List CacheEntry → Nat × List CacheEntry
  | 0, h, c => (h, c)
  | f + 1, h, c =>
    match c.find? (fun e => e.slot = h) with
    | some e => if e.ref then clockVictim n f ((h + 1) % n) (c.map (fun x => if x.slot = h then { x with ref := false } else x)) else (h, c)
    | none => (h, c)

/-- A cache slot takes a block. -/
def cacheFill (vol lba slot : Nat) (b : Bytes) (s : State) : State :=
  let s := { s with led.cache := s.led.cache ++ [({ vol := vol, lba := lba, slot := slot } : CacheEntry)], led.cacheUsed := s.led.cacheUsed + 1 }
  (s.hbmPut (s.slotAddr (s.stagingBlocks + s.operandBlocks + slot)) b).count Ev.grIns 0

/-- Put a stored block in the read cache (R290): over its earlier version, in the lowest slot that is free, or in place of the clock's victim. -/
def cacheInsert (vol lba : Nat) (b : Bytes) (s : State) : State :=
  let n := s.cacheSlots
  if n = 0 then s
  else match s.cached vol lba with
    | some e => (s.hbmPut (s.slotAddr (s.stagingBlocks + s.operandBlocks + e.slot)) b).count Ev.grIns 0
    | none =>
      if s.led.cacheUsed < n then
        cacheFill vol lba (((List.range' 0 (s.led.cache.length + 1)).find? (fun i => !s.led.cache.any (fun e => e.slot = i))).getD 0) b s
      else
        let (v, c) := clockVictim n (2 * n) (s.led.hand % n) s.led.cache
        (cacheFill vol lba v b { s with led.cache := c.filter (fun e => e.slot ≠ v), led.hand := (v + 1) % n, led.cacheUsed := s.led.cacheUsed - 1 }).count Ev.grRepl 0

/-- Read a cached block and set its reference bit; an uncorrectable slot is removed and the drives serve the block (R290, R292). -/
def cacheRead (e : CacheEntry) (s : State) : State × Option Bytes :=
  let a := s.slotAddr (s.stagingBlocks + s.operandBlocks + e.slot)
  let (s, b, bad) := s.hbmGet 121 e.slot a 4160
  if bad then (cacheRemove (fun (x : CacheEntry) => x.slot = e.slot) s, none)
  else (({ s with led.cache := s.led.cache.map (fun (x : CacheEntry) => if x.slot = e.slot then { x with ref := true } else x) }).count Ev.grHit 0, some b)

end Sys2Proof.Machine
end

