-- ==== Sys2Proof/Machine/Units.lean ====
section
/-! DEFINITION. Units, their queues and the credit between stages (R28-R37). -/

namespace Sys2Proof.Machine

/-! ### Units (R42, R47) -/

/-- A unit's code: region key × 65,536 + unit (R42). -/
abbrev unitCode (die region unit : Nat) : Nat := regionKey die region * 65536 + unit

/-- Die of a unit's code. -/
def codeDie (k : Nat) : Nat := k / 16777216

/-- Region of a unit's code. -/
def codeRegion (k : Nat) : Nat := k / 65536 % 256

/-- Unit of a unit's code, within its region. -/
def codeUnit (k : Nat) : Nat := k % 65536

/-- A unit's state. -/
def State.unit (s : State) (k : Nat) : UnitWork := tgetD s.bell.units k {}

/-- Change a unit's state. -/
def State.onUnit (s : State) (k : Nat) (f : UnitWork → UnitWork) : State := { s with bell.units := tmod s.bell.units k {} f }

/-- Slot instance of a unit's stage (R47, R528). -/
def slotOfUnit (die region unit : Nat) : Option Nat :=
  if die < 4 then
    if region = 2 then some die
    else if region = 3 ∨ region = 4 then some (4 + 4 * (2 * die + (region - 3)) + unit / 8)
    else none
  else if die = 4 then
    if region < 2 then some (86 + 12 * region + unit)
    else if region = 2 then some 110
    else if region = 3 then some (70 + unit / 3)
    else if region = 4 then some 36
    else if region = 5 then some (37 + unit)
    else if region = 6 then some 69
    else if region = 10 then some 111
    else none
  else none

/-- A unit's part of the slots of its stage's instance (R47, R528). DESIGN CHOICE (log 151): the units of an instance have equal parts. -/
def slotShare (i : Nat) : Nat :=
  slotsPerBell i / (if i < 4 then 36 else if i < 36 then 8 else if i = 36 then 64 else if i < 69 then 1 else if i = 69 then 16 else if i < 86 then 3 else if i = 110 then 4 else 1)

/-- The cluster of a unit is quiesced: now, or with `soon` once what is pending takes effect (R43). -/
def State.unitQuiet (s : State) (soon : Bool) (k : Nat) : Bool :=
  let c := clusterKey (codeDie k) (codeRegion k) (codeUnit k / unitsPerCluster (codeDie k) (codeRegion k))
  let now := s.hier.quiesced.contains c
  if soon then s.hier.quietPend.foldl (fun q p => if p.1 = c then p.2 else q) now else now

/-! ### Budget (R28, R33, R35) -/

/-- A unit's budget in the budget window, in core cycles (R28); 50 where the unit runs from a 50 MHz clock: the Millhouse, and the logic of PD-AO of a die
that has lost its clock-good (R52). DEDUCED (log 79): the manual gives the figure for the Ridge and the Saddle only. -/
def State.budgetOf (s : State) (k : Nat) : Nat :=
  if (domainOf (codeDie k) (codeRegion k)).isNone && s.hier.oscillator.contains (codeDie k) then 50
  else if codeDie k < 4 then 1600 else if codeDie k = 4 then 1500 else 50

/-- Cost of an item at a unit: fixed for its kind (R33), and never more than one bell's budget (R35). -/
def State.costAt (s : State) (k : Nat) (i : WorkItem) : Nat := min (Config.itemCost i.kind) (s.budgetOf k)

/-- The item's output is covered by the credit that the unit holds, and the stage that it goes to is not fenced (R33, R44). -/
def State.outputCovered (s : State) (u : UnitWork) (i : WorkItem) : Bool :=
  match i.dest with
  | none => true
  | some d => !s.fenced (codeDie d) (codeRegion d) && Config.itemOutput i.kind ≤ tgetD u.credit d 0

/-- A unit starts an item. -/
def State.startItem (s : State) (k : Nat) (u : UnitWork) (i : WorkItem) : UnitWork :=
  { u with left := u.left - s.costAt k i
           busy := some i
           credit := match i.dest with
             | none => u.credit
             | some d => tmod u.credit d 0 (· - Config.itemOutput i.kind) }

/-- Start items from the head of one queue while each fits the budget and the credit left; the first that does not fit stays at the head (R33, R34). -/
def State.startQueue (s : State) (k : Nat) : UnitWork → List WorkItem → UnitWork × List WorkItem
  | u, [] => (u, [])
  | u, i :: q => if s.costAt k i ≤ u.left && s.outputCovered u i then s.startQueue k (s.startItem k u i) q else (u, i :: q)

/-- Queue `q` of a unit starts what it can. -/
def State.serveQueue (s : State) (k : Nat) (u : UnitWork) (q : Nat) : UnitWork :=
  let r := s.startQueue k u (tgetD u.queues q [])
  { r.1 with queues := if r.2.isEmpty then terase u.queues q else tset u.queues q r.2 }

/-- ITEM_START (R33, R34): a unit that runs and holds no late item serves its queues in ascending order (DESIGN CHOICE, log 102: the order of a unit's queues is its own). -/
def State.startUnit (s : State) (k : Nat) (u : UnitWork) : UnitWork :=
  if u.late ≠ 0 || s.fenced (codeDie k) (codeRegion k) || s.unitQuiet false k then u
  else (u.queues.map (·.1)).foldl (s.serveQueue k) u

/-- Items that wait in a unit's queues. -/
def UnitWork.waiting (u : UnitWork) : Nat := (u.queues.map (fun q => q.2.length)).sum

/-- What the starts of one unit in a bell are to the slots of its stage (R526, R527): one for each item started; where some head that has credit does not fit the budget left, the
unit's other slots are held by it, and a head without credit starves them from behind. -/
def unitSlots (k : Nat) (before after : UnitWork) (s : State) : State :=
  match slotOfUnit (codeDie k) (codeRegion k) (codeUnit k) with
  | none => s
  | some i =>
    let n := before.waiting - after.waiting
    let heads := if after.late ≠ 0 || s.fenced (codeDie k) (codeRegion k) || s.unitQuiet false k then [] else after.queues.filterMap (fun q => q.2.head?)
    let s := s.slots i n
    let s := if heads.any (fun h => s.outputCovered after h && after.left < s.costAt k h) then s.budgetHeld i (slotShare i - n) else s
    if heads.any (fun h => !s.outputCovered after h) then s.creditBlocked i else s

/-- Every unit starts work. -/
def startUnits (s : State) : State :=
  let old := s.bell.units
  let s := { s with bell.units := tmap s.bell.units s.startUnit }
  old.foldl (fun s u => unitSlots u.1 u.2 (s.unit u.1) s) s

/-! ### Credit (R30-R32, R36) -/

/-- What the items in a unit's queues take. -/
def UnitWork.held (u : UnitWork) : Nat := (u.queues.map (fun q => (q.2.map (·.size)).sum)).sum

/-- The unit's item has not completed: it is late from an earlier edge, or busy at the edge to come (R36). -/
def isLate (late : List (Nat × Nat × Nat)) (k : Nat) (u : UnitWork) : Bool := 0 < u.late || late.any (fun l => unitCode l.1 l.2.1 l.2.2 = k)

/-- Credit of unit `d` that late items of its upstream neighbours keep reserved until they hand off (R36). -/
def State.reservedAt (s : State) (late : List (Nat × Nat × Nat)) (d : Nat) : Nat :=
  (s.bell.units.map (fun u => match u.2.busy with
    | some i => if isLate late u.1 u.2 && i.dest = some d then Config.itemOutput i.kind else 0
    | none => 0)).sum

/-- Room split over the upstream neighbours: each gets what the stage's arbitration has for it, and all together no more than the room (R31). -/
def splitRoom : Nat → List (Nat × Nat) → Tbl Nat
  | _, [] => []
  | room, (n, want) :: r => if min want room = 0 then splitRoom room r else tset (splitRoom (room - min want room) r) n (min want room)

/-- What a unit publishes in the guard interval (R30-R32): nothing while it is late (R36), fenced (R44) or its cluster quiesced (R43); else the room of its queues
less what waits and what is reserved. `share` is what the stage's own arbitration has for each upstream neighbour. -/
def State.publishedBy (s : State) (late : List (Nat × Nat × Nat)) (share : List (Nat × Nat × Nat)) (k : Nat) (u : UnitWork) : Tbl Nat :=
  if isLate late k u || s.fenced (codeDie k) (codeRegion k) || s.unitQuiet true k then []
  else splitRoom (Config.queueRoom k - u.held - s.reservedAt late k) ((share.filter (fun a => a.1 = k)).map (·.2))

/-- The guard interval of R29: every stage publishes its credit for the bell to come. -/
def publishCredit (late : List (Nat × Nat × Nat)) (share : List (Nat × Nat × Nat)) (s : State) : State :=
  let s := share.foldl (fun s a => s.onUnit a.1 id) s
  { s with bell.units := tmap s.bell.units (fun k u => { u with grants := s.publishedBy late share k u }) }

/-- An item reaches a queue of a unit (R30): from another unit under the credit that it was promised, from outside while the queue has room. -/
def takeArrival (s : State) (a : Arrival) : State :=
  let u := s.unit a.unit
  let put (u : UnitWork) : UnitWork := { u with queues := tmod u.queues a.queue [] (· ++ [a.item]) }
  match a.src with
  | none => s.when (u.held + a.item.size ≤ Config.queueRoom a.unit) (fun s => s.onUnit a.unit put)
  | some n => s.when (a.item.size ≤ tgetD u.grants n 0) (fun s => s.onUnit a.unit (fun u => put { u with grants := tmod u.grants n 0 (· - a.item.size) }))

/-- Credit that the stages have promised to one upstream neighbour. -/
def State.promised (s : State) (k : Nat) : Tbl Nat :=
  s.bell.units.filterMap (fun d => if tgetD d.2.grants k 0 = 0 then none else some (d.1, tgetD d.2.grants k 0))

/-- Step 2 of R29: credit of the bell before expires, each unit reads what was published to it, and its budget starts anew (R28, R30); an item that is not late has completed. -/
def readCredit (late : List (Nat × Nat × Nat)) (s : State) : State :=
  { s with bell.units := tmap s.bell.units (fun k u =>
      { u with credit := s.promised k, left := s.budgetOf k, busy := if isLate late k u then u.busy else none }) }

/-- The item of a unit is abandoned by a fence (R44, R528); the credit that covered it is no longer reserved. -/
def abandonItem (die region unit : Nat) (s : State) : State :=
  let s := s.onUnit (unitCode die region unit) (fun u => { u with late := 0, busy := none })
  match slotOfUnit die region unit with
  | some i => s.lateWaste i
  | none => s

/-- LATE_ITEM_COMPLETE (R36): the late item hands off under its reserved credit, and the unit starts new items again. -/
def lateItemComplete (die region unit : Nat) (s : State) : State :=
  let k := unitCode die region unit
  let u := s.unit k
  s.when (0 < u.late) (fun s =>
    let s := s.onUnit k (fun u => { u with late := 0, busy := none })
    match u.busy with
    | some { kind, dest := some d, .. } => s.onUnit d (fun v => { v with grants := tmod v.grants k 0 (· + Config.itemOutput kind) })
    | _ => s)

def execLateItemComplete (die region unit : Nat) (s : State) := up s (lateItemComplete die region unit)

/-- The units of some regions lose their queues and what they had in flight (R53, R56). -/
def clearUnits (out : Nat → Nat → Bool) (s : State) : State :=
  { s with bell.units := s.bell.units.filter (fun u => !out (codeDie u.1) (codeRegion u.1)) }

end Sys2Proof.Machine
end

