-- ==== Sys2Proof/Machine/Switch.lean ====
section
/-! DEFINITION. Ethernet ports and the switch core (spec 03), and the transport event ring they post to (R150-R152). -/

namespace Sys2Proof.Machine

/-! ### The event ring (R150-R152) -/

/-- An event record of the current bell (R152). -/
def State.postEvent (s : State) (type source cause : Nat) (qpn psn key detail : Nat) : State :=
  { s with xp.events := s.xp.events ++ [(source,
      le 8 s.bell.number ++ le 4 s.bell.era ++ le 1 type ++ le 1 source ++ le 2 cause ++ le 4 qpn ++ le 4 psn ++ le 4 key ++ le 4 detail)] }

/-- Write one record to the ring, or count it as lost (R150, R151). -/
def writeEvent (s : State) (r : Bytes) : State :=
  let size := s.objN 0x30000B 4096
  if (s.xp.eventProd + 2 ^ 32 - s.objN 0x30000D 0) % 2 ^ 32 = size then
    ((({ s with xp.eventLost := s.xp.eventLost + 1 }).count Ev.evLost 0).fault 73 0)
  else
    let t := (r.getD 12 0).toNat
    let s := s.hbmPut (s.objN 0x30000A 0 + s.xp.eventProd % size * 32) r
    (({ s with xp.eventProd := (s.xp.eventProd + 1) % 2 ^ 32 }).count (Ev.evPost1 + (t - 1)) 0).emit .eventIrq

/-- The records of a bell are written in ascending source order (R150). -/
def flushEvents (s : State) : State :=
  let ev := s.xp.events
  (List.range' 0 9).foldl (fun s i => (ev.filter (fun e => e.1 = i)).foldl (fun s e => writeEvent s e.2) s) { s with xp.events := [] }

/-! ### Ports (R60-R64) -/

/-- Lane region of a lane's ridge (R47). -/
def laneRegion (lane : Nat) : Nat := if lane % 36 < 18 then 0 else 1

/-- An event of a port, at its first lane's MAC (R96). -/
def State.portFault (s : State) (src port : Nat) : State :=
  s.raise { source := src + port / 36, die := port / 36, region := laneRegion port, unit := unitId (port / 36) (laneRegion port) (port % 18), detail := port }

/-- Whether a lane is a member lane (R61). -/
def State.isMember (s : State) (lane : Nat) : Bool := (s.port lane).member.isSome

/-- Whether a mode may start at a lane (R60). -/
def modeValid (lane m : Nat) : Bool :=
  let j := lane % 36
  m ≤ 2 || (m == 3 && j % 2 == 0) || (m == 4 && j % 4 == 0 && j != 16) || (m == 5 && (j == 0 || j == 8 || j == 24))

/-- `port_enable` (R62). -/
def State.portEnabled (s : State) (port : Nat) : Bool := s.objN (portKey port 3) 0 = 1

/-- Change a port. -/
def State.onPort (s : State) (port : Nat) (f : PortState → PortState) : State :=
  { s with sw.ports := tmod s.sw.ports port {} f }

/-- Change one class of a port. -/
def State.onClass (s : State) (port c : Nat) (f : PortClass → PortClass) : State :=
  s.onPort port (fun p => { p with classes := tmod p.classes c {} f })

/-- Lanes beyond a port's first that a mode covers. -/
def otherLanes (port m : Nat) : List Nat := (List.range' 0 (modeLanes m - 1)).map (fun i => port + 1 + i)

/-! ### Output buffers (R76-R79) -/

/-- Ridge whose buffer holds the queues of a scheduler instance of kind 0 (R75, R76). -/
def State.instRidge (s : State) (inst : Nat) : Nat :=
  if inst < 144 then inst / 36 else if inst < 152 then (inst - 144) / 2 else s.objN 0x240005 0

/-- Default `queue_cfg` (R93). -/
def defaultQueueCfg : Bytes := [64, 0, 7, 0, 0, 0, 1, 0]

/-- `queue_cfg` or `internal_queue_cfg` of a queue (R93, R94). -/
def State.queueCfg (s : State) (inst c : Nat) : Bytes :=
  s.obj (if inst < 144 then portKey inst (0x20 + c) else 0x240050 + 8 * (inst - 144) + c) defaultQueueCfg

/-- `p_min` of a port; internal ports have none. -/
def State.pMin (s : State) (inst : Nat) : Nat := if inst < 144 then s.objN (portKey inst 0x13) 256 else 0

/-- Instances whose queues lie on a ridge: its ports that have a mode, its two engines, and the management port where it is placed there (R76, R78). -/
def State.ridgeInsts (s : State) (n : Nat) : List Nat :=
  ((List.range' 0 36).map (fun i => 36 * n + i)).filter (fun p => s.portMode p ≠ 0 && !s.isMember p)
    ++ [144 + 2 * n, 145 + 2 * n] ++ (if s.objN 0x240005 0 = n then [152] else [])

/-- Guaranteed cells of a buffer (R78). -/
def State.guaranteed (s : State) (n : Nat) : Nat :=
  (s.ridgeInsts n).foldl (fun a i => a + s.pMin i + (List.range' 0 8).foldl (fun b c => b + fld (s.queueCfg i c) 0 2) 0) 0

/-- `hr_pool` of a ridge (R78, R94). -/
def State.hrPool (s : State) (n : Nat) : Nat := fld (s.obj (0x240020 + n) [0, 64, 0, 0, 0, 0, 0, 0]) 0 4

/-- Size of the shared pool (R78). -/
def State.sharedPool (s : State) (n : Nat) : Nat := 196608 - 8192 - s.guaranteed n - s.hrPool n

/-- Whether the four pools fit a buffer (R78). -/
def State.poolsFit (s : State) : Bool :=
  (List.range' 0 4).all (fun n => 8192 + s.guaranteed n + s.hrPool n ≤ 196608)

/-- Cells counted once per frame and buffer, over the copies that `p` takes: for each frame the greatest of its copies (R76). -/
def State.cellsHeld (s : State) (p : FrameCopy → Bool) (f : FrameCopy → Nat) : Nat :=
  let t := s.sw.copies.foldl (fun (t : Tbl Nat) e =>
    if p e.2 then tmod t (e.2.frame * 4 + s.instRidge e.2.inst) 0 (fun x => max x (f e.2)) else t) []
  t.foldl (fun a e => a + e.2) 0

/-- Free shared cells of a buffer, F (R79). -/
def State.freeShared (s : State) (n : Nat) : Nat :=
  s.sharedPool n - s.cellsHeld (fun c => s.instRidge c.inst = n) (fun c => c.shared)

/-- Headroom cells used in a buffer. -/
def State.headroomUsed (s : State) (n : Nat) : Nat := s.cellsHeld (fun c => s.instRidge c.inst = n) (fun c => c.headroom)

/-- Cells of every kind used in a buffer. -/
def State.cellsUsed (s : State) (n : Nat) : Nat := s.cellsHeld (fun c => s.instRidge c.inst = n) (fun c => c.cells)

/-- Sum over the copies in a queue. -/
def State.queueSum (s : State) (inst c : Nat) (f : FrameCopy → Nat) : Nat :=
  s.sw.copies.foldl (fun a e => if e.2.inst = inst ∧ e.2.cls = c then a + f e.2 else a) 0

/-- Sum over the copies of an output port. -/
def State.portSum (s : State) (inst : Nat) (f : FrameCopy → Nat) : Nat :=
  s.sw.copies.foldl (fun a e => if e.2.inst = inst then a + f e.2 else a) 0

/-- Counter instance of a queue and colour (R96). -/
def qcCtr (inst c colour : Nat) : Nat := (inst * 8 + c) * 3 + colour

/-! ### Priority flow control (R82-R84) -/

/-- Whether a class is lossless for frames from a port (R82); the internal ports take part in every lossless class. -/
def State.lossless (s : State) (inPort c : Nat) : Bool :=
  (s.objN 0x240001 8).testBit c && (144 ≤ inPort || s.objN (portKey inPort 6) 1 = 1)

/-- Bytes of the frames that wait in a receive FIFO (R70). -/
def State.fifoWaits (s : State) (port : Nat) : Nat := ((tgetD s.sw.ingress port []).map (·.copy.size)).sum

/-- Whether a receive FIFO asserts XOFF (R70). -/
def State.fifoHigh (s : State) (port : Nat) : Bool := 24576 * modeLanes (s.portMode port) < (s.port port).fifo + s.fifoWaits port

/-- Headroom cells of a pair, H(i, t) (R83). -/
def State.pairHeadroom (s : State) (i t : Nat) : Nat := s.cellsHeld (fun c => c.inPort = i ∧ c.cls = t) (fun c => c.headroom)

/-- Shared cells of a pair in a buffer, S_in(i, t, n) (R83). -/
def State.pairShared (s : State) (i t n : Nat) : Nat :=
  s.cellsHeld (fun c => c.inPort = i ∧ c.cls = t ∧ s.instRidge c.inst = n) (fun c => c.shared)

/-- Whether a pair enters XOFF (R83). -/
def State.xoffEnters (s : State) (i t : Nat) : Bool :=
  let k := s.objN (portKey i 0x12) 6
  (List.range' 0 4).any (fun n => s.freeShared n * 2 ^ k ≤ s.pairShared i t n * 128) || 0 < s.pairHeadroom i t || s.fifoHigh i

/-- Whether a pair leaves XOFF (R83). -/
def State.xoffLeaves (s : State) (i t : Nat) : Bool :=
  let k := s.objN (portKey i 0x12) 6
  (List.range' 0 4).all (fun n => (s.pairShared i t n + 256) * 128 < s.freeShared n * 2 ^ k) && s.pairHeadroom i t = 0 && !s.fifoHigh i

/-- Send a PFC frame for one class (R84): a frame of 64 bytes (R96). -/
def sendPfc (i t quanta : Nat) (s : State) : State :=
  (((s.emit (.pfc i (2 ^ t) quanta)).count Ev.pfcTx (i * 8 + t)).count Ev.frTx i).count Ev.byTx i 64

/-- XOFF of one pair, evaluated at a cell write or release (R83, R84); a bell in which it enters counts as one in XOFF (R519). DESIGN CHOICE (log 97): leaving XOFF clears the bit of
a transmitted pause storm. -/
def evalPair (i t : Nat) (s : State) : State :=
  match ((s.port i).cls t).xoff with
  | none =>
    if s.lossless i t && s.xoffEnters i t then
      (sendPfc i t 0xFFFF (s.onClass i t (fun c => { c with xoff := some s.bell.edges, lastPfc := s.bell.edges }))).count Ev.bellsXoff (i * 8 + t)
    else s
  | some _ =>
    if s.xoffLeaves i t || !s.lossless i t then
      sendPfc i t 0 (s.onClass i t (fun c => { c with xoff := none, stormTx := false }))
    else s

/-- XOFF of every pair of a port that is up (R83). -/
def evalXoff (s : State) : State :=
  s.sw.ports.foldl (fun s p => if p.2.up then (List.range' 0 8).foldl (fun s t => evalPair p.1 t s) s else s) s

/-! ### Discards, and a port going down -/

/-- Drop every copy that `p` takes, counted under an event per queue and colour. -/
def dropCopies (ev : Nat) (p : FrameCopy → Bool) (s : State) : State :=
  let gone := s.sw.copies.filter (fun e => p e.2)
  let s := gone.foldl (fun s e => s.count ev (qcCtr e.2.inst e.2.cls e.2.colour)) s
  let ids := gone.map (·.1)
  let qs := tmap s.sched.queues (fun k x =>
    if k < 1048576 ∧ x.items.any (fun i => ids.contains i.ref) then
      let y := { x with items := x.items.filter (fun i => !ids.contains i.ref) }
      if (x.items.head?.map (·.ref)) = (y.items.head?.map (·.ref)) then y else y.tag 0 (k % 1024) (s.sinst 0 (k / 1024 % 1024)).v
    else x)
  { s with sw.copies := s.sw.copies.filter (fun e => !p e.2), sched.queues := qs }

/-- Lanes of a port, all aligned. -/
def State.allLanes (s : State) (port : Nat) : Nat := 2 ^ modeLanes (s.portMode port) - 1

/-- What happens whenever a port goes down (R64): link-lost where it is still enabled and not fenced, and the flush. DESIGN CHOICE (log 124): a storm of its classes ends with it. -/
def portGoesDown (port : Nat) (s : State) : State :=
  if !(s.port port).up then s
  else
    let s := if s.portEnabled port && !s.stby.fenceIn then s.portFault 34 port else s
    let s := s.onPort port (fun p => { p with up := false, cleanSince := s.bell.edges, classes := [] })
    let s := { s with sw.fdb := s.sw.fdb.filter (fun e => e.static || e.target ≠ 0 || e.num ≠ port) }
    let s := dropCopies Ev.flushed (fun c => c.inst = port) s
    evalXoff (s.postEvent 2 8 0 port 0 0 0)

/-- A port that may not come up has no lane aligned, no negotiation done and no fault seen (R62, R93). -/
def portSilent (port : Nat) (s : State) : State :=
  s.when (tget s.sw.ports port).isSome (fun s =>
    s.onPort port (fun p => { p with lanes := 0, trained := false, localFault := false, remoteFault := false }))

/-- PORT_DOWN (R62, R64): a lane has lost alignment, or a local fault is present. Which lane it is, is free where no report of the link has said so. -/
def portDown (port : Nat) (localFault : Bool) (s : State) : State :=
  s.when (s.port port).up (fun s =>
    let all := s.allLanes port
    if localFault || (s.port port).lanes ≠ all then portGoesDown port (s.onPort port (fun p => { p with localFault := localFault }))
    else portGoesDown port (s.took.onPort port (fun p => { p with lanes := s.free % all })))

def execPortDown (port : Nat) (localFault : Bool) (s : State) := up s (portDown port localFault)

/-- The port runs auto-negotiation and link training (R62): a CR or KR interface with `autoneg` 1. -/
def State.negotiates (s : State) (port : Nat) : Bool := s.objN (portKey port 2) 1 ≠ 2 && s.objN (portKey port 5) 1 = 1

/-- Every lane is aligned, no fault is seen, and negotiation has completed where it runs (R62). -/
def State.portClean (s : State) (port : Nat) : Bool :=
  let p := s.port port
  p.lanes = s.allLanes port && !p.localFault && !p.remoteFault && (p.trained || !s.negotiates port)

/-- The port may come up (R62): it has a mode, is enabled, its lane domain is on, and FENCE_IN_N is not asserted. -/
def State.portMay (s : State) (port : Nat) : Bool :=
  port < 144 && !s.isMember port && s.portMode port ≠ 0 && s.portEnabled port && !s.stby.fenceIn
    && s.domOn ((domainOf (port / 36) (laneRegion port)).getD 0)

/-- PORT_UP (R62): the port has been clean for 10 ms. -/
def portUp (port : Nat) (s : State) : State :=
  s.when (!(s.port port).up && s.portMay port && s.portClean port && 9766 ≤ s.since (s.port port).cleanSince) (fun s =>
    (s.onPort port (fun p => { p with up := true })).postEvent 1 8 0 port 0 0 0)

def execPortUp (port : Nat) (s : State) := up s (portUp port)

/-- What a port's link has seen in the bell that ends (R62, R93). The bell in which it is not clean starts the 10 ms anew; a port that is up goes down on a lost lane or a local fault. -/
def linkReport (r : LinkReport) (s : State) : State :=
  s.when (s.portMay r.port) (fun s =>
    let s := s.onPort r.port (fun p => { p with lanes := r.aligned &&& s.allLanes r.port, localFault := r.localFault, remoteFault := r.remoteFault,
                                                 trained := r.trained && s.negotiates r.port })
    if (s.port r.port).up then (if r.localFault || (s.port r.port).lanes ≠ s.allLanes r.port then portGoesDown r.port s else s)
    else if s.portClean r.port then s
    else s.onPort r.port (fun p => { p with cleanSince := s.bell.edges + 1 }))

/-- PORT_MODE_WRITE (R60, R61): `port_mode` (sub-index 1) or `interface` (2). -/
def portModeWrite (port sub v : Nat) (s : State) : State :=
  if 144 ≤ port ∨ ¬(sub = 1 ∨ sub = 2) then s.status 1
  else if (sub = 1 ∧ 5 < v) ∨ (sub = 2 ∧ 2 < v) then s.status 4
  else if s.isMember port || s.portEnabled port then s.status 5
  else if sub = 2 then (((s.setObj (portKey port 2) (le 1 v)).persist).status 0)
  else if !modeValid port v then s.status 4
  else if (otherLanes port v).any s.portEnabled then s.status 5
  else
    let freed := (List.range' 0 144).filter (fun l => (s.port l).member = some port && !(otherLanes port v).contains l)
    let t := freed.foldl (fun s l => (s.onPort l (fun p => { p with member := none })).setObj (portKey l 1) [0]) s
    let t := (otherLanes port v).foldl (fun s l => (s.onPort l (fun p => { p with member := some port })).setObj (portKey l 1) [0]) t
    let t := (((t.setObj (portKey port 1) (le 1 v)).persist).status 0)
    if t.poolsFit then t else s.status 4

def execPortModeWrite (port sub v : Nat) (s : State) := up s (portModeWrite port sub v)

/-- PORT_ENABLE_WRITE (R61, R62, R64). -/
def portEnableWrite (port v : Nat) (s : State) : State :=
  if 144 ≤ port then s.status 1
  else if 1 < v then s.status 4
  else if s.isMember port then s.status 5
  else
    let t := (((s.setObj (portKey port 3) (le 1 v)).persist).status 0)
    if v = 1 then (if s.portEnabled port then t else t.onPort port (fun p => { p with cleanSince := s.bell.edges }))
    else portSilent port (portGoesDown port t)

def execPortEnableWrite (port v : Nat) (s : State) := up s (portEnableWrite port v)

/-! ### FEC (R63) -/

/-- The port a lane belongs to. -/
def State.portOf (s : State) (lane : Nat) : Nat := (s.port lane).member.getD lane

/-- FEC_WINDOW_END (R63): the lane's window of 1,048,576 bells is judged. -/
def fecWindowEnd (lane : Nat) (s : State) : State :=
  let l := tgetD s.sw.lanes lane {}
  let lim := s.objN (portKey (s.portOf lane) 0xD) 1000000
  s.when (lane < 144 && 1048576 ≤ s.since l.start) (fun s =>
    let above := lim < l.symbols
    let l' : LaneFec := { symbols := 0, start := s.bell.edges, degraded := above || (l.degraded && !(l.symbols < lim)) }
    let s := { s with sw.lanes := tset s.sw.lanes lane l' }
    if above then s.portFault 38 (s.portOf lane) else s)

def execFecWindowEnd (lane : Nat) (s : State) := up s (fecWindowEnd lane)

/-- Whether a port is degraded: one of its lanes is. -/
def State.fecDegraded (s : State) (port : Nat) : Bool :=
  (port :: otherLanes port (s.portMode port)).any (fun l => (tgetD s.sw.lanes l {}).degraded)

/-! ### Reading a frame -/

/-- The tag control information, where a frame has a tag. -/
def tagOf (d : Bytes) : Option Nat := if nfld d 12 2 = 0x8100 then some (nfld d 14 2) else none

/-- Offset of the layer 3 header. -/
def l3Off (d : Bytes) : Nat := if (tagOf d).isSome then 18 else 14

/-- EtherType after any tag. -/
def etherType (d : Bytes) : Nat := nfld d (l3Off d - 2) 2

/-- Whether any VLAN tag is well formed (R67): it is whole and does not carry the reserved VID 4,095. -/
def tagGood (d : Bytes) : Bool :=
  match tagOf d with
  | none => true
  | some t => 18 ≤ d.length && t % 4096 ≠ 4095

/-- Traffic class octet of an IPv4 or IPv6 header. -/
def trafficClass (d : Bytes) : Option Nat :=
  let o := l3Off d
  if etherType d = 0x0800 then some (fld d (o + 1) 1)
  else if etherType d = 0x86DD then some (bits (nfld d o 2) 11 4)
  else none

/-- ECN field; none where the frame is not IP (R81). -/
def ecnOf (d : Bytes) : Option Nat := (trafficClass d).map (· % 4)

/-- Upper protocol and its offset behind the extension headers of an IPv6 packet, from header `h` at offset `o`; none for a fragment (R74). -/
def ipv6Upper (d : Bytes) : Nat → Nat → Nat → Option (Nat × Nat)
  | 0, _, _ => none
  | f + 1, h, o =>
    if h = 0 ∨ h = 43 ∨ h = 60 ∨ h = 135 then ipv6Upper d f (fld d o 1) (o + 8 * (fld d (o + 1) 1 + 1))
    else if h = 51 then ipv6Upper d f (fld d o 1) (o + 4 * (fld d (o + 1) 1 + 2))
    else if h = 44 then (if nfld d (o + 2) 2 / 8 = 0 ∧ nfld d (o + 2) 2 % 2 = 0 then ipv6Upper d f (fld d o 1) (o + 8) else none)
    else some (h, o)

/-- The UDP header's offset and destination port, where the frame is an unfragmented UDP datagram (R74). -/
def udpOf (d : Bytes) : Option (Nat × Nat) :=
  let o := l3Off d
  if etherType d = 0x0800 then
    if fld d (o + 9) 1 = 17 ∧ nfld d (o + 6) 2 % 16384 = 0 then
      let u := o + fld d o 1 % 16 * 4
      some (u, nfld d (u + 2) 2)
    else none
  else if etherType d = 0x86DD then
    match ipv6Upper d 32 (fld d (o + 6) 1) (o + 40) with
    | some (17, u) => some (u, nfld d (u + 2) 2)
    | _ => none
  else none

/-- Destination QP of a RoCEv2 frame (R74), as far as the 256 bytes that are parsed show it (R67). -/
def roceQp (d : Bytes) : Option Nat :=
  match udpOf (d.take 256) with
  | some (u, 4791) => if u + 16 ≤ 256 then some (nfld d (u + 13) 3) else none
  | _ => none

/-- An IPv4 header with its checksum recomputed. -/
def ipv4Sum (d : Bytes) : Bytes :=
  let o := l3Off d
  let n := fld d o 1 % 16 * 4
  let h := putAt (sub d o n) 10 [0, 0]
  putAt d o (putAt h 10 (be 2 (inetSum h)))

/-- A frame marked CE (R81). -/
def markCe (d : Bytes) : Bytes :=
  let o := l3Off d
  if etherType d = 0x0800 then ipv4Sum (putAt d (o + 1) (le 1 (fld d (o + 1) 1 / 4 * 4 + 3)))
  else if etherType d = 0x86DD then putAt d (o + 1) (le 1 (fld d (o + 1) 1 / 64 * 64 + 48 + fld d (o + 1) 1 % 16))
  else d

/-- The frame without its tag. -/
def untag (d : Bytes) : Bytes := if (tagOf d).isSome then d.take 12 ++ d.drop 16 else d

/-- The frame with tag control information `t`. -/
def retag (d : Bytes) (t : Nat) : Bytes := let u := untag d; u.take 12 ++ [0x81, 0x00] ++ be 2 t ++ u.drop 12

/-! ### Forwarding (R71-R75, R90) -/

/-- Bucket of a key (R71). -/
def fdbBucket (vid mac : Nat) : Nat := crc32 (be 2 vid ++ be 6 mac) % 8192

/-- Entry of a key. -/
def State.fdbFind (s : State) (vid mac : Nat) : Option FdbEntry := s.sw.fdb.find? (fun e => e.vid = vid ∧ e.mac = mac)

/-- Put an entry in place of the one of its key. -/
def State.fdbPut (s : State) (e : FdbEntry) : State :=
  { s with sw.fdb := s.sw.fdb.filter (fun x => !(x.vid = e.vid && x.mac = e.mac)) ++ [e] }

/-- Whether a key's bucket has no free way (R71). -/
def State.fdbFull (s : State) (vid mac : Nat) : Bool :=
  8 ≤ (s.sw.fdb.filter (fun e => fdbBucket e.vid e.mac = fdbBucket vid mac)).length

/-- FDB_LEARN: the source of a valid frame is learned or moved (R72). DESIGN CHOICE (log 95): a station move uses up one of the 16 addresses of a bell, and with `fdb_learn` 0 a frame
does not refresh the bell its entry was last seen in. -/
def learn (port vid mac : Nat) (s : State) : State :=
  if s.objN 0x240002 1 ≠ 1 then s
  else
    let fresh : FdbEntry := { vid := vid, mac := mac, target := 0, num := port, static := false, lastSeen := s.bell.number, lastEdge := s.bell.edges }
    match s.fdbFind vid mac with
    | some e =>
      if e.target = 0 ∧ e.num = port ∧ !e.static then s.fdbPut fresh
      else if e.static then
        (if e.target = 0 ∧ e.num = port then s.fdbPut { e with lastSeen := s.bell.number, lastEdge := s.bell.edges }
         else s.count Ev.moveRef 0)
      else if 16 ≤ s.sw.learned then s
      else ((({ s with sw.learned := s.sw.learned + 1 }).fdbPut fresh).count Ev.move 0)
    | none =>
      if 16 ≤ s.sw.learned then s
      else if s.fdbFull vid mac then (s.count Ev.bucketFull 0).fault 54 port
      else ((({ s with sw.learned := s.sw.learned + 1 }).fdbPut fresh).count Ev.learned 0)

/-- FDB_AGE_EXPIRY (R72). -/
def fdbAgeExpiry (vid mac : Nat) (s : State) : State :=
  match s.fdbFind vid mac with
  | none => s
  | some e =>
    let age := s.objN 0x240003 292968750
    s.when (!e.static && age ≠ 0 && age ≤ s.since e.lastEdge) (fun s =>
      { s with sw.fdb := s.sw.fdb.filter (fun x => !(x.vid = vid && x.mac = mac)) })

def execFdbAgeExpiry (vid mac : Nat) (s : State) := up s (fdbAgeExpiry vid mac)

/-- Where a frame goes: scheduler instances of kind 0, each with a group's rewrite of its MAC and VID (R73, R91). -/
abbrev Dest := Nat × Option Nat × Option Nat

/-- Local dispatch (R74). -/
def localDispatch (qp : Option Nat) : Nat :=
  match qp with
  | some 1 => 152
  | some q => 144 + q % 8
  | none => 152

/-- Ports of a bitmap that are not member lanes. -/
def State.portsOf (s : State) (bm : Nat) : List Nat := (bitsOf 144 bm).filter (fun p => !s.isMember p)

/-- Members of a group as destinations (R90, R91). DESIGN CHOICE (log 125): where local dispatch leads to a member that the group names as well, it gets one copy. -/
def State.groupDests (s : State) (g : Group) (inPort : Nat) (qp : Option Nat) : List Dest :=
  let v := if g.rewrite ∧ g.vid ≠ 0 then some g.vid else none
  ((s.portsOf (g.members % 2 ^ 144)).filter (· ≠ inPort)).map (fun p => (p, if g.rewrite then some g.mac else none, v))
    ++ ((List.range' 0 9).filter (fun i => g.members.testBit (144 + i))).map (fun i => (144 + i, none, none))
    ++ (if g.members.testBit 153 ∧ !g.members.testBit (144 + (localDispatch qp - 144)) then [(localDispatch qp, none, none)] else [])

/-- FORWARD_DECISION (R73): the destinations of a frame from a port or an internal port (144 and above). DESIGN CHOICE (log 94): the drop of a frame whose entry has target drop is counted
with the management port's drops, since R96 has no event of its own for it. -/
def forward (inPort vid dmac : Nat) (qp : Option Nat) (s : State) : State × List Dest :=
  let flood (s : State) : State × List Dest :=
    let d := ((s.portsOf (tgetD s.sw.vlans vid {}).member).filter (· ≠ inPort)).map (fun p => (p, none, none))
    if dmac / 2 ^ 40 % 2 = 1 then
      (s, d ++ (if s.sw.fdb.any (fun e => e.vid = vid ∧ e.target = 1) then [(152, none, none)] else []))
    else (s.count Ev.flood 0, d)
  let (s, d) : State × List Dest := match s.fdbFind vid dmac with
    | none => flood s
    | some e =>
      if e.target = 0 then (if e.num = inPort then (s.count Ev.hairpin 0, []) else (s, [(e.num, none, none)]))
      else if e.target = 1 then (s, [(localDispatch qp, none, none)])
      else if e.target = 2 then (s, s.groupDests (tgetD s.sw.groups e.num {}) inPort qp)
      else (s.count Ev.mgmtDrop 0, [])
  if 144 ≤ inPort then
    let int := d.filter (fun x => 144 ≤ x.1)
    (s.count Ev.intInt 0 int.length, d.filter (fun x => x.1 < 144))
  else (s, d)

/-! ### Admission (R79-R81, R85) -/

/-- Bytes of a RED profile (R80, R94). -/
def State.redProfile (s : State) (n : Nat) : Bytes := s.obj (0x240030 + n) [0xFF, 0xFF, 0xFF, 0xFF, 0xFF, 0xFF, 0, 0]

/-- Selection probability in 1/65,536 of an average depth in 1/65,536 cells (R80). DESIGN CHOICE (log 123): of a profile with `max` below `min`, a depth below `min` has probability 0. -/
def redProb (prof : Bytes) (avg : Nat) : Nat :=
  let mn := fld prof 0 3
  let mx := fld prof 3 3
  let p := fld prof 6 2
  if avg < mn * 65536 then 0
  else if mx * 65536 ≤ avg then 65536
  else p * (avg - mn * 65536) / ((mx - mn) * 65536)

/-- What `mgmt_rate` in Mbit/s allows in a bell, in 1/1,000 bytes (R75, R104). -/
def State.mgmtRate (s : State) : Nat := s.objN 0x240006 25000 * 128

/-- The management port may take or send one more frame in this bell (R75): its rate has something left. What a frame takes beyond it counts against the bells that follow (DESIGN CHOICE, log 99). -/
def State.mgmtFits (s : State) (used : Nat) : Bool := used < s.mgmtRate

/-- A copy is dropped: counted under an event for its queue and colour, and for the management port under R75. -/
def dropCopy (ev : Nat) (c : FrameCopy) (s : State) : State :=
  let s := s.count ev (qcCtr c.inst c.cls c.colour)
  if c.inst = 152 then (s.count Ev.mgmtDrop 0).fault 55 0 else s

/-- A copy takes its place in its queue. -/
def linkCopy (c : FrameCopy) (s : State) : State :=
  let s := (({ s with sw.copies := tset s.sw.copies s.sw.nextCopy c, sw.nextCopy := s.sw.nextCopy + 1 }).enqueue 0 c.inst c.cls c.size s.sw.nextCopy)
  let s := s.count Ev.admitted (qcCtr c.inst c.cls c.colour)
  if c.inst = 152 then { s with sw.mgmtIn := s.sw.mgmtIn + c.size * 1000 } else s

/-- QUEUE_ADMIT and LOSSLESS_ADMIT: the cells a copy takes, and its admission or refusal (R79, R85). DESIGN CHOICE (log 96): a lossless frame from an internal port gets no
headroom cells; R85 names the headroom of port i only. -/
def admitCells (c : FrameCopy) (s : State) : State :=
  let n := s.instRidge c.inst
  let cfg := s.queueCfg c.inst c.cls
  let q := min c.cells (fld cfg 0 2 - s.queueSum c.inst c.cls (·.qmin))
  let p := min (c.cells - q) (s.pMin c.inst - s.portSum c.inst (·.pmin))
  let need := c.cells - q - p
  let f := s.freeShared n
  let c := { c with qmin := q, pmin := p }
  if s.lossless c.inPort c.cls then
    if need ≤ f then linkCopy { c with shared := need } s
    else if c.inPort < 144 ∧ s.pairHeadroom c.inPort c.cls + need ≤ s.objN (portKey c.inPort 0x11) 1024 ∧ s.headroomUsed n + need ≤ s.hrPool n then
      linkCopy { c with headroom := need } s
    else (dropCopy Ev.llDrop c s).faultAt (50 + n) n 2 c.inst
  else if (s.queueSum c.inst c.cls (·.shared) + need) * 128 ≤ f * 2 ^ fld cfg 2 1 then linkCopy { c with shared := need } s
  else dropCopy Ev.alphaDrop c s

/-- The copy marked CE (R81). -/
def FrameCopy.mark (c : FrameCopy) : FrameCopy :=
  { c with data := markCe c.data, pkt := c.pkt.map (fun p => { p with ecn := 3 }) }

/-- ECN field of a copy (R81). -/
def FrameCopy.ecn (c : FrameCopy) : Nat :=
  match c.pkt with
  | some p => p.ecn
  | none => (ecnOf c.data).getD 0

/-- RED_SELECT (R80, R81) and admission of one copy. -/
def admitCopy (c : FrameCopy) (s : State) : State :=
  let cfg := s.queueCfg c.inst c.cls
  let k := c.inst * 8 + c.cls
  let prob := redProb (s.redProfile (fld cfg (3 + c.colour) 1)) (tgetD s.sw.avg k 0)
  let (s, sel) := if prob = 0 then (s, false) else if 65536 ≤ prob then (s, true) else (s.took, decide (s.free % 65536 < prob))
  let ect := c.ecn = 1 ∨ c.ecn = 2
  let mark (s : State) : State := admitCells c.mark (s.count Ev.ceMark (qcCtr c.inst c.cls c.colour))
  if !sel then admitCells c s
  else if s.lossless c.inPort c.cls then (if ect then mark s else admitCells c s)
  else if (fld cfg 6 1).testBit 0 then
    (if ect then mark s else if c.ecn = 3 then admitCells c s else dropCopy Ev.redDrop c s)
  else dropCopy Ev.redDrop c s

/-- One copy reaches its output (R53, R64, R75, R79, R88): refused where its ridge is off, its port is down, or the class storm-drops there. DESIGN CHOICE (log 96): a copy for a
port that is already down is dropped as it is linked, and counted as flushed. -/
def deliverCopy (c : FrameCopy) (s : State) : State :=
  let n := s.instRidge c.inst
  if !s.domReleased (3 * n + 2) then dropCopy Ev.flushed c s
  else if c.inst < 144 ∧ !(s.port c.inst).up then dropCopy Ev.flushed c s
  else if c.inst < 144 ∧ ((s.port c.inst).cls c.cls).stormDrop then dropCopy Ev.stormDrop c s
  else if c.inst = 152 ∧ !s.mgmtFits s.sw.mgmtIn then (s.count Ev.mgmtDrop 0).fault 55 0
  else admitCopy c s

/-- Every copy of a frame is linked, each by its own queue (R90), then XOFF (R83). -/
def linkFrame (c : FrameCopy) (ds : List Dest) (s : State) : State :=
  let c := { c with frame := s.sw.nextFrame, cells := cellsOf c.size }
  let s := { s with sw.nextFrame := s.sw.nextFrame + 1 }
  evalXoff (ds.foldl (fun s d => deliverCopy { c with inst := d.1, mac := d.2.1, rvid := d.2.2 } s) s)

/-! ### Writing cells (R49, R50, R70, R77, R78) -/

/-- Source of a buffer's cells and the link directions that they cross, for a frame that came in by `inPort` (R49, R50, R77): 0 local ingress, 1 to 3 the mesh links in ascending ridge
order, 4 the Saddle link, by which the management port sends. None where no links lead there. -/
def State.cellPath (s : State) (inPort n : Nat) : Option (Nat × List Nat) :=
  let a := s.instRidge inPort
  if a = n then some (if inPort = 152 then (4, [16 + n]) else (0, []))
  else (s.meshHop a n).map (fun h =>
    (if h < n then h + 1 else h, (if inPort = 152 then [16 + a] else []) ++ (if h = a then [4 * a + n] else [4 * a + h, 4 * h + n])))

/-- Cells that a link direction can still carry in the bell (R49). -/
def State.linkRoom (s : State) (l : Nat) : Nat := ((if l < 16 then linkPayload 4 else linkPayload 0) - tgetD s.sw.linkUse l 0) / 256

/-- Cells of frames not yet linked that a buffer holds (R78). -/
def State.receptionUsed (s : State) (n : Nat) : Nat :=
  tgetD s.sw.reception n 0 + (s.sw.ingress.flatMap (·.2)).foldl (fun a w => match tget w.left n with
    | some k => a + (cellsOf w.copy.size - k)
    | none => a) 0

/-- Write credit that a buffer has left for a source (R77). -/
def State.cellCredit (s : State) (n src : Nat) : Nat := (tgetD s.sw.credit n [540, 540, 540, 540, 540]).getD src 0

/-- Cells of a frame from `inPort` can cross to a buffer: its region runs, and of every ridge that they leave by a link the region that holds the adapters is not fenced (R43, R44, R47);
frames of the management port need the Saddle link of its ridge (R50, R52). -/
def State.pathOpen (s : State) (inPort n : Nat) : Bool :=
  let a := s.instRidge inPort
  s.runs n 2 && (a = n || !s.fenced a 2) && (s.meshHop a n).all (fun h => h = a || !s.fenced h 2) && (inPort ≠ 152 || s.saddleOpen a)

/-- Cells that a frame from `inPort` can write to a buffer now: none where its path is not open or no links lead there (R50); else what the credit, the links and the
reception pool allow. -/
def State.cellRoom (s : State) (inPort n : Nat) : Nat :=
  match s.cellPath inPort n with
  | none => 0
  | some (src, ls) => if !s.pathOpen inPort n then 0 else ls.foldl (fun a l => min a (s.linkRoom l)) (min (s.cellCredit n src) (8192 - s.receptionUsed n))

/-- `k` cells are written to a buffer: the credit, the links' capacity and a slot for each are used (R49, R77, R526). -/
def spendCells (inPort n k : Nat) (s : State) : State :=
  match s.cellPath inPort n with
  | none => s
  | some (src, ls) =>
    { s with sw.credit := tset s.sw.credit n (lmod (tgetD s.sw.credit n [540, 540, 540, 540, 540]) src (· - k))
             sw.linkUse := ls.foldl (fun t l => tmod t l 0 (· + 256 * k)) s.sw.linkUse }.slots n k

/-- A frame's cells go to one buffer as far as they can; a ridge that is off takes none, and its copies are dropped when the frame is linked (R53). -/
def writeCells (x : State × Waiting) (n : Nat) : State × Waiting :=
  let (s, w) := x
  let k := tgetD w.left n 0
  if !s.domReleased (3 * n + 2) then (s, { w with left := tset w.left n 0 })
  else
    let m := min k (s.cellRoom w.copy.inPort n)
    (spendCells w.copy.inPort n m s, { w with left := tset w.left n (k - m) })

/-- The frames that wait at an entrance. -/
def putIngress (i : Nat) (l : List Waiting) (s : State) : State :=
  { s with sw.ingress := if l.isEmpty then terase s.sw.ingress i else tset s.sw.ingress i l }

/-- Cells that a linked frame wrote in this bell and that no queue of their buffer took are discarded in it (R79, R527). -/
def wasteCells (frame : Nat) (was : Tbl Nat) (s : State) : State :=
  was.foldl (fun s x => if !s.domReleased (3 * x.1 + 2) || s.sw.copies.any (fun c => c.2.frame = frame && s.instRidge c.2.inst = x.1) then s else s.slotToWaste x.1 x.2) s

/-- The frames of one FIFO in order, at most `fuel`: each writes what it can, and is linked once every buffer has taken all its cells; one that waits keeps those behind it (R70, R77). -/
def drainGo : Nat → Nat → State → State
  | 0, _, s => s
  | f + 1, i, s =>
    match tgetD s.sw.ingress i [] with
    | [] => s
    | w :: r =>
      let x := (w.left.map (·.1)).foldl writeCells (s, w)
      if x.2.left.all (fun l => l.2 = 0) then drainGo f i (wasteCells s.sw.nextFrame w.was (linkFrame w.copy w.dests (putIngress i r x.1)))
      else putIngress i (x.2 :: r) x.1

/-- The cluster of a port's lanes, the region of an engine, or the link of the management port hands on frames (R43, R44, R50). -/
def State.entranceRuns (s : State) (i : Nat) : Bool :=
  if i < 144 then s.clusterRuns (i / 36) (laneRegion i) (i % 18 / 6) else if i < 152 then s.runs ((i - 144) / 2) (3 + (i - 144) % 2) else s.saddleOpen (s.instRidge 152)

/-- The frames that came in by one port are written and linked as far as the credit reaches. -/
def drainIngress (i : Nat) (s : State) : State :=
  if s.entranceRuns i then drainGo (tgetD s.sw.ingress i []).length i s else s

/-- A frame that has passed its checks joins those of its port (R67, R70, R77): its cells are counted once for each buffer that holds a destination (R76, R90). -/
def deliver (c : FrameCopy) (ds : List Dest) (s : State) : State :=
  if ds.isEmpty then s
  else
    let ns := (ds.map (fun d => s.instRidge d.1)).eraseDups
    let t := ns.map (fun n => (n, cellsOf c.size))
    let w : Waiting := { copy := c, dests := ds, left := t, was := t }
    evalXoff (drainIngress c.inPort { s with sw.ingress := tmod s.sw.ingress c.inPort [] (· ++ [w]) })

/-! ### Reception (R67-R70) -/

/-- Default `pcp_map` and `dscp_map` (R93). -/
def defaultPcpMap : Bytes := (List.range' 0 16).map (fun i => BitVec.ofNat 8 (i / 2 + (i % 2) * 16))
def defaultDscpMap : Bytes := (List.range' 0 64).map (fun d => BitVec.ofNat 8 (d / 8))

/-- Class and mapped colour of a frame at a port (R68). -/
def State.classify (s : State) (port : Nat) (d : Bytes) : Nat × Nat :=
  let pcp := match tagOf d with
    | some t => t / 8192 * 2 + t / 4096 % 2
    | none => 0
  let byPcp := fld (s.obj (portKey port 0x14) defaultPcpMap) pcp 1
  let b := if s.objN (portKey port 7) 1 = 1 then
      (match trafficClass d with
       | some t => fld (s.obj (portKey port 0x15) defaultDscpMap) (t / 4) 1
       | none => fld (s.obj (portKey port 0x14) defaultPcpMap) 0 1)
    else byPcp
  (b % 8, b / 16 % 4)

/-- POLICER_COLOUR (R107-R109): colour of a frame, or none where it is freed as a red frame. -/
def police (port cls pre len : Nat) (s : State) : State × Option Nat :=
  match tgetD s.sched.policeMap (port * 8 + cls) 0 with
  | 0 => (s, some pre)
  | n + 1 =>
    let (col, p) := (tgetD s.sched.policers n {}).colour pre len
    let s := { s with sched.policers := tset s.sched.policers n p }
    let s := (s.count (if col = 0 then Ev.polGf else if col = 1 then Ev.polYf else Ev.polRf) n).count
      (if col = 0 then Ev.polGb else if col = 1 then Ev.polYb else Ev.polRb) n len
    if col = 2 ∧ p.dropRed then
      if s.lossless port cls then (s.count Ev.polWith n, some 2) else (s.count Ev.polDrop n, none)
    else (s, some col)

/-- Whether a port can take a frame: it is up and its ridge's lanes and buffer run. -/
def State.portRuns (s : State) (port : Nat) : Bool :=
  (s.port port).up && s.clusterRuns (port / 36) (laneRegion port) (port % 18 / 6)

/-- An empty copy of a received frame. -/
def copyOf (d : Bytes) (port vid cls colour size ts : Nat) : FrameCopy :=
  { frame := 0, inst := 0, cls := cls, colour := colour, inPort := port, vid := vid, size := size, data := d, cells := 0,
    qmin := 0, pmin := 0, shared := 0, headroom := 0, mac := none, rvid := none, ts := ts, tsMode := 0, tsTag := 0, pkt := none }

/-- PTP time of a moment `off` after the last edge, in 1/65,536 ns (R65), with a board delay in picoseconds added. -/
def State.stamp (s : State) (off : Nat) (delay : Int) : Nat := (((s.bell.ptp * 65536 + off : Nat) : Int) + delay * 65536 / 1000).toNat

/-- A board delay of a port (R65, R93). PRESUMED (log 100): the frame crossed the lane balls `ptp_rx_delay` before the device saw it, and crosses them `ptp_tx_delay` after it leaves the device. -/
def State.boardDelay (s : State) (port sub : Nat) : Int := ofLeI (s.obj (portKey port sub) (zeros 4))

/-- FRAME_RECEIVE (R65, R67-R75). DESIGN CHOICE (log 94): a reserved address that does not end in 0E is counted with the management port's drops. -/
def frameReceive (port : Nat) (f : Frame) (s : State) : State :=
  let len := f.data.length + 4
  if 144 ≤ port ∨ !s.portRuns port then s
  else
    let s := s.onPort port (fun p => { p with fifo := 0 })
    let s := (s.count Ev.frRx port).count Ev.byRx port len
    let d := f.data
    let vid := match tagOf d with
      | some t => if t % 4096 = 0 then s.objN (portKey port 8) 1 else t % 4096
      | none => s.objN (portKey port 8) 1
    let dmac := nfld d 0 6
    if 32768 * modeLanes (s.portMode port) < s.fifoWaits port + len then s.count Ev.fifoOvf port
    else if !f.fcsOk then s.count Ev.fcs port
    else if len < 64 then s.count Ev.runt port
    else if s.objN (portKey port 9) 9216 < len then s.count Ev.oversize port
    else if !tagGood d then s.count Ev.badTag port
    else if etherType d = 0x8808 then s
    else if !((tgetD s.sw.vlans vid {}).member.testBit port) then s.count Ev.vlanViol port
    else
      let s := learn port vid (nfld d 6 6) s
      let (cls, pre) := s.classify port d
      match police port cls pre len s with
      | (s, none) => s
      | (s, some col) =>
        let c := copyOf d port vid cls col len (s.stamp f.ts (- s.boardDelay port 0xA))
        if dmac / 16 = 0x0180C200000 then
          (if dmac % 16 = 14 then deliver c [(152, none, none)] s else s.count Ev.mgmtDrop 0)
        else
          let (s, ds) := forward port vid dmac (roceQp d) s
          deliver c ds s

def execFrameReceive (port : Nat) (f : Frame) (s : State) := up s (frameReceive port f)

/-! ### Pause (R84, R87-R89) -/

/-- PFC_RECEIVE (R87), a frame of 64 bytes (R96): a pause replaces the time that remains, quanta 0 ends it; a bell in which a pause begins counts as one paused (R519). DESIGN CHOICE (log 97): with `storm_action` 0
the bit of a received pause storm clears when the pause ends. -/
def pfcReceive (port mask : Nat) (quanta : List Nat) (s : State) : State :=
  let rate := modeRate (s.portMode port)
  s.when (port < 144 && s.portRuns port && rate ≠ 0) (fun s =>
    (bitsOf 8 mask).foldl (fun s c =>
      let q := quanta.getD c 0
      let s := noteQueue 0 port c (s.count Ev.pfcRx (port * 8 + c))
      if q = 0 then s.onClass port c (fun k => { k with pause := none, stormRx := k.stormDrop })
      else (s.onClass port c (fun k =>
        { k with lastPause := s.bell.edges
                 pause := some { ns := q * 512 / rate, edge := s.bell.edges, since := (k.pause.map (·.since)).getD s.bell.edges } })).count Ev.bellsPaused (port * 8 + c)) (((s.count Ev.frRx port).count Ev.byRx port 64)))

def execPfcReceive (port mask : Nat) (quanta : List Nat) (s : State) := up s (pfcReceive port mask quanta)

/-- PAUSE_EXPIRY (R87): the quanta's time can have run out. -/
def pauseExpiry (port c : Nat) (s : State) : State :=
  match ((s.port port).cls c).pause with
  | none => s
  | some p => s.when (p.ns ≤ (s.since p.edge + 1) * 1024) (fun s =>
      (noteQueue 0 port c s).onClass port c (fun k => { k with pause := none, stormRx := k.stormDrop }))

def execPauseExpiry (port cls : Nat) (s : State) := up s (pauseExpiry port cls)

/-- PFC_REFRESH (R84): a held XOFF repeats its PFC frame. -/
def pfcRefresh (port c : Nat) (s : State) : State :=
  s.when ((s.port port).cls c).xoff.isSome (fun s =>
    sendPfc port c 0xFFFF (s.onClass port c (fun k => { k with lastPfc := s.bell.edges })))

def execPfcRefresh (port cls : Nat) (s : State) := up s (pfcRefresh port cls)

/-- PFC_STORM_DETECT (R88). -/
def pfcStormDetect (port c : Nat) (s : State) : State :=
  let k := (s.port port).cls c
  match k.pause with
  | none => s
  | some p => s.when (!k.stormRx && s.objN (portKey port 0xE) 97657 ≤ s.since p.since) (fun s =>
      let act := s.objN (portKey port 0x10) 1 = 1
      let s := s.onClass port c (fun k => { k with stormRx := true, stormDrop := act })
      let s := (s.portFault 42 port).postEvent 7 8 0 port c 0 0
      if act then evalXoff (dropCopies Ev.stormDrop (fun x => x.inst = port ∧ x.cls = c) s) else s)

def execPfcStormDetect (port cls : Nat) (s : State) := up s (pfcStormDetect port cls)

/-- PFC_STORM_RESTORE (R88). -/
def pfcStormRestore (port c : Nat) (s : State) : State :=
  let k := (s.port port).cls c
  s.when (k.stormDrop && s.objN (portKey port 0xF) 195313 ≤ s.since k.lastPause) (fun s =>
    s.onClass port c (fun k => { k with stormRx := false, stormDrop := false }))

def execPfcStormRestore (port cls : Nat) (s : State) := up s (pfcStormRestore port cls)

/-- XOFF_STORM_DETECT (R89). -/
def xoffStormDetect (port c : Nat) (s : State) : State :=
  let k := (s.port port).cls c
  match k.xoff with
  | none => s
  | some e => s.when (!k.stormTx && s.objN (portKey port 0xE) 97657 ≤ s.since e) (fun s =>
      (s.onClass port c (fun k => { k with stormTx := true })).portFault 46 port)

def execXoffStormDetect (port cls : Nat) (s : State) := up s (xoffStormDetect port cls)

/-! ### Egress (R65, R66, R91, R92) -/

/-- UDP checksum of an IPv4 or IPv6 datagram recomputed (R66); a checksum that sums to zero is sent as all ones. -/
def udpSum (d : Bytes) : Bytes :=
  match udpOf d with
  | none => d
  | some (u, _) =>
    let o := l3Off d
    let n := nfld d (u + 4) 2
    let body := putAt (sub d u n) 6 [0, 0]
    let pseudo := if etherType d = 0x0800 then sub d (o + 12) 8 ++ [0, 17] ++ be 2 n else sub d (o + 8) 32 ++ be 4 n ++ [0, 0, 0, 17]
    let c := inetSum (pseudo ++ body)
    putAt d (u + 6) (be 2 (if c = 0 then 0xFFFF else c))

/-- One-step: the egress time is added to the correctionField of a PTP event message (R66). -/
def oneStep (ts : Nat) (d : Bytes) : Bytes :=
  let add (off : Nat) (d : Bytes) : Bytes := putAt d (off + 8) (be 8 ((nfld d (off + 8) 8 + ts) % 2 ^ 64))
  match udpOf d with
  | some (u, _) => udpSum (add (u + 8) d)
  | none => add (l3Off d) d

/-- A `ts_fifo` entry (R65, R93). -/
def tsEntry (ts tag : Nat) : Bytes :=
  let ns := ts / 65536
  le 6 (ns / 1000000000) ++ le 4 (ns % 1000000000) ++ le 2 (ts % 65536) ++ le 2 tag ++ [1, 0]

/-- Octets of a copy as they leave a port: tag by membership in the frame's own VID, then the group's rewrite (R91, R92). The PCP and DEI of an added tag are free. DEDUCED (log 119): a copy that
leaves without its tag gets one with the rewrite's VID, for R91 has it leave with that VID. -/
def egressData (port : Nat) (c : FrameCopy) (s : State) : State × Bytes :=
  let v := tgetD s.sw.vlans c.vid {}
  let tagged := v.member.testBit port && !v.untagged.testBit port
  let (s, d) := if !tagged then (s, untag c.data)
    else match tagOf c.data with
      | some t => (s, retag c.data (t / 4096 * 4096 + c.vid))
      | none => (s.took, retag c.data (s.free % 16 * 4096 + c.vid))
  let (s, d) := match c.rvid with
    | none => (s, d)
    | some r => match tagOf d with
      | some t => (s, retag d (t / 4096 * 4096 + r))
      | none => (match tagOf c.data with
        | some t => (s, retag d (t / 4096 * 4096 + r))
        | none => (s.took, retag d (s.free % 16 * 4096 + r)))
  (s, match c.mac with
    | some m => be 6 m ++ d.drop 6
    | none => d)

/-- The port returns a timed packet's egress timestamp to its engine (R159): a requester packet, not a response, ACK, NAK or CNP. -/
def stampTimed (p : TxPacket) (ts : Nat) (s : State) : State :=
  let k := p.engine * 2048 + p.qpn / 8 % 4 * 512 + p.qpn / 32 % 512
  match tget s.cc.rates k with
  | none => s
  | some r => match r.timed with
    | some t => if t.psn = p.psn ∧ t.sent.isNone ∧ (p.opcode ≤ 0x0C ∨ p.opcode = 0x16 ∨ p.opcode = 0x17) then
        { s with cc.rates := tset s.cc.rates k { r with timed := some { t with sent := some ts } } } else s
    | none => s

/-- A copy leaves its queue: its frame goes out or is delivered, its bytes counted as they leave, and its cells are released (R66, R92, R96). -/
def sendCopy (c : FrameCopy) (ts : Nat) (s : State) : State :=
  if c.inst < 144 then
    let s := s.count Ev.frTx c.inst
    match c.pkt with
    | some p =>
      let v := tgetD s.sw.vlans c.vid {}
      let tag := c.rvid.orElse (fun _ => if v.member.testBit c.inst && !v.untagged.testBit c.inst then some c.vid else none)
      let s := stampTimed p ts (s.count Ev.byTx c.inst (c.size + (if tag.isSome then 4 else 0)))
      s.emit (.packet c.inst (c.mac.getD p.dstMac) tag p ts)
    | none =>
      let (s, d) := egressData c.inst c s
      let s := s.count Ev.byTx c.inst (d.length + 4)
      let d := if c.tsMode = 2 then oneStep ts d else d
      let s := if c.tsMode = 1 then s.onPort c.inst (fun p => { p with tsFifo := (p.tsFifo ++ [tsEntry ts c.tsTag]).drop (p.tsFifo.length - 15) }) else s
      s.emit (.frame c.inst d ts)
  else
    match c.pkt with
    | some p => s.emit (.internalPacket (c.inst - 144) c.vid c.cls c.colour p)
    | none => s.emit (.internal (c.inst - 144) c.inPort c.vid c.cls c.colour c.ts c.data)

/-- The cluster of lane schedulers that serves an instance runs (R43, R47). -/
def State.egressRuns (s : State) (inst : Nat) : Bool :=
  let n := s.instRidge inst
  if inst < 144 then s.clusterRuns n 2 (inst % 36 / 9) && s.portRuns inst else s.runs n 2

/-- Downstream credit of kind 0 (R97) for a head of `len` bytes: a port's transmitter takes a frame that it can start in the budget window of the bell (R28); an internal port's
goes over the Saddle link of its ridge, and the management port's keeps to `mgmt_rate` (R75). -/
def State.egressCovered (s : State) (inst len start : Nat) : Bool :=
  if inst < 144 then start < budgetWindow
  else
    let n := s.instRidge inst
    s.saddleOpen n && tgetD s.sw.linkUse (20 + n) 0 + len ≤ linkPayload 0 && (inst ≠ 152 || s.mgmtFits s.sw.mgmtOut)

/-- A started frame uses its downstream credit. -/
def useEgress (inst len start : Nat) (s : State) : State :=
  if inst < 144 then s.onPort inst (fun p => { p with txBusy := start + s.wireTime inst len })
  else
    let s := { s with sw.linkUse := tmod s.sw.linkUse (20 + s.instRidge inst) 0 (· + len) }
    if inst = 152 then { s with sw.mgmtOut := s.sw.mgmtOut + len * 1000 } else s

/-- FRAME_TRANSMIT (R92, R100): the instance's scheduler takes one head, `ts` (in 1/65,536 ns) after the last edge or when the transmitter is free. Where the chosen head is not covered, the
instance starts nothing more in the bell; in the guard interval it starts nothing (R28). -/
def frameTransmit (inst ts : Nat) (s : State) : State :=
  if 153 ≤ inst ∨ budgetWindow * 65536 ≤ ts ∨ !s.egressRuns inst ∨ (s.sinst 0 inst).stopped then s
  else
    let start := if inst < 144 then max (ts / 65536) (s.port inst).txBusy else ts / 65536
    let sent := s.stamp (max ts (start * 65536)) (if inst < 144 then s.boardDelay inst 0xB else 0)
    let s := if inst < 144 then countFits inst start s else s
    match s.selectQueue 0 inst start with
    | none => s
    | some q =>
      match (s.queue 0 inst q).items with
      | [] => s
      | h :: _ =>
        if !s.egressCovered inst h.size start then (s.onInst 0 inst (fun i => { i with stopped := true })).count Ev.creditStop (qCtr 0 inst q)
        else
          let s := useEgress inst h.size start (s.startHead 0 inst q)
          match tget s.sw.copies h.ref with
          | none => s
          | some c => evalXoff (sendCopy c sent { s with sw.copies := terase s.sw.copies h.ref })

def execFrameTransmit (inst ts : Nat) (s : State) := up s (frameTransmit inst ts)

/-- MGMT_FRAME_SEND (R66, R75): a named port bypasses lookup and membership. DESIGN CHOICE (log 93): the class of the frame comes from its PCP, an untagged frame has VID 1 and
class 0, and every frame is green; the manual maps no frame of an internal port. -/
def mgmtFrameSend (dir : MgmtDirective) (f : Frame) (s : State) : State :=
  let d := f.data
  let (cls, vid) := match tagOf d with
    | some t => (t / 8192, if t % 4096 = 0 then 1 else t % 4096)
    | none => (0, 1)
  let c := { copyOf d 152 vid cls 0 (d.length + 4) f.ts with tsMode := dir.tsMode, tsTag := dir.tag }
  match dir.port with
  | some p => s.when (p < 144) (deliver c [(p, none, none)])
  | none =>
    let (s, ds) := forward 152 vid (nfld d 0 6) (roceQp d) s
    deliver c ds s

def execMgmtFrameSend (dir : MgmtDirective) (f : Frame) (s : State) := up s (mgmtFrameSend dir f)

/-- Bytes of the IP header under an address: IPv4 where the GID is IPv4-mapped (R126). -/
def ipSize (gid : Nat) : Nat := if gid / 2 ^ 32 = 0xFFFF then 20 else 40

/-- Bytes of an engine's packet on the wire: Ethernet, IP, UDP, BTH, extension headers, payload, ICRC and FCS (R119). DESIGN CHOICE (log 130): an 802.1Q tag is not counted. -/
def txSize (p : TxPacket) : Nat :=
  14 + ipSize p.dstIp + 8 + 12 + (if p.reth.isSome then 16 else 0) + (if p.imm.isSome then 4 else 0) + (if p.aeth.isSome then 4 else 0)
    + (if p.ieth.isSome then 4 else 0) + (p.payload.length + 3) / 4 * 4 + 4 + 4

/-- An engine's packet enters the switch from its internal port (R73, R75). -/
def engineSend (p : TxPacket) (s : State) : State :=
  let c := { copyOf [] (144 + p.engine) p.vid p.cls 0 (txSize p) 0 with pkt := some p }
  let (s, ds) := forward (144 + p.engine) p.vid p.dstMac (some p.destQp) s
  deliver c ds s

/-! ### switch_command (R95) -/

/-- Key of `switch_command` and of its results. -/
abbrev switchSet : Nat := 0x240010

/-- Run an opcode of `switch_command`. -/
def switchCommand (par : Bytes) (act : Bytes → State → State) (s : State) : State := s.command switchSet switchSet 48 par act

/-- Whether a VID exists. -/
def vidOk (v : Nat) : Bool := 1 ≤ v && v ≤ 4094

/-- FDB_ADD_STATIC (R71, R95). -/
def fdbAddStatic (p : Bytes) (s : State) : State :=
  let vid := fld p 2 2
  let mac := fld p 4 6
  let tg := fld p 10 1
  let n := fld p 11 2
  if !vidOk vid ∨ 3 < tg ∨ (tg = 0 ∧ 144 ≤ n) ∨ (tg = 2 ∧ 4096 ≤ n) then s.done switchSet 3
  else if (s.fdbFind vid mac).isNone ∧ s.fdbFull vid mac then s.done switchSet 2
  else
    (s.fdbPut { vid := vid, mac := mac, target := tg, num := n, static := true, lastSeen := s.bell.number, lastEdge := s.bell.edges }).done switchSet 0

def execFdbAddStatic (par : Bytes) (s : State) := up s (switchCommand par fdbAddStatic)

/-- FDB_DELETE (R95). -/
def fdbDelete (p : Bytes) (s : State) : State :=
  let vid := fld p 2 2
  let mac := fld p 4 6
  if !vidOk vid then s.done switchSet 3
  else if (s.fdbFind vid mac).isNone then s.done switchSet 1
  else ({ s with sw.fdb := s.sw.fdb.filter (fun e => !(e.vid = vid && e.mac = mac)) }).done switchSet 0

def execFdbDelete (par : Bytes) (s : State) := up s (switchCommand par fdbDelete)

/-- FDB_FLUSH (R95). -/
def fdbFlush (p : Bytes) (s : State) : State :=
  let vid := fld p 2 2
  let port := fld p 4 2
  let st := (fld p 6 1).testBit 0
  if 4094 < vid ∨ (144 ≤ port ∧ port ≠ 0xFFFF) then s.done switchSet 3
  else
    ({ s with sw.fdb := s.sw.fdb.filter (fun e =>
        !((vid = 0 || e.vid = vid) && (port = 0xFFFF || (e.target = 0 && e.num = port)) && (st || !e.static))) }).done switchSet 0

def execFdbFlush (par : Bytes) (s : State) := up s (switchCommand par fdbFlush)

/-- FDB_LOOKUP (R94, R95). -/
def fdbLookup (p : Bytes) (s : State) : State :=
  let vid := fld p 2 2
  let mac := fld p 4 6
  if !vidOk vid then s.done switchSet 3
  else match s.fdbFind vid mac with
    | none => s.done switchSet 1
    | some e => s.done switchSet 0 (p.take 10 ++ le 1 e.target ++ le 2 e.num ++ le 1 (b2n e.static) ++ le 8 e.lastSeen)

def execFdbLookup (par : Bytes) (s : State) := up s (switchCommand par fdbLookup)

/-- GROUP_WRITE (R90, R95). -/
def groupWrite (p : Bytes) (s : State) : State :=
  let g := fld p 2 2
  let vid := fld p 31 2
  if 4096 ≤ g ∨ 4094 < vid then s.done switchSet 3
  else
    ({ s with sw.groups := tset s.sw.groups g { members := fld p 4 20 % 2 ^ 154, rewrite := (fld p 24 1).testBit 0, mac := fld p 25 6, vid := vid } }).done switchSet 0

def execGroupWrite (par : Bytes) (s : State) := up s (switchCommand par groupWrite)

/-- GROUP_READ (R95). -/
def groupRead (p : Bytes) (s : State) : State :=
  let n := fld p 2 2
  if 4096 ≤ n then s.done switchSet 3
  else
    let g := tgetD s.sw.groups n {}
    s.done switchSet 0 (p.take 4 ++ le 20 g.members ++ le 1 (b2n g.rewrite) ++ le 6 g.mac ++ le 2 g.vid)

def execGroupRead (par : Bytes) (s : State) := up s (switchCommand par groupRead)

/-- VLAN_WRITE (R95): both bitmaps exactly as written. -/
def vlanWrite (p : Bytes) (s : State) : State :=
  let v := fld p 2 2
  if !vidOk v then s.done switchSet 3
  else ({ s with sw.vlans := tset s.sw.vlans v { member := fld p 4 20 % 2 ^ 144, untagged := fld p 24 18 } }).done switchSet 0

def execVlanWrite (par : Bytes) (s : State) := up s (switchCommand par vlanWrite)

/-- VLAN_READ (R95). -/
def vlanRead (p : Bytes) (s : State) : State :=
  let v := fld p 2 2
  if !vidOk v then s.done switchSet 3
  else
    let x := tgetD s.sw.vlans v {}
    s.done switchSet 0 (p.take 4 ++ le 20 x.member ++ le 18 x.untagged)

def execVlanRead (par : Bytes) (s : State) := up s (switchCommand par vlanRead)

/-! ### The edge (R77, R80) -/

/-- Write credit of a buffer to its sources from the cells waiting at each (R77). DESIGN CHOICE (log 98): where none waits, each of the five has 540. -/
def writeCredit (w : List Nat) : List Nat :=
  if w.all (· = 0) then w.map (fun _ => 540) else
  let b := w.map (fun x => if 540 ≤ x then 540 else 0)
  let rem := 2700 - b.foldl (· + ·) 0
  let tot := w.foldl (· + ·) 0
  w.map (fun x => (if 540 ≤ x then 540 else 0) + (if tot = 0 then 0 else rem * x / tot))

/-- Average depths of the output queues (R80), kept in 1/65,536 cells. -/
def updateAverages (s : State) : State :=
  let w := s.objN 0x240008 3
  let keys : List Nat := ((s.sw.avg.map (fun (e : Nat × Nat) => e.1) ++
    (s.sched.queues.filter (fun (e : Nat × SchedQ) => decide (e.1 < 1048576))).map (fun (e : Nat × SchedQ) => e.1 / 1024 * 8 + e.1 % 1024)).eraseDups).filter
      (fun k => s.instEdges 0 (k / 8))
  { s with sw.avg := keys.foldl (fun t k =>
      let q := depthOf 0 (s.queue 0 (k / 8) (k % 8)) * 65536
      let a := tgetD s.sw.avg k 0
      let a' := if a ≤ q then a + (q - a) / 2 ^ w else a - (a - q) / 2 ^ w
      if a' = 0 then terase t k else tset t k a') s.sw.avg }

/-- Bells paused and in XOFF of the bell that begins, at the ports whose lanes receive its edge (R27). -/
def countPause (s : State) : State :=
  (s.sw.ports.filter (fun p => s.domReleased ((domainOf (p.1 / 36) (laneRegion p.1)).getD 0))).foldl (fun s p => p.2.classes.foldl (fun s c =>
    let s := if c.2.pause.isSome then s.count Ev.bellsPaused (p.1 * 8 + c.1) else s
    if c.2.xoff.isSome then s.count Ev.bellsXoff (p.1 * 8 + c.1) else s) s) s

/-- Cells that wait at the five sources of a buffer: those of frames still arriving, and of frames in the FIFOs (R77). -/
def State.cellsWait (s : State) (x : EdgeInput) (n : Nat) : List Nat :=
  let told := ((x.cells.find? (fun e => e.1 = n)).map (·.2)).getD []
  let base := (List.range' 0 5).map (fun i => told.getD i 0)
  (s.sw.ingress.flatMap (·.2)).foldl (fun l w => match s.cellPath w.copy.inPort n with
    | some (src, _) => lmod l src (· + tgetD w.left n 0)
    | none => l) base

/-- What the ports report of the bell that ends: links, FEC counts, frames still arriving (R62, R63, R70, R77). -/
def takePortInputs (x : EdgeInput) (s : State) : State :=
  let s := x.fec.foldl (fun s e =>
    let (lane, corr, unc, sym) := e
    if 144 ≤ lane then s
    else
      let s := ((s.count Ev.fecCorr lane corr).count Ev.fecUnc lane unc).count Ev.fecSym lane sym
      { s with sw.lanes := tmod s.sw.lanes lane {} (fun l => { l with symbols := l.symbols + sym }) }) s
  let s := x.link.foldl (fun s r => linkReport r s) s
  let s := x.fifo.foldl (fun s e => if e.1 < 144 then s.onPort e.1 (fun p => { p with fifo := e.2 }) else s) s
  evalXoff { s with sw.reception := x.reception, sw.learned := 0 }

/-- The guard interval: each buffer publishes its write credit (R77). -/
def publishCells (x : EdgeInput) (s : State) : State :=
  { s with sw.credit := (List.range' 0 4).map (fun n => (n, writeCredit (s.cellsWait x n))) }

/-- The edge: the links and the management port have a new bell's capacity, and the transmitters' busy time counts from the new edge; `len` is the length of the bell that has ended. -/
def portsEdge (len : Nat) (s : State) : State :=
  { s with sw.linkUse := [], sw.mgmtIn := s.sw.mgmtIn - s.mgmtRate, sw.mgmtOut := s.sw.mgmtOut - s.mgmtRate
           sw.ports := tmap s.sw.ports (fun _ p => { p with txBusy := p.txBusy - len }) }

/-- The frames that wait for write credit go on, port by port in ascending number and then the internal ports (DESIGN CHOICE, log 98). -/
def drainAll (s : State) : State :=
  (s.sw.ingress.map (·.1)).foldl (fun s i => drainIngress i s) { s with sw.ingress := tmap s.sw.ingress (fun _ l => l.map (fun w => { w with was := w.left })) }

/-- Buffers that cannot take a frame's cells although their source has credit, because the reception pool is full of frames not yet linked (R78): their unused slots are starved from behind
(R527; DESIGN CHOICE, log 151). -/
def noteCells (s : State) : State :=
  (List.range' 0 4).foldl (fun s n =>
    if 8192 ≤ s.receptionUsed n && s.sw.ingress.any (fun e => s.entranceRuns e.1 && e.2.head?.any (fun w => 0 < tgetD w.left n 0 && s.pathOpen w.copy.inPort n)) then s.creditBlocked n else s) s

end Sys2Proof.Machine
end

