-- ==== Sys2Proof/Machine/Transport.lean ====
section
/-! DEFINITION. RDMA transport (spec 05) and what it shares with congestion control, chains and mirrors (spec 06): contexts, packets in and out, acknowledgement and retransmission. -/

namespace Sys2Proof.Machine

/-! ### QP numbers and state (R121, R123) -/

/-- QP number of a slot key and generation (R121). -/
def qpnOf (key gen : Nat) : Nat := gen * 16384 + key % 512 * 32 + key / 512 % 4 * 8 + key / 2048

/-- Slot key of a QP number: engine × 2,048 + cluster × 512 + slot. -/
def keyOf (qpn : Nat) : Nat := qpn % 8 * 2048 + qpn / 8 % 4 * 512 + qpn / 32 % 512

/-- A QP slot. -/
def State.qp (s : State) (key : Nat) : Qp := tgetD s.xp.qps key {}

/-- QP number of a slot as it stands. -/
def State.qpn (s : State) (key : Nat) : Nat := qpnOf key (s.qp key).gen

/-- Whether a QP number's generation matches its slot (R133). -/
def State.genOk (s : State) (qpn : Nat) : Bool := qpn < 2 ^ 24 && (s.qp (keyOf qpn)).gen == qpn / 16384

/-- Change a QP. -/
def State.onQp (s : State) (key : Nat) (f : Qp → Qp) : State := { s with xp.qps := tmod s.xp.qps key {} f }

/-- Engine of a slot key. -/
abbrev engOf (key : Nat) : Nat := key / 2048

/-- Cluster key of a slot key: engine × 4 + cluster. -/
abbrev clOf (key : Nat) : Nat := key / 512

/-- Whether an engine's region runs, and its ridge's link to the Saddle, which carries its storage traffic, has not failed (R47, R49, R50). -/
def State.engineRuns (s : State) (e : Nat) : Bool := e < 8 && s.runs (e / 2) (3 + e % 2) && !s.hier.linkDown.contains (e / 2) && !s.hier.clamped.contains 4

/-- The QP's pipeline cluster runs (R43). -/
def State.qpRuns (s : State) (key : Nat) : Bool := s.engineRuns (engOf key) && !s.keyQuiet key

/-- An event at an engine. -/
def State.engineFault (s : State) (src e detail : Nat) : State := s.faultAt src (e / 2) (3 + e % 2) detail

/-- Something for a consumer. -/
def State.notice (s : State) (n : Notice) : State := { s with xp.notices := s.xp.notices ++ [n] }

/-- Path MTU in bytes (R126). -/
def mtuBytes (m : Nat) : Nat := 512 * 2 ^ m

/-- PSN arithmetic modulo 2^24 (R134). -/
def psnSub (a b : Nat) : Nat := (a + 2 ^ 24 - b % 2 ^ 24) % 2 ^ 24
def psnAdd (a b : Nat) : Nat := (a + b) % 2 ^ 24

/-! ### The public context (R126) -/

/-- RDMA READ Requests outstanding as requester. -/
def Qp.readsOut (q : Qp) : Nat := (q.flight.filter (fun p => p.pkt.opcode = 0x0C)).length

/-- Bytes 127:0 of a context (R126). -/
def publicContext (key : Nat) (q : Qp) : Bytes :=
  let c := q.conn
  le 4 (qpnOf key q.gen + q.state * 2 ^ 24) ++ le 2 c.pd ++ le 2 c.assoc ++ le 1 c.respGroup ++ le 1 c.mtu ++ le 1 c.retryCnt ++ le 1 c.rnrRetry
    ++ le 4 c.remoteQpn ++ be 16 c.remoteGid ++ be 16 c.localGid ++ le 6 c.mac ++ le 2 c.vid ++ le 1 c.tclass ++ le 1 c.dscp ++ le 2 c.pkey
    ++ le 1 c.initDepth ++ le 1 c.respDepth ++ le 2 c.sport ++ le 4 c.ackTimeout ++ le 4 q.sqPsn ++ le 4 q.unaPsn ++ le 4 q.ePsn ++ le 4 q.msn
    ++ le 1 q.retryLeft ++ le 1 q.rnrLeft ++ le 1 q.readsOut ++ le 1 q.readsIn ++ le 4 q.cause ++ le 8 q.errBell ++ le 4 q.errEra ++ zeros 24

/-- A context's public bytes are written to the store, and engine-private bytes that the spec leaves to the engine (R126, R158). -/
def storeBytes (key : Nat) (b : Bytes) (s : State) : State :=
  let a := s.objN 0x300005 0 + key * 1024
  ({ s with mem := s.mem.lay (a + 128) 896 (.free s.freeIdx) }.took).hbmPut a b

/-- A context as it stands is written to the store. -/
def storeContext (key : Nat) (s : State) : State := storeBytes key (publicContext key (s.qp key)) s

/-! ### The cluster cache (R127-R129) -/

/-- One cluster's cache. -/
def State.cache (s : State) (cl : Nat) : ClusterCache := tgetD s.xp.caches cl {}

/-- Change a cluster's cache. -/
def State.onCache (s : State) (cl : Nat) (f : ClusterCache → ClusterCache) : State :=
  { s with xp.caches := tmod s.xp.caches cl {} f }

/-- Whether a context is cached. -/
def State.isCached (s : State) (key : Nat) : Bool := (s.cache (clOf key)).cached.contains (key % 512)

/-- A cached context becomes the most recently used. -/
def touch (key : Nat) (s : State) : State :=
  s.onCache (clOf key) (fun c => { c with cached := c.cached.erase (key % 512) ++ [key % 512] })

/-- A context is pinned: data of its QP is in the response scheduler, which sends it (R97, R127; DEDUCED, log 135). -/
def State.pinned (s : State) (key : Nat) : Bool := (s.qp key).sendQ.any (·.queued)

/-- Entries taken: contexts cached, and those whose fetch has an entry (R127). -/
def ClusterCache.taken (c : ClusterCache) : Nat := c.cached.length + (c.fetching.filter (fun f => f.2.isSome)).length

/-- The victim of a cluster's cache: the least recently used context that is not pinned (R127). -/
def State.victim (s : State) (cl : Nat) : Option Nat := (s.cache cl).cached.find? (fun v => !s.pinned (cl * 512 + v))

/-- Whether one more context can have an entry: one is free, or a victim can move to the write-back buffer of 16 (R127). -/
def State.entryFor (s : State) (cl : Nat) : Bool :=
  (s.cache cl).taken < 256 || ((s.victim cl).isSome && (s.cache cl).writeBack.length < 16)

/-- An entry for one more context: the victim moves to the write-back buffer, and its write begins (R127). -/
def makeRoom (cl : Nat) (s : State) : State :=
  if (s.cache cl).taken < 256 then s
  else match s.victim cl with
    | none => s
    | some v =>
      let b := publicContext (cl * 512 + v) (s.qp (cl * 512 + v))
      (s.onCache cl (fun c => { c with cached := c.cached.erase v, writeBack := c.writeBack ++ [v], writing := tset c.writing v b })).count Ev.ctxEvict cl

/-- The fetch of a missed context issues, with its entry (R127, R128). -/
def issueFetch (cl slot : Nat) (s : State) : State :=
  ((makeRoom cl s).onCache cl (fun c => { c with fetching := c.fetching ++ [(slot, some s.bell.edges)], issued := c.issued + 1 })).count Ev.ctxFetch cl

/-- A cluster can issue one more context fetch in the bell: at most 16, with an entry, and none while it starts nothing (R43, R44, R128). -/
def State.mayFetch (s : State) (cl : Nat) : Bool := (s.cache cl).issued < 16 && s.entryFor cl && s.qpRuns (cl * 512)

/-- Look a context up: a hit, a hit in the write-back buffer, or a fetch issued, at most 16 in a bell (R127, R128). True where it is cached afterwards. -/
def lookup (key : Nat) (s : State) : State × Bool :=
  let cl := clOf key
  let slot := key % 512
  let c := s.cache cl
  if c.cached.contains slot then ((touch key s).count Ev.ctxHit cl, true)
  else if c.writeBack.contains slot then
    let s := makeRoom cl (s.onCache cl (fun c => { c with writeBack := c.writeBack.erase slot }))
    ((s.onCache cl (fun c => { c with cached := c.cached ++ [slot] })).count Ev.ctxWb cl, true)
  else if c.fetching.any (fun f => f.1 = slot) then (s, false)
  else
    let s := s.count Ev.ctxMiss cl
    if s.mayFetch cl then (issueFetch cl slot s, false)
    else (s.onCache cl (fun c => { c with fetching := c.fetching ++ [(slot, none)] }), false)

/-- At an edge the fetches that had to wait issue in order, again at most 16 in a bell (R128). -/
def issueFetches (s : State) : State :=
  s.xp.caches.foldl (fun s e =>
    let s := s.onCache e.1 (fun c => { c with issued := 0 })
    (e.2.fetching.filter (fun f => f.2.isNone)).foldl (fun s f =>
      if s.mayFetch e.1 then issueFetch e.1 f.1 (s.onCache e.1 (fun c => { c with fetching := c.fetching.erase f })) else s) s) s

/-! ### Rates (R157, R158) -/

/-- Default `cc_profile` (R169). -/
def defaultProfile : Bytes :=
  le 4 100000 ++ le 4 100 ++ le 4 400000 ++ le 4 12000 ++ le 4 500 ++ le 4 10000000 ++ le 2 1000 ++ le 1 128 ++ le 1 128 ++ le 1 2 ++ le 1 4 ++ le 1 8
    ++ le 1 0 ++ le 2 64 ++ le 1 5 ++ le 1 0 ++ le 4 1000 ++ le 4 6104 ++ le 4 16384

/-- A profile in force (R169): bytes taken at the last rate-update edge. -/
def State.profile (s : State) (n : Nat) : Bytes := tgetD s.cc.profiles n defaultProfile

/-- Rate state of a slot. -/
def State.rate (s : State) (key : Nat) : Rate := tgetD s.cc.rates key {}

/-- Profile of a slot. -/
def State.rateProfile (s : State) (key : Nat) : Bytes := s.profile ((s.rate key).profile.getD (s.objN 0x340004 0))

/-- `cc_mode` of a slot. -/
def State.ccMode (s : State) (key : Nat) : Nat := (s.rate key).ccMode.getD (s.objN 0x340005 0)

/-- Change a slot's rate state. -/
def State.onRate (s : State) (key : Nat) (f : Rate → Rate) : State := { s with cc.rates := tmod s.cc.rates key {} f }

/-- Rate state at connect (R158). -/
def connectRate (key : Nat) (s : State) : State :=
  let s := s.onRate key (fun r => { r with profile := some (r.profile.getD (s.objN 0x340004 0)), ccMode := some (r.ccMode.getD (s.objN 0x340005 0)) })
  let p := s.rateProfile key
  s.onRate key (fun r => { r with r := fld p 0 4 * 1024, rT := fld p 0 4 * 1024, a := ((fld p 44 4 * 65536 : Nat) : Int), alpha := 65536,
                                  srtt := none, ecn := r.ccMode = some 1, stage := 0, miss := 0, good := 0, idle := 0 })

/-- Whether a QP may start a paced packet (R157). -/
def State.mayPace (s : State) (key : Nat) : Bool := s.ccMode key = 2 || 0 ≤ (s.rate key).a

/-- Charge a paced packet (R157). -/
def charge (key bytes : Nat) (s : State) : State :=
  if s.ccMode key = 2 then s.onRate key (fun r => { r with sent := true })
  else (s.onRate key (fun r => { r with sent := true, a := r.a - ((bytes * 65536 : Nat) : Int) })).count Ev.pacedBy (engOf key) bytes

/-- Pacing allowances of an edge (R157), of the engines whose region receives it (R27). -/
def refillRates (s : State) : State :=
  { s with cc.rates := tmap s.cc.rates (fun k r =>
      if (s.qp k).state ≠ 2 || !s.domReleased (3 * (engOf k / 2) + 2) then r
      else { r with a := min (r.a + ((r.r * 8192 / 1000 : Nat) : Int)) ((fld (s.rateProfile k) 44 4 * 65536 : Nat) : Int) }) }

/-! ### Sending (R119, R126, R138, R142) -/

/-- Counter group of an opcode: SEND, WRITE, READ Request, READ response, ACK and NAK, CNP. -/
def opGroup (op : Nat) : Nat :=
  if op = 0x81 then 5 else if op = 0x11 then 4 else if 0x0D ≤ op ∧ op ≤ 0x10 then 3 else if op = 0x0C then 2
  else if 0x06 ≤ op ∧ op ≤ 0x0B then 1 else 0

/-- A packet of a QP with its addressing (R126). -/
def packetOf (key : Nat) (q : Qp) (opcode psn : Nat) : TxPacket :=
  let c := q.conn
  { engine := engOf key, qpn := qpnOf key q.gen, destQp := c.remoteQpn, dstMac := c.mac, vid := c.vid, dstIp := c.remoteGid, srcIp := c.localGid,
    cls := c.tclass, dscp := c.dscp, ecn := 2, opcode := opcode, pkey := c.pkey, psn := psn, ackReq := false, becn := false,
    reth := none, imm := none, aeth := none, ieth := none, payload := [] }

/-- Whether a QP is a mirror QP (R179). -/
def State.isMirror (s : State) (key : Nat) : Bool := s.cc.mirrors.any (fun m => m.2.qpn = s.qpn key)

/-- An engine's packet takes its share of its ridge's Saddle link, which carries the engine's storage traffic (R49). -/
def useSaddleLink (e bytes : Nat) (s : State) : State := { s with sw.linkUse := tmod s.sw.linkUse (16 + e / 2) 0 (· + bytes) }

/-- A packet goes to the switch, a CNP, ACK or NAK by way of the transmit path's order (R164); a mirror QP sends nothing (R179). -/
def sendPkt (key : Nat) (p : TxPacket) (s : State) : State :=
  if s.isMirror key then s
  else
    let s := (s.count (Ev.txPk0 + opGroup p.opcode) p.engine).count (Ev.txBy0 + opGroup p.opcode) p.engine (txSize p)
    if p.opcode = 0x11 ∨ p.opcode = 0x81 then { s with xp.control := s.xp.control ++ [p] } else engineSend p (useSaddleLink p.engine (txSize p) s)

/-- ACK of everything before a PSN (R137, R138). -/
def sendAckTo (key psn : Nat) (s : State) : State :=
  let q := s.qp key
  let s := s.onQp key (fun q => { q with sinceAck := 0, ackPsn := psn, ackPend := psn ≠ q.ePsn })
  sendPkt key { packetOf key q 0x11 (psnSub psn 1) with aeth := some (0x1F, q.msn) } (if s.isMirror key then s else s.count Ev.ackTx (engOf key))

/-- ACK of everything accepted, as far as no RDMA READ response is still to be sent before it (R135, R138). -/
def sendAck (key : Nat) (s : State) : State :=
  let q := s.qp key
  match q.resps with
  | [] => sendAckTo key q.ePsn s
  | x :: _ => if 0 < psnSub x.psn q.ackPsn ∧ psnSub x.psn q.ackPsn < 2 ^ 23 then sendAckTo key x.psn s else s

/-- Counter of a NAK's syndrome: RNR, sequence, invalid request, access, operational. -/
def nakIdx (syn : Nat) : Nat := if syn < 0x60 then 0 else if syn ≤ 0x63 then syn - 0x60 + 1 else 4

/-- A NAK (R136, R140, R141). -/
def sendNak (key syn psn : Nat) (s : State) : State :=
  let q := s.qp key
  sendPkt key { packetOf key q 0x11 psn with aeth := some (syn, q.msn) } (if s.isMirror key then s else s.count (Ev.nakTx0 + nakIdx syn) (engOf key))

/-- A CNP (R164). -/
def sendCnp (key : Nat) (s : State) : State :=
  let q := s.qp key
  let s := (s.onRate key (fun r => { r with lastCnp := some s.bell.edges, cnpTx := r.cnpTx + 1 })).count Ev.cnpTx (engOf key)
  sendPkt key { packetOf key q 0x81 0 with becn := true, cls := s.objN 0x340002 6, dscp := s.objN 0x340003 48, ecn := 0, payload := zeros 16 } s

/-- The first requester packet of an interval with no timed packet outstanding is timed (R159). -/
def timePkt (key : Nat) (p : TxPacket) (s : State) : State × TxPacket :=
  let r := s.rate key
  if r.timed.isNone && !r.sentTimed then
    ((s.onRate key (fun r => { r with timed := some { psn := p.psn }, sentTimed := true })).count Ev.timed (engOf key), { p with ackReq := true })
  else (s, p)

/-- A new requester packet: PSN, flight, timer and charge (R138, R139, R142, R157). -/
def sendNew (key : Nat) (p : TxPacket) (span : Nat) (poster : Poster) (last : Bool) (dest want : Nat) (s : State) : State :=
  let q := s.qp key
  let every := s.objN 0x30000F 8
  let req := last || every ≤ q.sinceReq + 1
  let p := { p with psn := q.sqPsn, ackReq := req }
  let (s, p) := timePkt key p s
  let s := s.onQp key (fun q => { q with
    sqPsn := psnAdd q.sqPsn span
    sinceReq := if req then 0 else q.sinceReq + 1
    timer := if q.flight.isEmpty then some s.bell.edges else q.timer
    flight := q.flight ++ [{ psn := p.psn, span := span, pkt := p, poster := poster, last := last, dest := dest, want := want }] })
  let s := (charge key (txSize p + (if p.opcode = 0x0C then want else 0)) s).slot (4 + clOf key)
  sendPkt key p s

/-- Opcode of a SEND or WRITE packet by its place in the message (R119): `imm` and `inv` on the last. -/
def segOpcode (write first last : Bool) (imm inv : Bool) : Nat :=
  if write then
    (if first && last then (if imm then 0x0B else 0x0A) else if first then 0x06 else if last then (if imm then 0x09 else 0x08) else 0x07)
  else
    (if first && last then (if inv then 0x17 else if imm then 0x05 else 0x04)
     else if first then 0x00 else if last then (if inv then 0x16 else if imm then 0x03 else 0x02) else 0x01)

/-- Build the next packet of the work at the head of a QP's send queue, at most `lim` bytes of it. -/
def buildNext (key lim : Nat) (w : Work) (s : State) : State :=
  let q := s.qp key
  let r := w.req
  let write := r.op = 3 ∨ r.op = 4
  let n := min (min (mtuBytes q.conn.mtu) lim) (r.len - w.done)
  let first := w.done = 0
  let last := w.done + n = r.len
  let hasImm := last ∧ (r.op = 2 ∨ r.op = 4)
  let p := packetOf key q (segOpcode write first last (r.op = 2 ∨ r.op = 4) (r.op = 6)) 0
  let p := { p with
    payload := (r.data.drop w.done).take n
    imm := if hasImm then some r.imm else none
    ieth := if last ∧ r.op = 6 then some r.imm else none
    reth := if write ∧ first then some (r.remoteVa, r.remoteKey, r.len) else none }
  let s := s.onQp key (fun q => { q with sendQ := match q.sendQ with
    | [] => []
    | x :: t => if last then t else { x with done := x.done + n } :: t })
  sendNew key p 1 w.poster last 0 0 s

/-- A READ Request (R119, R139). -/
def buildRead (key : Nat) (w : Work) (s : State) : State :=
  let q := s.qp key
  let r := w.req
  let p := { packetOf key q 0x0C 0 with reth := some (r.remoteVa, r.remoteKey, r.len) }
  sendNew key p (max 1 (ceilDiv r.len (mtuBytes q.conn.mtu))) w.poster true r.dest r.len
    (s.onQp key (fun q => { q with sendQ := q.sendQ.drop 1 }))

/-- One RDMA READ response packet as responder (R135, R137, R147). It acknowledges its request and all before it. -/
def sendResp (key : Nat) (x : Resp) (s : State) : State :=
  let q := s.qp key
  let n := mtuBytes q.conn.mtu
  let last : Bool := x.data.length ≤ n
  let op := if x.first && last then 0x10 else if x.first then 0x0D else if last then 0x0F else 0x0E
  let p := { packetOf key q op x.psn with payload := x.data.take n, aeth := if x.first || last then some (0x1F, q.msn) else none }
  let s := (charge key (txSize p) s).slot (4 + clOf key)
  let s := s.onQp key (fun q => { q with
    resps := match q.resps with
      | [] => []
      | y :: t => if last then t else { y with psn := psnAdd y.psn 1, data := y.data.drop n, first := false } :: t
    ackPsn := if psnSub (psnAdd x.psn 1) q.ackPsn < 2 ^ 23 then psnAdd x.psn 1 else q.ackPsn
    ackPend := q.ackPend && psnAdd x.psn 1 ≠ q.ePsn
    readsIn := if last then q.readsIn - 1 else q.readsIn
    refs := if last then (match x.region with | some i => q.refs.erase i | none => q.refs) else q.refs })
  let s := match x.region with
    | some i => if last then { s with xp.regions := tmod s.xp.regions i {} (fun r => { r with refs := r.refs - 1 }) } else s
    | none => s
  sendPkt key p s

/-- A packet is sent again (R139, R140, R142): the same bytes and PSN; a READ Request from its missing PSN. An answer to a timed packet that was sent again gives no sample (R159). -/
def sendAgain (key : Nat) (x : SentPkt) (s : State) : State :=
  let q := s.qp key
  let p := if x.pkt.opcode = 0x0C ∧ 0 < x.got then
      { x.pkt with psn := psnAdd x.psn (x.got / mtuBytes q.conn.mtu), reth := x.pkt.reth.map (fun r => (r.1 + x.got, r.2.1, r.2.2 - x.got)) }
    else x.pkt
  let s := s.onQp key (fun q => { q with resend := q.resend.drop 1, flight := q.flight.map (fun y => if y.psn = x.psn then { y with base := y.got } else y) })
  let s := if (s.rate key).timed.any (fun t => t.psn = x.psn) then s.onRate key (fun r => { r with timed := r.timed.map (fun t => { t with resent := true }) }) else s
  let s := ((charge key (txSize p + (if p.opcode = 0x0C then x.want - x.got else 0)) s).slot (4 + clOf key)).count Ev.retx (engOf key)
  sendPkt key p s

/-- Whether a QP can start a packet now. -/
def State.qpSends (s : State) (key : Nat) : Bool :=
  (s.qp key).state = 2 && s.isCached key && s.qpRuns key && !s.flt.halted && s.mayPace key

/-- Frames that carry payloads of these lengths, at most (R119): with every header that can stand in them. -/
def frameBound (gid : Nat) (ns : List Nat) : List Nat := ns.map (fun n => 62 + ipSize gid + (n + 3) / 4 * 4)

/-- Write credit covers cells of an internal port's frame at every output buffer that it goes to, and no frame of that port waits before it (R33, R77, R97). A ridge that is off
takes no cells (R53). -/
def State.cellsCovered (s : State) (e cells vid mac : Nat) (qp : Nat) : Bool :=
  (tgetD s.sw.ingress (144 + e) []).isEmpty &&
    (((forward (144 + e) vid mac (some qp) s).2.map (fun d => s.instRidge d.1)).eraseDups).all (fun n => !s.domReleased (3 * n + 2) || cells ≤ s.cellRoom (144 + e) n)

/-- Write credit and the Saddle link cover paced frames with these payloads, and no CNP, ACK or NAK of the engine waits, which goes first (R33, R49, R77, R97, R164). -/
def State.sendCovered (s : State) (key : Nat) (ns : List Nat) : Bool :=
  let e := engOf key
  let c := (s.qp key).conn
  let sizes := frameBound c.remoteGid ns
  s.saddleOpen (e / 2) && tgetD s.sw.linkUse (16 + e / 2) 0 + sizes.sum ≤ linkPayload 0 && !s.xp.control.any (fun p => p.engine = e)
    && s.cellsCovered e ((sizes.map cellsOf).sum) c.vid c.mac c.remoteQpn

/-- The payload of the packet that a QP's requester or responder sends next. -/
def State.nextPayload (s : State) (key : Nat) : Nat :=
  let q := s.qp key
  let m := mtuBytes q.conn.mtu
  match (if q.rnrWait.isSome then [] else q.resend), q.resps, q.sendQ with
  | x :: _, _, _ => x.pkt.payload.length
  | [], x :: _, _ => min m x.data.length
  | [], [], w :: _ => if w.req.op = 5 then 0 else min m (w.req.len - w.done)
  | [], [], [] => 0

/-- Start one packet of a QP that is not RDMA WRITE data: retransmission, read response, then the send queue in order. An RNR wait holds back the requester alone (R140). -/
def sendOne (key : Nat) (s : State) : Option State :=
  let q := s.qp key
  if !s.qpSends key || !s.sendCovered key [s.nextPayload key] then none
  else match (if q.rnrWait.isSome then [] else q.resend), q.resps, (if q.rnrWait.isSome then [] else q.sendQ) with
    | x :: _, _, _ => some (sendAgain key x s)
    | [], x :: _, _ => some (sendResp key x s)
    | [], [], w :: _ =>
      if w.req.op = 5 then (if q.readsOut < q.conn.initDepth then some (buildRead key w s) else none)
      else if w.req.op = 3 ∨ w.req.op = 4 then none
      else some (buildNext key (mtuBytes q.conn.mtu) w s)
    | [], [], [] => none

/-- What a QP sends next waits for credit alone (R33, R527). -/
def State.headHeld (s : State) (key : Nat) : Bool :=
  let q := s.qp key
  s.qpSends key && (!q.resps.isEmpty || (q.rnrWait.isNone && (!q.resend.isEmpty || q.sendQ.any (fun w => w.req.op ≠ 3 && w.req.op ≠ 4)))) && !s.sendCovered key [s.nextPayload key]

/-- Packets of one QP, at most `fuel`; its context is used with each (R127). -/
def sendMany (key : Nat) : Nat → State → State
  | 0, s => s
  | n + 1, s => match sendOne key s with
    | some t => sendMany key n (touch key t)
    | none => if s.headHeld key then s.creditBlocked (4 + clOf key) else s

/-! ### The read-response scheduler (R97) -/

/-- The head of each send queue that is RDMA WRITE data enters its response group once A ≥ 0 (R97, R157). -/
def queueWrites (e : Nat) (s : State) : State :=
  s.xp.qps.foldl (fun s k =>
    let q := s.qp k.1
    match q.sendQ with
    | w :: t =>
      if engOf k.1 = e ∧ s.qpSends k.1 ∧ q.rnrWait.isNone ∧ q.resend.isEmpty ∧ (w.req.op = 3 ∨ w.req.op = 4) ∧ !w.queued then
        (s.onQp k.1 (fun q => { q with sendQ := { w with queued := true } :: t })).enqueue 1 e q.conn.respGroup (min 4096 (w.req.len - w.done)) k.1
      else s
    | [] => s) s

/-- Packets of one started item of `left` bytes. -/
def buildItem (key : Nat) : Nat → Nat → State → State
  | 0, _, s => s
  | f + 1, left, s =>
    match (s.qp key).sendQ with
    | [] => s
    | w :: _ =>
      let n := min (min (mtuBytes (s.qp key).conn.mtu) left) (w.req.len - w.done)
      let s := buildNext key left w s
      if n < left ∧ 0 < n then buildItem key f (left - n) s else s

/-- Frames of a response item of `n` bytes at a path MTU, as the bytes that each takes (R77, R97). -/
def itemFrames (mtu : Nat) : Nat → Nat → List Nat
  | 0, _ => []
  | f + 1, n => if n ≤ mtu then [n] else mtu :: itemFrames mtu f (n - mtu)

/-- Whether an item's output is covered (R49, R77, R97): every frame of it, at every buffer that it goes to. -/
def State.itemCovered (s : State) (key size : Nat) : Bool := s.sendCovered key (itemFrames (mtuBytes (s.qp key).conn.mtu) 4 size)

/-- A QP's item leaves its response group while the QP may not send it: it is queued again once it may (R97, R140). -/
def withholdItem (key : Nat) (s : State) : State :=
  let q := s.qp key
  if q.sendQ.any (·.queued) then
    let e := engOf key
    let g := q.conn.respGroup
    (s.onQp key (fun q => { q with sendQ := q.sendQ.map (fun w => { w with queued := false }) })).onQueue 1 e g
      (fun x => ({ x with items := x.items.filter (fun i => i.ref ≠ key) }).tag 1 g (s.sinst 1 e).v)
  else s

/-- Start response items of an engine, at most `fuel`, until none is eligible or the chosen head lacks credit (R100). -/
def serveResponses (e : Nat) : Nat → State → State
  | 0, s => s
  | n + 1, s =>
    let s := queueWrites e s
    if (s.sinst 1 e).stopped || s.flt.halted then s
    else match s.selectQueue 1 e 0 with
      | none => s
      | some g =>
        match (s.queue 1 e g).items with
        | [] => s
        | h :: _ =>
          if !s.itemCovered h.ref h.size then
            ((s.onInst 1 e (fun i => { i with stopped := true })).count Ev.creditStop (qCtr 1 e g)).creditBlocked (4 + clOf h.ref)
          else
            let s := touch h.ref (s.startHead 1 e g)
            let s := s.onQp h.ref (fun q => { q with sendQ := match q.sendQ with
              | [] => []
              | w :: t => { w with queued := false } :: t })
            serveResponses e n (buildItem h.ref 4 h.size s)

/-! ### Entering Error (R124) -/

/-- Release every region reference a QP holds (R147). -/
def releaseRefs (key : Nat) (s : State) : State :=
  let s := (s.qp key).refs.foldl (fun s i => { s with xp.regions := tmod s.xp.regions i {} (fun r => { r with refs := r.refs - 1 }) }) s
  s.onQp key (fun q => { q with refs := [] })

/-- A chain fails (R176). -/
def failChain (ck wr cause : Nat) (s : State) : State :=
  let e := ck / 256
  let s := { s with cc.chains := tmod s.cc.chains ck {} (fun c => { c with state := 3, failed := wr, cause := cause }) }
  (s.engineFault 80 e ck).count (Ev.chFail1 + (cause - 1)) e

/-- Chains after a QP has left Ready: its Armed chains go Idle with cause 6; Running chains with a posted WR on it are told by the flush (R176, R177). -/
def chainsLoseTrigger (qpn : Nat) (s : State) : State :=
  { s with cc.chains := tmap s.cc.chains (fun _ c => if c.state = 1 ∧ c.trig = qpn then { c with state := 0, cause := 6 } else c) }

/-- The end of a work request, flushed or completed: a chain's is kept with the chain, others are told (R124, R172, R176). -/
def workDone (p : Poster) (ok : Bool) (s : State) : State :=
  match p with
  | .chain e c i =>
    let ck := e * 256 + c
    match tget s.cc.chains ck with
    | none => s
    | some x =>
      if !x.posted.contains i then s
      else if ok then { s with cc.chains := tset s.cc.chains ck { x with acked := x.acked ++ [i] } }
      else
        let held := x.held.find? (fun h => h.1 = i)
        let s := { s with cc.chains := tset s.cc.chains ck { x with posted := x.posted.erase i, held := x.held.filter (fun h => h.1 ≠ i) } }
        let s := match held with
          | some h => { s with xp.regions := tmod s.xp.regions h.2 {} (fun r => { r with refs := r.refs - 1 }) }
          | none => s
        if x.state = 2 ∧ x.base ≤ i then failChain ck (i - x.base) 3 s else s
  | _ => s.notice (.done p ok)

/-- The packets of a QP in the miss queue are discarded as wasted (R124, R131). -/
def dropWaiting (key : Nat) (s : State) : State :=
  let miss := ((s.cache (clOf key)).missQ.filter (fun m => m.1 = key)).length
  (s.onCache (clOf key) (fun c => { c with missQ := c.missQ.filter (fun m => m.1 ≠ key) })).lateWaste (4 + clOf key) miss

/-- QP_ENTER_ERROR (R124, R152): the QP's CNPs and ACKs that wait are not sent. -/
def enterError (key cause : Nat) (s : State) : State :=
  let q := s.qp key
  if q.state = 0 ∨ q.state = 3 then s
  else
    let e := engOf key
    let qpn := s.qpn key
    let s := if cause = 8 then s.postEvent 5 e 8 qpn q.ePsn 0 0
      else if q.state = 2 then s.postEvent 3 e cause qpn (if 1 ≤ cause ∧ cause ≤ 5 then q.unaPsn else q.ePsn) 0 0
      else s
    let s := dropWaiting key { s with xp.control := s.xp.control.filter (fun p => p.qpn ≠ qpn) }
    let s := releaseRefs key s
    let works := (q.flight.filter (·.last)).map (·.poster) ++ q.sendQ.map (·.poster) ++ ((s.cache (clOf key)).posted.filter (fun w => w.1 = key)).map (fun w => w.2.poster)
    let s := s.onCache (clOf key) (fun c => { c with posted := c.posted.filter (fun w => w.1 ≠ key) })
    let s := s.onQp key (fun q => { q with state := 3, cause := cause, errBell := s.bell.number, errEra := s.bell.era, timer := none, rnrWait := none,
                                           sendQ := [], flight := [], resend := [], resps := [], inMsg := none, readsIn := 0, ackPend := false })
    let g := q.conn.respGroup
    let s := s.onQueue 1 e g (fun x => ({ x with items := x.items.filter (fun i => i.ref ≠ key) }).tag 1 g (s.sinst 1 e).v)
    let s := works.foldl (fun s p => workDone p false s) s
    (chainsLoseTrigger qpn s).notice (.qpError key)

/-! ### Acknowledgement and retransmission (R138-R140) -/

/-- Go back to a PSN: every packet from it on is to be sent again (R139). DESIGN CHOICE (log 129): the retransmission timer is armed anew, though `una_psn` has not advanced. -/
def goBack (key psn : Nat) (s : State) : State :=
  (withholdItem key s).onQp key (fun q => { q with resend := q.flight.filter (fun p => psnSub q.sqPsn p.psn ≤ psnSub q.sqPsn psn ∨ psnSub psn p.psn < p.span), timer := some s.bell.edges })

/-- Go back, consuming one retry; with none left the QP enters Error with cause 1 (R139, R140). -/
def retry (key psn : Nat) (s : State) : State :=
  if (s.qp key).retryLeft = 0 then enterError key 1 s
  else goBack key psn (s.onQp key (fun q => { q with retryLeft := q.retryLeft - 1 }))

/-- `una_psn` has advanced to `psn` (R139). -/
def advanceUna (key psn : Nat) (s : State) : State :=
  s.onQp key (fun q => { q with unaPsn := psn, retryLeft := q.conn.retryCnt, rnrLeft := q.conn.rnrRetry,
                                resend := q.resend.filter (fun p => q.flight.any (fun f => f.psn = p.psn)),
                                timer := if q.flight.isEmpty then none else some s.bell.edges })

/-- Packets sent before `psn`. -/
def Qp.before (q : Qp) (psn : Nat) (x : SentPkt) : Bool := psnSub q.sqPsn psn < psnSub q.sqPsn x.psn

/-- `gone` are acknowledged and `rest` stay unacknowledged: the oldest of these, or `psn`, is what `una_psn` names (R139). -/
def acknowledge (key psn : Nat) (gone rest : List SentPkt) (s : State) : State :=
  if gone.isEmpty then s
  else
    let una := match rest with
      | x :: _ => psnAdd x.psn (x.got / mtuBytes (s.qp key).conn.mtu)
      | [] => psn
    let s := s.onQp key (fun q => { q with flight := rest })
    let s := if una = (s.qp key).unaPsn then s.onQp key (fun q => { q with resend := q.resend.filter (fun p => rest.any (fun f => f.psn = p.psn)) }) else advanceUna key una s
    (gone.filter (·.last)).foldl (fun s x => workDone x.poster true s) s

/-- An ACK acknowledges the packets before `psn`, as far as no READ Request waits for its data among them. -/
def ackBefore (key psn : Nat) (s : State) : State :=
  let q := s.qp key
  let done (x : SentPkt) : Bool := x.pkt.opcode ≠ 0x0C && q.before psn x
  acknowledge key psn (q.flight.takeWhile done) (q.flight.dropWhile done) s

/-- A NAK acknowledges every packet before its PSN (R140); a READ Request still needs its data. -/
def nakBefore (key psn : Nat) (s : State) : State :=
  let q := s.qp key
  let done (x : SentPkt) : Bool := x.pkt.opcode ≠ 0x0C && q.before psn x
  acknowledge key psn (q.flight.filter done) (q.flight.filter (fun x => !done x)) s

/-- A discarded packet takes its slot as wasted. -/
def wasted (key : Nat) (s : State) : State := s.slot (4 + clOf key) true

/-- NAK Invalid Request, and Error with cause 9 (R132, step 7): the NAK is the last packet that the QP sends (DEDUCED, log 133). -/
def invalid (key : Nat) (s : State) : State := sendNak key 0x61 (s.qp key).ePsn (enterError key 9 s)

/-- A sample of the round trip, in nanoseconds (R159, R160). DESIGN CHOICE (log 131): `srtt` is kept in whole nanoseconds, and the quotient by 2^`rtt_gain` is rounded toward zero. -/
def takeSample (key : Nat) (t : TimedPkt) (rx : Nat) (s : State) : State :=
  let e := engOf key
  let s := s.onRate key (fun r => { r with timed := none })
  match t.sent with
  | none => s.count Ev.abTimed e
  | some tx =>
    let d := (rx - tx) / 65536
    let p := s.rateProfile key
    if t.void then (s.onRate key (fun r => { r with voided := true })).count Ev.void e
    else if fld p 16 4 ≤ d ∧ d ≤ fld p 20 4 then
      (s.onRate key (fun r => { r with plausible := true, srtt := match r.srtt with
        | none => some d
        | some x => some (if x ≤ d then x + (d - x) / 2 ^ fld p 28 1 else x - (x - d) / 2 ^ fld p 28 1) })).count Ev.plaus e
    else s.count Ev.implaus e

/-- DELAY_SAMPLE (R159): an answer with PSN `psn`; one beyond the timed PSN, a NAK, or an answer to a timed packet that was sent again abandons it. -/
def delayAnswer (key psn rx : Nat) (nak : Bool) (s : State) : State :=
  match (s.rate key).timed with
  | none => s
  | some t =>
    if !nak ∧ !t.resent ∧ psn = t.psn then takeSample key t rx s
    else if nak ∨ psnSub psn t.psn < 2 ^ 23 then (s.onRate key (fun r => { r with timed := none })).count Ev.abTimed (engOf key)
    else s

/-- Wait of an RNR timer code in units of 10 µs (R140): the InfiniBand table. -/
def rnrUnits (c : Nat) : Nat :=
  [65536, 1, 2, 3, 4, 6, 8, 12, 16, 24, 32, 48, 64, 96, 128, 192, 256, 384, 512, 768, 1024, 1536, 2048, 3072, 4096, 6144, 8192, 12288, 16384, 24576, 32768, 49152].getD c 65536

/-- NAK_RECEIVE (R140). -/
def nakReceive (key syn psn : Nat) (s : State) : State :=
  let s := s.count (Ev.nakRx0 + nakIdx syn) (engOf key)
  let s := nakBefore key psn s
  let q := s.qp key
  if syn < 0x40 then
    if q.conn.rnrRetry ≠ 7 ∧ q.rnrLeft = 0 then enterError key 2 s
    else
      ((withholdItem key s).onQp key (fun q => { q with
        rnrLeft := if q.conn.rnrRetry = 7 then q.rnrLeft else q.rnrLeft - 1
        rnrWait := some (s.bell.edges, ceilDiv (rnrUnits (syn % 32) * 10000) 1024, psn) })).count Ev.rnrWait (engOf key)
  else if syn = 0x60 then retry key psn s
  else if syn = 0x61 then enterError key 4 s
  else if syn = 0x62 then enterError key 3 s
  else enterError key 5 s

/-- An ACK or NAK as requester (R134, R138, R140). -/
def ackReceive (key : Nat) (p : Packet) (s : State) : State :=
  let q := s.qp key
  if psnSub q.sqPsn q.unaPsn ≤ psnSub p.psn q.unaPsn then wasted key (s.count Ev.dup (engOf key))
  else if p.aeth.isNone ∨ p.payload ≠ [] then invalid key s
  else
    let syn := (p.aeth.getD (0, 0)).1
    if syn < 0x20 then
      let s := ackBefore key (psnAdd p.psn 1) (delayAnswer key p.psn p.ts false s)
      -- a READ Request that the ACK passes over has lost its response
      match (s.qp key).flight with
      | x :: _ => if x.pkt.opcode = 0x0C ∧ psnSub p.psn x.psn < 2 ^ 23 ∧ x.span ≤ psnSub p.psn x.psn then
          retry key (psnAdd x.psn (x.got / mtuBytes q.conn.mtu)) s else s
      | [] => s
    else nakReceive key syn p.psn (delayAnswer key p.psn p.ts true s)

/-- Where an RDMA READ's data goes: a command entry is told, other posters' data goes to HBM. -/
def landRead (x : SentPkt) (b : Bytes) (s : State) : State :=
  match x.poster with
  | .dataRead h => s.notice (.data h x.got b)
  | _ => s.hbmPut (x.dest + x.got) b

/-- Whether a READ response packet is valid where its request stands, and its length agrees (R119, R132, step 7). After a request was sent again from a missing
PSN, both what is left of the first response and a new response may come. -/
def SentPkt.respOk (x : SentPkt) (mtu : Nat) (p : Packet) : Bool :=
  let left := x.want - x.got
  let first := p.opcode = 0x0D || p.opcode = 0x10
  let last := p.opcode = 0x0F || p.opcode = 0x10
  (if x.got = 0 then first else x.got = x.base || !first) && last == decide (left ≤ mtu) && p.payload.length == min mtu left
    && p.aeth.isSome == (first || last)

/-- A READ response as requester (R132, R134, R139, R140). One that is valid under R134 but answers no READ Request fails step 7. -/
def respReceive (key : Nat) (p : Packet) (s : State) : State :=
  let q := s.qp key
  let dup (s : State) : State := wasted key (s.count Ev.dup (engOf key))
  if psnSub q.sqPsn q.unaPsn ≤ psnSub p.psn q.unaPsn then dup s
  else
    let s := delayAnswer key p.psn p.ts false s
    -- everything before the oldest READ Request is acknowledged by its response
    let first := (q.flight.find? (fun x => x.pkt.opcode = 0x0C))
    match first with
    | none => invalid key s
    | some x =>
      let want := psnAdd x.psn (x.got / mtuBytes q.conn.mtu)
      if q.flight.any (fun y => y.pkt.opcode ≠ 0x0C && psnSub p.psn y.psn < y.span) then invalid key s
      else if p.psn ≠ want then
        (if psnSub p.psn want < 2 ^ 23 then retry key want s else dup s)
      else if !x.respOk (mtuBytes q.conn.mtu) p then invalid key s
      else
        let s := ackBefore key x.psn s
        let s := landRead x p.payload s
        let got := x.got + p.payload.length
        let fin := x.want ≤ got
        let s := s.onQp key (fun q => { q with flight := if fin then q.flight.drop 1 else q.flight.map (fun y => if y.psn = x.psn then { y with got := got } else y) })
        let s := advanceUna key (psnAdd p.psn 1) s
        if fin then workDone x.poster true s else s

/-! ### Protection (R145-R147) -/

/-- A region. -/
def State.region (s : State) (i : Nat) : Region := tgetD s.xp.regions i {}

/-- Change a region. -/
def State.onRegion (s : State) (i : Nat) (f : Region → Region) : State := { s with xp.regions := tmod s.xp.regions i {} f }

/-- The first of checks 1-4 of R145 that fails, or 0; an index of 65,536 or more is never valid (R144). -/
def State.accessFails (s : State) (pd key va len : Nat) (write : Bool) : Nat :=
  let r := s.region (key / 256)
  if 65536 ≤ key / 256 ∨ r.state ≠ 1 ∨ r.tag ≠ key % 256 then 1
  else if r.pd ≠ pd then 2
  else if !(r.access.testBit (if write then 1 else 0)) then 3
  else if va < r.va ∨ r.va + r.len < va + len then 4
  else 0

/-- ACCESS_CHECK (R145, R147): the HBM address and the region on which a reference is taken, or none after a failure. Length 0 is not checked. -/
def access (key rkey va len : Nat) (write : Bool) (s : State) : State × Option (Nat × Option Nat) :=
  let e := engOf key
  let q := s.qp key
  if len = 0 then (s, some (0, none))
  else
    let i := rkey / 256
    let (s, bad) := if 65536 ≤ i then (s, false) else (let x := s.hbmGet 72 i (s.objN 0x300006 0 + i * 32) 32; (x.1, x.2.2))
    let f := if bad then 1 else s.accessFails q.conn.pd rkey va len write
    if f = 0 then
      let r := s.region i
      let s := (s.onRegion i (fun r => { r with refs := r.refs + 1 })).onQp key (fun q => { q with refs := q.refs ++ [i] })
      (s.count Ev.accPass e, some (r.hbm + (va - r.va), some i))
    else
      let s := s.count (Ev.accF1 + (f - 1)) e
      let s := s.postEvent 4 e 6 (s.qpn key) q.ePsn rkey (va % 2 ^ 32)
      (sendNak key 0x62 q.ePsn (enterError key 6 s), none)

/-- A reference ends. -/
def dropRef (key : Nat) (i : Option Nat) (s : State) : State :=
  match i with
  | none => s
  | some i => (s.onRegion i (fun r => { r with refs := r.refs - 1 })).onQp key (fun q => { q with refs := q.refs.erase i })

/-! ### Receiving (R132-R141) -/

/-- SENDs accepted that the target has not yet taken, of the QPs that `p` picks: handed on in this command, or under way on a QP other than `key` (R189). -/
def State.sendsTaken (s : State) (key : Nat) (p : Nat → Bool) : Nat :=
  (s.xp.notices.filter (fun n => match n with | .capsule k _ => p k | _ => false)).length
    + (s.xp.qps.filter (fun q => q.1 ≠ key && p q.1 && q.2.inMsg.any (fun m => !m.write))).length

/-- Whether a SEND finds a receive resource (R141, R189): a free entry of its queue, or a free overflow entry where the QP has no binding. -/
def State.receiveRoom (s : State) (key : Nat) : Bool :=
  match tget s.tgt.binds key with
  | some b => (s.tgt.cmds.filter (fun c => c.1 < 262144 ∧ c.2.key = key ∧ c.2.ring.isNone)).length + s.sendsTaken key (· = key) < b.size
  | none => (s.tgt.cmds.filter (fun c => 262144 ≤ c.1)).length + s.sendsTaken key (fun k => (tget s.tgt.binds k).isNone) < 256

/-- The first chain Armed on a QP whose match the immediate meets, in order of arming (R174). -/
def State.chainFor (s : State) (qpn v : Nat) : Option Nat :=
  let c := s.cc.chains.filter (fun c => c.2.state = 1 ∧ c.2.trig = qpn ∧ (v &&& c.2.mask) = c.2.value)
  (c.foldl (fun (a : Option (Nat × Chain)) x => match a with
    | none => some x
    | some y => if x.2.order < y.2.order then some x else a) none).map (·.1)

/-- HBM address of a chain's trigger buffer (R171). -/
def State.trigBuf (s : State) (ck : Nat) : Nat := s.objN 0x300040 0 + ck / 256 * 2097152 + 1048576 + ck % 256 * 4096

/-- Matching immediates that find their persistent chain Running are counted (R177). -/
def countMissed (qpn v : Nat) (s : State) : State :=
  s.cc.chains.foldl (fun s c =>
    if c.2.state = 2 ∧ c.2.persistent ∧ c.2.trig = qpn ∧ (v &&& c.2.mask) = c.2.value then
      ({ s with cc.chains := tset s.cc.chains c.1 { c.2 with missed := c.2.missed + 1 } }).count Ev.chTrig (c.1 / 256)
    else s) s

/-- A complete SEND: a matching chain consumes it, or it goes to its consumer (R135, R174). -/
def sendComplete (key : Nat) (data : Bytes) (imm : Option Nat) (s : State) : State :=
  let qpn := s.qpn key
  match imm with
  | none => s.notice (.capsule key data)
  | some v =>
    if 4096 < data.length then s.notice (.capsule key data)
    else
      let s := countMissed qpn v s
      match s.chainFor qpn v with
      | none => s.notice (.capsule key data)
      | some ck =>
        let s := s.hbmPut (s.trigBuf ck) data
        ({ s with cc.chains := tmod s.cc.chains ck {} (fun c => { c with
            state := 2, cur := 0, imm := v, trigLen := data.length,
            matchEdge := s.bell.edges, lastBell := s.bell.number, base := if c.posted.isEmpty then 0 else c.base + 64 }) }).count Ev.chMatch (ck / 256)

/-- An expected packet has been accepted: `e_psn` and `msn` advance and its ACK is queued (R135, R138). -/
def accept (key : Nat) (p : Packet) (span : Nat) (done : Bool) (s : State) : State :=
  let s := (s.onQp key (fun q => { q with ePsn := psnAdd q.ePsn span, msn := if done then psnAdd q.msn 1 else q.msn, nakSent := false,
                                          sinceAck := q.sinceAck + 1, ackPend := true })).slot (4 + clOf key)
  if p.opcode = 0x0C then s
  else if p.ackReq ∨ s.objN 0x30000F 8 ≤ (s.qp key).sinceAck then sendAck key s else s

/-- Whether an opcode begins a message, and whether it ends one. -/
def opFirst (op : Nat) : Bool := [0x00, 0x04, 0x05, 0x06, 0x0A, 0x0B].contains op
def opLast (op : Nat) : Bool := [0x02, 0x03, 0x04, 0x05, 0x08, 0x09, 0x0A, 0x0B].contains op
def opWrite (op : Nat) : Bool := 0x06 ≤ op && op ≤ 0x0B
def opImm (op : Nat) : Bool := [0x03, 0x05, 0x09, 0x0B].contains op

/-- Whether a SEND or WRITE packet is valid in the QP's message and its lengths agree (R119, R132, step 7). -/
def Qp.packetOk (q : Qp) (p : Packet) : Bool :=
  let n := p.payload.length
  let m := mtuBytes q.conn.mtu
  p.opcode ≤ 0x0B && (opImm p.opcode == p.imm.isSome) &&
  (match q.inMsg with
   | none => opFirst p.opcode
   | some x => !opFirst p.opcode && x.write == opWrite p.opcode) &&
  (if opLast p.opcode then n ≤ m && (opFirst p.opcode || 1 ≤ n) else n == m) &&
  (if opWrite p.opcode then
     (match q.inMsg with
      | some x => if opLast p.opcode then n == x.left else n < x.left
      | none => match p.reth with
        | none => false
        | some r => if opLast p.opcode then n == r.2.2 else n < r.2.2)
   else p.reth.isNone)

/-- An expected SEND or WRITE packet (R135, R141, R145, R147). -/
def executeSend (key : Nat) (p : Packet) (s : State) : State :=
  let q := s.qp key
  if !q.packetOk p then invalid key s
  else
    let first := opFirst p.opcode
    let last := opLast p.opcode
    if opWrite p.opcode then
      let start : State × Option (Nat × Option Nat × Nat) := if first then
          (let r := p.reth.getD (0, 0, 0)
           match access key r.2.1 r.1 r.2.2 true s with
           | (s, some a) => (s, some (a.1, a.2, r.2.2))
           | (s, none) => (s, none))
        else (match q.inMsg with
          | some x => (s, some (x.hbm, x.region, x.left))
          | none => (s, none))
      match start with
      | (s, none) => s
      | (s, some (a, reg, left)) =>
        let s := s.hbmPut a p.payload
        let n := p.payload.length
        let s := if last then dropRef key reg (s.onQp key (fun q => { q with inMsg := none }))
          else s.onQp key (fun q => { q with inMsg := some { write := true, hbm := a + n, left := left - n, data := [], region := reg } })
        accept key p 1 last s
    else
      let armed := s.cc.chains.any (fun c => c.2.state = 1 ∧ c.2.trig = s.qpn key)
      let data := (match q.inMsg with | some x => x.data | none => []) ++ p.payload
      let consumed := last && (p.imm.any (fun v => data.length ≤ 4096 && (s.chainFor (s.qpn key) v).isSome))
      let needs := (first && !armed) || (last && !consumed)
      if needs ∧ !s.receiveRoom key then sendNak key (0x20 + s.objN 0x300010 14) q.ePsn s
      else
        let s := if last then s.onQp key (fun q => { q with inMsg := none })
          else s.onQp key (fun q => { q with inMsg := some { write := false, hbm := 0, left := 0, data := data, region := none } })
        let s := accept key p 1 last s
        if last then sendComplete key data p.imm s else s

/-- The response of an RDMA READ Request is queued, with its data as it stands now (R135, R145). -/
def answerRead (key : Nat) (p : Packet) (va rkey len : Nat) (s : State) : State × Bool :=
  match access key rkey va len false s with
  | (s, none) => (s, false)
  | (s, some (a, reg)) =>
    (s.onQp key (fun q => { q with readsIn := q.readsIn + 1, resps := q.resps ++ [{ psn := p.psn, data := s.mem.read a len, first := true, region := reg }] }), true)

/-- An expected RDMA READ Request (R119, R135). -/
def executeRead (key : Nat) (p : Packet) (s : State) : State :=
  let q := s.qp key
  match p.reth with
  | none => invalid key s
  | some (va, rkey, len) =>
    if q.inMsg.isSome ∨ q.conn.respDepth ≤ q.readsIn ∨ p.payload ≠ [] ∨ 2 ^ 31 < len then invalid key s
    else
      let x := answerRead key p va rkey len s
      if x.2 then accept key p (max 1 (ceilDiv len (mtuBytes q.conn.mtu))) true x.1 else x.1

/-- A duplicate RDMA READ Request: checked as a new access and answered again (R137). -/
def repeatRead (key : Nat) (p : Packet) (s : State) : State :=
  match p.reth with
  | none => invalid key s
  | some (va, rkey, len) => (answerRead key p va rkey len s).1

/-- PSN_CLASSIFY and execution of a request (R134-R137). -/
def requestReceive (key : Nat) (p : Packet) (s : State) : State :=
  let q := s.qp key
  let d := psnSub p.psn q.ePsn
  if d = 0 then (if p.opcode = 0x0C then executeRead key p s else executeSend key p s)
  else if d < 2 ^ 23 then
    let s := wasted key (s.count Ev.ahead (engOf key))
    if q.nakSent then s else sendNak key 0x60 q.ePsn (s.onQp key (fun q => { q with nakSent := true }))
  else
    let s := s.count Ev.dup (engOf key)
    if p.opcode = 0x0C then repeatRead key p s
    else
      let s := wasted key s
      if p.ackReq ∨ opLast p.opcode then sendAckTo key q.ePsn s else s

/-- A request on a mirror QP, which sends nothing (R179, R180). -/
def mirrorReceive (key : Nat) (sync : Bool) (p : Packet) (s : State) : State :=
  let e := engOf key
  let q := s.qp key
  if sync ∧ !opFirst p.opcode then wasted key (s.count Ev.mirPre e)
  else
    let s := if sync then
        { s.onQp key (fun q => { q with ePsn := p.psn }) with
          cc.mirrors := tmap s.cc.mirrors (fun _ m => if m.qpn = s.qpn key then { m with sync := false } else m) } else s
    let d := if sync then 0 else psnSub p.psn q.ePsn
    if p.opcode = 0x0C then wasted key (s.count Ev.mirRead e)
    else if d = 0 then executeSend key p s
    else if d < 2 ^ 23 then enterError key 9 ((s.count Ev.mirGap e).engineFault 81 e (s.qpn key))
    else wasted key (s.count Ev.mirDup e)

/-- Steps 2-8 of R132 for a packet whose context is at hand. -/
def processPacket (key : Nat) (p : Packet) (s : State) : State :=
  let e := engOf key
  let q := s.qp key
  let c := q.conn
  if p.dstIp ≠ c.localGid then s.count Ev.addrMis e
  else if !p.icrcOk then s.count Ev.icrc e
  else if p.pkey % 32768 ≠ c.pkey % 32768 then s.count Ev.pKey e
  else if q.state ≠ 2 then s.count Ev.notReady e
  else
    let mir := s.isMirror key
    let s := if p.ecn = 3 ∧ !mir then
        (let s := s.count Ev.ceRx e
         if (s.rate key).lastCnp.any (fun x => s.since x < s.objN 0x340001 48) then s.count Ev.ceSup e else sendCnp key s)
      else s
    if p.opcode = 0x81 then
      let r := s.rate key
      let act := r.ecn || (fld (s.rateProfile key) 31 1).testBit 0
      ((s.onRate key (fun r => { r with cnpRx := r.cnpRx + 1, cnpSeen := r.cnpSeen || act })).count Ev.cnpRx e).count Ev.cnpIgn e (b2n (!act && s.ccMode key ≠ 2))
    else if p.opcode = 0x11 then ackReceive key p s
    else if 0x0D ≤ p.opcode ∧ p.opcode ≤ 0x10 then respReceive key p s
    else if mir then
      mirrorReceive key (s.cc.mirrors.any (fun m => m.2.qpn = s.qpn key ∧ m.2.sync)) p s
    else requestReceive key p s

/-- A packet after any mirror translation (R129, R130, R132, step 1). -/
def receiveKnown (engine : Nat) (p : Packet) (s : State) : State :=
  let key := keyOf p.destQp
  if !s.genOk p.destQp ∨ (s.qp key).state = 0 ∨ engOf key ≠ engine then s.count Ev.unkQp engine
  else
    let waits := (s.cache (clOf key)).missQ.any (fun m => m.1 = key)
    let (s, hit) := lookup key s
    if hit ∧ !waits then processPacket key p s
    else if (s.cache (clOf key)).missQ.length < 64 then s.onCache (clOf key) (fun c => { c with missQ := c.missQ ++ [(key, p)] })
    else (wasted key (s.count Ev.missDisc (clOf key))).engineFault 74 engine (s.qpn key)

/-- MIRROR_INTAKE (R179): the BTH destination QP and each RETH's key are replaced. -/
def translate (engine : Nat) (p : Packet) (s : State) : State × Packet :=
  match s.cc.mirrors.find? (fun m => m.1 / 64 = engine ∧ m.2.intake = p.destQp) with
  | none => (s, p)
  | some m => (s.count Ev.mirTr engine, { p with destQp := m.2.qpn, reth := p.reth.map (fun r => (r.1, m.2.key, r.2.2)) })

/-- Bytes of a received packet, for the counters. -/
def rxSize (p : Packet) : Nat :=
  14 + ipSize p.dstIp + 8 + 12 + (if p.reth.isSome then 16 else 0) + (if p.imm.isSome then 4 else 0) + (if p.aeth.isSome then 4 else 0)
    + (if p.ieth.isSome then 4 else 0) + (p.payload.length + 3) / 4 * 4 + 4 + 4

/-- The engine, or the cluster that the packet names, starts nothing now (R43, R44). -/
def State.holdsBack (s : State) (engine : Nat) (p : Packet) : Bool :=
  !s.engineRuns engine || s.quiet (engine / 2) (3 + engine % 2) (p.destQp / 8 % 4)

/-- A RoCEv2 packet reaches an engine (R132): dropped while the engine's domain is off (R53), held while it or the cluster starts nothing (R43, R44). -/
def receivePacket (engine : Nat) (p : Packet) (s : State) : State :=
  if 8 ≤ engine ∨ !s.domReleased (3 * (engine / 2) + 2) then s
  else if s.holdsBack engine p then { s with xp.held := s.xp.held ++ [(engine, p)] }
  else
    let s := (s.count (Ev.rxPk0 + opGroup p.opcode) engine).count (Ev.rxBy0 + opGroup p.opcode) engine (rxSize p)
    let (s, p) := translate engine p s
    receiveKnown engine p s

/-- Work requests charged to a QP's 128 (R120). -/
def Qp.workCount (q : Qp) : Nat := q.sendQ.length + (q.flight.filter (·.last)).length

/-- Work posted to a QP enters its send queue in order while its context is cached and the queue has room (R120, R130). -/
def takePosted (key : Nat) (s : State) : State :=
  if !s.isCached key then s
  else
    let mine := ((s.cache (clOf key)).posted.filter (fun w => w.1 = key)).take (128 - (s.qp key).workCount)
    (s.onCache (clOf key) (fun c => { c with posted := mine.foldl (fun l w => l.erase w) c.posted })).onQp key (fun q => { q with sendQ := q.sendQ ++ mine.map (·.2) })

/-- Work goes to a Ready QP by way of its cluster's queue; an uncached context is fetched (R120, R130). -/
def postWork (key : Nat) (poster : Poster) (wr : WorkRequest) (s : State) : State :=
  if (s.qp key).state = 2 then
    takePosted key (lookup key (s.onCache (clOf key) (fun c => { c with posted := c.posted ++ [(key, { poster := poster, req := wr })] }))).1
  else workDone poster false s

/-- CONTEXT_FETCH_COMPLETE (R128, R129, R131): the context is installed and its waiting packets processed in arrival order; one that cannot be corrected moves
the QP to Error. It waits while the cluster starts nothing (R43, R44). -/
def fetchComplete (qpn : Nat) (bad : Bool) (s : State) : State :=
  let key := keyOf qpn
  let cl := clOf key
  match (s.cache cl).fetching.find? (fun f => f.1 = key % 512 ∧ f.2.any (fun e => e < s.bell.edges)) with
  | none => s
  | some f =>
    s.when (s.qpRuns key) (fun s =>
    let waiting := ((s.cache cl).missQ.filter (fun m => m.1 = key)).map (·.2)
    let s := s.onCache cl (fun c => { c with fetching := c.fetching.filter (fun x => x.1 ≠ f.1) })
    let (s, _, lost) := s.hbmGet (64 + engOf key) (s.qpn key) (s.objN 0x300005 0 + key * 1024) 1024
    if bad ∨ lost then
      let s := (if lost then s else s.engineFault (64 + engOf key) (engOf key) (s.qpn key)).count Ev.ctxErr cl
      if (s.qp key).state = 3 then dropWaiting key (s.postEvent 5 (engOf key) 8 (s.qpn key) (s.qp key).ePsn 0 0) else enterError key 8 s
    else
      let s := s.onCache cl (fun c => { c with cached := c.cached ++ [f.1], missQ := c.missQ.filter (fun m => m.1 ≠ key) })
      takePosted key (waiting.foldl (fun s p => processPacket key p s) s))

/-- CONTEXT_WRITEBACK_COMPLETE (R127, R158): also one whose context has gone back to the cache. -/
def writebackComplete (qpn : Nat) (s : State) : State :=
  let key := keyOf qpn
  match tget (s.cache (clOf key)).writing (key % 512) with
  | some b => storeBytes key b (s.onCache (clOf key) (fun c => { c with writeBack := c.writeBack.erase (key % 512), writing := terase c.writing (key % 512) }))
  | none => s

def execContextWritebackComplete (qpn : Nat) (s : State) := up s (writebackComplete qpn)

/-! ### The edge -/

/-- Held packets whose engine starts work again are taken in the order of their arrival (R44, R45). -/
def takeHeld (s : State) : State :=
  let l := s.xp.held
  l.foldl (fun s x => receivePacket x.1 x.2 s) { s with xp.held := [] }

/-- The packets of one engine that wait, in order, as far as write credit covers each (R33, R77). -/
def sendControlOf : List TxPacket → State → State
  | [], s => s
  | p :: r, s =>
    if s.cellsCovered p.engine (cellsOf (txSize p)) p.vid p.dstMac p.destQp then sendControlOf r (engineSend p { s with xp.control := s.xp.control.erase p }) else s

/-- The transmit path of each engine that runs takes what waits: CNPs, then ACKs and NAKs (R164); a halted device sends nothing (R152). -/
def sendControl (s : State) : State :=
  (List.range' 0 8).foldl (fun s e =>
    if s.engineRuns e && !s.flt.halted then
      let l := s.xp.control.filter (fun p => p.engine = e)
      sendControlOf (l.filter (fun p => p.opcode = 0x81) ++ l.filter (fun p => p.opcode ≠ 0x81)) s
    else s) s

/-- ACKs put off to this bell (R138). -/
def sendDueAcks (s : State) : State :=
  s.xp.qps.foldl (fun s k => if (s.qp k.1).ackPend ∧ s.qpRuns k.1 then sendAck k.1 s else s) s

/-- Engines send what waits without pacing, then start paced work within each pipeline's 16 slots (R157, R164, R526). -/
def startTransport (s : State) : State :=
  let s := sendControl s
  let s := s.xp.qps.foldl (fun s k =>
    let s := takePosted k.1 s
    let q := s.qp k.1
    let posted := (s.cache (clOf k.1)).posted.any (fun w => w.1 = k.1)
    let s := if q.state = 2 ∧ (posted ∨ !q.sendQ.isEmpty ∨ !q.resend.isEmpty ∨ !q.resps.isEmpty) then
        (let s := if s.isCached k.1 then s else (lookup k.1 s).1
         if s.mayPace k.1 then s else s.count Ev.bellsHeld (engOf k.1))
      else s
    sendMany k.1 16 s) s
  (List.range' 0 8).foldl (fun s e => if s.engineRuns e then serveResponses e 128 s else s) s

end Sys2Proof.Machine
end

