-- ==== Sys2Proof/Machine/TransportCmd.lean ====
section
/-! DEFINITION. The commands and timers of the transport engines (R121-R155), of congestion control (R158-R170), of triggered chains (R171-R178, R182) and of mirror bindings (R179, R182). -/

namespace Sys2Proof.Machine

abbrev qpSet : Nat := 0x300020
abbrev mrSet : Nat := 0x300028
abbrev ccSet : Nat := 0x340020
abbrev chainSet : Nat := 0x300048

/-- A write of `qp_command`, `mr_command`, `cc_command` or `chain_command` (R12). -/
def qpCommand (par : Bytes) (act : Bytes → State → State) (s : State) : State := s.command qpSet qpSet 96 par act
def mrCommand (par : Bytes) (act : Bytes → State → State) (s : State) : State := s.command mrSet mrSet 48 par act
def ccCommand (par : Bytes) (act : Bytes → State → State) (s : State) : State := s.command ccSet ccSet 16 par act
def chainCommand (par : Bytes) (act : Bytes → State → State) (s : State) : State := s.command chainSet chainSet 32 par act

/-! ### Queue pairs (R121-R125, R154) -/

/-- The least free slot of one cluster, as a key. -/
def State.freeSlot (s : State) (e cl : Nat) : Option Nat :=
  ((List.range' 0 512).find? (fun i => (s.qp (e * 2048 + cl * 512 + i)).state = 0)).map (fun i => e * 2048 + cl * 512 + i)

/-- The first free slot of an engine from a cluster on, modulo 4 (R122, step 3). -/
def State.engineSlot (s : State) (e cl : Nat) : Option Nat :=
  [0, 1, 2, 3].foldl (fun a i => match a with | some k => some k | none => s.freeSlot e ((cl + i) % 4)) none

/-- The first free slot among candidates from position `p` on, around the list (R122, step 3). -/
def State.placeIn (s : State) (cand : List Nat) (p cl : Nat) : Option Nat :=
  (List.range' 0 cand.length).foldl (fun a i => match a with
    | some k => some k
    | none => s.engineSlot (cand.getD ((p + i) % cand.length) 0) cl) none

/-- Engines whose domain PD3n+2 is on, ascending (R122). -/
def State.enginesOn (s : State) : List Nat := (List.range' 0 8).filter (fun e => s.domOn (3 * (e / 2) + 2))

/-- Placement (R122): candidates, then the slot; none for no engine on, `some none` for no free slot. -/
def State.place (s : State) (policy hint engine : Nat) : Option (Option Nat) :=
  let h := crc32 (le 4 s.xp.created)
  let on := s.enginesOn
  let cl := h / 8 % 4
  let byHash := s.placeIn on (h % 8 % on.length) cl
  let n := hint / 36
  if policy = 3 then (if on.contains engine then some (s.engineSlot engine cl) else none)
  else if on.isEmpty then none
  else if policy = 2 ∧ hint < 144 ∧ s.domOn (3 * n + 2) then
    (match s.placeIn [2 * n, 2 * n + 1] (h % 2) cl with
     | some k => some (some k)
     | none => some byHash)
  else some byHash

/-- QP_CREATE (R122, R154). -/
def qpCreate (p : Bytes) (s : State) : State :=
  let pd := fld p 2 2
  let hint := fld p 4 2
  let assoc := fld p 6 2
  let policy := if fld p 9 1 = 0 then s.objN 0x300004 2 else fld p 9 1
  if 4096 ≤ pd ∨ (144 ≤ hint ∧ hint ≠ 0xFFFF) ∨ 2048 ≤ assoc ∨ 3 < policy ∨ (policy = 3 ∧ 8 ≤ fld p 10 1) then s.done qpSet 1
  else if !s.xp.domains.contains pd then s.done qpSet 4
  else match s.place policy hint (fld p 10 1) with
    | none => s.done qpSet 5
    | some none => s.done qpSet 3
    | some (some key) =>
      let s := s.onQp key (fun q => { gen := q.gen, state := 1, conn := { pd := pd, assoc := assoc, respGroup := fld p 8 1 } })
      let s := s.onRate key (fun _ => {})
      let s := { s with xp.created := (s.xp.created + 1) % 2 ^ 32 }
      (storeContext key s).done qpSet 0 (le 4 (s.qpn key))

def execQpCreate (par : Bytes) (s : State) := up s (qpCommand par qpCreate)

/-- Connection parameters of a connect command (R154). DESIGN CHOICE (log 128): the octets of the GIDs stand in network order, here and in the context; the CRC-32 of `udp_sport` runs
over each QP number as 4 bytes, low byte first. -/
def connOf (key : Nat) (q : Qp) (p : Bytes) : QpConn :=
  { q.conn with
    remoteQpn := fld p 8 4, mtu := fld p 15 1, remoteGid := nfld p 20 16, localGid := nfld p 36 16, mac := fld p 52 6, vid := fld p 58 2,
    tclass := fld p 60 1, dscp := fld p 61 1, pkey := fld p 62 2, retryCnt := fld p 64 1, rnrRetry := fld p 65 1,
    initDepth := fld p 66 1, respDepth := fld p 67 1, ackTimeout := fld p 68 4,
    sport := 0xC000 + crc32 (le 4 (qpnOf key q.gen) ++ le 4 (fld p 8 4)) % 16384 }

/-- Ranges of a connect command (R123, R126, R154). -/
def State.connOk (s : State) (c : QpConn) : Bool :=
  1 ≤ c.mtu && c.mtu ≤ 3 && c.remoteQpn < 2 ^ 24 && c.vid ≤ 4094 && c.tclass < 8 && (s.objN 0x240001 8).testBit c.tclass && c.dscp < 64
    && c.retryCnt < 8 && c.rnrRetry < 8 && 1 ≤ c.initDepth && c.initDepth ≤ 16 && 1 ≤ c.respDepth && c.respDepth ≤ 16
    && 1 ≤ c.ackTimeout && c.ackTimeout < 2 ^ 24

/-- QP_CONNECT (R123, R154). -/
def qpConnect (p : Bytes) (s : State) : State :=
  let qpn := fld p 4 4
  let key := keyOf qpn
  let q := s.qp key
  let c := connOf key q p
  if !s.genOk qpn then s.done qpSet 1
  else if q.state ≠ 1 ∨ q.destroying.isSome then s.done qpSet 2
  else if !s.connOk c then s.done qpSet 1
  else
    let s := s.onQp key (fun q => { q with
      conn := c, state := 2, sqPsn := fld p 12 3, unaPsn := fld p 12 3, ePsn := fld p 16 3, msn := 0, ackPsn := fld p 16 3, retryLeft := c.retryCnt, rnrLeft := c.rnrRetry })
    (storeContext key (connectRate key s)).done qpSet 0

def execQpConnect (par : Bytes) (s : State) := up s (qpCommand par qpConnect)

/-- QP_TO_ERROR (R123): from Init or Ready, with cause 10. -/
def qpToError (p : Bytes) (s : State) : State :=
  let qpn := fld p 4 4
  let q := s.qp (keyOf qpn)
  if !s.genOk qpn then s.done qpSet 1
  else if (q.state ≠ 1 ∧ q.state ≠ 2) ∨ q.destroying.isSome then s.done qpSet 2
  else (enterError (keyOf qpn) 10 s).done qpSet 0

/-- QP_DESTROY (R125): accepted in Init or Error; it completes at a later edge. -/
def qpDestroy (p : Bytes) (s : State) : State :=
  let qpn := fld p 4 4
  let q := s.qp (keyOf qpn)
  if !s.genOk qpn then s.done qpSet 1
  else if (q.state ≠ 1 ∧ q.state ≠ 3) ∨ q.destroying.isSome then s.done qpSet 2
  else s.onQp (keyOf qpn) (fun q => { q with destroying := some s.bell.edges })

def execQpDestroy (par : Bytes) (s : State) := up s (qpCommand par qpDestroy)

/-- The next generation of a slot (R121). -/
def nextGen (g : Nat) : Nat := if g = 1023 then 1 else g + 1

/-- QP_DESTROY_COMPLETE (R125): the first edge with no item of the QP in flight. -/
def qpDestroyComplete (qpn : Nat) (s : State) : State :=
  let key := keyOf qpn
  let q := s.qp key
  let c := s.cache (clOf key)
  s.when (s.genOk qpn && q.destroying.any (· < s.bell.edges) && !c.missQ.any (fun m => m.1 = key)) (fun s =>
    let s := s.onQp key (fun q => { gen := nextGen q.gen })
    let s := s.onCache (clOf key) (fun c => { c with
      cached := c.cached.erase (key % 512), writeBack := c.writeBack.erase (key % 512), writing := terase c.writing (key % 512), fetching := c.fetching.filter (fun f => f.1 ≠ key % 512) })
    let s := s.onRate key (fun _ => {})
    (s.hbmPut (s.objN 0x300005 0 + key * 1024) (zeros 1024)).doneNow qpSet 0)

def execQpDestroyComplete (qpn : Nat) (s : State) := up s (qpDestroyComplete qpn)

/-- QP_QUERY (R126, R154). -/
def qpQuery (p : Bytes) (s : State) : State :=
  let qpn := fld p 4 4
  if !s.genOk qpn then s.done qpSet 1 else s.done qpSet 0 (publicContext (keyOf qpn) (s.qp (keyOf qpn)))

def execQpQuery (par : Bytes) (s : State) := up s (qpCommand par qpQuery)

/-! ### Protection domains and regions (R143-R149, R155) -/

/-- The least number from `i` on, `n` at most, that a list lacks. -/
def leastFree (l : List Nat) : Nat → Nat → Option Nat
  | 0, _ => none
  | n + 1, i => if l.contains i then leastFree l n (i + 1) else some i

/-- DOMAIN_ALLOCATE (R143). -/
def domainAllocate (_ : Bytes) (s : State) : State :=
  match leastFree s.xp.domains 4096 0 with
  | some d => ({ s with xp.domains := s.xp.domains ++ [d] }).done qpSet 0 (le 2 d)
  | none => s.done qpSet 3

def execDomainAllocate (par : Bytes) (s : State) := up s (qpCommand par domainAllocate)

/-- Whether a QP or a region names a domain (R143). -/
def State.domainUsed (s : State) (d : Nat) : Bool :=
  s.xp.qps.any (fun q => q.2.state ≠ 0 ∧ q.2.conn.pd = d) || s.xp.regions.any (fun r => r.2.state ≠ 0 ∧ r.2.pd = d)

/-- DOMAIN_FREE (R143). -/
def domainFree (p : Bytes) (s : State) : State :=
  let d := fld p 2 2
  if 4096 ≤ d then s.done qpSet 1
  else if !s.xp.domains.contains d then s.done qpSet 4
  else if s.domainUsed d then s.done qpSet 2
  else ({ s with xp.domains := s.xp.domains.erase d }).done qpSet 0

def execDomainFree (par : Bytes) (s : State) := up s (qpCommand par domainFree)

/-- The next Free region from index `i` on, around the table (R146). -/
def State.freeRegion (s : State) : Nat → Nat → Option Nat
  | 0, _ => none
  | n + 1, i => if (s.region i).state = 0 then some i else s.freeRegion n ((i + 1) % 65536)

/-- Ranges of a registration (R146, R155). -/
def State.registerOk (s : State) (pd hbm len : Nat) : Bool :=
  let base := s.objN 0x300008 0
  let size := s.objN 0x300009 0
  pd < 4096 && 1 ≤ len && len ≤ size && hbm % 4096 == 0 && base ≤ hbm && hbm + len ≤ base + size

/-- MR_REGISTER (R146, R155). -/
def mrRegister (p : Bytes) (s : State) : State :=
  let pd := fld p 2 2
  let hbm := fld p 8 8
  let len := fld p 24 8
  if !s.registerOk pd hbm len then s.done mrSet 1
  else if !s.xp.domains.contains pd then s.done mrSet 4
  else match s.freeRegion 65536 (match s.xp.lastRegion with | some i => (i + 1) % 65536 | none => 0) with
    | none => s.done mrSet 3
    | some i =>
      let tag := (s.region i).tag
      let s := s.onRegion i (fun r => { state := 1, pd := pd, access := fld p 4 1 % 4, tag := r.tag, hbm := hbm, va := fld p 16 8, len := len })
      let a := s.objN 0x300006 0 + i * 32
      let s := { s with xp.lastRegion := some i, mem := s.mem.lay a 32 (.free s.freeIdx) }
      (s.took).done mrSet 0 (le 4 (i * 256 + tag))

def execMrRegister (par : Bytes) (s : State) := up s (mrCommand par mrRegister)

/-- MR_REVOKE (R148): Draining at the next edge, when the command completes. Every engine that is on takes the revocation and counts it. DESIGN CHOICE (log 107). -/
def mrRevoke (p : Bytes) (s : State) : State :=
  let key := fld p 4 4
  let r := s.region (key / 256)
  if 65536 ≤ key / 256 ∨ r.state ≠ 1 ∨ r.tag ≠ key % 256 ∨ r.revoke then s.done mrSet 2
  else (s.enginesOn.foldl (fun s e => s.count Ev.revoke e) (s.onRegion (key / 256) (fun r => { r with revoke := true }))).done mrSet 0

def execMrRevoke (par : Bytes) (s : State) := up s (mrCommand par mrRevoke)

/-- MR_QUERY (R155). -/
def mrQuery (p : Bytes) (s : State) : State :=
  let i := fld p 4 4 / 256
  let r := s.region i
  if 65536 ≤ i then s.done mrSet 1
  else s.done mrSet 0 (le 1 r.state ++ le 1 r.access ++ le 2 r.pd ++ le 4 r.refs ++ le 8 r.hbm ++ le 8 r.va ++ le 8 r.len ++ le 8 r.drainBell ++ le 1 r.tag)

def execMrQuery (par : Bytes) (s : State) := up s (mrCommand par mrQuery)

/-- At an edge, revoked regions become Draining (R148). -/
def startDrains (s : State) : State :=
  { s with xp.regions := tmap s.xp.regions (fun _ r =>
      if r.revoke then { r with revoke := false, state := 2, drainEdge := s.bell.edges, drainBell := s.bell.number } else r) }

/-- MR_DRAIN_COMPLETE (R148): the tag advances and the region becomes Free. -/
def mrDrainComplete (i : Nat) (s : State) : State :=
  let r := s.region i
  s.when (r.state = 2 && r.refs = 0 && r.drainEdge < s.bell.edges) (fun s =>
    s.onRegion i (fun r => { tag := if r.tag = 255 then 1 else r.tag + 1 }))

def execMrDrainComplete (idx : Nat) (s : State) := up s (mrDrainComplete idx)

/-- Whether a QP holds a reference on a region: for an access, or for a chain's work posted on it (R147, R149, R175). -/
def State.holdsRef (s : State) (key i : Nat) : Bool :=
  let q := s.qp key
  let posters := q.sendQ.map (·.poster) ++ q.flight.map (·.poster) ++ ((s.cache (clOf key)).posted.filter (fun w => w.1 = key)).map (fun w => w.2.poster)
  q.refs.contains i || posters.any (fun p => match p with
    | .chain e c w => (tgetD s.cc.chains (e * 256 + c) {}).held.contains (w, i)
    | _ => false)

/-- REVOKE_TIMEOUT (R149): the QPs that hold references enter Error with cause 7; their engines count it. -/
def revokeTimeout (i : Nat) (s : State) : State :=
  let r := s.region i
  s.when (r.state = 2 && 0 < r.refs && s.objN 0x300011 97657 ≤ s.since r.drainEdge) (fun s =>
    let qs := (s.xp.qps.map (·.1)).filter (fun k => s.holdsRef k i)
    let s := qs.foldl (fun s k => enterError k 7 s) s
    ((qs.map engOf).eraseDups).foldl (fun s e => s.count Ev.forceRev e) (s.fault 75 i))

/-! ### Timers (R139, R140) -/

/-- RETRANSMIT_TIMEOUT (R139). -/
def retransmitTimeout (qpn : Nat) (s : State) : State :=
  let key := keyOf qpn
  let q := s.qp key
  s.when (s.genOk qpn && q.state = 2 && q.timer.any (fun e => q.conn.ackTimeout ≤ s.since e)) (fun s =>
    let s := s.count Ev.timerExp (engOf key)
    match q.flight with
    | x :: _ => retry key (if x.pkt.opcode = 0x0C then psnAdd x.psn (x.got / mtuBytes q.conn.mtu) else x.psn) s
    | [] => s.onQp key (fun q => { q with timer := none }))

/-- RNR_WAIT_EXPIRY (R140): back to the NAK's PSN. -/
def rnrWaitExpiry (qpn : Nat) (s : State) : State :=
  let key := keyOf qpn
  let q := s.qp key
  match q.rnrWait with
  | some (e, n, psn) => s.when (s.genOk qpn && q.state = 2 && n ≤ s.since e) (fun s =>
      goBack key psn (s.onQp key (fun q => { q with rnrWait := none })))
  | none => s

def execRnrWaitExpiry (qpn : Nat) (s : State) := up s (rnrWaitExpiry qpn)

/-! ### Rates (R161-R167) -/

/-- Truncated product R × (1 - d) with d = min(`md_beta`/256 × (`srtt` - target) / `srtt`, `md_max`/256) (R162). -/
def delayDecrease (p : Bytes) (r srtt : Nat) : Nat :=
  let n := min (fld p 26 1 * (srtt - fld p 12 4)) (fld p 27 1 * srtt)
  max (r * (256 * srtt - n) / (256 * srtt)) (fld p 4 4 * 1024)

/-- The delay law on the interval that has ended (R162). -/
def delayLaw (p : Bytes) (x : Rate) : Rate :=
  match x.srtt with
  | none => x
  | some d =>
    if !x.plausible then x
    else if d ≤ fld p 12 4 then (if x.sent then { x with r := min (x.r + fld p 24 2 * 1024) (fld p 8 4 * 1024) } else x)
    else { x with r := delayDecrease p x.r d }

/-- R166 after one or more CNPs in the interval. -/
def cnpLaw (p : Bytes) (x : Rate) : Rate :=
  let g := fld p 32 2
  { x with rT := x.r, r := max (x.r * (131072 - x.alpha) / 131072) (fld p 4 4 * 1024), alpha := (x.alpha * (1024 - g) + 65536 * g) / 1024, stage := 0 }

/-- The ECN law (R166). -/
def ecnLaw (p : Bytes) (x : Rate) : Rate :=
  let g := fld p 32 2
  if x.cnpSeen then cnpLaw p x
  else
    let x := { x with alpha := x.alpha * (1024 - g) / 1024 }
    if x.sent then
      let st := x.stage + 1
      let t := if fld p 34 1 < st then min (x.rT + fld p 36 4 * 1024) (fld p 8 4 * 1024) else x.rT
      { x with stage := st, rT := t, r := (x.r + t) / 2 }
    else x

/-- An interval sent a timed packet and got no plausible sample; a void one is neither (R160, R161). -/
def Rate.missing (x : Rate) : Bool := x.sentTimed && !x.plausible && !x.voided

/-- To ECN mode, or to delay mode (R167). -/
def toEcn (x : Rate) : Rate := { x with ecn := true, rT := x.r, alpha := 65536, stage := 0, miss := 0, good := 0 }
def toDelay (x : Rate) : Rate := { x with ecn := false, rT := x.r, miss := 0, good := 0 }

/-- The law of the mode in force (R162, R165-R167). A CNP that acts in delay mode is the interval's one decrease. -/
def rateLaw (p : Bytes) (mode : Nat) (x : Rate) : Rate :=
  if mode = 2 then x
  else if x.ecn then ecnLaw p x
  else if x.cnpSeen then cnpLaw p x
  else delayLaw p x

/-- The counts of missing and sampled intervals and a move between the laws (R167). -/
def chooseLaw (p : Bytes) (mode : Nat) (x : Rate) : Rate :=
  let x := { x with miss := if x.plausible then 0 else if x.missing then min (x.miss + 1) 255 else x.miss
                    good := if x.plausible then min (x.good + 1) 255 else if x.missing then 0 else x.good }
  if mode ≠ 0 then x
  else if !x.ecn ∧ fld p 29 1 ≤ x.miss then toEcn x
  else if x.ecn ∧ fld p 30 1 ≤ x.good then toDelay x
  else x

/-- A change of `cc_mode` that waited for this edge (R167). -/
def takeMode (x : Rate) : Rate :=
  match x.pendMode with
  | none => x
  | some m => { (if m = 1 then toEcn x else toDelay x) with ccMode := some m, pendMode := none }

/-- The interval's counters start anew; a timed packet unanswered for a whole further interval is abandoned (R159, R161). -/
def endInterval (x : Rate) : Rate :=
  { x with
    idle := if x.sent then 0 else x.idle + 1
    sent := false, sentTimed := false, plausible := false, voided := false, cnpSeen := false
    timed := match x.timed with
      | none => none
      | some t => if 1 ≤ t.age then none else some { t with age := t.age + 1 } }

/-- One QP at a rate-update edge (R162-R167). -/
def updateRate (key : Nat) (s : State) : State :=
  let e := engOf key
  let p := s.rateProfile key
  let mode := s.ccMode key
  let x := s.rate key
  let y := chooseLaw p mode (rateLaw p mode x)
  let z := endInterval (takeMode y)
  let s := { s with cc.rates := tset s.cc.rates key z }
  let s := ((s.count Ev.rateDec e (b2n (y.r < x.r))).count Ev.rateInc e (b2n (x.r < y.r))).count Ev.abTimed e (b2n (x.timed.isSome && z.timed.isNone))
  let s := ((s.count Ev.intSam e (b2n x.plausible)).count Ev.intMis e (b2n x.missing)).count Ev.intIdle e (b2n (!x.sent))
  (s.count Ev.toEcn e (b2n (!x.ecn && z.ecn))).count Ev.toDelay e (b2n (x.ecn && !z.ecn && z.ccMode ≠ some 2))

/-- Every profile as written comes into force (R169). -/
def loadProfiles (s : State) : State :=
  { s with cc.profiles := (List.range' 0 16).map (fun i => (i, s.obj (0x340010 + i) defaultProfile)) }

/-- RATE_UPDATE (R29, R162): at an edge whose bell number is a multiple of 16, or a discontinuity. -/
def rateUpdate (s : State) : State :=
  s.when ((s.bell.number % 16 = 0 || s.bell.discontinuity) && s.cc.lastUpdate < s.bell.edges) (fun s =>
    let s := loadProfiles { s with cc.lastUpdate := s.bell.edges }
    s.xp.qps.foldl (fun s q => if q.2.state = 2 then updateRate q.1 s else s) s)

def execRateUpdate (s : State) := up s rateUpdate

/-- IDLE_RESET (R163). -/
def idleReset (qpn : Nat) (s : State) : State :=
  let key := keyOf qpn
  let p := s.rateProfile key
  s.when (s.genOk qpn && (s.qp key).state = 2 && fld p 40 4 ≠ 0 && fld p 40 4 ≤ (s.rate key).idle) (fun s =>
    (s.onRate key (fun r => { r with r := fld p 0 4 * 1024, rT := fld p 0 4 * 1024, a := ((fld p 44 4 * 65536 : Nat) : Int), alpha := 65536,
                                     srtt := none, idle := 0 })).count Ev.idleRst (engOf key))

def execIdleReset (qpn : Nat) (s : State) := up s (idleReset qpn)

/-- CC_SET_PROFILE_MODE (R158, R167, R170): on a Ready QP a change of the mode waits for the next rate-update edge. -/
def ccSetProfileMode (p : Bytes) (s : State) : State :=
  let qpn := fld p 4 4
  let key := keyOf qpn
  let prof := fld p 8 1
  let m := fld p 9 1
  if !s.genOk qpn ∨ 15 < prof ∨ 2 < m then s.done ccSet 1
  else if (s.qp key).state = 0 then s.done ccSet 2
  else
    let ready := (s.qp key).state = 2
    let same := s.ccMode key = m
    (s.onRate key (fun r => { r with profile := some prof, ccMode := if ready then r.ccMode else some m, pendMode := if ready ∧ !same then some m else none })).done ccSet 0

def execCcSetProfileMode (par : Bytes) (s : State) := up s (ccCommand par ccSetProfileMode)

/-- CC_QUERY_RATE (R170). -/
def ccQueryRate (p : Bytes) (s : State) : State :=
  let qpn := fld p 4 4
  let key := keyOf qpn
  let r := s.rate key
  if !s.genOk qpn then s.done ccSet 1
  else s.done ccSet 0 (le 4 r.r ++ le 4 r.rT ++ leI 4 r.a ++ le 4 (r.srtt.getD 0xFFFFFFFF) ++ le 2 (min r.alpha 65535)
    ++ le 1 (if s.ccMode key = 2 then 2 else b2n r.ecn) ++ le 1 (min r.stage 255) ++ le 1 r.miss ++ le 1 r.good
    ++ le 2 (r.profile.getD (s.objN 0x340004 0)) ++ le 8 r.cnpRx ++ le 8 r.cnpTx)

def execCcQueryRate (par : Bytes) (s : State) := up s (ccCommand par ccQueryRate)

/-! ### Triggered chains (R171-R178, R182) -/

/-- A chain's entry. -/
def State.chain (s : State) (ck : Nat) : Chain := tgetD s.cc.chains ck {}

/-- Change a chain. -/
def State.onChain (s : State) (ck : Nat) (f : Chain → Chain) : State := { s with cc.chains := tmod s.cc.chains ck {} f }

/-- Address of a chain's WR (R171). -/
def State.wrAddr (s : State) (ck i : Nat) : Nat := s.objN 0x300040 0 + ck / 256 * 2097152 + ck % 256 * 4096 + i * 64

/-- One WR's bytes as HBM holds them. -/
def State.wrBytes (s : State) (ck i : Nat) : Bytes := s.mem.read (s.wrAddr ck i) 64

/-- All of a chain's WRs. -/
def State.chainBytes (s : State) (ck n : Nat) : Bytes := s.mem.read (s.wrAddr ck 0) (n * 64)

/-- What arm checks of one WR (R173), and for a host's chain (R178). -/
def State.wrOk (s : State) (ck trig i : Nat) : Bool :=
  let w := s.wrBytes ck i
  let ex := fld w 4 4
  let tq := s.qp (keyOf trig)
  let reg := s.region (fld w 8 4 / 256)
  let host := 192 ≤ ck % 256
  1 ≤ fld w 0 1 && fld w 0 1 ≤ 5 && engOf (keyOf ex) = ck / 256 && ex < 2 ^ 24 && fld w 12 4 ≤ 1048576
    && (!host || ((s.qp (keyOf ex)).conn.assoc = tq.conn.assoc && ((fld w 1 1).testBit 1 || (reg.state = 1 && reg.pd = tq.conn.pd && reg.tag = fld w 8 4 % 256))))

/-- The chain that a host's chain goes to: the lowest Idle one of 192-255 on the engine (R221). -/
def State.hostChain (s : State) (e : Nat) : Option Nat := (List.range' 192 64).find? (fun c => (s.chain (e * 256 + c)).state = 0)

/-- CHAIN_ARM (R171, R173, R178, R182). A host's chain, one of 192-255, is the one that `hostChain` allocates (R221, log 108). -/
def chainArm (p : Bytes) (s : State) : State :=
  let e := fld p 1 1
  let ck := e * 256 + fld p 2 1
  let trig := fld p 4 4
  let n := fld p 8 1
  let c := s.chain ck
  let tq := s.qp (keyOf trig)
  if 8 ≤ e ∨ n = 0 ∨ 64 < n ∨ !s.genOk trig then s.done chainSet 1
  else if 192 ≤ fld p 2 1 ∧ s.hostChain e ≠ some (fld p 2 1) then s.done chainSet 2
  else if (c.state ≠ 0 ∧ c.state ≠ 3) ∨ c.disarm.isSome ∨ tq.state ≠ 2 ∨ engOf (keyOf trig) ≠ e then s.done chainSet 2
  else if 16 ≤ (s.cc.chains.filter (fun x => (x.2.state = 1 ∨ x.2.state = 2) ∧ x.2.trig = trig)).length then s.done chainSet 3
  else if !(List.range' 0 n).all (s.wrOk ck trig) then s.done chainSet 1
  else
    let s := s.onChain ck (fun c => { c with
      state := 1, len := n, persistent := (fld p 9 1).testBit 0, trig := trig, value := fld p 12 4, mask := fld p 16 4, cur := 0, failed := 0, cause := 0,
      crc := crc32 (s.chainBytes ck n), order := s.cc.armSeq })
    ({ s with cc.armSeq := s.cc.armSeq + 1 }).done chainSet 0

def execChainArm (par : Bytes) (s : State) := up s (chainCommand par chainArm)

/-- CHAIN_DISARM (R177): takes effect at the next edge. -/
def chainDisarm (p : Bytes) (s : State) : State :=
  let ck := fld p 1 1 * 256 + fld p 2 1
  let c := s.chain ck
  if 8 ≤ fld p 1 1 then s.done chainSet 1
  else if c.state ≠ 1 ∧ c.state ≠ 2 then s.done chainSet 2
  else s.onChain ck (fun c => { c with disarm := some s.bell.edges })

def execChainDisarm (par : Bytes) (s : State) := up s (chainCommand par chainDisarm)

/-- At an edge, disarms of the bell before take effect (R177). -/
def takeDisarms (s : State) : State :=
  { s with cc.chains := tmap s.cc.chains (fun _ c =>
      if c.disarm.isSome then
        (if c.state = 1 then { c with state := 0 } else if c.state = 2 then { c with state := 0, cause := 5 } else c)
      else c) }

/-- CHAIN_DISARM_COMPLETE (R177). -/
def chainDisarmComplete (engine chain : Nat) (s : State) : State :=
  let ck := engine * 256 + chain
  s.when ((s.chain ck).disarm.any (· < s.bell.edges) && (s.chain ck).posted.isEmpty) (fun s =>
    (s.onChain ck (fun c => { c with disarm := none })).doneNow chainSet 0)

def execChainDisarmComplete (engine chain : Nat) (s : State) := up s (chainDisarmComplete engine chain)

/-- CHAIN_QUERY (R182). -/
def chainQuery (p : Bytes) (s : State) : State :=
  let c := s.chain (fld p 1 1 * 256 + fld p 2 1)
  if 8 ≤ fld p 1 1 then s.done chainSet 1
  else s.done chainSet 0 (le 1 c.state ++ le 1 c.len ++ le 1 (b2n c.persistent) ++ zeros 1 ++ le 4 c.trig ++ le 4 c.value ++ le 4 c.mask
    ++ le 1 c.cur ++ le 1 c.failed ++ le 1 c.cause ++ zeros 5 ++ le 8 c.runs ++ le 8 c.lastBell ++ le 8 c.missed)

def execChainQuery (par : Bytes) (s : State) := up s (chainCommand par chainQuery)

/-- The local buffer of a chain WR (R172, R175): its HBM address and the region to hold, or none where the check fails. -/
def State.wrLocal (s : State) (c : Chain) (ck pd : Nat) (w : Bytes) : Option (Nat × Option Nat) :=
  let len := fld w 12 4
  let off := fld w 16 8
  let key := fld w 8 4
  if (fld w 1 1).testBit 1 then (if off + len ≤ c.trigLen then some (s.trigBuf ck + off, none) else none)
  else if len = 0 then some (0, none)
  else
    let r := s.region (key / 256)
    if s.accessFails pd key (r.va + off) len (fld w 0 1 = 5) = 0 then some (r.hbm + off, some (key / 256)) else none

/-- CHAIN_WR_START (R174-R176). -/
def chainWrStart (engine chain : Nat) (s : State) : State :=
  let ck := engine * 256 + chain
  let c := s.chain ck
  let w := s.wrBytes ck c.cur
  let ex := fld w 4 4
  let q := s.qp (keyOf ex)
  let fenced := (fld w 1 1).testBit 0 && 0 < c.cur && c.posted.contains (c.base + c.cur - 1)
  s.when (s.engineRuns engine && c.state = 2 && c.matchEdge < s.bell.edges && c.cur < c.len && tgetD s.cc.started engine 0 < 8 && !fenced
      && q.workCount < 128) (fun s =>
    let s := { s with cc.started := tmod s.cc.started engine 0 (· + 1) }
    if crc32 (s.chainBytes ck c.len) ≠ c.crc then failChain ck c.cur 4 s
    else if !s.genOk ex ∨ q.state ≠ 2 then failChain ck c.cur 1 s
    else match s.wrLocal c ck q.conn.pd w with
      | none => failChain ck c.cur 2 s
      | some (a, reg) =>
        let op := fld w 0 1
        let src := fld w 1 1 / 4 % 4
        let imm := if src = 0 then fld w 36 4 else if src = 1 then c.imm else Nat.xor c.imm (fld w 36 4)
        let wr : WorkRequest := { op := op, remoteVa := fld w 24 8, remoteKey := fld w 32 4, len := fld w 12 4,
                                  data := if op = 5 then [] else s.mem.read a (fld w 12 4), imm := imm, dest := a }
        let s := s.onChain ck (fun c => { c with
          cur := c.cur + 1, posted := c.posted ++ [c.base + c.cur], held := match reg with | some i => c.held ++ [(c.base + c.cur, i)] | none => c.held })
        let s := match reg with | some i => s.onRegion i (fun r => { r with refs := r.refs + 1 }) | none => s
        postWork (keyOf ex) (.chain engine chain (c.base + c.cur)) wr (s.count Ev.chWr engine))

/-- A run whose last request has completed ends: a persistent chain is Armed again, another Idle (R173). What an earlier, failed run has left posted does not hold it up. -/
def chainRunEnd (engine ck : Nat) (s : State) : State :=
  let c := s.chain ck
  if c.state = 2 ∧ c.cur = c.len ∧ c.posted.all (· < c.base) then
    (s.onChain ck (fun c => { c with state := if c.persistent then 1 else 0, runs := c.runs + 1 })).count Ev.chDone engine
  else s

/-- CHAIN_WR_COMPLETE (R172, R173, R175): the oldest acknowledged WR of that index. -/
def chainWrComplete (engine chain idx : Nat) (s : State) : State :=
  let ck := engine * 256 + chain
  let c := s.chain ck
  let wr := (c.acked.find? (fun n => n % 64 = idx)).getD idx
  s.when (c.acked.contains wr) (fun s =>
    let s := match c.held.find? (fun h => h.1 = wr) with
      | some h => s.onRegion h.2 (fun r => { r with refs := r.refs - 1 })
      | none => s
    chainRunEnd engine ck (s.onChain ck (fun c => { c with posted := c.posted.erase wr, acked := c.acked.erase wr, held := c.held.filter (fun h => h.1 ≠ wr) })))

def execChainWrComplete (engine chain wr : Nat) (s : State) := up s (chainWrComplete engine chain wr)

/-! ### Mirror bindings (R179, R180, R182) -/

/-- MIRROR_BIND (R179, R182). -/
def mirrorBind (p : Bytes) (s : State) : State :=
  let e := fld p 1 1
  let intake := fld p 4 4
  let loc := fld p 8 4
  let psn := fld p 16 4
  let all := psn = 0xFFFFFFFF
  if 8 ≤ e ∨ intake % 8 ≠ e ∨ 2 ^ 24 ≤ intake ∨ (!all ∧ 2 ^ 24 ≤ psn) then s.done chainSet 1
  else if !s.genOk loc ∨ (s.qp (keyOf loc)).state ≠ 2 ∨ engOf (keyOf loc) ≠ e ∨ s.cc.mirrors.any (fun m => m.1 / 64 = e ∧ m.2.intake = intake) then s.done chainSet 2
  else match (List.range' 0 64).find? (fun i => (tget s.cc.mirrors (e * 64 + i)).isNone) with
    | none => s.done chainSet 3
    | some i =>
      let s := { s with cc.mirrors := tset s.cc.mirrors (e * 64 + i) { intake := intake, qpn := loc, key := fld p 12 4, sync := all } }
      let s := if all then s else s.onQp (keyOf loc) (fun q => { q with ePsn := psn })
      s.done chainSet 0 (le 1 i)

def execMirrorBind (par : Bytes) (s : State) := up s (chainCommand par mirrorBind)

/-- MIRROR_UNBIND (R182). -/
def mirrorUnbind (p : Bytes) (s : State) : State :=
  let e := fld p 1 1
  let intake := fld p 4 4
  match s.cc.mirrors.find? (fun m => m.1 / 64 = e ∧ m.2.intake = intake) with
  | none => s.done chainSet 1
  | some m => ({ s with cc.mirrors := terase s.cc.mirrors m.1 }).done chainSet 0

def execMirrorUnbind (par : Bytes) (s : State) := up s (chainCommand par mirrorUnbind)

end Sys2Proof.Machine
end

