-- ==== Sys2Proof/Machine/Target.lean ====
section
/-! DEFINITION. The fabric target: intake, checks, data descriptors, completions, inbox and outbox, associations (R184-R197, R205-R224). -/

namespace Sys2Proof.Machine

abbrev targetSet : Nat := 0x400020

/-- The target's region runs (R47). -/
def State.targetRuns (s : State) : Bool := s.runs 4 4

/-- A command entry. -/
def State.cmd (s : State) (h : Nat) : Option Cmd := tget s.tgt.cmds h

/-- Change a command entry that exists. -/
def State.onCmd (s : State) (h : Nat) (f : Cmd → Cmd) : State :=
  match tget s.tgt.cmds h with
  | some c => { s with tgt.cmds := tset s.tgt.cmds h (f c) }
  | none => s

/-- The entry of a command by its parse number. -/
def State.byOrder (s : State) (u : Nat) : Option (Nat × Cmd) := s.tgt.cmds.find? (fun c => c.2.order = u)

/-- A host association. -/
def State.assoc (s : State) (a : Nat) : Assoc := tgetD s.tgt.assocs a {}

/-- A namespace. -/
def State.ns (s : State) (n : Nat) : Namespace := tgetD s.tgt.namespaces n {}

/-- The power-fail warning has been seen in an earlier bell (R218). -/
def State.pwrStops (s : State) : Bool := s.tgt.pwrfail.any (· < s.bell.edges)

/-- A command was parsed after the edge that follows the power-fail warning (R218). -/
def State.pwrStopped (s : State) (c : Cmd) : Bool := s.tgt.pwrfail.any (· < c.edge)

/-! ### Fields of a submission entry (R194, R197)

Each field lies at the bytes that NVMe gives it, in network byte order, as every field of a capsule (R3). DEDUCED (log 104). -/

def Cmd.opcode (c : Cmd) : Nat := fld c.sqe 0 1
def Cmd.cid (c : Cmd) : Nat := nfld c.sqe 2 2
def Cmd.nsid (c : Cmd) : Nat := nfld c.sqe 4 4
def Cmd.slba (c : Cmd) : Nat := nfld c.sqe 40 8
def Cmd.blocks (c : Cmd) : Nat := nfld c.sqe 48 2 + 1
/-- The data descriptor SGL1: type byte, address or offset, length of each form, host key. -/
def Cmd.sglType (c : Cmd) : Nat := fld c.sqe 39 1
def Cmd.sglAddr (c : Cmd) : Nat := nfld c.sqe 24 8
def Cmd.sglLen (c : Cmd) : Nat := if c.sglType / 16 = 4 then nfld c.sqe 32 3 else nfld c.sqe 32 4
def Cmd.sglKey (c : Cmd) : Nat := nfld c.sqe 35 4
/-- DEAC of Write Zeroes; NR, the attributes and AD of Dataset Management. -/
def Cmd.deac (c : Cmd) : Bool := (fld c.sqe 51 1).testBit 1
def Cmd.ranges0 (c : Cmd) : Nat := fld c.sqe 40 1
def Cmd.attributes (c : Cmd) : Nat := fld c.sqe 44 1

/-- Opcodes executed in hardware on an I/O queue (R196), as the classes 0 read, 1 compare, 2 write, 3 write zeroes, 4 deallocate, 5 flush. -/
def hwKind (op : Nat) : Option Nat :=
  if op = 0 then some 5 else if op = 1 then some 2 else if op = 2 then some 0 else if op = 5 then some 1
  else if op = 8 then some 3 else if op = 9 then some 4 else none

/-- Write-class kinds (R194). -/
def isWriteKind (k : Nat) : Bool := k = 2 || k = 3 || k = 4

/-- Whether a command deallocates (R204): Write Zeroes with DEAC, and Dataset Management. -/
def Cmd.deallocates (c : Cmd) : Bool := c.kind = 4 || (c.kind = 3 && c.deac)

/-- Where a capsule goes (R191): 0 executed in hardware, 1-4 the inbox with that reason, 5 an unknown opcode on an I/O queue. -/
def State.routeOf (s : State) (c : Cmd) : Nat :=
  match tget s.tgt.binds c.key with
  | none => 4
  | some b =>
    if !b.live then 2
    else if b.qid = 0 then (if c.opcode = 0x08 ∨ c.opcode = 0x18 then 0 else 1)
    else if (hwKind c.opcode).isSome then 0
    else if [0x0D, 0x0E, 0x11, 0x15].contains c.opcode then 3
    else 5

/-! ### Completion (R195, R205) -/

/-- Statuses of R195 in the order of its table: SCT × 256 + SC. -/
def statusTable : List Nat :=
  [0x00, 0x01, 0x02, 0x03, 0x05, 0x0B, 0x0E, 0x0F, 0x11, 0x16, 0x20, 0x80, 0x82, 0x83, 0x281, 0x285, 0x2C0]

/-- The completion entry (R205), in network byte order (R3); SQHD and SQID of the queue, phase 0. -/
def cqeOf (dw0 dw1 head qid cid status : Nat) (dnr : Bool) : Bytes :=
  be 4 dw0 ++ be 4 dw1 ++ be 2 head ++ be 2 qid ++ be 2 cid ++ be 2 ((status % 256) * 2 + (status / 256) * 512 + (if dnr then 32768 else 0))

/-- SQHD and SQID of a command's queue (R205). -/
def State.queueHead (s : State) (c : Cmd) : Nat × Nat :=
  match tget s.tgt.binds c.key with
  | some b => (if b.noFlow then 0xFFFF else b.head, b.qid)
  | none => (0xFFFF, 0xFFFF)

/-- An entry ends and is free again. -/
def freeCmd (h : Nat) (s : State) : State :=
  { s with tgt.cmds := terase s.tgt.cmds h, tgt.inboxHeld := s.tgt.inboxHeld.filter (· ≠ h), tgt.arrived := s.tgt.arrived.filter (· ≠ h) }

/-- No completion is sent: the drives were lost (R217) or the role was left (R366, R386). -/
def State.withheld (s : State) : Bool := s.tgt.resvLost.isSome || s.stby.stopped

/-- Send a response capsule and free the entry (R205); where no completion is sent the entry stays. -/
def sendCqe (h : Nat) (cqe : Bytes) (s : State) : State :=
  match s.cmd h with
  | none => s
  | some c =>
    if s.withheld && !c.dropped then s.onCmd h (fun c => { c with phase := .ended })
    else
      let s := freeCmd h s
      if c.dropped then s
      else
        let inv := c.sglType = 0x4F
        let wr : WorkRequest := { op := if inv then 6 else 1, remoteVa := 0, remoteKey := 0, len := cqe.length, data := cqe, imm := if inv then c.sglKey else 0, dest := 0 }
        postWork c.key (.capsule c.order) wr s

/-- A completion counts by its status (R224). -/
def countStatus (c : Cmd) (status : Nat) (s : State) : State := s.count (Ev.status0 + statusTable.idxOf status) (s.assoc c.assoc).subsys

/-- Complete a command (R195, R205): a capsule's response, or the end of a Corolo job. The completion of a dropped queue's write is discarded (R208). -/
def complete (h status : Nat) (dnr : Bool) (dw0 : Nat) (s : State) : State :=
  match s.cmd h with
  | none => s
  | some c =>
    if s.withheld && !c.dropped then s.onCmd h (fun c => { c with phase := .ended })
    else
      match c.ring with
      | some (r, i) =>
        let s := freeCmd h s
        { s with tgt.ring := s.tgt.ring ++ [.ended r i status dnr (if status = 0x2C0 then c.bad else 0)] }
      | none =>
        let hd := s.queueHead c
        let s := if c.dropped then s else countStatus c status s
        sendCqe h (cqeOf dw0 0 hd.1 hd.2 c.cid status dnr) s

/-! ### Checks (R187, R194, R197, R212) -/

/-- The namespace an association sees under an NSID (R187). -/
def State.nsFor (s : State) (a nsid : Nat) : Option (Nat × Namespace) :=
  let x := s.assoc a
  s.tgt.namespaces.find? (fun n => n.2.state ≠ 0 ∧ n.2.subsys = x.subsys ∧ n.2.nsid = nsid ∧ tgetD n.2.access x.group 0 ≠ 0)

/-- Size of a namespace: its volume's (R186). -/
def State.nsSize (s : State) (n : Namespace) : Nat := match s.volume n.vol with | some v => v.size | none => 0

/-- Reservation access (R212). -/
def resvOk (n : Namespace) (a : Nat) (write : Bool) : Bool :=
  let holder := n.holders.contains a
  let reg := n.registrants.contains a || holder
  if n.rtype = 0 ∨ holder then true
  else if n.rtype = 1 then !write
  else if n.rtype = 2 then false
  else if n.rtype = 3 ∨ n.rtype = 5 then reg || !write
  else reg

/-- The window region of an association (R197), where it is Valid. -/
def State.windowOf (s : State) (a : Nat) : Option Region :=
  let k := (s.assoc a).window
  let r := s.region (k / 256)
  if k ≠ 0 ∧ r.state = 1 ∧ r.tag = k % 256 then some r else none

/-- Bytes a command's descriptor must have: exactly, or at least for Dataset Management (R197). -/
def Cmd.lenOk (c : Cmd) (kind : Nat) : Bool :=
  if kind = 4 then (c.ranges0 + 1) * 16 ≤ c.sglLen else c.sglLen == c.blocks * 4096

/-- R197 on a command's descriptor: 0 or the status that fails it. Flush and Write Zeroes carry no data. -/
def State.sglFails (s : State) (c : Cmd) (kind : Nat) : Nat :=
  let t := c.sglType
  if kind = 5 ∨ kind = 3 then 0
  else if t / 16 = 2 ∨ t / 16 = 3 then 0x0E
  else if t = 0x40 ∨ t = 0x4F then (if c.lenOk kind then 0 else 0x0F)
  else if t = 0x01 then
    (if kind = 0 then 0x11 else if !c.lenOk kind then 0x0F else if c.icd.length < c.sglAddr + c.sglLen then 0x16 else 0)
  else if t = 0xF0 then
    (if kind = 0 ∨ kind = 4 then 0x11
     else if !c.lenOk kind then 0x0F
     else match s.windowOf c.assoc with
       | none => 0x16
       | some r => if r.len < c.sglAddr + c.sglLen then 0x16 else 0)
  else 0x11

/-- Another outstanding command of the queue, parsed before, holds the CID (R209). -/
def State.cidHeld (s : State) (h : Nat) (c : Cmd) : Bool :=
  s.tgt.cmds.any (fun x => x.1 ≠ h && x.2.key = c.key && x.2.ring.isNone && x.2.order < c.order && x.2.cid = c.cid)

/-- The first check of R194 that fails for a command executed in hardware, as status and DNR; none where all pass. Steps 9 and 11 of a Dataset
Management wait for its ranges, which its descriptor brings (log 105). -/
def State.checkFails (s : State) (c : Cmd) (kind : Nat) : Option (Nat × Bool) :=
  let w := isWriteKind kind
  let flags := fld c.sqe 1 1
  if flags % 4 ≠ 0 ∨ flags / 64 ≠ 1 then some (0x02, true)
  else if c.conflict then some (0x03, true)
  else if s.pwrStopped c then some (0x05, false)
  else if kind = 5 ∧ c.nsid = 0xFFFFFFFF then none
  else match s.nsFor c.assoc c.nsid with
    | none => some (0x0B, true)
    | some (_, n) =>
      if n.state = 2 then some (0x82, false)
      else if n.state = 3 then some (0x82, true)
      else if kind = 5 then none
      else if w ∧ tgetD n.access (s.assoc c.assoc).group 0 ≠ 2 then some (0x20, true)
      else if (kind = 0 ∨ kind = 1 ∨ kind = 2) ∧ 256 < c.blocks then some (0x02, true)
      else if kind = 4 ∧ c.attributes % 4 ≠ 0 then some (0x02, true)
      else if kind ≠ 4 ∧ s.nsSize n < c.slba + c.blocks then some (0x80, true)
      else
        let f := s.sglFails c kind
        if f ≠ 0 then some (f, true)
        else if kind ≠ 4 ∧ !resvOk n c.assoc w then some (0x83, true)
        else none

/-- Tenant a command is charged to (R188). -/
def State.tenantOf (s : State) (c : Cmd) (n : Namespace) : Nat :=
  let t := tgetD s.tgt.groupTenant (s.assoc c.assoc).group 0
  if t = 0 then n.tenant else t

/-- A parsed command that is executed at once, in the bell of its parse (R196, R203). -/
def State.immediate (s : State) (c : Cmd) : Bool :=
  c.phase = .parsed && c.ring.isNone && c.qid ≠ 0 && c.route = 0 && c.opcode ≠ 0

/-- No command parsed before `c` still waits for its row (R190). -/
def State.inOrder (s : State) (c : Cmd) : Bool := s.tgt.cmds.all (fun x => c.order ≤ x.2.order || !s.immediate x.2)

/-- Whether a parsed command of an I/O queue, or of an admin queue, waits for the row of its opcode (R190, R191). -/
def State.awaits (s : State) (h op : Nat) (admin : Bool := false) : Bool :=
  match s.cmd h with
  | some c => c.phase = .parsed && c.ring.isNone && c.route = 0 && c.opcode = op && (c.qid == 0) == admin && s.targetRuns && s.inOrder c
  | none => false

/-- As `awaits`, from the bell after the parse on (R204, R206, R207). -/
def State.awaitsNext (s : State) (h op : Nat) (admin : Bool := false) : Bool :=
  s.awaits h op admin && (match s.cmd h with | some c => c.edge < s.bell.edges | none => false)

/-- A command that fails a check is completed with its status and not executed (R194). -/
def checked (h kind : Nat) (s : State) (f : Cmd → State → State) : State :=
  match s.cmd h with
  | none => s
  | some c =>
    match s.checkFails c kind with
    | some (st, dnr) => complete h st dnr 0 (if st = 0x83 then s.count Ev.hostConf 0 else s)
    | none => f c s

/-! ### Intake (R189, R190) -/

/-- HBM address of an entry's capsule: a command entry's buffer, or an overflow entry's (R192, R222). -/
def State.capsuleAddr (s : State) (h : Nat) : Nat :=
  if h < 262144 then s.objN 0x400005 0 + 67108864 + h * 4224 else Config.overflowBuffer (h - 262144)

/-- A capsule is copied into its entry (R190): a free entry of its queue, or an overflow entry (R191). It is parsed from the next edge on. -/
def capsuleIn (key : Nat) (data : Bytes) (s : State) : State :=
  let b := tget s.tgt.binds key
  let sqe := padTo 64 data
  let icd := (data.drop 64).take 4096
  let h := match b with
    | some _ => tfree s.tgt.cmds 262144
    | none => (List.range' 0 256).findSome? (fun i => if (tget s.tgt.cmds (262144 + i)).isNone then some (262144 + i) else none)
  match h with
  | none => s
  | some h =>
    let c : Cmd := { key := key, qpn := s.qpn key, assoc := b.elim 0xFFFF (·.assoc), qid := b.elim 0xFFFF (·.qid), sqe := sqe, icd := icd,
                     phase := .arriving, link := engOf key / 2, bell := s.bell.number, edge := s.bell.edges, order := 2 ^ 64 + h }
    let s := { s with tgt.cmds := tset s.tgt.cmds h c, tgt.arrived := s.tgt.arrived ++ [h] }
    let s := match b with
      | some b => { s with tgt.binds := tset s.tgt.binds key { b with head := (b.head + 1) % (max 1 b.size) },
                           tgt.assocs := tmod s.tgt.assocs b.assoc {} (fun x => { x with lastEdge := s.bell.edges, lastBell := s.bell.number }) }
      | none => s
    s.hbmPut (s.capsuleAddr h) (sqe ++ icd)

/-- A capsule is parsed (R190): it takes its place in the parse order, where it goes and whether its CID is held are settled, and one of no known opcode ends (R191, R194, R209). -/
def parseCapsule (h : Nat) (s : State) : State :=
  match s.cmd h with
  | none => s
  | some c =>
    let u := s.tgt.nextOrder
    let c := { c with phase := .parsed, bell := s.bell.number, edge := s.bell.edges, order := u, route := s.routeOf c }
    let s := s.onCmd h (fun _ => { c with conflict := s.cidHeld h c })
    let s := ((({ s with tgt.nextOrder := u + 1, tgt.parse := s.tgt.parse + 1 }).count Ev.capsules 0)).slot 36
    if c.route = 5 then complete h 0x01 true 0 s else s

/-- The capsules of the bell that begins (R190): ascending by ridge, in arrival order on each link, 256 at most; the others wait. -/
def parseCapsules (s : State) : State :=
  if s.targetRuns then
    let l := [0, 1, 2, 3].flatMap (fun n => s.tgt.arrived.filter (fun h => (s.cmd h).any (fun c => c.link = n)))
    let now := l.take 256
    now.foldl (fun s h => parseCapsule h s) { s with tgt.parse := 0, tgt.arrived := s.tgt.arrived.filter (fun h => !now.contains h) }
  else { s with tgt.parse := 0 }

/-! ### Inbox and outbox (R191-R193) -/

def State.inboxFull (s : State) : Bool := (s.tgt.inboxProd + 2 ^ 32 - s.objN 0x400009 0) % 2 ^ 32 = s.objN 0x400007 1024

/-- Write one inbox record (R192). -/
def inboxWrite (h : Nat) (s : State) : State :=
  match s.cmd h with
  | none => s
  | some c =>
    let size := s.objN 0x400007 1024
    let r := le 8 c.bell ++ le 4 c.qpn ++ le 2 c.assoc ++ le 2 c.qid ++ le 4 h ++ le 4 c.icd.length ++ le 1 c.route ++ zeros 7 ++ le 8 (s.capsuleAddr h + 64) ++ zeros 24 ++ c.sqe
    let s := s.hbmPut (s.objN 0x400006 0 + s.tgt.inboxProd % size * 128) r
    let s := s.onCmd h (fun c => { c with phase := .firmware })
    (({ s with tgt.inboxProd := (s.tgt.inboxProd + 1) % 2 ^ 32 }).count (Ev.toInbox1 + (c.route - 1)) 0).emit .targetIrq

/-- A parsed command that goes to the inbox (R191). -/
def Cmd.toInbox (c : Cmd) : Bool := c.phase = .parsed && c.ring.isNone && 1 ≤ c.route && c.route ≤ 4

/-- INBOX_ROUTE (R191, R192, R209, R218): in parse order. -/
def inboxRoute (h : Nat) (s : State) : State :=
  match s.cmd h with
  | none => s
  | some c =>
    s.when (c.toInbox && s.tgt.cmds.all (fun x => c.order ≤ x.2.order || !x.2.toInbox) && s.targetRuns) (fun s =>
      if c.conflict then complete h 0x03 true 0 s
      else if s.pwrStopped c then complete h 0x05 false 0 s
      else if s.inboxFull ∨ s.tgt.inboxHeld ≠ [] then
        ({ s.onCmd h (fun c => { c with phase := .held }) with tgt.inboxHeld := s.tgt.inboxHeld ++ [h] }).count Ev.inboxHeld 0
      else inboxWrite h s)

/-- INBOX_HELD_DELIVER (R192). -/
def inboxHeldDeliver (s : State) : State :=
  match s.tgt.inboxHeld with
  | [] => s
  | h :: r => s.when (!s.inboxFull && s.targetRuns) (fun s => inboxWrite h { s with tgt.inboxHeld := r })

/-- Firmware's completion of an entry (R193), as the capsule carries it (R3): SQHD, SQID and CID are the target's. -/
def firmwareCqe (c : Cmd) (rec : Bytes) (s : State) : Bytes :=
  let hd := s.queueHead c
  sub rec 4 8 ++ be 2 hd.1 ++ be 2 hd.2 ++ be 2 c.cid ++ be 2 (nfld rec 18 2 / 2 * 2)

/-- Whether a firmware move fits the command's descriptor (R193, R197). -/
def Cmd.fits (c : Cmd) (dir len : Nat) : Bool :=
  let t := c.sglType
  len ≤ c.sglLen && ((t = 0x40 || t = 0x4F) || (t = 0x01 && dir = 2 && c.sglAddr + len ≤ c.icd.length))

/-! ### Dropped queues (R208) -/

/-- Claims on a stripe, holder first. -/
def State.claimsOn (s : State) (key : Nat) : List Claimant := tgetD s.vol.claims key []

/-- Operand slots of a claim: a whole stripe's blocks (R291). -/
def State.claimSlots (s : State) (key : Nat) : Nat :=
  match s.group (key / 4294967296) with
  | some g => g.w * g.u
  | none => 0

/-- The claim's holder gives the stripe back: its slots return (R237, R291). -/
def freeClaim (key : Nat) (s : State) : State :=
  let l := (s.claimsOn key).drop 1
  { s with vol.claims := if l.isEmpty then terase s.vol.claims key else tset s.vol.claims key l
           vol.granted := s.vol.granted.erase key
           led.operandUsed := s.led.operandUsed - s.claimSlots key }

/-- Whether any record of a command has been submitted (R200). -/
def Cmd.submitted (c : Cmd) : Bool := c.chunks.any (fun k => k.submitted)

/-- A full stripe that goes no further gives back its claim, and the place it took once no drive command uses it (R239). -/
def dropStripe (k : Chunk) (s : State) : State :=
  let gi := k.key / 4294967296
  let s := if k.moved then s.onGroup gi (fun g => { g with oldPhys := g.oldPhys ++ [k.target] }) else s
  freeClaim k.key s

/-- Images that satisfy `p` leave the list of those to be placed. Their staging slots go to the image after them, or to the one staged next, and are freed with it,
so that staging is freed in order (R278); `gap` slots go to the image that is staged next. -/
def dropImages (p : Rec → Bool) (gap : Nat) : List Rec → List Rec × Nat
  | [] => ([], gap)
  | r :: l =>
    let x := dropImages p gap l
    if !p r then (r :: x.1, x.2)
    else match x.1 with
      | y :: t => ({ y with gap := y.gap + r.gap + r.size } :: t, x.2)
      | [] => ([], x.2 + r.gap + r.size)

/-- A row job ends and its operand slots return (R291). -/
def endRow (j : Nat) (s : State) : State :=
  match tget s.vol.rowJobs j with
  | some x => { s with vol.rowJobs := terase s.vol.rowJobs j, led.operandUsed := s.led.operandUsed - x.slots }
  | none => s

/-- What a command has under way is taken back: records that were not submitted, blocks at the cipher, drive commands not yet admitted, rows to be reconstructed for it, claims. -/
def takeBack (c : Cmd) (s : State) : State :=
  let u := c.order
  let mine (r : Rec) : Bool := match r.owner with
    | .chunk v _ => v = u
    | .full v _ => v = u
    | _ => false
  let ready := dropImages mine s.led.stageGap s.led.ready
  let rows := (s.vol.rowJobs.filter (fun j => j.2.h = u && j.2.reason ≠ 2)).map (·.1)
  let its (d : DriveCmd) : Bool := match d.consumer with
    | .host v _ => v = u
    | .fullWrite v _ => v = u
    | .row j _ => rows.contains j
    | _ => false
  let s := { s with led.ready := ready.1, led.stageGap := ready.2, led.unstaged := s.led.unstaged.filter (fun x => !mine x.1), led.imageWaits := s.led.imageWaits.filter (fun x => x.1 ≠ u)
                    ciph.waiting := s.ciph.waiting.filter (fun w => w.origin = 3 || w.h ≠ u), }
  let s := rows.foldl (fun s j => endRow j s) s
  let s := (List.range' 0 24).foldl (fun s b => (unqueue b its s).1) s
  let s := (c.chunks.filter (fun k => k.full && k.granted)).foldl (fun s k => dropStripe k s) s
  let waits (x : Claimant) : Bool := match x with
    | .full v _ => v = u
    | _ => false
  { s with vol.claims := (tmap s.vol.claims (fun _ l => l.filter (fun x => !waits x))).filter (fun x => !x.2.isEmpty) }

/-- A command is abandoned: what it has under way ends with its entry, and it counts as wasted (R208, R220). -/
def abandon (h : Nat) (s : State) : State :=
  match s.cmd h with
  | none => s
  | some c =>
    let s := (freeCmd h (takeBack c s)).count Ev.cmdAband 0
    if c.edge = s.bell.edges ∧ c.phase ≠ .arriving then s.slotToWaste 36 else s.lateWaste 36

/-- The queue of a QP in Error is dropped (R208). -/
def dropQueue (key : Nat) (s : State) : State :=
  (s.tgt.cmds.filter (fun c => c.2.key = key ∧ c.2.ring.isNone)).foldl (fun s c =>
    if c.2.phase = .firmware ∨ (isWriteKind c.2.kind ∧ c.2.submitted) then s.onCmd c.1 (fun c => { c with dropped := true })
    else abandon c.1 s) s

/-- A namespace goes offline (R186, R219): what has submitted no record ends unexecuted. -/
def nsOffline (n : Nat) (s : State) : State :=
  let s := { s with tgt.namespaces := tmod s.tgt.namespaces n {} (fun x => { x with state := 3 }) }
  (s.tgt.cmds.filter (fun c => c.2.ns = n ∧ !(isWriteKind c.2.kind ∧ c.2.submitted))).foldl (fun s c => complete c.1 0x82 true 0 (takeBack c.2 s)) s

/-! ### The outbox (R193) -/

/-- One outbox record (R193). -/
def takeOutbox (r : Bytes) (s : State) : State :=
  let h := fld r 0 4
  let dir := fld r 20 1
  let addr := fld r 24 8
  let len := fld r 32 4
  let s := s.count Ev.outCons 0
  match s.cmd h with
  | none => s.count Ev.outDisc 0
  | some c =>
    if c.phase ≠ .firmware then s.count Ev.outDisc 0
    else if c.dropped then abandon h s
    else
      let cqe := firmwareCqe c r s
      if dir = 0 ∨ len = 0 then sendCqe h cqe s
      else if 2 < dir ∨ !c.fits dir len then
        let hd := s.queueHead c
        let s := s.count Ev.outDisc 0
        sendCqe h (cqeOf 0 0 hd.1 hd.2 c.cid 0x0F true) (if s.withheld then s else countStatus c 0x0F s)
      else if dir = 1 then
        let wr : WorkRequest := { op := 3, remoteVa := c.sglAddr, remoteKey := c.sglKey, len := len, data := s.mem.read addr len, imm := 0, dest := 0 }
        sendCqe h cqe (postWork c.key (.dataWrite c.order) wr s)
      else if c.sglType = 0x01 then sendCqe h cqe (s.hbmPut addr (sub c.icd c.sglAddr len))
      else
        let wr : WorkRequest := { op := 5, remoteVa := c.sglAddr, remoteKey := c.sglKey, len := len, data := [], imm := 0, dest := addr }
        postWork c.key (.dataRead c.order) wr (s.onCmd h (fun c => { c with phase := .moving, cqe := cqe, dest := addr, want := len }))

/-- OUTBOX_RECORD (R193). -/
def outboxRecord (s : State) : State :=
  let cons := s.tgt.outboxCons
  s.when (s.objN 0x40000C 0 ≠ cons && s.targetRuns) (fun s =>
    let (s, r, bad) := s.hbmGet (212 + b2n (inStackB (s.objN 0x40000A 0))) cons (s.objN 0x40000A 0 + cons % s.objN 0x40000B 1024 * 64) 64
    let s := { s with tgt.outboxCons := (cons + 1) % 2 ^ 32 }
    if bad then s.count Ev.outDisc 0 else takeOutbox r s)

/-! ### Keep-alive, abort, flush (R204, R206, R207) -/

/-- NVME_FLUSH (R204). -/
def nvmeFlush (h : Nat) (s : State) : State := s.when (s.awaitsNext h 0x00) (fun s => checked h 5 s (fun _ s => complete h 0x00 false 0 s))

/-- An Abort or Keep Alive ends in the bell after its parse, unless its CID is held (R209) or power fails (R218). -/
def answerAdmin (h op dw0 : Nat) (s : State) : State :=
  s.when (s.awaitsNext h op true) (fun s => match s.cmd h with
    | some c => if c.conflict then complete h 0x03 true 0 s else if s.pwrStopped c then complete h 0x05 false 0 s else complete h 0x00 false dw0 s
    | none => s)

/-- NVME_ABORT (R206): never aborted. -/
def nvmeAbort (h : Nat) (s : State) : State := answerAdmin h 0x08 1 s

/-- NVME_KEEP_ALIVE (R207). -/
def nvmeKeepAlive (h : Nat) (s : State) : State := answerAdmin h 0x18 0 s

/-- Keep-alive time in bells (R207). -/
def katoBells (ms : Nat) : Nat := ceilDiv (ms * 1000000) 1024

/-- KEEP_ALIVE_EXPIRED (R207). -/
def keepAliveExpired (a : Nat) (s : State) : State :=
  let x := s.assoc a
  s.when (x.state = 1 && x.kato ≠ 0 && katoBells x.kato ≤ s.since x.lastEdge) (fun s =>
    let s := { s with tgt.assocs := tmod s.tgt.assocs a {} (fun x => { x with state := 2 }) }
    let s := (s.tgt.binds.filter (fun b => b.2.assoc = a)).foldl (fun s b => enterError b.1 10 s) s
    (s.faultAt 92 4 4 a).count Ev.katoExp 0)

/-! ### Target commands (R187-R189, R213, R223) -/

def targetCommand (par : Bytes) (act : Bytes → State → State) (s : State) : State := s.command targetSet targetSet 64 par act

/-- Commands of a namespace outstanding. -/
def State.nsBusy (s : State) (n : Nat) : Nat := (s.tgt.cmds.filter (fun c => c.2.ns = n)).length

/-- Roles that refuse writes which would put the device into service: 0, 1 and 4 (R365). -/
def State.outOfService (s : State) : Bool := s.stby.role = 0 || s.stby.role = 1 || s.stby.role = 4

/-- NAMESPACE_WRITE (R186, R223, R365). An absent namespace keeps its fields, its access map and its view. -/
def namespaceWrite (p : Bytes) (s : State) : State :=
  let i := fld p 2 2
  let st := fld p 4 1
  let n := s.ns i
  let nsid := fld p 8 4
  let vol := fld p 12 2
  let ten := fld p 14 1
  if 1024 ≤ i ∨ 2 < st ∨ nsid = 0 ∨ nsid = 0xFFFFFFFF ∨ ten = 0 ∨ 111 < ten ∨ (st ≠ 0 ∧ (s.volume vol).isNone) then s.done targetSet 1
  else if (st = 1 ∧ s.outOfService) ∨ ((st = 0 ∨ n.vol ≠ vol ∨ n.nsid ≠ nsid) ∧ 0 < s.nsBusy i) then s.done targetSet 2
  else
    (({ s with tgt.namespaces := tmod s.tgt.namespaces i {} (fun n => { n with state := st, subsys := fld p 5 1, nsid := nsid, vol := vol, tenant := ten }) }).persist).done targetSet 0

def execNamespaceWrite (par : Bytes) (s : State) := up s (targetCommand par namespaceWrite)

/-- NAMESPACE_READ (R223). -/
def namespaceRead (p : Bytes) (s : State) : State :=
  let i := fld p 2 2
  let n := s.ns i
  if 1024 ≤ i then s.done targetSet 1
  else s.done targetSet 0 (zeros 2 ++ le 2 i ++ le 1 n.state ++ le 1 n.subsys ++ zeros 2 ++ le 4 n.nsid ++ le 2 n.vol ++ le 1 n.tenant ++ zeros 1
    ++ le 8 (s.nsSize n) ++ le 4 (s.nsBusy i) ++ le 1 n.rtype)

def execNamespaceRead (par : Bytes) (s : State) := up s (targetCommand par namespaceRead)

/-- ACCESS_WRITE (R187, R223). -/
def accessWrite (p : Bytes) (s : State) : State :=
  let i := fld p 2 2
  let g := fld p 4 1
  let n := fld p 5 1
  let codes := (p.drop 8).take n
  if 1024 ≤ i ∨ n = 0 ∨ 32 < n ∨ 256 < g + n ∨ codes.any (fun c => 2 < c.toNat) then s.done targetSet 1
  else
    let put (x : Namespace) : Namespace := { x with access := ((List.range' 0 n).foldl (fun t j => tset t (g + j) ((codes.getD j 0).toNat)) x.access) }
    (({ s with tgt.namespaces := tmod s.tgt.namespaces i {} put }).persist).done targetSet 0

def execAccessWrite (par : Bytes) (s : State) := up s (targetCommand par accessWrite)

/-- ASSOCIATION_BIND (R223). -/
def associationBind (p : Bytes) (s : State) : State :=
  let a := fld p 2 2
  let kato := fld p 8 4
  if 2048 ≤ a ∨ 3600000 < kato then s.done targetSet 1
  else if (s.assoc a).state ≠ 0 then s.done targetSet 2
  else
    (({ s with tgt.assocs := tset s.tgt.assocs a { state := 1, subsys := fld p 4 1, group := fld p 5 1, kato := kato, window := fld p 12 4,
                                                   lastEdge := s.bell.edges, lastBell := s.bell.number } }).count Ev.binds 0).done targetSet 0

def execAssociationBind (par : Bytes) (s : State) := up s (targetCommand par associationBind)

/-- ASSOCIATION_RELEASE (R223). -/
def associationRelease (p : Bytes) (s : State) : State :=
  let a := fld p 2 2
  if 2048 ≤ a then s.done targetSet 1
  else if (s.assoc a).state = 0 ∨ s.tgt.binds.any (fun b => b.2.assoc = a) then s.done targetSet 2
  else (({ s with tgt.assocs := terase s.tgt.assocs a }).count Ev.releases 0).done targetSet 0

def execAssociationRelease (par : Bytes) (s : State) := up s (targetCommand par associationRelease)

/-- Entries bound in the package (R189). -/
def State.entriesBound (s : State) : Nat := (s.tgt.binds.map (fun b => b.2.size)).sum

/-- QUEUE_BIND (R185, R189, R223). -/
def queueBind (p : Bytes) (s : State) : State :=
  let qpn := fld p 4 4
  let key := keyOf qpn
  let a := fld p 8 2
  let qid := fld p 10 2
  let size := fld p 12 2
  let st := (s.qp key).state
  if !s.genOk qpn ∨ 2048 ≤ a ∨ 64 < qid ∨ size < 2 ∨ (if qid = 0 then 32 else 1024) < size then s.done targetSet 1
  else if (st ≠ 1 ∧ st ≠ 2) ∨ (tget s.tgt.binds key).isSome ∨ s.tgt.binds.any (fun b => b.2.assoc = a ∧ b.2.qid = qid) then s.done targetSet 2
  else if 262144 < s.entriesBound + size then s.done targetSet 3
  else ({ s with tgt.binds := tset s.tgt.binds key { assoc := a, qid := qid, size := size, noFlow := (fld p 14 1).testBit 0 } }).done targetSet 0

def execQueueBind (par : Bytes) (s : State) := up s (targetCommand par queueBind)

/-- QUEUE_ENABLE (R189, R223). -/
def queueEnable (p : Bytes) (s : State) : State :=
  let qpn := fld p 4 4
  match tget s.tgt.binds (keyOf qpn) with
  | none => s.done targetSet 1
  | some b =>
    if !s.genOk qpn then s.done targetSet 1
    else if (s.assoc b.assoc).state ≠ 1 then s.done targetSet 2
    else ({ s with tgt.binds := tset s.tgt.binds (keyOf qpn) { b with live := true } }).done targetSet 0

def execQueueEnable (par : Bytes) (s : State) := up s (targetCommand par queueEnable)

/-- QUEUE_UNBIND (R223). -/
def queueUnbind (p : Bytes) (s : State) : State :=
  let qpn := fld p 4 4
  let key := keyOf qpn
  if !s.genOk qpn ∨ (tget s.tgt.binds key).isNone then s.done targetSet 1
  else if s.tgt.cmds.any (fun c => c.2.key = key ∧ c.2.ring.isNone) then s.done targetSet 4
  else ({ s with tgt.binds := terase s.tgt.binds key }).done targetSet 0

def execQueueUnbind (par : Bytes) (s : State) := up s (targetCommand par queueUnbind)

/-- RESERVATION_VIEW_WRITE (R213, R223): in force from the next edge. -/
def reservationViewWrite (p : Bytes) (s : State) : State :=
  let i := fld p 2 2
  let t := fld p 4 1
  let a := fld p 6 2
  let n := fld p 8 2
  if 1024 ≤ i ∨ 6 < t ∨ n = 0 ∨ 128 < n ∨ 2048 < a + n then s.done targetSet 1
  else
    let bits := (List.range' 0 n).map (fun j => (a + j, fld p (16 + j / 4) 1 / 4 ^ (j % 4) % 4))
    ((({ s with tgt.views := s.tgt.views ++ [({ ns := i, rtype := t, bits := bits } : ViewWrite)] }).persist).count Ev.viewWr 0).done targetSet 0

def execReservationViewWrite (par : Bytes) (s : State) := up s (targetCommand par reservationViewWrite)

/-- At an edge, view writes of the bell before take effect (R213). -/
def takeViews (s : State) : State :=
  let apply (s : State) (v : ViewWrite) : State :=
    { s with tgt.namespaces := tmod s.tgt.namespaces v.ns {} (fun n =>
        v.bits.foldl (fun n b => { n with
          registrants := if b.2 % 2 = 1 then (if n.registrants.contains b.1 then n.registrants else n.registrants ++ [b.1]) else n.registrants.filter (· ≠ b.1)
          holders := if b.2 / 2 = 1 then (if n.holders.contains b.1 then n.holders else n.holders ++ [b.1]) else n.holders.filter (· ≠ b.1) })
          { n with rtype := v.rtype }) }
  s.tgt.views.foldl apply { s with tgt.views := [] }

/-- ASSOCIATION_QUERY (R223). -/
def associationQuery (p : Bytes) (s : State) : State :=
  let a := fld p 2 2
  let x := s.assoc a
  if 2048 ≤ a then s.done targetSet 1
  else s.done targetSet 0 (le 1 x.state ++ le 1 x.subsys ++ le 1 x.group ++ zeros 1 ++ le 2 (a + 1) ++ zeros 2
    ++ le 2 (s.tgt.binds.filter (fun b => b.2.assoc = a)).length ++ le 4 (s.tgt.cmds.filter (fun c => c.2.assoc = a)).length ++ zeros 2 ++ le 8 x.lastBell)

def execAssociationQuery (par : Bytes) (s : State) := up s (targetCommand par associationQuery)

/-- HOST_GROUP_WRITE (R188, R223). -/
def hostGroupWrite (p : Bytes) (s : State) : State :=
  let t := fld p 3 1
  if 111 < t then s.done targetSet 1
  else ({ s with tgt.groupTenant := tset s.tgt.groupTenant (fld p 2 1) t }).done targetSet 0

def execHostGroupWrite (par : Bytes) (s : State) := up s (targetCommand par hostGroupWrite)

/-! ### Integrity records (R210, R211) -/

/-- One integrity record and FS88, or the overflow (R211). -/
def integrityRecord (c : Cmd) (lba origin bay : Nat) (s : State) : State :=
  let s := s.faultAt 88 4 4 c.ns
  let size := s.objN 0x40000F 4096
  if (s.tgt.integProd + 2 ^ 32 - s.objN 0x400011 0) % 2 ^ 32 = size then
    ({ s with tgt.integLost := s.tgt.integLost + 1, tgt.integNew := s.tgt.integNew + 1 }).faultAt 89 4 4 0
  else
    let r := le 8 s.bell.number ++ le 4 s.bell.era ++ le 2 c.ns ++ le 2 c.vol ++ le 8 lba ++ le 2 c.assoc ++ le 2 c.cid ++ le 1 origin ++ le 1 bay ++ zeros 2
    let s := s.hbmPut (s.objN 0x40000E 0 + s.tgt.integProd % size * 32) r
    { s with tgt.integProd := (s.tgt.integProd + 1) % 2 ^ 32 }

end Sys2Proof.Machine
end

