-- ==== Sys2Proof/Machine/Reads.lean ====
section
/-! DEFINITION. Blocks for hosts and parsed commands: delivery, lost blocks and group state, row reconstruction, reads, chunks of writes (R194-R204, R238-R256). -/

namespace Sys2Proof.Machine

/-! ### Blocks delivered to a command (R203, R204, R210) -/

/-- A read or compare whose every block has been delivered completes; a Compare once its own data is there too. -/
def finishRead (h : Nat) (s : State) : State :=
  match s.cmd h with
  | none => s
  | some c => if c.waiting.isEmpty ∧ (c.kind ≠ 1 ∨ c.bufReady) then complete h c.status (c.status ≠ 0 && c.status ≠ 0x2C0) 0 s else s

/-- Send one block of a Read to its host (R197, R210). -/
def sendBlock (c : Cmd) (blk : Nat) (pt : Bytes) (s : State) : State :=
  let s := s.count Ev.nsRdBytes c.ns 4096
  match c.ring with
  | some (r, i) => { s with tgt.ring := s.tgt.ring ++ [.data r i (blk * 4096) pt] }
  | none =>
    let wr : WorkRequest := { op := 3, remoteVa := c.sglAddr + blk * 4096, remoteKey := c.sglKey, len := 4096, data := pt, imm := 0, dest := 0 }
    postWork c.key (.dataWrite c.order) wr s

/-- A Compare meets one block (R204). -/
def compareBlock (h blk : Nat) (pt : Bytes) (s : State) : State :=
  s.onCmd h (fun c => if pt = sub c.buf (blk * 4096) 4096 ∨ c.status ≠ 0 then c else { c with status := 0x285 })

/-- A block's plaintext reaches its command: sent, compared, or kept for a Compare whose data has not come (R204, R210). -/
def handBlock (h blk : Nat) (pt : Bytes) (s : State) : State :=
  match s.cmd h with
  | none => s
  | some c =>
    let s := if c.kind = 0 then sendBlock c blk pt s
      else if c.bufReady then compareBlock h blk pt s
      else s.onCmd h (fun c => { c with early := tset c.early blk pt })
    finishRead h (s.onCmd h (fun c => { c with waiting := c.waiting.erase blk }))

/-- The data of a Compare is there: it meets the blocks that came before (R204). -/
def compareReady (h : Nat) (s : State) : State :=
  match s.cmd h with
  | none => s
  | some c =>
    let s := s.onCmd h (fun c => { c with bufReady := true, early := [] })
    finishRead h (c.early.foldl (fun s b => compareBlock h b.1 b.2 s) s)

/-- A block that cannot be read: Unrecovered Read Error (R243, R255). -/
def lostBlock (u blk : Nat) (s : State) : State :=
  match s.byOrder u with
  | none => s
  | some (h, c) =>
    finishRead h (s.onCmd h (fun x => { x with waiting := x.waiting.erase blk, status := if c.status = 0x2C0 then c.status else 0x281 }))

/-! ### Lost blocks and group state (R247, R255, R256) -/

/-- A rebuild, scrub or reshape item is given up: it ends without effect once its drive commands have ended. -/
def cancelItem (i : Nat) (s : State) : State :=
  match tget s.vol.items i with
  | some x => if x.phase = .committing then s else { s with vol.items := tset s.vol.items i { x with cancelled := true } }
  | none => s

/-- A group goes offline (R256). -/
def groupOffline (gi : Nat) (s : State) : State :=
  match s.group gi with
  | none => s
  | some g =>
    if g.state = 4 then s
    else
      let s := (s.onGroup gi (fun g => { g with state := 4, scrub := 0 })).faultAt 98 4 5 gi
      let vols := (s.volumesOf gi).map (·.1)
      let s := (gi :: (32 + gi) :: vols.map (fun v => 64 + v)).foldl (fun s i => cancelItem i s) s
      let s := cacheRemove (fun (e : CacheEntry) => vols.contains e.vol) s
      (s.tgt.namespaces.filter (fun n => n.2.state ≠ 0 ∧ vols.contains n.2.vol)).foldl (fun s n => nsOffline n.1 s) s

/-- List a block lost (R255). -/
def listLost (gi vol lba pos reason : Nat) (s : State) : State :=
  match s.group gi with
  | none => s
  | some g =>
    if (g.lostIdx vol lba).isSome then s
    else if 65536 ≤ g.lost.length then groupOffline gi (s.faultAt 101 4 5 gi)
    else
      let n := g.lost.length
      let s := s.onGroup gi (fun g => { g with lost := g.lost ++ [{ bell := s.bell.number, era := s.bell.era, vol := vol, lba := lba, reason := reason, pos := pos }] })
      let s := s.faultAt 100 4 5 gi
      zoneRec gi (g.pages + n / 128) s

/-- Remove a block from the lost-block list (R255). -/
def unlistLost (gi vol lba : Nat) (s : State) : State :=
  match s.group gi with
  | none => s
  | some g =>
    match g.lostIdx vol lba with
    | none => s
    | some i =>
      let last := g.lost.length - 1
      let s := zoneRec gi (g.pages + i / 128) (s.onGroup gi (fun g => g.unlist i))
      if last / 128 = i / 128 then s else zoneRec gi (g.pages + last / 128) s

/-! ### Row reconstruction (R242-R244) -/

/-- Ask drives for the positions a row job needs; without enough positions the block is lost. -/
def askRow (j : Nat) (s : State) : State :=
  match tget s.vol.rowJobs j with
  | none => s
  | some x =>
    match s.group x.group with
    | none => endRow j s
    | some g =>
      let unk := (g.absentList x.phys ++ x.bad).eraseDups
      if 2 < unk.length then
        let s := endRow j s
        let s := listLost x.group x.vol x.lba (g.posD x.phys x.unit) (if x.reason = 2 then 3 else 2) s
        let s := (x.media.filter (fun p => p ≠ g.posP x.phys && p ≠ g.posQ x.phys)).foldl (fun s p =>
          match s.blockOf x.group (x.key % 4294967296) (g.unitAt x.phys p) x.row with
          | some (v, l) => listLost x.group v l p 2 s
          | none => s) s
        if x.reason = 2 then s else lostBlock x.h x.blk s
      else
        let want := (List.range' 0 g.w).filter (fun p => !unk.contains p && (unk.length = 2 || p ≠ g.posQ x.phys) && !x.need.contains p && (tget x.got p).isNone)
        -- the rows draw operand slots, and wait while these are not free (R291)
        if s.operandBlocks < s.led.operandUsed + want.length then { s with vol.rowJobs := tset s.vol.rowJobs j { x with started := false } } else
        let s := { s with vol.rowJobs := tset s.vol.rowJobs j { x with started := true, need := x.need ++ want, slots := x.slots + want.length }
                          led.operandUsed := s.led.operandUsed + want.length }
        want.foldl (fun s p => match g.bays.getD p none with
          | some b => driveEnqueue b { op := 2, lba := g.block x.phys x.row, n := 1, consumer := .row j p, queue := x.queue } s
          | none => s) s

/-- Reconstruct a block of a row; a claimed stripe's claim ends first (R237, R242). -/
def startRow (x : RowJob) (s : State) : State :=
  let j := s.vol.nextJob
  let s := ({ s with vol.nextJob := j + 1, vol.rowJobs := tset s.vol.rowJobs j x }).count Ev.rdRecon x.group
  if s.vol.granted.contains x.key then s.count Ev.rdWait x.group else askRow j s

/-- A reconstructed block is written back in queue 112, with FS102 (R243, R244). -/
def repairAt (gi phys row pos : Nat) (b : Bytes) (s : State) : State :=
  match s.group gi with
  | none => s
  | some g =>
    let s := (s.faultAt 102 4 5 gi).count Ev.rdRepair gi
    match g.bays.getD pos none with
    | some bay => driveEnqueue bay { op := 1, lba := g.block phys row, n := 1, data := b, consumer := .repair, queue := 112 } s
    | none => s

/-- The block of a row job is written back (R243, R244). -/
def repairBlock (x : RowJob) (b : Bytes) (s : State) : State :=
  match s.group x.group with
  | none => s
  | some g => repairAt x.group x.phys x.row (g.posD x.phys x.unit) b s

/-- The row of a block that failed on its way from a drive is checked (R244). -/
def tagRow (c : Cmd) (blk lba : Nat) (s : State) : State :=
  match s.locate c.vol 0 lba with
  | none => s
  | some l =>
    match s.group l.group with
    | none => s
    | some g =>
      let p := (g.entry l.stripe).1
      startRow { group := l.group, phys := p, row := l.row, unit := l.unit, reason := 2, h := c.order, blk := blk, vol := c.vol, lba := lba,
                 queue := c.tenant, need := [], bad := [g.posD p l.unit], key := stripeKey l.group l.stripe } s

/-- A failing block of a Read or Compare (R210): logged, its cached copy removed, and its row checked where it came from a drive (R244). -/
def tagFailed (h blk origin bay : Nat) (s : State) : State :=
  match s.cmd h with
  | none => s
  | some c =>
    let lba := c.lba + blk
    let org := if origin = 1 ∧ c.kind = 1 then 2 else origin
    let s := integrityRecord c lba org (if origin = 0 then bay else 0xFF) s
    let s := cacheRemove (fun (e : CacheEntry) => e.vol = c.vol ∧ e.lba = lba) s
    let s := s.onCmd h (fun c => { c with status := 0x2C0, bad := if c.status = 0x2C0 then min c.bad blk else blk })
    if origin ≠ 0 then s else tagRow c blk lba s

/-- A decrypted block reaches its consumer (R309). -/
def deliver2 (w : WaitBlock) (pt : Bytes) (ok : Bool) (s : State) : State :=
  if w.origin = 3 then
    match tget s.vol.rowJobs w.h with
    | none => s
    | some x =>
      let s := endRow w.h s
      if ok then repairBlock x w.stored (s.count Ev.rdInteg x.group)
      else match s.group x.group with
        | some g => listLost x.group x.vol x.lba (g.posD x.phys x.unit) 3 s
        | none => s
  else match s.byOrder w.h with
    | none => s
    | some (h, _) => handBlock h w.blk pt (if ok then s else tagFailed h w.blk w.origin w.bay s)

/-- Volume and block that a waiting block is addressed as. -/
def State.addressOf (s : State) (w : WaitBlock) : Nat × Nat :=
  if w.origin = 3 then (match tget s.vol.rowJobs w.h with | some x => (x.vol, x.lba) | none => (0, 0))
  else (match s.byOrder w.h with | some (_, c) => (c.vol, c.lba + w.blk) | none => (0, 0))

/-- Decrypt waiting blocks in order until one must wait (R305). -/
def drainCipher : Nat → State → State
  | 0, s => s
  | f + 1, s =>
    match s.ciph.waiting with
    | [] => s
    | w :: r =>
      let a := s.addressOf w
      match decryptBlock a.1 a.2 w.stored s with
      | none => markShort s
      | some (s, pt, ok) => drainCipher f (deliver2 w pt ok { s with ciph.waiting := r })

/-- A stored block goes to the cipher. -/
def toCipher (w : WaitBlock) (s : State) : State :=
  let s := { s with ciph.waiting := s.ciph.waiting ++ [w] }
  drainCipher s.ciph.waiting.length s

/-- The block that a row job has reconstructed (R232, R242-R244). -/
def finishRow (j : Nat) (s : State) : State :=
  match tget s.vol.rowJobs j with
  | none => s
  | some x =>
    if !x.need.isEmpty then s
    else match s.group x.group with
      | none => s
      | some g =>
        let known (i : Nat) : Option Bytes := if x.bad.contains (g.posD x.phys i) then none else tget x.got (g.posD x.phys i)
        match recover g.k known (tget x.got (g.posP x.phys)) (tget x.got (g.posQ x.phys)) x.unit with
        | none => askRow j { s with vol.rowJobs := tset s.vol.rowJobs j { x with bad := x.bad } }
        | some b =>
          let d := (List.range' 0 g.k).map (fun i => if i = x.unit then b else (known i).getD
            ((recover g.k known (tget x.got (g.posP x.phys)) (tget x.got (g.posQ x.phys)) i).getD zeroBlock))
          let s := x.media.foldl (fun s p => repairAt x.group x.phys x.row p (g.rowBlock x.phys p d) s) (s.parityRows 1)
          if x.reason = 2 then toCipher { h := j, blk := 0, stored := b, origin := 3, bay := 0xFF } s
          else
            let s := endRow j s
            let s := if x.reason = 1 then repairBlock x b s else s
            toCipher { h := x.h, blk := x.blk, stored := b, origin := 0, bay := (g.bays.getD (g.posD x.phys x.unit) none).getD 0xFF } s

/-- A position of a row job answered, or could not be read. -/
def rowAnswer (j pos : Nat) (b : Option Bytes) (s : State) : State :=
  match tget s.vol.rowJobs j with
  | none => s
  | some x =>
    let x := { x with need := x.need.erase pos }
    match b with
    | some b => finishRow j { s with vol.rowJobs := tset s.vol.rowJobs j { x with got := tset x.got pos b } }
    | none => askRow j { s with vol.rowJobs := tset s.vol.rowJobs j { x with bad := x.bad ++ [pos] } }

/-- A position's block of a row job is unreadable on its drive (R243). -/
def rowUnreadable (j pos : Nat) (s : State) : State :=
  match tget s.vol.rowJobs j with
  | none => s
  | some x => rowAnswer j pos none { s with vol.rowJobs := tset s.vol.rowJobs j { x with media := x.media ++ [pos] } }

/-! ### Reads (R203, R242, R289) -/

/-- Reconstruct one block of a command (R242, R243). -/
def rowFor (u blk vol lba queue reason : Nat) (l : Loc) (s : State) : State :=
  match s.group l.group with
  | none => s
  | some g =>
    let p := (g.entry l.stripe).1
    startRow { group := l.group, phys := p, row := l.row, unit := l.unit, reason := reason, h := u, blk := blk, vol := vol, lba := lba,
               queue := queue, need := [], bad := [g.posD p l.unit], key := stripeKey l.group l.stripe } s

/-- One block of a read that comes from the drives: a bay and drive block where it can be read directly. -/
def State.driveFor (s : State) (vol lba : Nat) : Option (Nat × Nat) :=
  match s.locate vol 0 lba with
  | none => none
  | some l =>
    match s.group l.group with
    | none => none
    | some g =>
      let e := g.entry l.stripe
      let pos := g.posD e.1 l.unit
      if g.absent e.1 pos then none else (g.bays.getD pos none).map (fun b => (b, g.block e.1 l.row))

/-- Drive reads of a command's blocks, consecutive ones of one bay together (R242). -/
def issueReads (u queue : Nat) : List (Nat × Nat × Nat) → Option (Nat × Nat × Nat × Nat) → State → State
  | [], none, s => s
  | [], some (bay, lba, blk, n), s => driveEnqueue bay { op := 2, lba := lba, n := n, consumer := .host u blk, queue := queue } s
  | (blk, bay, lba) :: r, none, s => issueReads u queue r (some (bay, lba, blk, 1)) s
  | (blk, bay, lba) :: r, some (b0, l0, k0, n), s =>
    if bay = b0 ∧ lba = l0 + n ∧ blk = k0 + n ∧ n < 256 then issueReads u queue r (some (b0, l0, k0, n + 1)) s
    else issueReads u queue r (some (bay, lba, blk, 1)) (driveEnqueue b0 { op := 2, lba := l0, n := n, consumer := .host u k0, queue := queue } s)

/-- The staged version of a block, found by its slot's index entry (R289, R292). -/
def foundStaged (vol lba : Nat) (s : State) : State × Option (Rec × Nat) :=
  match s.stagedFor vol 0 lba with
  | none => (s, none)
  | some (r, i) =>
    let (s, ok) := indexMet ((r.slot + (if r.kind = 2 then 0 else 1 + i)) % s.stagingBlocks) s
    (s, if ok then some (r, i) else none)

/-- The cached version of a block, found by its slot's index entry (R289, R292). -/
def foundCached (vol lba : Nat) (s : State) : State × Option CacheEntry :=
  match s.cached vol lba with
  | none => (s, none)
  | some e =>
    let (s, ok) := indexMet (s.stagingBlocks + s.operandBlocks + e.slot) s
    if ok then (s, some e) else (cacheRemove (fun (x : CacheEntry) => x.slot = e.slot) s, none)

/-- A block with no staged version: from the cache, as zeros, reconstructed, or added to the list of those that the drives must give (R203, R230, R255, R289). -/
def serveUnstaged (h blk : Nat) (x : State × List (Nat × Nat × Nat)) : State × List (Nat × Nat × Nat) :=
  let s := x.1
  match s.cmd h with
  | none => x
  | some c =>
    let lba := c.lba + blk
    match s.locate c.vol 0 lba with
    | none => (lostBlock c.order blk s, x.2)
    | some l =>
      if s.isLost l.group c.vol lba then (lostBlock c.order blk s, x.2)
      else
        let fromDrives (s : State) : State × List (Nat × Nat × Nat) :=
          let s := mapMet l.group l.stripe (s.count Ev.grMiss 0)
          match s.group l.group with
          | none => (lostBlock c.order blk s, x.2)
          | some g =>
            if !(g.entry l.stripe).2 then (handBlock h blk (zeros 4096) (s.count Ev.nsDealloc c.ns), x.2)
            else
              let s := s.count Ev.nsDrive c.ns
              match s.driveFor c.vol lba with
              | some (bay, d) => (s, x.2 ++ [(blk, bay, d)])
              | none => (rowFor c.order blk c.vol lba c.tenant 0 l s, x.2)
        let (s, found) := foundCached c.vol lba s
        match found with
        | none => fromDrives s
        | some e =>
          match cacheRead e s with
          | (s, some b) => (toCipher { h := c.order, blk := blk, stored := b, origin := 1, bay := 0xFF } (s.count Ev.nsGran c.ns), x.2)
          | (s, none) => fromDrives s

/-- A block whose staged version is block `i` of a record. Where staging lost it, it waits for the copy from which it is read again, or is served without it (R292). -/
def serveStaged (h blk : Nat) (r : Rec) (i : Nat) (x : State × List (Nat × Nat × Nat)) : State × List (Nat × Nat × Nat) :=
  match x.1.cmd h with
  | none => x
  | some c =>
    match stagedBlock r i x.1 with
    | (s, some b) => (toCipher { h := c.order, blk := blk, stored := b, origin := 1, bay := 0xFF } (s.count Ev.nsGran c.ns), x.2)
    | (s, none) =>
      if s.repairing r.place then ({ s with led.imageWaits := s.led.imageWaits ++ [(c.order, blk, r.place, i)] }, x.2)
      else serveUnstaged h blk (s, x.2)

/-- Serve one block of a read-class command: from staging, or without it (R203, R289). -/
def serveBlock (h blk : Nat) (x : State × List (Nat × Nat × Nat)) : State × List (Nat × Nat × Nat) :=
  match x.1.cmd h with
  | none => x
  | some c =>
    let (s, found) := foundStaged c.vol (c.lba + blk) (x.1.count Ev.grLook 0)
    match found with
    | some (r, i) =>
      let s := s.count Ev.grStag 0
      if r.kind = 2 then (handBlock h blk (zeros 4096) (s.count Ev.nsDealloc c.ns), x.2) else serveStaged h blk r i (s, x.2)
    | none => serveUnstaged h blk (s, x.2)

/-- A copy has answered for a block of an image: the blocks that wait for it are served (R292). -/
def serveImage (place i : Nat) (s : State) : State :=
  let now := s.led.imageWaits.filter (fun x => x.2.2 = (place, i))
  now.foldl (fun s x => match s.byOrder x.1 with
    | none => s
    | some (h, c) =>
      let y := match s.led.recs.find? (fun r => r.place = place) with
        | some r => serveStaged h x.2.1 r i (s, [])
        | none => serveUnstaged h x.2.1 (s, [])
      issueReads c.order c.tenant y.2 none y.1) { s with led.imageWaits := s.led.imageWaits.filter (fun x => x.2.2 ≠ (place, i)) }

/-- All blocks of a read-class command (R203). -/
def serveBlocks (h n : Nat) (s : State) : State :=
  match s.cmd h with
  | none => s
  | some c =>
    let s := s.onCmd h (fun c => { c with phase := .reading, waiting := List.range' 0 n })
    let (s, l) := (List.range' 0 n).foldl (fun x blk => serveBlock h blk x) (s, [])
    issueReads c.order c.tenant l none s

/-! ### Parsed commands (R194, R198, R203, R204) -/

/-- What a checked command addresses, set once at its parse. -/
def setAddress (h kind : Nat) (c : Cmd) (s : State) : State :=
  match s.nsFor c.assoc c.nsid with
  | none => s
  | some (i, n) =>
    s.onCmd h (fun c => { c with
      ns := i, vol := n.vol, kind := kind, lba := c.slba, nlb := c.blocks, tenant := s.tenantOf c n
      dest := match s.windowOf c.assoc with | some r => r.hbm + c.sglAddr | none => 0
      src := if kind = 3 then 4 else if c.sglType = 0x01 then 1 else if c.sglType = 0xF0 then 2 else 0 })

/-- Data that a write, compare or Dataset Management brings: at hand, or asked for with an RDMA READ (R197). -/
def fetchData (h : Nat) (s : State) : State :=
  match s.cmd h with
  | none => s
  | some c =>
    if c.src = 0 then
      let wr : WorkRequest := { op := 5, remoteVa := c.sglAddr, remoteKey := c.sglKey, len := c.sglLen, data := [], imm := 0, dest := 0 }
      postWork c.key (.dataRead c.order) wr ((s.onCmd h (fun c => { c with phase := .fetching })).count Ev.nsKeyed c.ns)
    else if c.src = 1 then (s.onCmd h (fun c => { c with buf := sub c.icd c.sglAddr c.sglLen, bufReady := true })).count Ev.nsInCap c.ns
    else if c.src = 2 then (s.onCmd h (fun c => { c with bufReady := true })).count Ev.nsWindow c.ns
    else s.onCmd h (fun c => { c with bufReady := true })

/-- The data of a direct window is read, once (R197): from where the window lay at the parse. -/
def readWindow (h : Nat) (s : State) : State :=
  match s.cmd h with
  | none => s
  | some c =>
    if c.src = 2 ∧ c.buf.isEmpty then
      let x := s.hbmGet (212 + b2n (inStackB c.dest)) c.order c.dest c.sglLen
      x.1.onCmd h (fun c => { c with buf := x.2.1 })
    else s

/-- A volume's data blocks per stripe and first block of the stripe that holds a block, in the layout to which it goes. -/
def State.stripeSpan (s : State) (vol lba : Nat) : Option (Nat × Nat) :=
  match s.locate vol 0 lba with
  | none => none
  | some l => (s.group l.group).map (fun g => (lba - (l.unit * g.u + l.row), g.d))

/-- Divide `[lba, lba + n)` at multiples of 32 blocks into chunks (R198). Sequences are set after. -/
def chunksOf : Nat → Nat → Nat → List Chunk
  | 0, _, _ => []
  | f + 1, lba, n =>
    if n = 0 then []
    else
      let k := min n (32 - lba % 32)
      { lba := lba, n := k, seq := 0 } :: chunksOf f (lba + k) (n - k)

/-- Full stripes of a Write's range (R238), as first block and blocks. -/
def State.fullStripes (s : State) (vol : Nat) : Nat → Nat → Nat → List (Nat × Nat)
  | 0, _, _ => []
  | f + 1, lba, n =>
    if n = 0 then []
    else match s.stripeSpan vol lba with
      | none => []
      | some (first, d) =>
        let k := min n (first + d - lba)
        (if first = lba ∧ d ≤ n then [(lba, d)] else []) ++ s.fullStripes vol f (lba + k) (n - k)

/-- Chunks of a range around its full stripes: the stripes apart, all else divided at multiples of 32 blocks (R198, R238). -/
def chunksAround : List (Nat × Nat) → Nat → Nat → List Chunk
  | [], lba, n => chunksOf (n + 1) lba n
  | x :: r, lba, n =>
    chunksOf (x.1 - lba + 1) lba (x.1 - lba) ++ { lba := x.1, n := x.2, seq := 0, full := true } :: chunksAround r (x.1 + x.2) (lba + n - (x.1 + x.2))

/-- Chunks of a Write with the full-stripe path (R238). -/
def State.fullChunks (s : State) (vol lba n : Nat) : List Chunk := chunksAround (s.fullStripes vol (n + 1) lba n) lba n

/-- Ledger sequences of a chunk: a full stripe sets aside as many as it would take chunked (R198, R240). DESIGN CHOICE (log 137). -/
def Chunk.seqs (k : Chunk) : Nat := if k.full then (chunksOf (k.n + 1) k.lba k.n).length else 1

/-- Give chunks their sequences in order (R198). -/
def seqChunks : List Chunk → State → State × List Chunk
  | [], s => (s, [])
  | c :: r, s =>
    let (t, r) := seqChunks r { s with led.nextLseq := s.led.nextLseq + c.seqs }
    (t, { c with seq := s.led.nextLseq } :: r)

/-- Chunks in one span of 32 blocks become one, with gaps, so that one record holds them (R199, log 105). -/
def joinSpans : List Chunk → List Chunk
  | [] => []
  | x :: xs =>
    match joinSpans xs with
    | y :: ys =>
      if x.lba / 32 = y.lba / 32 then
        { x with n := y.lba + y.n - x.lba, gaps := x.gaps ++ List.range' x.n (y.lba - (x.lba + x.n)) ++ y.gaps.map (· + (y.lba - x.lba)) } :: ys
      else x :: y :: ys
    | [] => [x]

/-- A command's ranges become its chunks (R198, R238), with sequences of its parse. -/
def makeChunks (h : Nat) (ranges : List (Nat × Nat)) (s : State) : State :=
  match s.cmd h with
  | none => s
  | some c =>
    let full := c.kind = 2 ∧ (32 < c.nlb ∨ c.lba / 32 ≠ (c.lba + c.nlb - 1) / 32)
    let ch := ranges.flatMap (fun r => if full then s.fullChunks c.vol r.1 r.2 else chunksOf (r.2 + 1) r.1 r.2)
    let ch := if c.kind = 4 then joinSpans ch else ch
    let (s, ch) : State × List Chunk := match c.seqBase with
      | some b => (s, ch.zipIdx.map (fun (x : Chunk × Nat) => { x.1 with seq := b + x.2 }))
      | none => seqChunks ch s
    let s := s.count Ev.nsChunk c.ns ch.length
    s.onCmd h (fun c => { c with ranges := ranges, chunks := ch, phase := if c.phase = .fetching ∧ !c.bufReady then .fetching else .staging })

/-- NVME_READ (R203). -/
def nvmeRead (h : Nat) (s : State) : State :=
  s.when (s.awaits h 0x02) (fun s => checked h 0 s (fun c s =>
    let s := setAddress h 0 c s
    serveBlocks h c.blocks (match s.cmd h with | some c => s.count Ev.nsRead c.ns | none => s)))

/-- NVME_COMPARE (R204): its blocks are read as of its parse, as a Read's, and its data meets them. -/
def nvmeCompare (h : Nat) (s : State) : State :=
  s.when (s.awaits h 0x05) (fun s => checked h 1 s (fun c s =>
    let s := fetchData h (setAddress h 1 c s)
    match s.cmd h with
    | some c => serveBlocks h c.nlb (readWindow h s)
    | none => s))

/-- NVME_WRITE (R198). -/
def nvmeWrite (h : Nat) (s : State) : State :=
  s.when (s.awaits h 0x01) (fun s => checked h 2 s (fun c s =>
    let s := fetchData h (setAddress h 2 c s)
    match s.cmd h with
    | some c => (makeChunks h [(c.lba, c.nlb)] (s.count Ev.nsWrCmd c.ns)).count Ev.nsWrBytes c.ns (c.nlb * 4096)
    | none => s))

/-- NVME_WRITE_ZEROES (R204). -/
def nvmeWriteZeroes (h : Nat) (s : State) : State :=
  s.when (s.awaits h 0x08) (fun s => checked h 3 s (fun c s =>
    let s := fetchData h (setAddress h 3 c s)
    match s.cmd h with
    | some c => makeChunks h [(c.lba, c.nlb)] (s.count Ev.nsWrCmd c.ns)
    | none => s))

/-- Ranges of a Dataset Management command: first block and blocks of each 16-byte range, in network byte order as the capsule's fields (R3, log 104). -/
def dsmRanges (c : Cmd) : List (Nat × Nat) :=
  (List.range' 0 (c.ranges0 + 1)).map (fun i => (nfld c.buf (i * 16 + 8) 8, nfld c.buf (i * 16 + 4) 4))

/-- Insert a range by its first block. -/
def insertRange (x : Nat × Nat) : List (Nat × Nat) → List (Nat × Nat)
  | [] => [x]
  | y :: ys => if x.1 < y.1 then x :: y :: ys else y :: insertRange x ys

/-- Sorted ranges with those that touch made one, so that blocks side by side lie in one record (R199). -/
def joinRanges : List (Nat × Nat) → List (Nat × Nat)
  | [] => []
  | x :: xs =>
    match joinRanges xs with
    | y :: ys => if y.1 ≤ x.1 + x.2 then (x.1, max x.2 (y.1 + y.2 - x.1)) :: ys else x :: y :: ys
    | [] => [x]

/-- Dataset Management with its ranges at hand: steps 9 and 11 of R194, then its chunks; without AD it changes nothing (R204). -/
def dsmGo (h : Nat) (s : State) : State :=
  match s.cmd h with
  | none => s
  | some c =>
    let r := dsmRanges c
    let size := s.nsSize (s.ns c.ns)
    let go := (r.filter (fun x => 0 < x.2)).foldl (fun l x => insertRange x l) []
    if r.any (fun x => size < x.1 + x.2) then complete h 0x80 true 0 s
    else if c.resvBad then complete h 0x83 true 0 (s.count Ev.hostConf 0)
    else
      let s := s.count Ev.nsWrCmd c.ns
      if c.attributes.testBit 2 ∧ go ≠ [] then makeChunks h (joinRanges go) s else complete h 0x00 false 0 s

/-- Sequences for all the chunks that ranges still to come can need (R198): each span of 32 blocks of the namespace, and one more for each range. -/
def reserveSeqs (h : Nat) (s : State) : State :=
  match s.cmd h with
  | none => s
  | some c =>
    let b := s.led.nextLseq
    { s.onCmd h (fun c => { c with seqBase := some b }) with led.nextLseq := b + s.nsSize (s.ns c.ns) / 32 + c.ranges0 + 2 }

/-- NVME_DATASET_MANAGEMENT (R204). -/
def nvmeDatasetManagement (h : Nat) (s : State) : State :=
  s.when (s.awaits h 0x09) (fun s => checked h 4 s (fun c s =>
    let bad := !resvOk ((s.nsFor c.assoc c.nsid).elim {} (·.2)) c.assoc true
    let s := (fetchData h (setAddress h 4 c s)).onCmd h (fun c => { c with resvBad := bad })
    match s.cmd h with
    | some c => if c.bufReady then dsmGo h s else reserveSeqs h s
    | none => s))

/-- Data of a command arrives from its host (R197). -/
def dataArrives (u off : Nat) (b : Bytes) (s : State) : State :=
  match s.byOrder u with
  | none => s
  | some (h, c) => if c.phase = .moving then s.hbmPut (c.dest + off) b else s.onCmd h (fun c => { c with buf := c.buf ++ b })

/-- All of a command's data has arrived. -/
def dataComplete (u : Nat) (s : State) : State :=
  match s.byOrder u with
  | none => s
  | some (h, c) =>
    if c.phase = .moving then sendCqe h c.cqe s
    else
      if c.kind = 1 then compareReady h s
      else
        let s := s.onCmd h (fun c => { c with bufReady := true, phase := if c.phase = .fetching then .staging else c.phase })
        if c.kind = 4 ∧ c.chunks.isEmpty then dsmGo h s else s

end Sys2Proof.Machine
end

