-- ==== Sys2Proof/Machine/Merges.lean ====
section
/-! DEFINITION. Claims and merges (R234-R237). -/

namespace Sys2Proof.Machine

/-! ### Claims (R237, R291) -/

/-- Change a chunk of a command. -/
def onChunk (u i : Nat) (f : Chunk → Chunk) (s : State) : State :=
  match s.byOrder u with
  | some (h, _) => s.onCmd h (fun c => { c with chunks := lmod c.chunks i f })
  | none => s

/-- A chunk of a command. -/
def State.chunkOf (s : State) (u i : Nat) : Option (Cmd × Chunk) :=
  match s.byOrder u with
  | some (_, c) => (c.chunks[i]?).map (fun k => (c, k))
  | none => none

/-- The claim's holder gives the stripe back, and reads that waited go on (R237, R242). -/
def releaseClaim (key : Nat) (s : State) : State :=
  (s.vol.rowJobs.filter (fun j => j.2.key = key ∧ !j.2.started)).foldl (fun s j => askRow j.1 s) (freeClaim key s)

/-! ### Merges (R234-R236) -/

/-- Blocks of a record that lie in a stripe and are not merged: index, unit and row. A kind 6 record's page counts as one block of the map zone (R271). -/
def State.pieces (s : State) (key : Nat) (r : Rec) : List (Nat × Nat × Nat) :=
  let gi := key / 4294967296
  let st := key % 4294967296
  let at' (vol lba i : Nat) : Option (Nat × Nat × Nat) :=
    match s.locate vol r.group lba with
    | some l => if l.group = gi ∧ l.stripe = st ∧ !r.merged.contains i then some (i, l.unit, l.row) else none
    | none => none
  if r.kind = 1 ∨ r.kind = 2 then (List.range' 0 r.count).filterMap (fun i => at' r.vol (r.lba + i) i)
  else if r.kind = 6 ∧ 2 ^ 31 ≤ st then (at' 0xFFFF (fld r.extra 8 4) 0).toList
  else []

/-- Lowest sequence in a stripe that is not yet settled: of records, and of chunks of commands that are not yet visible (R277). -/
def State.barrier (s : State) (key : Nat) : Option Nat :=
  let gi := key / 4294967296
  let st := key % 4294967296
  let unset := (s.led.recs ++ s.unplaced).filter (fun r => !r.settled && !r.late && !(s.pieces key r).isEmpty)
  let seqs := unset.map (fun r => r.lseq) ++ s.tgt.cmds.flatMap (fun c => (c.2.chunks.filter (fun k =>
      ((List.range' 0 k.n).filter (fun i => !k.gaps.contains i)).any (fun i => match s.locate c.2.vol 0 (k.lba + i) with | some l => l.group = gi ∧ l.stripe = st | none => false))).map (fun k => k.seq))
  seqs.foldl (fun a q => match a with | some x => some (min x q) | none => some q) none

/-- Insert a record by its sequence. -/
def insertRec (r : Rec) : List Rec → List Rec
  | [] => [r]
  | x :: xs => if r.lseq < x.lseq then r :: x :: xs else x :: insertRec r xs

/-- Parity-intent records that replay loaded for the physical stripe on which a stripe lies and no commit has ended (R236). -/
def State.intentsOf (s : State) (key : Nat) : List Rec :=
  match s.group (key / 4294967296) with
  | none => []
  | some g => s.led.recs.filter (fun r => r.kind = 3 && r.owner = .replayed && !r.retired && r.group = key / 4294967296
      && fld r.extra 0 4 = (g.entry (key % 4294967296)).1)

/-- Records of a stripe that a merge takes, in sequence order (R234, R277); where a replayed parity-intent record stands, those that its rows were computed from. -/
def State.mergeable (s : State) (key : Nat) : List Rec :=
  let b := (s.intentsOf key).foldl (fun a r => match a with
    | some q => some (min q r.lseq)
    | none => some r.lseq) (s.barrier key)
  let l := s.led.recs.filter (fun r => r.durable && r.settled && !r.retired && !(s.pieces key r).isEmpty && (match b with | some q => r.lseq < q | none => true))
  l.foldl (fun a r => insertRec r a) []

/-- Split sorted rows into runs: first row and rows. -/
def rowRuns : List Nat → List (Nat × Nat)
  | [] => []
  | b :: bs =>
    match rowRuns bs with
    | (c, n) :: r => if b + 1 = c then (b, n + 1) :: r else (b, 1) :: (c, n) :: r
    | [] => [(b, 1)]

/-- Key of a block of a merge: unit or position, and row. -/
abbrev blkKey (p row : Nat) : Nat := p * 65536 + row

/-- Rows of one position of a physical stripe are read, as drive commands; how many. -/
def readRows (consumer : Nat → Consumer) (queue pos : Nat) (g : LGroup) (phys : Nat) (rows : List Nat) (s : State) : State × Nat :=
  match g.bays.getD pos none with
  | none => (s, 0)
  | some bay =>
    let runs := rowRuns rows
    (runs.foldl (fun s r => driveEnqueue bay { op := 2, lba := g.block phys r.1, n := r.2, consumer := consumer r.1, queue := queue } s) s, runs.length)

/-- Rows of one position of a physical stripe are written, as drive commands; how many there are now. A position that holds nothing is skipped (R250). -/
def writeRows (consumer : Consumer) (queue pos : Nat) (g : LGroup) (phys : Nat) (rows : List Nat) (data : Nat → Bytes) (x : State × Nat) : State × Nat :=
  match g.bays.getD pos none with
  | none => x
  | some bay => (rowRuns rows).foldl (fun x r =>
      (driveEnqueue bay { op := 1, lba := g.block phys r.1, n := r.2, data := (List.range' 0 r.2).flatMap (fun k => data (r.1 + k)),
                          consumer := consumer, queue := queue } x.1, x.2 + 1)) x

/-- Rows of one position that a merge reads, in queue 112. -/
def mergeReads (key pos : Nat) (g : LGroup) (phys : Nat) (rows : List Nat) (s : State) : State × Nat :=
  readRows (fun row => .mergeRead key pos row) 112 pos g phys rows s

/-- Insert a number in rising order, once. -/
def insertNat (x : Nat) : List Nat → List Nat
  | [] => [x]
  | y :: ys => if x < y then x :: y :: ys else if x = y then y :: ys else y :: insertNat x ys

/-- The data units of a row after the merge: new, read, cached or recovered; none for a unit that cannot be had. -/
def Merge.unit (m : Merge) (g : LGroup) (row i : Nat) : Option Bytes :=
  match tget m.data (blkKey i row) with
  | some b => some b
  | none =>
    let old (j : Nat) : Option Bytes := tget m.old (blkKey (g.posD m.phys j) row)
    match old i with
    | some b => some b
    | none => recover g.k old (tget m.old (blkKey (g.posP m.phys) row)) (tget m.old (blkKey (g.posQ m.phys) row)) i

/-- New P and Q of a touched row (R231, R233, R235). -/
def Merge.parity (m : Merge) (g : LGroup) (row : Nat) : Bytes × Bytes :=
  let pOld := tget m.old (blkKey (g.posP m.phys) row)
  let qOld := tget m.old (blkKey (g.posQ m.phys) row)
  let touched := (List.range' 0 g.k).filter (fun i => (tget m.data (blkKey i row)).isSome)
  let direct := m.method = 3 && m.bad.isEmpty
  match direct, pOld, qOld with
  | true, some p, some q =>
    touched.foldl (fun x i =>
      let new := tgetD m.data (blkKey i row) zeroBlock
      let old := tgetD m.old (blkKey (g.posD m.phys i) row) zeroBlock
      (updateP x.1 old new, updateQ x.2 i old new)) (p, q)
  | _, _, _ =>
    let d := rowData g.k (m.unit g row)
    (parityP d, parityQ 0 d)

/-- Data units of touched rows that a merge can neither read nor recover: they are listed lost (R236, R243). -/
def loseUnits (key : Nat) (m : Merge) (g : LGroup) (s : State) : State :=
  let gi := key / 4294967296
  let st := key % 4294967296
  if m.method = 3 && m.bad.isEmpty || m.method = 1 then s
  else (m.rows.filter (fun row => (tget m.fixed row).isNone)).foldl (fun s row => (List.range' 0 g.k).foldl (fun s i =>
    if (m.unit g row i).isSome then s
    else match s.blockOf gi st i row with
      | some (v, l) => listLost gi v l (g.posD m.phys i) (if m.replayed && g.absent m.phys (g.posD m.phys i) then 4 else 2) s
      | none => if 2 ^ 31 ≤ st then groupOffline gi s else s) s) s

/-- What a merge could not read and has recovered is written back with it (R243): P and Q as it computes them, a data block as recovered. -/
def mendRows (key : Nat) (m : Merge) (g : LGroup) (s : State) : State × Merge :=
  (m.bad.filter (fun k => !g.absent m.phys (k / 65536))).foldl (fun x k =>
    let gi := key / 4294967296
    let pos := k / 65536
    let mended := (x.1.faultAt 102 4 5 gi).count Ev.rdRepair gi
    if pos = g.posP m.phys ∨ pos = g.posQ m.phys then (mended, x.2)
    else
      let i := g.unitAt m.phys pos
      match m.unit g (k % 65536) i with
      | some b => (mended, { x.2 with data := tset x.2.data (blkKey i (k % 65536)) b })
      | none => x) (s, m)

/-- In-place writes of a merge in queue 112: every touched data row, and P and Q, on positions that hold something (R230, R235, R250). -/
def mergeWrites (key : Nat) (s : State) : State :=
  match tget s.vol.merges key, s.group (key / 4294967296) with
  | some m, some g =>
    let at' (pos : Nat) (rows : List Nat) (data : Nat → Bytes) (x : State × Nat) : State × Nat :=
      if g.absent m.phys pos then x else writeRows (.mergeWrite key) 112 pos g m.phys rows data x
    let x := (List.range' 0 g.k).foldl (fun x i =>
      at' (g.posD m.phys i) (m.rows.filter (fun b => (tget m.data (blkKey i b)).isSome)) (fun b => tgetD m.data (blkKey i b) zeroBlock) x) (s, 0)
    let x := at' (g.posP m.phys) m.rows (fun b => (tgetD m.par b (zeroBlock, zeroBlock)).1) x
    let x := at' (g.posQ m.phys) m.rows (fun b => (tgetD m.par b (zeroBlock, zeroBlock)).2) x
    let ph := if x.2 = 0 then MergePhase.written else MergePhase.writing
    { x.1 with vol.merges := tset x.1.vol.merges key { m with left := x.2, phase := ph } }
  | _, _ => s

/-- Parity-intent records of a merge: one for every run of at most 16 touched rows (R235, R271). -/
def intentRuns (rows : List Nat) : List (Nat × Nat) :=
  (rowRuns rows).flatMap (fun r => (List.range' 0 (ceilDiv r.2 16)).map (fun i => (r.1 + 16 * i, min 16 (r.2 - 16 * i))))

/-- With every read answered: compute P and Q, then parity-intent records or the writes (R235). -/
def mergeCompute (key : Nat) (s : State) : State :=
  match tget s.vol.merges key, s.group (key / 4294967296) with
  | some m, some g =>
    let s := loseUnits key m g s
    let (s, m) := mendRows key m g s
    let par := m.rows.map (fun b => (b, (tget m.fixed b).getD (m.parity g b)))
    let s := (s.count Ev.mgRows (key / 4294967296) m.rows.length).parityRows m.rows.length
    let m := { m with par := par }
    let runs := intentRuns (m.rows.filter (fun b => (tget m.fixed b).isNone))
    if m.method = 2 ∧ runs ≠ [] then
      let s := { s with vol.merges := tset s.vol.merges key { m with phase := .intent, intents := runs.length, intentsLeft := runs.length } }
      runs.foldl (fun s r =>
        let rows := (List.range' 0 r.2).map (fun k => tgetD par (r.1 + k) (zeroBlock, zeroBlock))
        (deviceRec 3 0xFFFF (key / 4294967296) 0 (le 4 m.phys ++ le 2 r.1 ++ le 1 r.2) (.merge key) (rows.map (·.1) ++ rows.map (·.2)) s).count Ev.mgIntent (key / 4294967296)) s
    else mergeWrites key { s with vol.merges := tset s.vol.merges key m }
  | _, _ => s

/-- Reads of a merge are over: where some block could not be read, the rest of its rows is asked for once (R243). -/
def mergeReadsDone (key : Nat) (s : State) : State :=
  match tget s.vol.merges key, s.group (key / 4294967296) with
  | some m, some g =>
    if m.left ≠ 0 ∨ m.phase ≠ .reading then s
    else if m.bad ≠ [] ∧ !m.expanded ∧ !m.replayed then
      let x := (List.range' 0 g.w).foldl (fun (x : State × Nat) pos =>
        if g.absent m.phys pos then x
        else
          let rows := m.rows.filter (fun b => (tget m.old (blkKey pos b)).isNone && !m.bad.contains (blkKey pos b))
          let y := mergeReads key pos g m.phys rows x.1
          (y.1, x.2 + y.2)) (s, 0)
      let s := { x.1 with vol.merges := tset x.1.vol.merges key { m with expanded := true, left := x.2 } }
      if x.2 = 0 then mergeCompute key s else s
    else mergeCompute key s
  | _, _ => s

/-- A claimed merge begins: what it takes, its method and its reads (R234, R235). -/
def mergeBegin (key : Nat) (s : State) : State :=
  let gi := key / 4294967296
  let st := key % 4294967296
  match s.group gi with
  | none => releaseClaim key s
  | some g =>
    let recs := s.mergeable key
    if recs.isEmpty ∨ g.state = 4 then releaseClaim key s
    else
      let put (x : State × Tbl Bytes) (r : Rec) : State × Tbl Bytes :=
        (s.pieces key r).foldl (fun x pc =>
          let y := if r.kind = 2 then (x.1, some (deallocBlock r.vol)) else stagedBlock r pc.1 x.1
          (y.1, match y.2 with | some b => tset x.2 (blkKey pc.2.1 pc.2.2) b | none => x.2)) x
      let (s, data) := recs.foldl put (s, [])
      let e := g.entry st
      let units := (data.map (fun d => d.1 / 65536)).foldl (fun a u => insertNat u a) []
      let rows := (data.map (fun d => d.1 % 65536)).foldl (fun a b => insertNat b a) []
      let gone := g.absentList e.1
      -- P and Q rows that replayed parity-intent records give: r P rows, then r Q rows
      let (s, given) := (s.intentsOf key).foldl (fun (x : State × Tbl (Bytes × Bytes)) r =>
        let n := fld r.extra 6 1
        let y := stagedAll r x.1
        (y.1, (List.range' 0 n).foldl (fun t i => match y.2.getD i none, y.2.getD (n + i) none with
          | some p, some q => tset t (fld r.extra 4 2 + i) (p, q)
          | _, _ => t) x.2)) (mapMet gi st s, [])
      -- a block of an image that is read again from a copy, or that is lost: the merge begins anew once it is there (R292)
      if data.isEmpty || recs.any (fun r => s.repairing r.place) || (s.intentsOf key).any (fun r => s.repairing r.place) then releaseClaim key s else
      -- replay redoes a merge without old parity (R236)
      let replayed := recs.any (fun r => r.owner = .replayed)
      let method := if !e.2 then 1 else if gone ≠ [] then 2 else if units.length ≤ g.k / 2 ∧ !replayed then 3 else 4
      let fixed := if method = 1 then [] else given
      let all := List.range' 0 g.u
      let fill (v : Tbl Bytes) : Tbl Bytes := (List.range' 0 g.k).foldl (fun v i => all.foldl (fun v b =>
        match tget v (blkKey i b) with
        | some _ => v
        | none => tset v (blkKey i b) (deallocBlock (match s.blockOf gi st i b with | some (vol, _) => vol | none => 0))) v) v
      let m : Merge := { places := recs.map (fun r => r.place), through := recs.foldl (fun a r => max a r.lseq) 0, method := method, phys := e.1,
                         data := if method = 1 then fill data else data, rows := if method = 1 then all else rows,
                         replayed := replayed, fixed := fixed }
      -- old rows of read-modify-write that the read cache holds are not read again
      let (s, old) := if method ≠ 3 then (s, []) else data.foldl (fun (x : State × Tbl Bytes) d =>
        match s.blockOf gi st (d.1 / 65536) (d.1 % 65536) with
        | some (v, l) => (match x.1.cached v l with
          | some c => (match cacheRead c x.1 with
            | (s, some b) => (s, tset x.2 (blkKey (g.posD e.1 (d.1 / 65536)) (d.1 % 65536)) b)
            | (s, none) => (s, x.2))
          | none => x)
        | none => x) (s, [])
      let untouched (i : Nat) : List Nat := rows.filter (fun b => (tget data (blkKey i b)).isNone && (tget fixed b).isNone)
      -- a row with an absent data unit that the merge does not write needs every position that is left
      let hard := method = 2 && !replayed && (List.range' 0 g.k).any (fun i => gone.contains (g.posD e.1 i) && !(untouched i).isEmpty)
      let want (pos : Nat) : List Nat :=
        if method = 1 ∨ gone.contains pos then []
        else if hard then rows
        else if method = 3 then
          (if pos = g.posP e.1 ∨ pos = g.posQ e.1 then rows
           else rows.filter (fun b => (List.range' 0 g.k).any (fun i => g.posD e.1 i = pos && (tget data (blkKey i b)).isSome) && (tget old (blkKey pos b)).isNone))
        else (List.range' 0 g.k).flatMap (fun i => if g.posD e.1 i = pos then untouched i else [])
      let x := (List.range' 0 g.w).foldl (fun (x : State × Nat) pos => let y := mergeReads key pos g e.1 (want pos) x.1; (y.1, x.2 + y.2)) (s, 0)
      let s := { x.1 with vol.merges := tset x.1.vol.merges key { m with old := old, left := x.2 } }
      let s := (s.count (Ev.merge0 + (method - 1)) gi).count Ev.mgRec gi recs.length
      mergeReadsDone key s

/-- A read of a merge answered: its rows, or a block that cannot be read (R243). -/
def mergeRead (key pos row n : Nat) (b : Option Bytes) (s : State) : State :=
  match tget s.vol.merges key, s.group (key / 4294967296) with
  | some m, some g =>
    match b with
    | some d =>
      let old := (List.range' 0 n).foldl (fun t i => tset t (blkKey pos (row + i)) (sub d (i * 4160) 4160)) m.old
      mergeReadsDone key { s with vol.merges := tset s.vol.merges key { m with old := old, left := m.left - 1 } }
    | none =>
      if 1 < n then
        let s := { s with vol.merges := tset s.vol.merges key { m with left := m.left - 1 + n } }
        match g.bays.getD pos none with
        | some bay => (List.range' 0 n).foldl (fun s i =>
            driveEnqueue bay { op := 2, lba := g.block m.phys (row + i), n := 1, consumer := .mergeRead key pos (row + i), queue := 112 } s) s
        | none => s
      else mergeReadsDone key { s with vol.merges := tset s.vol.merges key { m with bad := m.bad ++ [blkKey pos row], left := m.left - 1 } }
  | _, _ => s

/-- A write of a merge has ended (R236, R246). -/
def mergeWrote (key : Nat) (s : State) : State :=
  match tget s.vol.merges key with
  | some m =>
    let n := m.left - 1
    { s with vol.merges := tset s.vol.merges key { m with left := n, phase := if n = 0 ∧ m.phase = .writing then .written else m.phase } }
  | none => s

/-- MERGE_COMMIT_SUBMIT (R236, R271). -/
def mergeCommitSubmit (group stripe : Nat) (s : State) : State :=
  let key := stripeKey group stripe
  match tget s.vol.merges key with
  | some m =>
    s.when (m.phase = .written && s.led.isOpen && !s.led.paused && s.stagingRoom 1) (fun s =>
      let s := { s with vol.merges := tset s.vol.merges key { m with phase := .committing } }
      deviceRec 4 0xFFFF group 0 (le 4 m.phys ++ zeros 4 ++ le 8 m.through ++ le 2 m.intents) (.merge key) [] s)
  | none => s

/-- A merge's commit is durable: it ends (R230, R236, R255, R278, R290). -/
def mergeDone (key : Nat) (s : State) : State :=
  let gi := key / 4294967296
  let st := key % 4294967296
  match tget s.vol.merges key, s.group gi with
  | some m, some g =>
    let took (r : Rec) : Bool := m.places.contains r.place
    let intents := if m.fixed.isEmpty then [] else (s.intentsOf key).map (fun r => r.place)
    let zone := 2 ^ 31 ≤ st
    -- newest versions, for the cache and the lost-block list
    let blocks : List (Nat × Nat × Bytes) := if zone then [] else m.data.filterMap (fun d =>
      match s.blockOf gi st (d.1 / 65536) (d.1 % 65536) with
      | some (v, l) => some (v, l, d.2)
      | none => none)
    let news := (s.led.recs.filter took).flatMap (fun r => (s.pieces key r).map (fun pc => (r.vol, r.lba + pc.1)))
    let recs := s.led.recs.map (fun r =>
      if took r then { r with merged := r.merged ++ (s.pieces key r).map (·.1) }
      else if r.kind = 3 ∧ (r.owner = .merge key ∨ intents.contains r.place) then { r with merged := [0] } else r)
    let s := { s with led.recs := recs, vol.merges := terase s.vol.merges key, vol.commits := tset s.vol.commits key s.bell.edges }
    let s := if m.method = 1 ∧ !zone then zoneRec gi (pageOf st) (setMap gi st m.phys true s) else s
    let s := if zone then s else news.foldl (fun s b => unlistLost gi b.1 b.2 s) s
    let s := if s.objN 0x480014 2 = 2 ∧ !zone then
        blocks.foldl (fun s b => if news.contains (b.1, b.2.1) ∧ !stDealloc b.2.2 then cacheInsert b.1 b.2.1 b.2.2 s else s) s
      else s
    let _ := g
    retireAll (releaseClaim key s)
  | _, _ => s

end Sys2Proof.Machine
end

