-- ==== Sys2Proof/Machine/Items.lean ====
section
/-! DEFINITION. Rebuild items, scrub items and reshape copies from the grant of their claims to their last write (R237, R249-R252, R257, R259). -/

namespace Sys2Proof.Machine

/-! ### Items -/

/-- Item numbers: a group's rebuild is its own number, its scrub comes 32 after; a volume's reshape is 64 + the volume's id. -/
abbrev scrubId (gi : Nat) : Nat := 32 + gi
abbrev reshapeId (v : Nat) : Nat := 64 + v

/-- The admission queue of an item's drive work. -/
def itemQueue (id : Nat) : Nat := if id < 32 then 113 else if id < 64 then 114 else 115

/-- Key of a block that an item reads. -/
abbrev partKey (part pos row : Nat) : Nat := part * 4294967296 + blkKey pos row

/-- An item. -/
def State.item (s : State) (id : Nat) : Option StripeItem := tget s.vol.items id

/-- Store an item. -/
def State.setItem (s : State) (id : Nat) (x : StripeItem) : State := { s with vol.items := tset s.vol.items id x }

/-- The stripe that lies on a physical stripe or is being written to it by a full-stripe write (R227, R239). -/
def State.stripeAt (s : State) (gi : Nat) (g : LGroup) (p : Nat) : Option Nat :=
  match g.logicalOf p with
  | some st => some st
  | none => (s.tgt.cmds.flatMap (fun c => c.2.chunks)).findSome? (fun k =>
      if k.full ∧ k.granted ∧ k.target = p ∧ k.key / 4294967296 = gi then some (k.key % 4294967296) else none)

/-- The cursor of the running rebuild pass (R251). -/
def LGroup.cursor (g : LGroup) : Nat := if g.pass2 then g.cur2 else g.cur1

/-- Positions whose unit of a stripe a rebuild item writes: those that lack it and have a spare (R249, R251). -/
def LGroup.toRebuild (g : LGroup) (p : Nat) : List Nat := (g.absentList p).filter (fun pos => g.rebuilding.contains pos)

/-- Positions a rebuild item reads: `k` of the data units that are present, then P, then Q (R249). -/
def LGroup.survivors (g : LGroup) (p : Nat) : List Nat :=
  (((List.range' 0 g.k).map (g.posD p) ++ [g.posP p, g.posQ p]).filter (fun pos => !g.absent p pos)).take g.k

/-- An item ends: its claims are given back, and what waits for a grant goes (R237). -/
def endItem (id : Nat) (s : State) : State :=
  match s.item id with
  | none => s
  | some x =>
    let s := { s with vol.items := terase s.vol.items id }
    let s := x.waits.foldl (fun s k =>
      let l := (s.claimsOn k).filter (fun c => c ≠ .item id)
      { s with vol.claims := if l.isEmpty then terase s.vol.claims k else tset s.vol.claims k l }) s
    (x.keys.filter (fun k => !x.waits.contains k)).foldl (fun s k => releaseClaim k s) s

/-- The data blocks of a row of a part, in unit order: as read or as recovered; none for a block that cannot be had (R232). -/
def StripeItem.solve (x : StripeItem) (g : LGroup) (part phys row : Nat) : List (Option Bytes) :=
  let read (pos : Nat) : Option Bytes := tget x.got (partKey part pos row)
  let known (i : Nat) : Option Bytes := read (g.posD phys i)
  (List.range' 0 g.k).map (fun i => match known i with
    | some b => some b
    | none => recover g.k known (read (g.posP phys)) (read (g.posQ phys)) i)

/-- Rows of a position of a part that could not be read. -/
def StripeItem.badRows (x : StripeItem) (part pos u : Nat) : List Nat := (List.range' 0 u).filter (fun b => x.bad.contains (partKey part pos b))

/-- The blocks of one part that could not be read and have been recovered are written back in queue 112 (R243, R252). -/
def mendPart (id part phys : Nat) (x : StripeItem) (gi : Nat) (g : LGroup) (y : State × Nat) : State × Nat :=
  (List.range' 0 g.w).foldl (fun y pos =>
    if g.absent phys pos then y
    else
      let rows := (x.badRows part pos g.u).filter (fun b => (x.solve g part phys b).all (fun v => v.isSome))
      let s := rows.foldl (fun s _ => (s.faultAt 102 4 5 gi).count Ev.rdRepair gi) y.1
      writeRows (.itemWrite id) 112 pos g phys rows (fun b => g.rowBlock phys pos ((x.solve g part phys b).map (fun v => v.getD zeroBlock))) (s, y.2)) y

/-- Data blocks of one part's rows that cannot be had are listed with a reason (R243, R252); an unreadable row of the map zone takes the group offline (R256). -/
def listRow (gi st phys row reason : Nat) (g : LGroup) (d : List (Option Bytes)) (s : State) : State :=
  if d.all (fun v => v.isSome) then s
  else if 2 ^ 31 ≤ st then groupOffline gi s
  else (List.range' 0 g.k).foldl (fun s i =>
    if (d.getD i none).isSome then s
    else match s.blockOf gi st i row with
      | some (v, l) => (listLost gi v l (g.posD phys i) reason s).count Ev.rbList gi (b2n (reason = 1))
      | none => s) s

/-- An item's writes are under way; without any it has written. -/
def itemWrites (id : Nat) (y : State × Nat) : State :=
  match y.1.item id with
  | some x => y.1.setItem id { x with left := y.2, phase := if y.2 = 0 then .written else .writing }
  | none => y.1

/-! ### Rebuild (R249, R252) -/

/-- The reads of a rebuild item are over: each missing unit is computed and written to its spare; what survivors could not give is written back;
a row with three or more unknowns has its unknown blocks listed and written as zeros, with P and Q over the row as it then is. -/
def rebuildCompute (gi : Nat) (x : StripeItem) (part : StripePart) (g : LGroup) (s : State) : State :=
  let st := part.key % 4294967296
  let p := part.phys
  let rows := List.range' 0 g.u
  let sol := rows.map (fun b => (b, x.solve g 0 p b))
  let solOf (b : Nat) : List (Option Bytes) := tgetD sol b []
  let lost := (sol.filter (fun r => !r.2.all (fun v => v.isSome))).map (·.1)
  let s := sol.foldl (fun s r => listRow gi st p r.1 1 g r.2 s) (s.parityRows g.u)
  let data (pos b : Nat) : Bytes := g.rowBlock p pos ((solOf b).map (fun v => v.getD zeroBlock))
  let put (y : State × Nat) (pos : Nat) : State × Nat :=
    if x.targets.contains pos then writeRows (.itemWrite gi) 113 pos g p rows (data pos) y
    else if g.absent p pos then y
    else
      let redo := lost.filter (fun b => pos = g.posP p || pos = g.posQ p || x.bad.contains (partKey 0 pos b))
      writeRows (.itemWrite gi) 113 pos g p redo (data pos) y
  itemWrites gi ((List.range' 0 g.w).foldl put (mendPart gi 0 p x gi g (s, 0)))

/-! ### Scrub (R257) -/

/-- A scrubbed row's verdict (R257): counted; one that was wrong raises FS103, one that cannot be resolved is captured and raises FS104. -/
def scrubVerdict (gi p row v : Nat) (s : State) : State :=
  let s := s.count (Ev.scVerd0 + v) gi
  if v = 0 then s
  else if v = 4 then (s.onGroup gi (fun g => { g with scrubStripe := p, scrubRow := row })).faultAt 104 4 5 gi
  else s.faultAt 103 4 5 gi

/-- Whether a block holds only zeros. -/
def isZeroBytes (b : Bytes) : Bool := b.all (fun x => x = 0)

/-- The syndromes of a row resolved (R257): 0 consistent, 1 P wrong, 2 Q wrong, 3 a data unit wrong, 4 not resolvable; with the blocks to rewrite, by position.
Where a position is missing only a row in which the rest agrees is consistent (log 109). -/
def LGroup.resolve (g : LGroup) (phys : Nat) (whole : Bool) (d : List Bytes) (p q : Option Bytes) : Nat × List (Nat × Bytes) :=
  let sp := (p.map (fun b => xorBytes b (parityP d))).getD zeroBlock
  let sq := (q.map (fun b => xorBytes b (parityQ 0 d))).getD zeroBlock
  let rp := (g.posP phys, parityP d)
  let rq := (g.posQ phys, parityQ 0 d)
  if isZeroBytes sp && isZeroBytes sq then (0, [])
  else if !whole then (4, [rp, rq])
  else if isZeroBytes sq then (1, [rp])
  else if isZeroBytes sp then (2, [rq])
  else match (List.range' 0 g.k).find? (fun z => scaleBytes (gfPow 2 z) sp = sq) with
    | some z => (3, [(g.posD phys z, xorBytes (d.getD z zeroBlock) sp)])
    | none => (4, [rp, rq])

/-- One row of a scrubbed stripe: resolved and rewritten where every block was read; else what R243 says of unreadable blocks. -/
def scrubRow (gi st phys row : Nat) (x : StripeItem) (g : LGroup) (y : State × Nat) : State × Nat :=
  let d := x.solve g 0 phys row
  let gone := g.absentList phys
  if (List.range' 0 g.w).any (fun pos => x.bad.contains (partKey 0 pos row)) || !d.all (fun v => v.isSome) then (listRow gi st phys row 2 g d y.1, y.2)
  else
    let r := g.resolve phys gone.isEmpty (d.map (fun v => v.getD zeroBlock)) (tget x.got (partKey 0 (g.posP phys) row)) (tget x.got (partKey 0 (g.posQ phys) row))
    r.2.foldl (fun y w => if gone.contains w.1 then y else writeRows (.itemWrite (scrubId gi)) 114 w.1 g phys [row] (fun _ => w.2) y)
      (scrubVerdict gi phys row r.1 y.1, y.2)

/-- The reads of a scrub item are over (R257). -/
def scrubCompute (gi : Nat) (x : StripeItem) (part : StripePart) (g : LGroup) (s : State) : State :=
  let y := (List.range' 0 g.u).foldl (fun y row => scrubRow gi (part.key % 4294967296) part.phys row x g y) (s.parityRows g.u, 0)
  itemWrites (scrubId gi) (mendPart (scrubId gi) 0 part.phys x gi g y)

/-! ### Reshape (R259) -/

/-- Where the source block of a copy lies: its part, physical stripe, data unit and row; none where its stripe is unwritten. -/
def StripeItem.sourceOf (x : StripeItem) (gi : Nat) (g : LGroup) (f l : Nat) : Option (Nat × Nat × Nat × Nat) :=
  let o := locIn gi g f l
  match x.parts.findIdx? (fun a => a.key = stripeKey gi o.stripe) with
  | some i => (x.parts[i]?).map (fun a => (i, a.phys, o.unit, o.row))
  | none => none

/-- A block of the target stripe (R259): as stored in the source, a zero block where it is listed or cannot be read, a deallocated one where the source
holds nothing; and whether it is lost. -/
def copiedBlock (v : Nat) (vol : Volume) (x : StripeItem) (g : LGroup) (l : Nat) (s : State) : Bytes × Bool :=
  if vol.size ≤ l then (deallocBlock v, false)
  else if s.isLost vol.group v l then (zeroBlock, true)
  else match x.sourceOf vol.group g vol.f l with
    | none => (deallocBlock v, false)
    | some (i, phys, unit, row) =>
      match (x.solve g i phys row).getD unit none with
      | some b => (b, false)
      | none => (zeroBlock, true)

/-- The reads of a copy step are over: lost blocks are listed, and the target stripe is written whole in queue 115 (R230, R259). -/
def reshapeCompute (v : Nat) (x : StripeItem) (s : State) : State :=
  match s.volume v with
  | none => cancelItem (reshapeId v) s
  | some vol =>
    match vol.reshape with
    | none => cancelItem (reshapeId v) s
    | some r =>
      match s.group vol.group, s.group r.target with
      | some g, some t =>
        let o := locIn r.target t r.ft r.c
        let phys := (t.entry o.stripe).1
        let ls := List.range' r.c t.d
        -- source blocks that cannot be read are listed there, and every lost block in the target
        let s := (ls.filter (fun l => l < vol.size)).foldl (fun s l => match x.sourceOf vol.group g vol.f l with
          | some (i, p, unit, row) => if ((x.solve g i p row).getD unit none).isSome then s else listLost vol.group v l (g.posD p unit) 2 s
          | none => s) s
        let blocks := ls.map (fun l => copiedBlock v vol x g l s)
        let s := (ls.zip blocks).foldl (fun s b => if b.2.2 then listLost r.target v b.1 (t.posD phys ((b.1 - r.c) / t.u)) 5 s else s) s
        let row (b : Nat) : List Bytes := (List.range' 0 t.k).map (fun i => (blocks.getD (i * t.u + b) (zeroBlock, false)).1)
        let y := x.parts.zipIdx.foldl (fun y a => mendPart (reshapeId v) a.2 a.1.phys x vol.group g y) (s.parityRows t.u, 0)
        itemWrites (reshapeId v) ((List.range' 0 t.w).foldl (fun y pos =>
          if t.absent phys pos then y else writeRows (.itemWrite (reshapeId v)) 115 pos t phys (List.range' 0 t.u) (fun b => t.rowBlock phys pos (row b)) y) y)
      | _, _ => cancelItem (reshapeId v) s

/-! ### Reads of an item -/

/-- The reads of an item are over. -/
def itemCompute (id : Nat) (x : StripeItem) (s : State) : State :=
  match x.parts with
  | [] => if 64 ≤ id then reshapeCompute (id - 64) x s else s
  | part :: _ =>
    match s.group (part.key / 4294967296) with
    | none => cancelItem id s
    | some g => if id < 32 then rebuildCompute id x part g s else if id < 64 then scrubCompute (id - 32) x part g s else reshapeCompute (id - 64) x s

/-- A part's rows are asked for at some positions, where they have not been read. -/
def askPart (id part : Nat) (want : Nat → List Nat) (x : StripeItem) (y : State × Nat) : State × Nat :=
  match x.parts[part]? with
  | none => y
  | some a =>
    match y.1.group (a.key / 4294967296) with
    | none => y
    | some g => (List.range' 0 g.w).foldl (fun y pos =>
        if g.absent a.phys pos then y
        else
          let rows := (want pos).filter (fun b => (tget x.got (partKey part pos b)).isNone && !x.bad.contains (partKey part pos b))
          let z := readRows (fun row => .item id part pos row) (itemQueue id) pos g a.phys rows y.1
          (z.1, y.2 + z.2)) y

/-- Every read of an item has been answered: where a block could not be read, the rest of its row is asked for once (R243, R252). -/
def itemReadsDone (id : Nat) (x : StripeItem) (s : State) : State :=
  if x.bad ≠ [] ∧ !x.expanded then
    let rows (part : Nat) : List Nat := ((x.bad.filter (fun k => k / 4294967296 = part)).map (fun k => k % 65536)).eraseDups
    let y := (List.range' 0 x.parts.length).foldl (fun y i => askPart id i (fun _ => rows i) x y) (s, 0)
    let x := { x with expanded := true, left := y.2 }
    if y.2 = 0 then itemCompute id x (y.1.setItem id x) else y.1.setItem id x
  else itemCompute id x s

/-- An item goes on once none of its drive commands is outstanding. -/
def itemTick (id : Nat) (s : State) : State :=
  match s.item id with
  | none => s
  | some x =>
    if x.left ≠ 0 then s
    else if x.cancelled then endItem id s
    else match x.phase with
      | .reading => itemReadsDone id x s
      | .writing => s.setItem id { x with phase := .written }
      | _ => s

/-- A read of an item is answered: its rows, or a block that cannot be read (R243). -/
def itemRead (id part pos row n : Nat) (b : Option Bytes) (s : State) : State :=
  match s.item id with
  | none => s
  | some x =>
    match b with
    | some d => itemTick id (s.setItem id { x with left := x.left - 1, got := (List.range' 0 n).foldl (fun t i => tset t (partKey part pos (row + i)) (sub d (i * 4160) 4160)) x.got })
    | none => itemTick id (s.setItem id { x with left := x.left - 1, bad := x.bad ++ [partKey part pos row] })

/-- A read of several blocks that an item could not have is asked for again block by block (R243). -/
def itemSplit (id part pos row : Nat) (bay : Nat) (c : DriveCmd) (s : State) : State :=
  match s.item id with
  | none => s
  | some x =>
    (List.range' 0 c.n).foldl (fun s i => driveEnqueue bay { op := 2, lba := c.lba + i, n := 1, consumer := .item id part pos (row + i), queue := c.queue } s)
      (s.setItem id { x with left := x.left - 1 + c.n })

/-- A write of an item has ended. -/
def itemWrote (id : Nat) (s : State) : State :=
  match s.item id with
  | none => s
  | some x => itemTick id (s.setItem id { x with left := x.left - 1 })

/-- A command of an item was abandoned with its bay (R246): a write to a survivor is done without; anything else begins the item anew. -/
def itemLost (id : Nat) (write : Bool) (s : State) : State := itemWrote id (if write && 32 ≤ id then s else cancelItem id s)

/-! ### Grants -/

/-- What a copy step reads of its source part: the rows of the blocks it copies; whole rows where a block's position is missing (R259). -/
def sourceRows (vol : Volume) (r : Reshape) (d : Nat) (g : LGroup) (a : StripePart) (pos : Nat) : List Nat :=
  let st := a.key % 4294967296
  let hi := min vol.size (r.c + d)
  let copied (i b : Nat) : Bool := let l := (st - vol.f) * g.d + i * g.u + b; r.c ≤ l && l < hi
  (List.range' 0 g.u).filter (fun b => (List.range' 0 g.k).any (fun i => copied i b && (g.posD a.phys i = pos || g.absent a.phys (g.posD a.phys i))))

/-- Whether an item still has its work once its claims are granted: its stripe lies where it did and is at the cursor (R249, R257). -/
def State.itemStands (s : State) (id : Nat) (x : StripeItem) : Bool :=
  if x.cancelled then false
  else if 64 ≤ id then (match (s.volume (id - 64)).bind (fun v => v.reshape.map (fun r => (v, r))) with
    | some (v, r) => x.keys.contains (stripeKey r.target (r.ft + r.c / (match s.group r.target with | some t => t.d | none => 1))) && v.size ≠ r.c
    | none => false)
  else match x.parts with
    | [] => false
    | part :: _ =>
      match s.group (part.key / 4294967296) with
      | none => false
      | some g => g.state ≠ 4 && g.entry (part.key % 4294967296) = (part.phys, true)
          && (if id < 32 then g.rebuilding ≠ [] && g.cursor = part.phys else g.scrub ≠ 0 && g.scrubCur = part.phys)

/-- Every claim of an item is granted: its reads (R249, R257, R259). -/
def beginItem (id : Nat) (s : State) : State :=
  match s.item id with
  | none => s
  | some x =>
    if !s.itemStands id x then endItem id s
    else
      let s := x.parts.foldl (fun s a => mapMet (a.key / 4294967296) (a.key % 4294967296) s) s
      match x.parts, (if 64 ≤ id then (s.volume (id - 64)).bind (fun v => v.reshape.map (fun r => (v, r))) else none) with
      | parts, some (v, r) =>
        -- an unwritten source stripe has no part to read
        let dt := match s.group r.target with | some t => t.d | none => 0
        let live := parts.filter (fun a => match s.group v.group with | some g => (g.entry (a.key % 4294967296)).2 | none => false)
        let x := { x with phase := .reading, parts := live.map (fun a => { a with phys := match s.group v.group with | some g => (g.entry (a.key % 4294967296)).1 | none => 0 }) }
        let y := (List.range' 0 x.parts.length).foldl (fun y i => match x.parts[i]?, s.group v.group with
          | some a, some g => askPart id i (sourceRows v r dt g a) x y
          | _, _ => y) (s, 0)
        itemTick id (y.1.setItem id { x with left := y.2 })
      | part :: _, none =>
        (match s.group (part.key / 4294967296) with
         | none => s
         | some g =>
           let x := { x with phase := .reading, targets := if id < 32 then g.toRebuild part.phys else [] }
           let take := if id < 32 then g.survivors part.phys else List.range' 0 g.w
           let y := askPart id 0 (fun pos => if take.contains pos then List.range' 0 g.u else []) x (s, 0)
           itemTick id (y.1.setItem id { x with left := y.2 }))
      | [], none => endItem id s

/-- One of an item's claims is granted. -/
def itemGranted (id key : Nat) (s : State) : State :=
  match s.item id with
  | none => releaseClaim key s
  | some x =>
    let x := { x with waits := x.waits.erase key }
    let s := s.setItem id x
    if x.waits.isEmpty then beginItem id s else s

end Sys2Proof.Machine
end

