-- ==== Sys2Proof/Machine/DataPath.lean ====
section
/-! DEFINITION. Full stripes, claims granted, chunks, durability and visibility, member failure and drive completions (R198-R204, R237-R247, R273-R290). -/

namespace Sys2Proof.Machine

/-! ### Full stripes (R238-R241) -/

/-- A full stripe is chunked after all: its parts take the sequences set aside for it (R198, R240). -/
def splitFull (u i : Nat) (s : State) : State :=
  match s.chunkOf u i with
  | none => s
  | some (c, k) =>
    let parts := (chunksOf (k.n + 1) k.lba k.n).zipIdx.map (fun (x : Chunk × Nat) => { x.1 with seq := k.seq + x.2 })
    let spent : Chunk := { k with n := 0, full := false, claimed := false, staged := true, durable := true }
    match s.byOrder u with
    | some (h, _) => (s.onCmd h (fun c => { c with chunks := lset c.chunks i spent ++ parts })).count Ev.nsChunk c.ns (parts.length - 1)
    | none => s

/-- A full stripe's claim has been granted: its target and its intent record (R239). With the float empty its blocks are chunked (R240); where a reshape's copy
has moved them, the stripe is claimed in their new layout, or chunked where it covers no whole stripe there (R260). -/
def fullBegin (u i : Nat) (s : State) : State :=
  match s.chunkOf u i with
  | none => s
  | some (c, k) =>
    let gi := k.key / 4294967296
    let st := k.key % 4294967296
    match s.group gi with
    | none => releaseClaim k.key s
    | some g =>
      if (s.locate c.vol 0 k.lba).any (fun l => stripeKey l.group l.stripe ≠ k.key) then
        let fits := s.stripeSpan c.vol k.lba = some (k.lba, k.n)
        releaseClaim k.key (if fits then onChunk u i (fun k => { k with claimed := false }) s else splitFull u i s)
      else
      let s := mapMet gi st s
      let e := g.entry st
      let t := if e.2 then g.floatMin else some e.1
      match t with
      | none => releaseClaim k.key ((splitFull u i s).count Ev.fsEmpty gi)
      | some t =>
        let s := if e.2 then s.onGroup gi (fun g => g.floatTake t) else s
        let s := onChunk u i (fun k => { k with granted := true, target := t, moved := e.2 }) s
        let s := (s.count (if e.2 then Ev.fsRemap else Ev.fsPlace) gi).count Ev.nsFull c.ns
        stageRec { kind := 5, lseq := k.seq, vol := c.vol, group := gi, lba := k.lba, count := 0, n := 0, extra := le 4 st ++ le 4 t, owner := .full u i } [] s

/-- Grant the first claim of a stripe where its slots are free, and begin its work (R237, R291). -/
def tryGrant (key : Nat) (s : State) : State :=
  if s.vol.granted.contains key then s
  else match s.claimsOn key with
    | [] => s
    | x :: _ =>
      if s.operandBlocks < s.led.operandUsed + s.claimSlots key then
        (if s.vol.opWaited.contains key then s else { s with vol.opWaited := s.vol.opWaited ++ [key] }.count Ev.opWait 0)
      else
        let s := { s with vol.opWaited := s.vol.opWaited.erase key, vol.granted := s.vol.granted ++ [key], led.operandUsed := s.led.operandUsed + s.claimSlots key }
        match x with
        | .merge => mergeBegin key s
        | .full u i => fullBegin u i s
        | .item id => itemGranted id key s

/-- Request a claim (R237). -/
def requestClaim (key : Nat) (x : Claimant) (s : State) : State :=
  tryGrant key { s with vol.claims := tset s.vol.claims key (s.claimsOn key ++ [x]) }

/-- CLAIM_GRANT (R237). -/
def claimGrant (group stripe : Nat) (s : State) : State := tryGrant (stripeKey group stripe) s

/-- Whether a copy step of a reshape that holds its claims covers some of these blocks (R260). -/
def State.beingCopied (s : State) (vol lba n : Nat) : Bool :=
  match (s.volume vol).bind (fun v => v.reshape), s.item (reshapeId vol) with
  | some r, some x =>
    x.phase ≠ .claiming &&
      (match s.group r.target with
       | some t => lba < r.c + t.d && r.c < lba + n
       | none => false)
  | _, _ => false

/-- MERGE_START (R234). -/
def mergeStart (group stripe : Nat) (s : State) : State :=
  let key := stripeKey group stripe
  match s.group group, s.mergeable key with
  | some g, r :: _ =>
    let held := s.led.drain.isNone && s.since r.durEdge < s.objN 0x440009 64
    let ok := g.state ≠ 4 && s.led.isOpen && !s.led.paused && s.runs 4 5 && !s.driveStops 112 && !held && !(s.claimsOn key).contains .merge
    match (s.mergeable key).find? (fun x => s.beingCopied x.vol x.lba x.count) with
    | some x => s.when ok (fun s => s.count Ev.rsHeld x.vol)
    | none => s.when ok (fun s => requestClaim key .merge s)
  | _, _ => s

/-- The units of a full stripe go to its target, with P and Q, charged to the command's tenant (R239). -/
def fullWrites (u i : Nat) (s : State) : State :=
  match s.chunkOf u i with
  | none => s
  | some (c, k) =>
    match s.group (k.key / 4294967296) with
    | none => s
    | some g =>
      let d (x row : Nat) : Bytes := k.enc.getD (x * g.u + row) zeroBlock
      let rowOf (row : Nat) : List Bytes := (List.range' 0 g.k).map (fun x => d x row)
      let unitData (pos : Nat) : Bytes := (List.range' 0 g.u).flatMap (fun row => g.rowBlock k.target pos (rowOf row))
      let put (x : State × Nat) (pos : Nat) : State × Nat :=
        if g.absent k.target pos then x
        else match g.bays.getD pos none with
          | some bay => (driveEnqueue bay { op := 1, lba := g.block k.target 0, n := g.u, data := unitData pos, consumer := .fullWrite u i, queue := c.tenant } x.1, x.2 + 1)
          | none => x
      let x := (List.range' 0 g.w).foldl put (s.parityRows g.u, 0)
      onChunk u i (fun k => { k with staged := true, left := x.2 }) x.1

/-- The commit record of a full stripe whose writes have completed and whose intent is durable: it carries the changed map page (R239, R271). -/
def fullCommit (u i : Nat) (s : State) : State :=
  match s.chunkOf u i with
  | none => s
  | some (c, k) =>
    let gi := k.key / 4294967296
    let st := k.key % 4294967296
    match s.group gi with
    | none => s
    | some g =>
      if k.staged ∧ k.left = 0 ∧ k.intent ∧ !k.committed then
        let page := clearBlock (((s.committedMap gi g).setEntry st k.target true).mapPage (pageOf st))
        let s := onChunk u i (fun k => { k with committed := true }) s
        stageRec { kind := 6, lseq := k.seq, vol := c.vol, group := gi, lba := k.lba, count := 0, n := 1,
                   extra := le 4 st ++ le 4 k.target ++ le 4 (pageOf st), owner := .full u i } [page] s
      else s

/-- A full stripe becomes visible: the map entry changes, earlier records of the stripe are superseded, the old stripe leaves (R239). -/
def fullVisible (k : Chunk) (s : State) : State :=
  let gi := k.key / 4294967296
  let st := k.key % 4294967296
  match s.group gi with
  | none => s
  | some g =>
    let e := g.entry st
    let sup (r : Rec) : Bool := (r.kind = 1 ∨ r.kind = 2) && r.lseq < k.seq && !r.retired && !(s.pieces k.key r).isEmpty
    let n := (s.led.recs.filter sup).length
    let recs := s.led.recs.map (fun r => if sup r then { r with merged := r.merged ++ (s.pieces k.key r).map (·.1) } else r)
    let s := ((({ s with led.recs := recs }).count Ev.mgSup gi n).count Ev.lrSup 0 n)
    let s := (setMap gi st k.target true s).onGroup gi (fun g => { g with oldPhys := if e.2 then g.oldPhys ++ [e.1] else g.oldPhys })
    -- a later record of the map page was made without this remap: the page is written again
    let later (r : Rec) : Bool := (r.late || k.seq < r.lseq) && r.group = gi && ((r.kind = 1 && r.vol = 0xFFFF && r.lba = pageOf st) || (r.kind = 6 && fld r.extra 8 4 = pageOf st))
    let s := if (s.led.recs ++ s.unplaced).any later then zoneRec gi (pageOf st) s else s
    let s := { s with vol.commits := tset s.vol.commits k.key s.bell.edges }
    let s := (List.range' 0 k.n).foldl (fun s i => match s.blockOf gi st ((i) / g.u) (i % g.u) with
      | some (v, l) => unlistLost gi v l s
      | none => s) s
    releaseClaim k.key s

/-! ### Chunks (R198, R273) -/

/-- Encrypt as many of a chunk's remaining blocks as the cipher takes now (R301-R305). -/
def encryptSome (vol epoch lba : Nat) : List Bytes → List Bytes → State → State × List Bytes
  | [], acc, s => (s, acc)
  | d :: ds, acc, s =>
    match encryptBlock vol lba epoch d s with
    | some (s, b) => encryptSome vol epoch (lba + 1) ds (acc ++ [b]) s
    | none => (if s.mayEncrypt then markShort s else s, acc)

/-- Plaintext blocks of a chunk that are still to be encrypted. -/
def chunkData (c : Cmd) (k : Chunk) : List Bytes :=
  let first := k.enc.length
  let n := k.n - first
  if c.kind = 3 then List.replicate n (zeros 4096)
  else
    let b := sub c.buf ((k.lba + first - c.lba) * 4096) (n * 4096)
    (List.range' 0 n).map (fun i => sub b (i * 4096) 4096)

/-- Encrypt what can be encrypted of a chunk. -/
def encryptChunk (u i : Nat) (s : State) : State :=
  match s.chunkOf u i with
  | none => s
  | some (c, k) =>
    match s.volume c.vol with
    | none => s
    | some v =>
      let (s, b) := encryptSome c.vol v.epochCur (k.lba + k.enc.length) (chunkData c k) [] s
      onChunk u i (fun k => { k with enc := k.enc ++ b }) s

/-- Association and CID of a record (R271). -/
def recTag (c : Cmd) : Bytes := le 2 c.assoc ++ le 2 c.cid

/-- CHUNK_STAGE (R198, R204, R239, R273). -/
def chunkStage (h i : Nat) (s : State) : State :=
  match s.cmd h with
  | none => s
  | some c =>
    match c.chunks[i]? with
    | none => s
    | some k =>
      let u := c.order
      let room := s.led.unstaged.isEmpty && s.stagingRoom (if k.full then 3 else 1 + (if c.deallocates then 0 else k.n))
      let s := s.when (c.phase = .staging && c.bufReady && !k.staged && !k.waited && s.led.isOpen && !room) (fun s =>
        (onChunk u i (fun k => { k with waited := true }) s).count Ev.stWait 0)
      s.when (c.phase = .staging && c.bufReady && !k.staged && s.led.isOpen && s.objN 0x480011 0 ≠ 0 && s.targetRuns && room) (fun s =>
        let s := readWindow h s
        if c.deallocates then
          let s := stageRec { kind := 2, lseq := k.seq, vol := c.vol, group := (s.volume c.vol).elim 0 (fun v => v.group), lba := k.lba, count := k.n, n := 0,
                              extra := recTag c ++ le 4 (flagWord (k.gaps.map (fun g => (g, true)))), merged := k.gaps, owner := .chunk u i } [] s
          onChunk u i (fun k => { k with staged := true }) s
        else if k.full then
          let s := if !k.claimed then
              (match s.locate c.vol 0 k.lba with
               | some l =>
                 let key := stripeKey l.group l.stripe
                 requestClaim key (.full u i) (onChunk u i (fun k => { k with key := key, claimed := true }) s)
               | none => s)
            else s
          match s.chunkOf u i with
          | some (_, k) =>
            if k.granted ∧ k.full then
              let s := encryptChunk u i s
              (match s.chunkOf u i with
               | some (_, k) => if k.enc.length = k.n then fullCommit u i (fullWrites u i s) else s
               | none => s)
            else s
          | none => s
        else
          let s := encryptChunk u i s
          match s.chunkOf u i with
          | some (_, k) =>
            if k.enc.length = k.n then
              let s := stageRec { kind := 1, lseq := k.seq, vol := c.vol, group := (s.volume c.vol).elim 0 (fun v => v.group), lba := k.lba, count := k.n, n := k.n,
                                  extra := recTag c, owner := .chunk u i } k.enc s
              onChunk u i (fun k => { k with staged := true, enc := [] }) s
            else s
          | none => s)

/-! ### Durable records and visibility (R202, R203, R275, R277) -/

/-- Clear `written` of `n` logical stripes, and write the map pages that change (R229, R230, R261). -/
def unwrite (gi f n : Nat) (s : State) : State :=
  match s.group gi with
  | none => s
  | some g =>
    let hit := g.map.filter (fun e => f ≤ e.1 ∧ e.1 < f + n ∧ e.2.2)
    let s := hit.foldl (fun s e => setMap gi e.1 e.2.1 false s) s
    ((hit.map (fun e => pageOf e.1)).eraseDups).foldl (fun s p => zoneRec gi p s) s

/-- What follows from a record becoming durable (R235, R236, R239, R259, R261). -/
def onDurable (r : Rec) (s : State) : State :=
  let s := s.count Ev.lrDurable 0
  match r.owner with
  | .chunk u i => onChunk u i (fun k => { k with durable := true }) s
  | .merge key =>
    if r.kind = 4 then mergeDone key s
    else match tget s.vol.merges key with
      | some m =>
        let s := { s with vol.merges := tset s.vol.merges key { m with intentsLeft := m.intentsLeft - 1 } }
        if m.intentsLeft ≤ 1 then mergeWrites key s else s
      | none => s
  | .full u i =>
    if r.kind = 5 then fullCommit u i (onChunk u i (fun k => { k with intent := true }) s)
    else onChunk u i (fun k => { k with durable := true }) s
  | .zone => { s with led.recs := s.led.recs.map (fun (x : Rec) => if x.place = r.place then { x with settled := true } else x) }
  | .reshape v =>
    let s := { s with led.recs := s.led.recs.map (fun (x : Rec) => if x.place = r.place then { x with settled := true } else x) }
    let old := s.volume v
    if r.kind = 7 then
      let s := s.onVolume v (fun x => { x with reshape := x.reshape.map (fun y => { y with c := fld r.extra 8 8 }) })
      (match old.bind (fun x => x.reshape) with
       | some y =>
         (match s.group y.target with
          | some g =>
            let st := y.ft + y.c / g.d
            endItem (reshapeId v) (zoneRec y.target (pageOf st) (setMap y.target st (g.entry st).1 true s))
          | none => s)
       | none => s)
    else
      let s := s.onVolume v (fun x => match x.reshape with
        | some y => { x with group := y.target, f := y.ft, reshape := none }
        | none => x)
      match old with
      | some x =>
        (match s.group x.group with
         | some g =>
           unwrite x.group x.f (ceilDiv x.size g.d) s
         | none => s)
      | none => s
  | .replayed => s

/-- Make durable what the live copies have completed, and act on it (R275, R281). -/
def settleDurable (s : State) : State :=
  let (s, done) := markDurable s
  retireAll (done.foldl (fun s r => onDurable r s) s)

/-- The ranges of a write-class command are still to come. -/
def Cmd.undecided (c : Cmd) : Bool := c.kind = 4 && c.chunks.isEmpty

/-- Whether two write-class commands of one namespace share a block (R202), or `a` may still name one that `b` covers. -/
def overlaps (a b : Cmd) : Bool :=
  a.ns = b.ns && (a.undecided || a.chunks.any (fun x => b.chunks.any (fun y => x.lba < y.lba + y.n && y.lba < x.lba + x.n
    && ((x.gaps.isEmpty && y.gaps.isEmpty) || (List.range' 0 x.n).any (fun i => x.covers (x.lba + i) && y.covers (x.lba + i))))))

/-- Insert a command by its parse number. -/
def insertCmd (c : Nat × Cmd) : List (Nat × Cmd) → List (Nat × Cmd)
  | [] => [c]
  | x :: xs => if c.2.order < x.2.order then c :: x :: xs else x :: insertCmd c xs

/-- The row of each command parsed and not yet executed, in parse order: what the spec executes in the bell of the parse, or in the next (R203, R204,
R206, R207), has been executed when that bell ends. -/
def runParsed (s : State) : State :=
  let l := (s.tgt.cmds.filter (fun c => c.2.phase = .parsed)).foldl (fun l c => insertCmd c l) []
  l.foldl (fun s c =>
    let h := c.1
    nvmeFlush h (nvmeAbort h (nvmeKeepAlive h (inboxRoute h (nvmeDatasetManagement h (nvmeWriteZeroes h (nvmeWrite h (nvmeCompare h (nvmeRead h s))))))))) s

/-- Outstanding write-class commands in parse order. -/
def State.writesInOrder (s : State) : List (Nat × Cmd) :=
  (s.tgt.cmds.filter (fun c => isWriteKind c.2.kind && !c.2.chunks.isEmpty)).foldl (fun l c => insertCmd c l) []

/-- A write-class command becomes visible: its records settle, its full stripes take effect, cached copies go, and its completion is queued (R203, R277, R290). -/
def makeVisible (h : Nat) (s : State) : State :=
  match s.cmd h with
  | none => s
  | some c =>
    let mine (r : Rec) : Bool := match r.owner with
      | .chunk u _ => u = c.order
      | .full u _ => u = c.order
      | _ => false
    let s := { s with led.recs := s.led.recs.map (fun (r : Rec) => if mine r then { r with settled := true } else r) }
    let s := cacheRemove (fun (e : CacheEntry) => e.vol = c.vol ∧ c.chunks.any (fun k => k.covers e.lba)) s
    let s := (c.chunks.filter (fun k => k.full)).foldl (fun s k => fullVisible k s) s
    complete h 0x00 false 0 s

/-- At an edge: each write-class command that is durable and not held behind an earlier overlapping one becomes visible and completes (R202, R203); one of a
dropped queue waits for no other (R277), and while no completion is sent the others stay as they are (R217). -/
def finishWrites (s : State) : State :=
  s.writesInOrder.foldl (fun s c =>
    match s.cmd c.1 with
    | none => s
    | some x =>
      if !x.chunks.all (fun k => k.durable) then s
      else if x.dropped then makeVisible c.1 s
      else if s.withheld then s
      else if s.tgt.cmds.any (fun y => isWriteKind y.2.kind && y.2.order < x.order && !y.2.dropped && overlaps y.2 x) then
        (if x.phase = .durable then s else (s.onCmd c.1 (fun c => { c with phase := .durable })).count Ev.nsOverlap x.ns)
      else makeVisible c.1 s) s

/-- FLOAT_RETURN (R239): no read that uses the old stripe is in flight, and no write of a full stripe that was given up. -/
def floatReturn (group phys : Nat) (s : State) : State :=
  match s.group group with
  | none => s
  | some g =>
    let lo := g.block phys 0
    let uses (c : DriveCmd) : Bool := c.op ≠ 0 && c.lba < lo + g.u && lo < c.lba + c.n
    let busy := g.bays.any (fun b => match b with
      | some b => (s.bayOf b).drive.out.any (fun c => uses c.2) || (List.range' 0 128).any (fun q => (s.queue 2 b q).items.any (fun i => (tget s.bay.waiting i.ref).any uses))
      | none => false)
    s.when (g.oldPhys.contains phys && !busy) (fun s =>
      s.onGroup group (fun g => { g with oldPhys := g.oldPhys.erase phys, float := g.float ++ [(phys, phys + 1)] }))

/-! ### Member failure (R245-R247, R253) -/

/-- A command that was abandoned with its bay (R246): reads are served again, merges and full stripes go on without it. -/
def abandonedCmd (c : DriveCmd) (s : State) : State :=
  match c.consumer with
  | .host u blk => (List.range' 0 c.n).foldl (fun s i => match s.byOrder u with
      | some (_, x) => (match s.locate x.vol 0 (x.lba + blk + i) with
        | some l => rowFor u (blk + i) x.vol (x.lba + blk + i) c.queue 0 l s
        | none => s)
      | none => s) s
  | .row j pos => rowAnswer j pos none s
  | .mergeRead key pos row => (List.range' 0 c.n).foldl (fun s i => mergeRead key pos (row + i) 1 none s)
      (match tget s.vol.merges key with
       | some m => { s with vol.merges := tset s.vol.merges key { m with left := m.left - 1 + c.n } }
       | none => s)
  | .mergeWrite key => mergeWrote key s
  | .fullWrite u i => fullCommit u i (onChunk u i (fun k => { k with left := k.left - 1 }) s)
  | .item id _ _ _ => itemLost id false s
  | .itemWrite id => itemLost id true s
  | .image _ place i => serveImage place i s
  | _ => s

/-- A group loses a position (R247, R251, R253): it is missing from now on, and with two missing before it the group goes offline (R256). -/
def losePosition (gi pos : Nat) (s : State) : State :=
  match s.group gi with
  | none => s
  | some g =>
    let s := s.onGroup gi (fun g => { g with lostAt := tset g.lostAt pos (s.bell.edges, s.led.nextLseq) })
    if g.rebuilding.contains pos then s.onGroup gi (fun g => g.loseSpare pos)
    else if g.missing.contains pos then s
    else if 2 ≤ g.missing.length ∨ g.state = 4 then groupOffline gi (s.onGroup gi (fun g => { g with missing := g.missing ++ [pos] }))
    else
      let n := g.missing.length + 1
      let s := s.onGroup gi (fun g => { g with missing := g.missing ++ [pos], state := groupStateOf n, c0 := if g.rebuilding = [] then 0 else g.cur1 })
      if n = 2 then s.faultAt 97 4 5 gi else s

/-- A member fails (R245, R246). -/
def memberFail (bay cause : Nat) (s : State) : State :=
  let holds := s.vol.groups.filter (fun g => !(g.2.positionsOf bay).isEmpty)
  if holds.isEmpty ∨ (s.bayOf bay).drive.failed.isSome then s
  else
    let s := s.onDrive bay (fun d => { d with failed := some cause })
    let s := s.raise { source := 96, die := 4, region := portRegion bay, unit := unitId 4 (portRegion bay) (bay % 12), detail := bay }
    let (s, gone) := takeCommands bay (fun _ => true) s
    let s := s.lateWaste (86 + bay) gone.length
    let s := gone.foldl (fun s c => match c.consumer with
      | .ledger _ p _ => releaseBatch p s
      | _ => s) s
    let s := holds.foldl (fun s g => (g.2.positionsOf bay).foldl (fun s p => losePosition g.1 p s) s) s
    gone.foldl (fun s c => abandonedCmd c s) s

/-- A bay fails for both its uses, as a member and as a holder of ledger copies (R245, R280). -/
def bayLost (bay cause : Nat) (s : State) : State := memberFail bay cause (failCopiesOn bay s)

/-! ### At an edge (R237, R256) -/

/-- An offline group issues no further write to its ranges (R256): writes that wait for admission go, with the merges and items they belong to. -/
def stopWrites (gi : Nat) (g : LGroup) (s : State) : State :=
  let its (c : DriveCmd) : Bool := isWriteOp c.op && c.lba < g.start + g.count && g.start < c.lba + c.n
  (g.bays.filterMap id).foldl (fun s b =>
    let (s, gone) := unqueue b its s
    gone.foldl (fun s c => match c.consumer with
      | .itemWrite id => itemLost id false s
      | .mergeWrite key => if key / 4294967296 = gi ∧ (tget s.vol.merges key).isSome then releaseClaim key { s with vol.merges := terase s.vol.merges key } else s
      | _ => s) s) s

/-- What an edge settles of the volumes: offline groups stop their writes, items that were given up end, and rows whose stripe is claimed no more go on (R237, R256). -/
def volumeEdge (s : State) : State :=
  let s := (s.vol.groups.filter (fun g => g.2.state = 4)).foldl (fun s g => stopWrites g.1 g.2 s) s
  let s := (s.vol.items.filter (fun x => x.2.cancelled && (x.2.left = 0 || x.2.phase = .claiming))).foldl (fun s x => endItem x.1 s) s
  (s.vol.rowJobs.filter (fun j => !j.2.started && !s.vol.granted.contains j.2.key)).foldl (fun s j => askRow j.1 s) s

/-! ### Drive completions (R217, R243, R245, R275) -/

/-- A media error of a member (R243). -/
def mediaError (bay : Nat) (s : State) : State :=
  let s := s.onDrive bay (fun d => { d with media := d.media.filter (fun e => s.since e < 2 ^ 30) ++ [s.bell.edges] })
  let s := (s.vol.groups.filter (fun g => !(g.2.positionsOf bay).isEmpty)).foldl (fun s g => s.count Ev.rdMedia g.1) s
  if s.objN 0x440008 64 < (s.bayOf bay).drive.media.length then bayLost bay 5 s else s

/-- The drive reservation is lost (R217). -/
def reservationLost (s : State) : State :=
  if s.tgt.resvLost.isSome then s else ({ s with tgt.resvLost := some s.bell.edges }).fault 91 0

/-- A ledger Write has ended on a copy (R275, R280, R282). -/
def ledgerWrote (copy place count : Nat) (ok : Bool) (s : State) : State :=
  let slot := copy % 3
  let s := releaseBatch place s
  if ok then
    let s := { s with led.recs := s.led.recs.map (fun (r : Rec) => if place ≤ r.place ∧ r.place < place + count then { r with acked := r.acked ++ [copy] } else r) }
    settleDurable (s.count Ev.cpDone slot)
  else failTarget copy (s.count Ev.cpErr slot)

/-- Blocks that wait for an image's block are served where no copy is being read for it any more (R292). -/
def imagesEdge (s : State) : State :=
  ((s.led.imageWaits.map (fun x => x.2.2)).eraseDups.filter (fun x => !s.repairing x.1)).foldl (fun s x => serveImage x.1 x.2 s) s

/-- Blocks of a drive read for a host command go to the cipher, and to the cache where no commit of their stripe came in between (R290). -/
def hostBlocks (u blk bay queue edge : Nat) (d : Bytes) (n : Nat) (s : State) : State :=
  let _ := queue
  (List.range' 0 n).foldl (fun s i =>
    let b := sub d (i * 4160) 4160
    let s := match s.byOrder u with
      | none => s
      | some (_, c) =>
        if s.objN 0x480014 2 = 0 then s
        else match s.locate c.vol 0 (c.lba + blk + i) with
          | some l => if (s.stagedFor c.vol 0 (c.lba + blk + i)).isSome then s else if (tget s.vol.commits (stripeKey l.group l.stripe)).any (fun e => edge ≤ e) then s.count Ev.grDrop 0 else cacheInsert c.vol (c.lba + blk + i) b s
          | none => s
    toCipher { h := u, blk := blk + i, stored := b, origin := 0, bay := bay } s) s

/-- A read of a host command that a drive could not give (R243). -/
def hostUnreadable (u blk bay : Nat) (c : DriveCmd) (s : State) : State :=
  if 1 < c.n then
    (List.range' 0 c.n).foldl (fun s i => driveEnqueue bay { op := 2, lba := c.lba + i, n := 1, consumer := .host u (blk + i), queue := c.queue } s) s
  else
    match s.byOrder u with
    | none => s
    | some (_, x) =>
      match s.locate x.vol 0 (x.lba + blk) with
      | some l => rowFor u blk x.vol (x.lba + blk) c.queue 1 l s
      | none => s

/-- The result of a drive command goes to its consumer (R217, R243, R245, R356). A read that ends in any other error is met like an unreadable block,
and only an Unrecovered Read Error counts toward the media-error limit (log 112). -/
def consume (bay : Nat) (c : DriveCmd) (r : DriveResult) (s : State) : State :=
  let ok := r.sct = 0 ∧ r.sc = 0
  let conflict := r.sct = 0 ∧ r.sc = 0x83
  let unread (s : State) : State := if r.sct = 2 ∧ r.sc = 0x81 ∧ c.n = 1 then mediaError bay s else s
  if conflict then
    let s := match c.consumer with
      | .ledger copy place count => ledgerWrote copy place count false s
      | .seed copy _ => failTarget copy s
      | .image copy place i => serveImage place i (failTarget copy s)
      | _ => s
    (if 116 ≤ c.queue ∧ c.queue ≤ 127 then s.count Ev.drvConf 0 else reservationLost (s.count Ev.drvConf 0))
  else
    match c.consumer with
    | .host u blk => if ok then hostBlocks u blk bay c.queue c.edge r.data c.n s else hostUnreadable u blk bay c (unread s)
    | .row j pos => if ok then rowAnswer j pos (some (padTo 4160 r.data)) s else rowUnreadable j pos (unread s)
    | .mergeRead key pos row => if ok then mergeRead key pos row c.n (some r.data) s else mergeRead key pos row c.n none (unread s)
    | .item id part pos row => if ok then itemRead id part pos row c.n (some r.data) s
        else if 1 < c.n then itemSplit id part pos row bay c s
        else itemRead id part pos row 1 none (unread s)
    | .itemWrite id => if ok then itemWrote id s else itemLost id true (bayLost bay 1 s)
    | .mergeWrite key => mergeWrote key (if ok then s else bayLost bay 1 s)
    | .fullWrite u i =>
      let s := if ok then s else bayLost bay 1 s
      fullCommit u i (onChunk u i (fun k => { k with left := k.left - 1 }) s)
    | .ledger copy place count =>
      let s := ledgerWrote copy place count ok s
      if ok then s else bayLost bay 1 s
    | .seed copy n =>
      if ok then (s.onCopy (copy % 3) (fun x => { x with seedLeft := x.seedLeft - n })).count Ev.cpSeed (copy % 3) n else bayLost bay 1 (failTarget copy s)
    | .image copy place i => serveImage place i (if ok then repairImage place i r.data s else bayLost bay 1 (failTarget copy s))
    | .repair => if ok then s else bayLost bay 1 s
    | .firmware => if ok ∨ !isWriteOp c.op then s else bayLost bay 1 s

/-- Command identifier under which an admin passthrough is reported; I/O commands take lower ones. -/
abbrev adminCid : Nat := 65535

/-- An admin passthrough completes with the drive's completion entry (R362). -/
def adminDone (bay : Nat) (r : DriveResult) (s : State) : State :=
  s.when ((s.bayOf bay).drive.admin.isSome) (fun s =>
    let s := takeEntry bay 0 32 (padTo 16 r.data) s
    (s.onDrive bay (fun d => { d with admin := none })).done 0x610030 0 (padTo 16 r.data))

/-- DRIVE_COMPLETION (R356). -/
def driveCompletion (bay cid : Nat) (r : DriveResult) (s : State) : State :=
  if cid = adminCid then adminDone bay r s else
  match tget (s.bayOf bay).drive.out cid with
  | none => s
  | some c =>
    s.when (s.runs 4 (portRegion bay)) (fun s =>
      let s := takeEntry bay c.sq (s.objN 0x610004 64) (s.cqEntry bay c.sq cid r) s
      let s := s.onDrive bay (fun d => { d with out := terase d.out cid })
      let s := s.count (Ev.drCpl0 + queueGroup c.queue) bay
      let s := (s.count Ev.drRd bay (if c.op = 2 then c.n else 0)).count Ev.drWr bay (if c.op = 1 then c.n else 0)
      let s := s.count Ev.drErr bay (b2n (r.sct ≠ 0 || r.sc ≠ 0))
      consume bay c r s)

/-- LEDGER_WRITE_COMPLETE (R275): the copy's bay reports one Write's end. -/
def ledgerWriteComplete (copy place count : Nat) (ok : Bool) (s : State) : State :=
  match s.targetBay copy with
  | none => s
  | some bay =>
    match (s.bayOf bay).drive.out.find? (fun c => c.2.consumer = .ledger copy place count) with
    | none => s
    | some c => driveCompletion bay c.1 { sct := if ok then 0 else 2, sc := if ok then 0 else 0x80, dw0 := 0, data := [] } s

/-- MEMBER_TIMEOUT (R245, R280, R356). -/
def memberTimeout (bay cid : Nat) (s : State) : State :=
  match tget (s.bayOf bay).drive.out cid with
  | none => s
  | some c => s.when (s.objN 0x440007 7812500 ≤ s.since c.edge) (fun s => bayLost bay 4 (driveState bay 7 (s.count Ev.drTo bay)))

/-- LEDGER_COPY_TIMEOUT (R280). -/
def ledgerCopyTimeout (copy : Nat) (s : State) : State :=
  match s.targetBay copy with
  | none => s
  | some bay =>
    s.when ((s.bayOf bay).drive.out.any (fun c => (match c.2.consumer with
        | .ledger t _ _ => t = copy
        | .seed t _ => t = copy
        | .image t _ _ => t = copy
        | _ => false) && s.objN 0x440007 7812500 ≤ s.since c.2.edge)) (failTarget copy)

end Sys2Proof.Machine
end

