-- ==== Sys2Proof/Machine/Volumes.lean ====
section
/-! DEFINITION. Spares, rebuild, scrub, reshape and the layout commands (R248-R264). -/

namespace Sys2Proof.Machine

abbrev layoutSet : Nat := 0x440010

/-- Bay `n` is set in `spare_set` (R248). -/
def State.isSpare (s : State) (n : Nat) : Bool := (s.objN 0x440005 0).testBit n

/-- The parity engine's region runs (R47). -/
def State.parityRuns (s : State) : Bool := s.runs 4 5

/-! ### Spares (R248) -/

/-- Groups that hold a range on a bay at a missing position with no spare, with the position. -/
def State.wanting (s : State) (bay : Nat) : List (Nat × Nat) :=
  s.vol.groups.flatMap (fun g => (g.2.unspared.filter (fun p => g.2.bays.getD p none = some bay)).map (fun p => (g.1, p)))

/-- The end of the highest range that any group holds on a bay. -/
def State.rangeEnd (s : State) (bay : Nat) : Nat :=
  (s.vol.groups.filter (fun g => !(g.2.positionsOf bay).isEmpty)).foldl (fun a g => max a (g.2.start + g.2.count)) 0

/-- The lowest spare that is powered and whose capacity covers the end of every range on the failed bay (R248). -/
def State.fitting (s : State) (bay : Nat) : Option Nat :=
  (List.range' 0 24).find? (fun n => s.isSpare n && s.bayReady n && s.rangeEnd bay ≤ (s.bayOf n).drive.nsBlocks)

/-- The spare takes the failed bay's place in every group that had a range on it, and is a member from now on (R248). -/
def giveSpare (bay n : Nat) (s : State) : State :=
  let w := s.wanting bay
  let s := (s.setObj 0x440005 (le 4 (s.objN 0x440005 0 - 2 ^ n))).onDrive n (fun d => { d with failed := none })
  w.foldl (fun s x => (s.onGroup x.1 (fun g => g.takeSpare x.2 n)).count Ev.rbSpare x.1) s

/-- Insert a failure by its edge and group. -/
def insertFailure (x : Nat × Nat × Nat) : List (Nat × Nat × Nat) → List (Nat × Nat × Nat)
  | [] => [x]
  | y :: ys => if x.1 < y.1 ∨ (x.1 = y.1 ∧ (x.2.1 < y.2.1 ∨ (x.2.1 = y.2.1 ∧ x.2.2 < y.2.2))) then x :: y :: ys else y :: insertFailure x ys

/-- Take a spare for a missing position. -/
def takeFor (gi pos : Nat) (g : LGroup) (s : State) : State :=
  let bay := (g.bays.getD pos none).getD 0xFF
  match s.fitting bay with
  | some n => giveSpare bay n s
  | none => if g.waitingSpare then s else (s.onGroup gi (fun g => { g with waitingSpare := true })).faultAt 99 4 5 gi

/-- Failures that wait for a spare: edge, group and position, in the order of detection, by group number within one bell (R248). -/
def State.waitingSpares (s : State) : List (Nat × Nat × Nat) :=
  let all := s.vol.groups.flatMap (fun g => (g.2.unspared.filter (fun _ => g.2.state ≠ 4)).map (fun p => ((tgetD g.2.lostAt p (0, 0)).1, g.1, p)))
  all.foldl (fun l x => insertFailure x l) []

/-- SPARE_TAKE (R248, R251, R253): from the edge after its failure a group that waits takes a spare, after those that failed before it. -/
def spareTake (group : Nat) (s : State) : State :=
  match s.group group with
  | none => s
  | some g =>
    s.when (s.objN 0x440006 1 = 1 && g.state ≠ 4 && g.unspared ≠ []) (fun s =>
      let due := s.waitingSpares.filter (fun x => x.1 < s.bell.edges)
      let mine := due.reverse.dropWhile (fun x => x.2.1 ≠ group)
      mine.reverse.foldl (fun s x => match s.group x.2.1 with
        | some g => if g.unspared.contains x.2.2 then takeFor x.2.1 x.2.2 g s else s
        | none => s) s)

def execSpareTake (group : Nat) (s : State) := up s (spareTake group)

/-! ### Claims for items (R237) -/

/-- An item requests its claims (R237). -/
def claimItem (id : Nat) (keys : List Nat) (parts : List StripePart) (s : State) : State :=
  keys.foldl (fun s k => requestClaim k (.item id) s) (s.setItem id { parts := parts, keys := keys, waits := keys })

/-- A physical stripe needs a claim before a rebuild or scrub passes it: it is written, or something holds or awaits its claim (R230, R237). -/
def State.needsClaim (s : State) (gi : Nat) (g : LGroup) (p : Nat) : Option Nat :=
  match s.stripeAt gi g p with
  | some st => if (g.entry st).2 ∨ s.claimsOn (stripeKey gi st) ≠ [] then some st else none
  | none => none

/-- Cursors are checkpointed in the shelf record every 65,536 stripes (R249, R257). -/
def checkpoint (cursor : Nat) (s : State) : State := if cursor % 65536 = 0 then s.persist else s

/-! ### Rebuild (R249-R254) -/

/-- The rebuild of a group may start and complete items. -/
def State.rebuilds (s : State) (g : LGroup) : Bool := g.rebuilding ≠ [] && g.state ≠ 4 && s.parityRuns && !s.driveStops 113

/-- The cursor of the running pass goes past a stripe (R249, R251). -/
def rebuildStep (gi : Nat) (s : State) : State :=
  match s.group gi with
  | none => s
  | some g =>
    checkpoint (g.cursor + 1) (s.onGroup gi (fun g => (if g.pass2 then { g with cur2 := g.cur2 + 1 } else { g with cur1 := g.cur1 + 1 }).settleRebuild))

/-- At an edge a group's rebuild claims the stripe at its cursor (R249). -/
def startRebuild (gi : Nat) (s : State) : State :=
  match s.group gi with
  | none => s
  | some g =>
    if !s.rebuilds g ∨ (s.item gi).isSome then s
    else match s.needsClaim gi g g.cursor with
      | some st => claimItem gi [stripeKey gi st] [{ key := stripeKey gi st, phys := g.cursor }] s
      | none => s

/-- REBUILD_ITEM_COMPLETE (R249): the item at the cursor has written every missing unit and the cursor goes past its stripe; an unwritten or float stripe is passed
over. Where the positions with a spare have changed since its claim, it is begun anew. The row names the physical stripe at the cursor. -/
def rebuildItemComplete (group stripe : Nat) (s : State) : State :=
  match s.group group with
  | none => s
  | some g =>
    if stripe ≠ g.cursor then s else
    match s.item group with
    | some x => s.when (x.phase = .written && !x.cancelled && g.state ≠ 4 && s.parityRuns && !s.driveStops 113) (fun s =>
        if g.rebuilding ≠ [] ∧ x.parts.any (fun a => a.phys = g.cursor) ∧ x.targets = g.toRebuild g.cursor
        then endItem group (rebuildStep group (s.count Ev.rbStripe group)) else endItem group s)
    | none => s.when (s.rebuilds g && (s.needsClaim group g g.cursor).isNone) (fun s => rebuildStep group (s.count Ev.rbSkip group))

/-! ### Scrub (R257) -/

/-- The scrub of a group may start and complete items. -/
def State.scrubs (s : State) (g : LGroup) : Bool := g.scrub ≠ 0 && g.state ≠ 4 && s.parityRuns && !s.driveStops 114

/-- The scrub cursor passes a stripe; after the last one a single pass ends and a continuous one begins anew. -/
def LGroup.scrubStep (g : LGroup) : LGroup :=
  if g.scrubCur + 1 < g.nP then { g with scrubCur := g.scrubCur + 1 }
  else { g with scrubCur := 0, scrub := if g.scrub = 2 then 2 else 0 }

/-- The stripe at the scrub cursor that is to be read: written, and with at most one missing position (R257). -/
def State.scrubTarget (s : State) (gi : Nat) (g : LGroup) : Option Nat :=
  if 2 ≤ (g.absentList g.scrubCur).length then none else s.needsClaim gi g g.scrubCur

/-- At an edge a group's scrub claims the stripe at its cursor (R257). -/
def startScrub (gi : Nat) (s : State) : State :=
  match s.group gi with
  | none => s
  | some g =>
    if !s.scrubs g ∨ (s.item (scrubId gi)).isSome then s
    else match s.scrubTarget gi g with
      | some st => claimItem (scrubId gi) [stripeKey gi st] [{ key := stripeKey gi st, phys := g.scrubCur }] s
      | none => s

/-- The scrub cursor goes past a stripe, checkpointed like the rebuild's (R257). -/
def scrubPast (gi : Nat) (s : State) : State :=
  match s.group gi with
  | none => s
  | some g => checkpoint (g.scrubCur + 1) (s.onGroup gi LGroup.scrubStep)

/-- SCRUB_ITEM_COMPLETE (R257): the item has rewritten what it could resolve and the cursor goes past its stripe; unwritten and float stripes, and stripes with
two missing positions, are passed over. The row names the physical stripe at the cursor. -/
def scrubItemComplete (group stripe : Nat) (s : State) : State :=
  match s.group group with
  | none => s
  | some g =>
    if stripe ≠ g.scrubCur then s else
    match s.item (scrubId group) with
    | some x => s.when (x.phase = .written && !x.cancelled && g.state ≠ 4 && s.parityRuns && !s.driveStops 114) (fun s =>
        endItem (scrubId group) (scrubPast group (s.count Ev.scCheck group)))
    | none => s.when (s.scrubs g && (s.scrubTarget group g).isNone) (scrubPast group)

/-! ### Reshape (R258-R261) -/

/-- Kind-specific bytes of kinds 7 and 8 (R271). -/
def reshapeExtra (c target ft : Nat) : Bytes := zeros 8 ++ le 8 c ++ le 1 target ++ zeros 3 ++ le 4 ft

/-- A reshape's copy may go on: neither group is offline and the volume is not paused (R258, R261). -/
def State.reshapes (s : State) (g t : LGroup) (r : Reshape) : Bool :=
  !r.paused && g.state ≠ 4 && t.state ≠ 4 && s.led.isOpen && s.parityRuns && !s.driveStops 115

/-- The commit of a step, or the switch, is not yet durable. -/
def State.copyCommits (s : State) (vol : Nat) : Bool := (s.unplaced ++ s.led.recs).any (fun y => (y.kind = 7 ∨ y.kind = 8) && y.vol = vol && !y.durable)

/-- Whether a durable record covering `[c, hi)` of a volume has not merged yet (R259). -/
def State.unmerged (s : State) (vol c hi : Nat) : Bool :=
  s.led.recs.any (fun y => (y.kind = 1 ∨ y.kind = 2) && y.durable && !y.retired && y.vol = vol
    && (List.range' 0 y.count).any (fun i => c ≤ y.lba + i && y.lba + i < hi && !y.merged.contains i))

/-- At an edge at which every durable record covering the range has merged, a copy step claims the target stripe and every source stripe of the range (R259). -/
def startCopy (v : Nat) (s : State) : State :=
  match s.volume v with
  | none => s
  | some x =>
    match x.reshape with
    | none => s
    | some r =>
      match s.group x.group, s.group r.target with
      | some g, some t =>
        let hi := min x.size (r.c + t.d)
        if x.size ≤ r.c ∨ !s.reshapes g t r ∨ (s.item (reshapeId v)).isSome ∨ s.copyCommits v ∨ s.unmerged v r.c hi then s
        else
          let first := x.f + r.c / g.d
          let last := x.f + (hi - 1) / g.d
          let src := (List.range' first (last + 1 - first)).map (fun st => stripeKey x.group st)
          claimItem (reshapeId v) (stripeKey r.target (r.ft + r.c / t.d) :: src).eraseDups (src.map (fun k => { key := k, phys := 0 })) s
      | _, _ => s

/-- RESHAPE_COPY_COMMIT (R259, R261): the commit of a copy step that has written its target stripe, or the switch once c has reached the volume's size. -/
def reshapeCopyCommit (vol : Nat) (s : State) : State :=
  match s.volume vol with
  | none => s
  | some x =>
    match x.reshape with
    | none => s
    | some r =>
      match s.group x.group, s.group r.target with
      | some g, some t =>
        let ok := s.reshapes g t r && !s.copyCommits vol && !s.led.paused && s.stagingRoom 1
        if x.size ≤ r.c then
          s.when ok (deviceRec 8 vol r.target 0 (zeros 16 ++ le 1 r.target ++ zeros 3 ++ le 4 r.ft) (.reshape vol) [])
        else match s.item (reshapeId vol) with
          | none => s
          | some y => s.when (ok && y.phase = .written && !y.cancelled) (fun s =>
              (deviceRec 7 vol r.target 0 (reshapeExtra (r.c + t.d) r.target r.ft) (.reshape vol) [] (s.setItem (reshapeId vol) { y with phase := .committing })).count
                Ev.rsCopy vol)
      | _, _ => s

/-- At an edge: what offline groups, given-up items and waiting rows do, and the items that rebuilds, scrubs and reshapes begin (R237, R249, R257, R259). -/
def layoutEdge (s : State) : State :=
  let s := volumeEdge s
  let s := s.vol.groups.foldl (fun s g => startScrub g.1 (startRebuild g.1 s)) s
  (s.vol.volumes.filter (fun v => v.2.reshape.isSome)).foldl (fun s v => startCopy v.1 s) s

/-! ### Layout commands (R263, R264) -/

def layoutCommand (par : Bytes) (act : Bytes → State → State) (s : State) : State := s.command layoutSet layoutSet 64 par act

/-- Unit sizes in KiB (R225). -/
def unitSizes : List Nat := [16, 32, 64, 128, 256, 512, 1024]

/-- Whether two block ranges overlap. -/
def rangesMeet (a n b m : Nat) : Bool := a < b + m && b < a + n

/-- The group a create command describes (R225, R227). -/
def newGroup (p : Bytes) : LGroup :=
  let k := fld p 2 1
  let g : LGroup := { k := k, u := fld p 4 2 / 4, start := fld p 8 8, count := fld p 16 8, f := fld p 24 4,
                      bays := (List.range' 0 (k + 2)).map (fun j => some (fld p (32 + j) 1)), float := [] }
  { g with float := [(g.nP - g.f, g.nP)] }

/-- GROUP_CREATE (R225, R263). -/
def groupCreate (p : Bytes) (s : State) : State :=
  let i := fld p 1 1
  let g := newGroup p
  let bays := g.bays.filterMap id
  if 32 ≤ i ∨ g.k < 2 ∨ 22 < g.k ∨ !unitSizes.contains (fld p 4 2) ∨ g.start < 8388608 ∨ g.count % g.u ≠ 0 ∨ g.f < 16 ∨ 65536 < g.f
      ∨ bays.any (fun b => 24 ≤ b) ∨ bays.eraseDups.length ≠ bays.length ∨ 2 ^ 31 < g.nP ∨ g.nP ≤ g.m + g.f then s.done layoutSet 1
  else if (s.group i).isSome then s.done layoutSet 2
  else if bays.any s.isSpare ∨ s.vol.groups.any (fun x => rangesMeet g.start g.count x.2.start x.2.count && x.2.bays.any (fun b => b.any bays.contains)) then s.done layoutSet 3
  else match s.mapRoom g.mapBytes with
    | none => s.done layoutSet 4
    | some off => ((layMap i { s with vol.groups := tset s.vol.groups i { g with mapOff := off } }).persist).done layoutSet 0

def execGroupCreate (par : Bytes) (s : State) := up s (layoutCommand par groupCreate)

/-- GROUP_DELETE (R263): the group's own records need no merge any more. -/
def groupDelete (p : Bytes) (s : State) : State :=
  let i := fld p 1 1
  if 32 ≤ i then s.done layoutSet 1
  else if (s.group i).isNone ∨ s.volumesOf i ≠ [] then s.done layoutSet 2
  else
    let own (r : Rec) : Bool := r.vol = 0xFFFF && r.group = i && r.durable
    let s := endItem i (endItem (scrubId i) s)
    let s := { s with vol.groups := terase s.vol.groups i
                      led.recs := s.led.recs.map (fun (r : Rec) => if own r then { r with retired := true } else r) }
    (s.persist).done layoutSet 0

def execGroupDelete (par : Bytes) (s : State) := up s (layoutCommand par groupDelete)

/-- `group_state` (R264). -/
def State.groupState (s : State) (i : Nat) : Bytes :=
  match s.group i with
  | none => zeros 64
  | some g =>
    let src := s.vol.volumes.any (fun v => v.2.group = i ∧ v.2.reshape.isSome)
    let tgt := s.vol.volumes.any (fun v => v.2.reshape.any (fun r => r.target = i))
    le 1 g.state ++ le 1 g.k ++ le 2 (g.u * 4)
      ++ le 1 (flagWord [(0, g.rebuilding ≠ [] ∧ g.state ≠ 4), (1, g.scrub ≠ 0), (2, src), (3, tgt), (4, g.waitingSpare)])
      ++ le 1 g.missing.length ++ le 1 (g.missing.getD 0 0xFF) ++ le 1 (g.missing.getD 1 0xFF)
      ++ le 8 g.start ++ le 8 g.count ++ le 4 g.nP ++ le 4 g.m ++ le 4 g.floatFree ++ le 4 g.cur1 ++ le 4 g.cur2 ++ le 4 g.c0
      ++ le 4 g.scrubCur ++ le 4 g.lost.length ++ le 4 g.scrubStripe ++ le 2 g.scrubRow ++ zeros 2

/-- GROUP_QUERY (R263). -/
def groupQuery (p : Bytes) (s : State) : State :=
  let i := fld p 1 1
  if 32 ≤ i then s.done layoutSet 1
  else match s.group i with
    | none => s.done layoutSet 0 (s.groupState i ++ List.replicate 24 0xFF ++ zeros 40)
    | some g =>
      let bay (j : Nat) : Nat := if g.w ≤ j ∨ g.unspared.contains j then 0xFF else (g.bays.getD j none).getD 0xFF
      let st (j : Nat) : Nat := if g.rebuilding.contains j then 2 else if g.missing.contains j then 1 else 0
      s.done layoutSet 0 (s.groupState i ++ (List.range' 0 24).map (fun j => BitVec.ofNat 8 (bay j)) ++ (List.range' 0 24).map (fun j => BitVec.ofNat 8 (st j)) ++ zeros 16)

def execGroupQuery (par : Bytes) (s : State) := up s (layoutCommand par groupQuery)

/-- Logical stripes that volumes other than `but` take in a group: first and number, reshape targets included (R228, R258). -/
def State.taken (s : State) (gi : Nat) (g : LGroup) (but : Nat) : List (Nat × Nat) :=
  (s.vol.volumes.filter (fun v => v.1 ≠ but)).flatMap (fun v =>
    let n := ceilDiv v.2.size g.d
    (if v.2.group = gi then [(v.2.f, n)] else []) ++ (match v.2.reshape with | some r => if r.target = gi then [(r.ft, n)] else [] | none => []))

/-- VOLUME_CREATE (R228, R263, R312). -/
def volumeCreate (p : Bytes) (s : State) : State :=
  let i := fld p 1 1
  let v := fld p 2 2
  let f := fld p 8 4
  let z := fld p 16 8
  match (if i < 32 then s.group i else none) with
  | none => s.done layoutSet 1
  | some g =>
    if v = 0 ∨ v = 0xFFFF ∨ z = 0 ∨ g.nL < f + ceilDiv z g.d then s.done layoutSet 1
    else if (s.volume v).isSome ∨ g.state = 4 then s.done layoutSet 2
    else if (s.taken i g v).any (fun r => rangesMeet f (ceilDiv z g.d) r.1 r.2) then s.done layoutSet 3
    else if s.ciph.epochNext = 0xFFFFFFFF then s.done layoutSet 5
    else
      let e := s.ciph.epochNext
      (({ s with vol.volumes := tset s.vol.volumes v { group := i, f := f, size := z, epochBase := e, epochCur := e }, ciph.epochNext := e + 1 }).persist).done layoutSet 0

def execVolumeCreate (par : Bytes) (s : State) := up s (layoutCommand par volumeCreate)

/-- Whether a namespace mapped to a volume is not in state 0 (R263). -/
def State.volumeMapped (s : State) (v : Nat) : Bool := s.tgt.namespaces.any (fun n => n.2.vol = v && n.2.state ≠ 0)

/-- VOLUME_DELETE (R230, R263, R290, R306): its stripes are unwritten; its records, keys and cached blocks go. -/
def volumeDelete (p : Bytes) (s : State) : State :=
  let v := fld p 2 2
  match s.volume v with
  | none => s.done layoutSet 1
  | some x =>
    if s.volumeMapped v ∨ x.reshape.isSome then s.done layoutSet 2
    else
      let s := unwrite x.group x.f (match s.group x.group with | some g => ceilDiv x.size g.d | none => 0) s
      let s := cacheRemove (fun (e : CacheEntry) => e.vol = v) s
      let s := eraseKeys (fun k => k.vol = v) s
      let drop (r : Rec) : Bool := (r.kind = 1 || r.kind = 2) && r.vol = v && r.durable
      let s := { s with vol.volumes := terase s.vol.volumes v
                        led.recs := s.led.recs.map (fun (r : Rec) => if drop r then { r with retired := true } else r) }
      (s.persist).done layoutSet 0

def execVolumeDelete (par : Bytes) (s : State) := up s (layoutCommand par volumeDelete)

/-- VOLUME_QUERY (R263). -/
def volumeQuery (p : Bytes) (s : State) : State :=
  let v := fld p 2 2
  match s.volume v with
  | none => s.done layoutSet 1
  | some x =>
    let listed := match s.group x.group with
      | some g => (g.lost.filter (fun e => e.vol = v)).length
      | none => 0
    let (st, t, ft, c) := match x.reshape with
      | some r => (if r.paused then 2 else 1, r.target, r.ft, min r.c x.size)
      | none => (0, 0, 0, 0)
    s.done layoutSet 0 (le 1 x.group ++ zeros 3 ++ le 4 x.f ++ le 8 x.size ++ le 1 st ++ le 1 t ++ zeros 2 ++ le 4 ft ++ le 8 c ++ le 4 listed)

def execVolumeQuery (par : Bytes) (s : State) := up s (layoutCommand par volumeQuery)

/-- Reshapes in progress. -/
def State.reshapeCount (s : State) : Nat := (s.vol.volumes.filter (fun v => v.2.reshape.isSome)).length

/-- RESHAPE_START (R258). -/
def reshapeStart (p : Bytes) (s : State) : State :=
  let v := fld p 2 2
  let ti := fld p 4 1
  let ft := fld p 8 4
  match s.volume v, (if ti < 32 then s.group ti else none) with
  | some x, some t =>
    let n := ceilDiv x.size t.d
    let g := s.group x.group
    if t.nL < ft + n then s.done layoutSet 1
    else if x.reshape.isSome ∨ g.any (fun g => g.state = 4) ∨ t.state = 4 ∨ t.map.any (fun e => ft ≤ e.1 ∧ e.1 < ft + n ∧ e.2.2) then s.done layoutSet 2
    else if (s.taken ti t v).any (fun r => rangesMeet ft n r.1 r.2) then s.done layoutSet 3
    else if 8 ≤ s.reshapeCount then s.done layoutSet 5
    else ((s.onVolume v (fun x => { x with reshape := some { target := ti, ft := ft } })).persist).done layoutSet 0
  | _, _ => s.done layoutSet 1

def execReshapeStart (par : Bytes) (s : State) := up s (layoutCommand par reshapeStart)

/-- RESHAPE_PAUSE_RESUME (R261). -/
def reshapePauseResume (p : Bytes) (s : State) : State :=
  let v := fld p 2 2
  match s.volume v with
  | none => s.done layoutSet 1
  | some x =>
    if x.reshape.isNone then s.done layoutSet 2
    else ((s.onVolume v (fun x => { x with reshape := x.reshape.map (fun r => { r with paused := (fld p 4 1).testBit 0 }) })).persist).done layoutSet 0

def execReshapePauseResume (par : Bytes) (s : State) := up s (layoutCommand par reshapePauseResume)

/-- REBUILD_START (R248, R263): refused with outcome 2 where no position lacks a spare or no spare fits. -/
def rebuildStart (p : Bytes) (s : State) : State :=
  let i := fld p 1 1
  match (if i < 32 then s.group i else none) with
  | none => s.done layoutSet 1
  | some g =>
    match g.unspared with
    | [] => s.done layoutSet 2
    | pos :: _ =>
      match s.fitting ((g.bays.getD pos none).getD 0xFF) with
      | some n => if g.state = 4 then s.done layoutSet 2
        else ((giveSpare ((g.bays.getD pos none).getD 0xFF) n s).onGroup i (fun g => { g with byCommand := true })).done layoutSet 0
      | none => s.done layoutSet 2

def execRebuildStart (par : Bytes) (s : State) := up s (layoutCommand par rebuildStart)

/-- SCRUB_CONTROL (R263): a stop keeps the cursor. -/
def scrubControl (p : Bytes) (s : State) : State :=
  let i := fld p 1 1
  let m := fld p 2 1
  match (if i < 32 then s.group i else none) with
  | none => s.done layoutSet 1
  | some g =>
    if 2 < m then s.done layoutSet 1
    else if g.state = 4 then s.done layoutSet 2
    else (s.onGroup i (fun g => { g with scrub := m })).done layoutSet 0

def execScrubControl (par : Bytes) (s : State) := up s (layoutCommand par scrubControl)

/-- MEMBER_FAIL_COMMAND (R245, cause 6). -/
def memberFailCommand (p : Bytes) (s : State) : State :=
  let i := fld p 1 1
  let pos := fld p 2 1
  match (if i < 32 then s.group i else none) with
  | none => s.done layoutSet 1
  | some g =>
    if g.w ≤ pos then s.done layoutSet 1
    else match (if g.unspared.contains pos then none else g.bays.getD pos none) with
      | none => s.done layoutSet 2
      | some b => (bayLost b 6 s).done layoutSet 0

/-- LOST_LIST_FETCH (R263): up to three entries from the first named. -/
def lostListFetch (p : Bytes) (s : State) : State :=
  let i := fld p 1 1
  match (if i < 32 then s.group i else none) with
  | none => s.done layoutSet 1
  | some g => s.done layoutSet 0 (le 4 g.lost.length ++ zeros 28 ++ ((g.lost.drop (fld p 4 4)).take 3).flatMap LostEntry.bytes)

def execLostListFetch (par : Bytes) (s : State) := up s (layoutCommand par lostListFetch)

end Sys2Proof.Machine
end

