-- ==== Sys2Proof/Machine/Ledger.lean ====
section
/-! DEFINITION. Submission of records, checkpoints, seeding, replay, drain and the power-fail warning (R273, R274, R279-R287, R293, R296). -/

namespace Sys2Proof.Machine

abbrev ledgerSet : Nat := 0x480020

/-! ### Submission (R274) -/

/-- RECORD_SUBMIT (R274, R281, R526): ready records are placed, 64 in a bell at most, and written to every copy. -/
def recordSubmit (s : State) : State :=
  s.when s.maySubmit (fun s =>
    let (s, placed) := placeAll (64 - s.slotsUsed 69) (504 - s.bufferUsed) [] s
    (runsOf placed).foldl (fun s r => writeRun r s) s)

def execRecordSubmit (s : State) := up s recordSubmit

/-- REPLICATION_BUFFER_RELEASE (R273): 64 bells after the entry was filled. -/
def replicationBufferRelease (place : Nat) (s : State) : State :=
  s.when (s.led.buffer.any (fun e => e.1 = place && 64 ≤ s.since e.2.1)) (fun s =>
    { s with led.buffer := s.led.buffer.filter (fun e => e.1 ≠ place) })

def execReplicationBufferRelease (place : Nat) (s : State) := up s (replicationBufferRelease place)

/-! ### Checkpoints (R279) -/

/-- Position of a descriptor number among the remembered ones. -/
def State.descIdx (s : State) (id : Nat) : Option Nat := s.led.descs.findIdx? (fun d => d.id = id)

/-- CHECKPOINT_PERSISTED (R279): one of the last 16 descriptors, not older than the last accepted; otherwise a range error. -/
def checkpointPersisted (v : Nat) (s : State) : State :=
  match s.descIdx v with
  | none => s.status 4
  | some i =>
    if (s.descIdx s.led.persisted).any (fun j => i < j) then s.status 4
    else match s.led.descs[i]? with
      | none => s.status 4
      | some d =>
        retireAll ((({ s with led.persisted := v, led.persistedTail := d.tailPlace, led.persistedBlock := d.tailBlock }).setObj 0x480009 (le 4 v)).status 0)

def execCheckpointPersisted (v : Nat) (s : State) := up s (checkpointPersisted v)

/-! ### Seeding (R282) -/

/-- Whether a bay holds a copy, live, outgoing or seeding. -/
def State.holdsCopy (s : State) (bay : Nat) : Bool := s.writeTargets.any (fun t => t.2 = bay)

/-- Bytes of one ledger block: of the placed record that covers it, or a zero block (R282). -/
def State.ledgerBlock (s : State) (b : Nat) : Bytes :=
  match s.led.recs.find? (fun r => r.roomed && r.block ≤ b && b < r.block + r.size) with
  | some r => s.mem.read (s.stageAddr r.slot (b - r.block)) 4160
  | none => zeroBlock

/-- Runs of at most 256 blocks from block `b`, around the slot: first block and blocks. -/
def seedRuns : Nat → Nat → Nat → List (Nat × Nat)
  | 0, _, _ => []
  | f + 1, b, n =>
    if n = 0 then []
    else
      let k := min (min n 256) (4194304 - b)
      (b, k) :: seedRuns f ((b + k) % 4194304) (n - k)

/-- The background Writes of a seeding copy, in queue 0 (R282). -/
def seedWrites (slot bay first n : Nat) (s : State) : State :=
  (seedRuns (n / 256 + 3) first n).foldl (fun s r =>
    driveEnqueue bay { op := 1, lba := r.1, n := r.2, data := (List.range' 0 r.2).flatMap (fun i => s.ledgerBlock (r.1 + i)), cdw := [2 ^ 30],
                       consumer := .seed (slot + 3) r.2, queue := 0 } s) s

/-- COPY_REPLACE (R282). -/
def copyReplace (p : Bytes) (s : State) : State :=
  let slot := fld p 1 1
  let bay := fld p 2 1
  let c := s.copyOf slot
  if 2 < slot ∨ 23 < bay then s.done ledgerSet 1
  else if !s.led.isOpen ∨ !s.bayReady bay ∨ s.holdsCopy bay ∨ c.st = 2 ∨ (c.st = 1 ∧ [0, 1, 2].any (fun i => (s.copyOf i).old.isSome)) then s.done ledgerSet 2
  else
    let n := (s.led.nextBlock + 4194304 - s.tailBlock) % 4194304
    let s := s.onCopy slot (fun c => { st := 2, bay := bay, seedPlace := s.led.nextPlace, seedLeft := n, old := if c.st = 1 then some c.bay else none })
    (seedWrites slot bay s.tailBlock n s).done ledgerSet 0

/-- A consumer of ledger Writes to a seeding copy is, from the edge at which it is live, one of the copy itself. -/
def Consumer.live (slot : Nat) : Consumer → Consumer
  | .ledger c p n => if c = slot + 3 then .ledger slot p n else .ledger c p n
  | x => x

/-- Writes resume with three live copies: every held record becomes durable (R281). -/
def resumeWrites (s : State) : State :=
  if s.led.paused ∧ s.liveSlots.length = 3 then
    { s with led.paused := false
             led.recs := s.led.recs.map (fun (r : Rec) => if r.held then { r with held := false, acked := r.acked ++ [0, 1, 2] } else r) }
  else s

/-- SEEDING_COMPLETE (R282): the new copy is live, and the one it replaces is dropped. -/
def seedingComplete (copy : Nat) (s : State) : State :=
  let c := s.copyOf copy
  s.when (c.st = 2 && c.seedLeft = 0 && !s.led.failing.contains (copy + 3)) (fun s =>
    let s := match c.old with
      | some o => (takeCommands o (fun x => match x.consumer with
          | .ledger t _ _ => t = copy
          | _ => false) s).1
      | none => s
    let s := s.onDrive c.bay (fun d => { d with out := tmap d.out (fun _ x => { x with consumer := x.consumer.live copy }) })
    let s := { s with bay.waiting := tmap s.bay.waiting (fun _ x => { x with consumer := x.consumer.live copy })
                      led.recs := s.led.recs.map (fun (r : Rec) =>
                        let a := r.acked.filter (fun t => t ≠ copy)
                        { r with acked := (if r.place < c.seedPlace ∨ a.contains (copy + 3) then a ++ [copy] else a).filter (fun t => t ≠ copy + 3) }) }
    settleDurable (resumeWrites (s.onCopy copy (fun c => { c with st := 1, old := none }))))

/-! ### Commands (R296) -/

def ledgerCommand (par : Bytes) (act : Bytes → State → State) (s : State) : State := s.command ledgerSet ledgerSet 80 par act

/-- LEDGER_CREATE (R296): place, sequence and epoch start at 1, and the three copies are live. -/
def ledgerCreate (p : Bytes) (s : State) : State :=
  let b := [fld p 1 1, fld p 2 1, fld p 3 1]
  if s.led.isOpen ∨ s.objN 0x480011 0 = 0 then s.done ledgerSet 2
  else if b.eraseDups.length ≠ 3 ∨ b.any (fun x => !s.bayLinked x) then s.done ledgerSet 1
  else if s.ciph.randomFailed then s.done ledgerSet 4
  else
    let id := s.free % 2 ^ 64
    let s := s.took
    let l := s.led
    ({ s with led := { l with isOpen := true, id := id, nextLseq := 1, nextPlace := 1, nextBlock := 0, epoch := 1, epochFirst := 1, paused := false,
                              copies := b.map (fun x => { st := 1, bay := x }), ready := [], unstaged := [], stageGap := 0, failing := [], imageWaits := [], recs := [],
                              stagingNext := 0, stagingUsed := 0, persistedTail := 1, persistedBlock := 0, drain := none, buffer := [] } }).done ledgerSet 0 (le 8 id)

def execLedgerCreate (par : Bytes) (s : State) := up s (ledgerCommand par ledgerCreate)

def execCopyReplace (par : Bytes) (s : State) := up s (ledgerCommand par copyReplace)

/-- Copies that a descriptor names live or seeding (R284): slot and bay. -/
def descCopies (d : Bytes) : List (Nat × Nat) :=
  ([0, 1, 2].filter (fun i => let st := fld d 47 1 / 4 ^ i % 4; st = 1 ∨ st = 2)).map (fun i => (i, fld d (44 + i) 1))

/-- The domain of a bay's root port (R47). -/
abbrev portDomain (bay : Nat) : Nat := if bay < 12 then 12 else 13

/-- REPLAY (R283): it needs the storage path, both stacks and the drive ports of every copy bay. -/
def replay (p : Bytes) (s : State) : State :=
  let d := sub p 16 64
  if s.led.isOpen ∨ s.objN 0x480011 0 = 0 ∨ !s.domOn 16 ∨ !s.domOn 17 ∨ !s.domOn 18 ∨ (descCopies d).any (fun c => !s.domOn (portDomain c.2)) then s.done ledgerSet 2
  else { s with led.replaying := some d }

def execReplay (par : Bytes) (s : State) := up s (ledgerCommand par replay)

/-! ### Replay (R284-R287) -/

/-- Fields of a header block (R270). -/
abbrev hPlace (b : Bytes) : Nat := fld b 16 8
abbrev hLseq (b : Bytes) : Nat := fld b 32 8
abbrev hKind (b : Bytes) : Nat := fld b 6 1
abbrev hN (b : Bytes) : Nat := fld b 28 2

/-- A valid record (R272), given the descriptor. -/
def validRec (d b : Bytes) : Bool :=
  fld b 0 4 == 0x4447524C && fld b 4 2 == 1 && fld b 4088 8 == crc64 (b.take 4088) && fld b 8 8 == fld d 0 8 && fld d 8 8 ≤ hPlace b
    && (fld b 84 4 == fld d 40 4 || (fld b 84 4 < fld d 40 4 && hPlace b < fld d 32 8))
    && b.length == 4160 * (1 + hN b) && fld b 64 8 == (if hN b = 0 then 0 else crc64 (b.drop 4160))

/-- Payload block `i` of a record's bytes. -/
abbrev payBlock (b : Bytes) (i : Nat) : Bytes := sub b (4160 * (1 + i)) 4160

/-- Apply a map page's 1,024 entries to a group (R229, R286). -/
def LGroup.applyMap (g : LGroup) (n : Nat) (page : Bytes) : LGroup :=
  (List.range' 0 1024).foldl (fun g i =>
    let st := 1024 * n + i
    if g.nL ≤ st then g
    else let e := fld page (4 * i) 4; g.setEntry st (e % 2 ^ 31) (e.testBit 31)) g

/-- The lost-block entry that 32 bytes of a list page spell (R255); volume 0 names none. -/
def lostOf (b : Bytes) : Option LostEntry :=
  if fld b 12 2 = 0 then none
  else some { bell := fld b 0 8, era := fld b 8 4, vol := fld b 12 2, lba := fld b 16 8, reason := fld b 24 1, pos := fld b 25 1 }

/-- Apply a zone page (R229): a map page, or a list page whose entries take their places in the list. -/
def LGroup.applyPage (g : LGroup) (n : Nat) (page : Bytes) : LGroup :=
  if n < g.pages then g.applyMap n page
  else
    let j := n - g.pages
    let es := (List.range' 0 128).filterMap (fun i => lostOf (sub page (32 * i) 32))
    { g with lost := g.lost.take (128 * j) ++ es ++ g.lost.drop (128 * (j + 1)) }

/-- A record loaded by replay (R286): settled and durable. Record `slot` is set when it is staged. -/
def recOf (b : Bytes) : Rec :=
  { kind := hKind b, lseq := hLseq b, vol := fld b 40 2, group := fld b 42 1, lba := fld b 44 8, count := fld b 52 4, n := hN b,
    extra := (b.drop 128).take 128, owner := .replayed, place := hPlace b, block := fld b 24 4, durable := true, settled := true, acked := [0, 1, 2]
    merged := if hKind b = 2 then (List.range' 0 32).filter (fun i => (fld b 132 4).testBit i) else [] }

/-- Insert a record's bytes by its sequence. -/
def insertSeq (b : Bytes) : List Bytes → List Bytes
  | [] => [b]
  | x :: xs => if hLseq b < hLseq x then b :: x :: xs else x :: insertSeq b xs

/-- Load one record into staging (R286). -/
def loadRec (b : Bytes) (s : State) : State :=
  let slot := s.led.stagingNext
  let r := { recOf b with slot := slot, roomed := true, durEdge := s.bell.edges }
  let s := (List.range' 0 r.size).foldl (fun s i => s.hbmPut (s.stageAddr slot i) (sub b (4160 * i) 4160)) s
  { s with led.recs := s.led.recs ++ [r], led.stagingNext := (slot + r.size) % (max 1 s.stagingBlocks), led.stagingUsed := s.led.stagingUsed + r.size }

/-- Remaps of full-stripe commits with a lower sequence than a map page that was made before them, and so lacks them: they stand at their sequences (R241). -/
def remaps (gi page : Nat) (r : Rec) (s : State) : State :=
  let missed (x : Rec) : Bool := x.kind = 6 && x.group = gi && fld x.extra 8 4 = page && x.lseq < r.lseq && r.place < x.place
  ((s.led.recs.filter missed).foldl (fun l x => insertRec x l) []).foldl (fun s x =>
    s.onGroup gi (fun g => g.setEntry (fld x.extra 0 4) (fld x.extra 4 4) true)) s

/-- A loaded record's effect beside its place in staging, in sequence order (R285, R286): map and list pages, remaps, merge commits, reshape cursors. -/
def applyRec (b : Bytes) (s : State) : State :=
  let r := recOf b
  let gi := r.group
  if r.kind = 1 ∧ r.vol = 0xFFFF then
    (List.range' 0 r.count).foldl (fun s i => remaps gi (r.lba + i) r (s.onGroup gi (fun g => g.applyPage (r.lba + i) ((payBlock b i).take 4096)))) s
  else if r.kind = 6 then
    let st := fld r.extra 0 4
    let key := stripeKey gi st
    let sup (x : Rec) : Bool := (x.kind = 1 ∨ x.kind = 2) && x.lseq < r.lseq && !(s.pieces key x).isEmpty
    let s := { s with led.recs := s.led.recs.map (fun (x : Rec) => if sup x then { x with merged := x.merged ++ (s.pieces key x).map (fun (q : Nat × Nat × Nat) => q.1) } else x) }
    let s := remaps gi (fld r.extra 8 4) r (s.onGroup gi (fun g => g.applyPage (fld r.extra 8 4) ((payBlock b 0).take 4096)))
    s.onGroup gi (fun g => g.setEntry st (fld r.extra 4 4) true)
  else if r.kind = 4 then
    match s.group gi, (s.group gi).bind (fun g => g.logicalOf (fld r.extra 0 4)) with
    | some g, some st =>
      let key := stripeKey gi st
      let through := fld r.extra 8 8
      let s := { s with led.recs := s.led.recs.map (fun (x : Rec) =>
          if (x.kind = 1 ∨ x.kind = 2 ∨ x.kind = 6) ∧ x.lseq ≤ through then { x with merged := x.merged ++ (s.pieces key x).map (fun (q : Nat × Nat × Nat) => q.1) }
          else if x.kind = 3 ∧ x.group = gi ∧ fld x.extra 0 4 = fld r.extra 0 4 ∧ x.lseq < r.lseq then { x with merged := [0] } else x) }
      -- the commit of a merge sets `written` (R230)
      if 2 ^ 31 ≤ st then s else s.onGroup gi (fun x => x.setEntry st (g.entry st).1 true)
    | _, _ => s
  else if r.kind = 7 then
    let c := fld r.extra 8 8
    let ti := fld r.extra 16 1
    -- the target stripe that the step has written is `written` (R230, R259)
    let s := match s.group ti with
      | some g => s.onGroup ti (fun x => let st := fld r.extra 20 4 + (c / g.d - 1); x.setEntry st (g.entry st).1 true)
      | none => s
    s.onVolume r.vol (fun v => { v with reshape := some { target := ti, ft := fld r.extra 20 4, c := c, paused := v.reshape.any (fun y => y.paused) } })
  else if r.kind = 8 then
    -- the source stripes hold nothing any more (R261)
    let s := match s.volume r.vol with
      | some v => (match s.group v.group with
        | some g => s.onGroup v.group (fun x => { x with map := x.map.map (fun (e : Nat × Nat × Bool) => if v.f ≤ e.1 ∧ e.1 < v.f + ceilDiv v.size g.d then (e.1, (e.2.1, false)) else e) })
        | none => s)
      | none => s
    s.onVolume r.vol (fun v => { v with group := fld r.extra 16 1, f := fld r.extra 20 4, reshape := none })
  else s

/-- Whether replay applies a record (R285): it is not below the highest tail, and an intent has its commit. -/
def appliedRec (all : List Bytes) (tail : Nat) (b : Bytes) : Bool :=
  tail ≤ hPlace b && (hKind b != 5 || all.any (fun x => hKind x == 6 && hLseq x == hLseq b))

/-- The record with the highest place. -/
def lastRec : List Bytes → Option Bytes
  | [] => none
  | b :: bs => match lastRec bs with
    | some x => if hPlace x < hPlace b then some b else some x
    | none => some b

/-! ### The scan (R284) -/

/-- The valid record that a copy holds at a block (R272). -/
def recordAt (d : Bytes) (x : ReplayScan) (copy blk : Nat) : Option Bytes :=
  let l := x.copies.getD copy []
  match tget l blk with
  | none => none
  | some h =>
    let b := padTo 4160 h ++ (List.range' 0 (hN h)).flatMap (fun i => padTo 4160 (tgetD l (blk + 1 + i) []))
    let whole := (List.range' 0 (1 + hN h)).all (fun i => !x.unread.contains (copy, blk + i))
    if whole && fld b 24 4 == blk && validRec d b then some b else none

/-- Insert a number in rising order, once. -/
def insertOnce (x : Nat) : List Nat → List Nat
  | [] => [x]
  | y :: ys => if x < y then x :: y :: ys else if x = y then y :: ys else y :: insertOnce x ys

/-- The scan of the copies `cs` at rising distances from the tail block, `cur` being the end of the last record: the records found, each with the copies that
hold it, and whether a block could be read in none of them. It stops after 33,825 blocks with no valid record. -/
def scanGo (d : Bytes) (x : ReplayScan) (cs : List Nat) : List Nat → Nat → List (Bytes × List Nat) × Bool
  | [], _ => ([], false)
  | δ :: r, cur =>
    if δ < cur then scanGo d x cs r cur
    else if cur + 33825 ≤ δ then ([], false)
    else
      let blk := (fld d 16 4 + δ) % 4194304
      let holders := cs.filter (fun c => (recordAt d x c blk).isSome)
      match holders.head?.bind (fun c => recordAt d x c blk) with
      | some b =>
        let y := scanGo d x cs r (δ + 1 + hN b)
        ((b, holders) :: y.1, y.2)
      | none => if cs.all (fun c => x.unread.contains (c, blk)) then ([], true) else scanGo d x cs r cur

/-- The scan of a replay (R284). -/
def scanCopies (d : Bytes) (x : ReplayScan) (cs : List Nat) : List (Bytes × List Nat) × Bool :=
  let blks := cs.flatMap (fun c => (x.copies.getD c []).map (·.1)) ++ x.unread.map (·.2)
  scanGo d x cs (blks.foldl (fun l b => insertOnce ((b + 4194304 - fld d 16 4) % 4194304) l) []) 0

/-- State of the copies after a replay (R280, R286): every copy read holds every loaded record, and one of which a read failed has failed. -/
def replayCopies (d : Bytes) (failed : List Nat) : List Copy :=
  [0, 1, 2].map (fun i =>
    let st := fld d 47 1 / 4 ^ i % 4
    let bay := fld d (44 + i) 1
    if st = 0 then {} else if st = 3 ∨ failed.contains i then { st := 3, bay := bay } else { st := 1, bay := bay })

/-- Rewrite a loaded record to a copy in which it was not valid (R286). -/
def rewriteRec (d b : Bytes) (i : Nat) (s : State) : State :=
  (driveEnqueue (fld d (44 + i) 1) { op := 1, lba := fld b 24 4, n := 1 + hN b, data := b, cdw := [2 ^ 30], consumer := .firmware, queue := 0 } s).count Ev.cpRew i

/-- A failed replay (R287). -/
def replayFailed (s : State) : State :=
  (({ s with led.replaying := none }).faultAt 120 4 6 0).done ledgerSet 3

/-- Copies a descriptor names of which a read failed (R280). -/
abbrev replayBad (d : Bytes) (x : ReplayScan) : List Nat :=
  ((descCopies d).map (·.1)).filter (fun c => x.failed.contains c || x.unread.any (fun u => u.1 = c))

/-- A zone page takes the first of its blocks whose `crc` holds, which is written back with FS102 where the block as read was not that one; a page without any is an unreadable
row of the map zone, which takes the group offline (R243, R256, R286, R300). -/
def applyZone (x : ReplayScan) (gi n : Nat) (s : State) : State :=
  let bs := (x.zones.filter (fun z => z.1 = gi ∧ z.2.1 = n)).map (·.2.2)
  match bs.find? stCrcOk, s.group gi with
  | some b, some g =>
    let s := s.onGroup gi (fun g => g.applyPage n (b.take 4096))
    let o := n % g.d
    if bs.head? = some b then s else repairAt gi (n / g.d) (o % g.u) (g.posD (n / g.d) (o / g.u)) b s
  | none, some _ => groupOffline gi s
  | _, none => s

/-- What a replay rebuilds from the records found (R286): the stripe maps and lost-block lists from the map zones, then staging with the records `load`, then
the effects of the records `app` in sequence order; `good` are the copies read without an error, to which the records loaded are rewritten where not valid. -/
def replayRebuild (d : Bytes) (x : ReplayScan) (load : List (Bytes × List Nat)) (app : List Bytes) (discarded : Nat) (good : List Nat) (s : State) : State :=
  let bad := replayBad d x
  let s := { s with led := { s.led with recs := [], ready := [], unstaged := [], stageGap := 0, failing := [], imageWaits := [], stagingNext := 0, stagingUsed := 0, replaying := none, id := fld d 0 8,
                                        drain := none, buffer := [],
                                        copies := replayCopies d bad } }
  let s := x.zonesLost.foldl (fun s g => groupOffline g s) ((x.zones.map (fun z => (z.1, z.2.1))).eraseDups.foldl (fun s z => applyZone x z.1 z.2 s) s)
  let s := load.foldl (fun s b => loadRec b.1 s) s
  let order := app.foldl (fun l b => insertSeq b l) []
  let s := order.foldl (fun s b => applyRec b s) s
  let s := s.vol.groups.foldl (fun s g => layMap g.1 s) { s with vol.groups := tmap s.vol.groups (fun _ g => g.floatOfMap) }
  let s := load.foldl (fun s b => (good.filter (fun c => !b.2.contains c)).foldl (fun s c => rewriteRec d b.1 c s) s) s
  bad.foldl (fun s c => (s.faultAt 112 4 6 c).count Ev.cpFail c) (s.lateWaste 69 discarded)

/-- Place and block after the records found (R286). -/
def replayNext (d : Bytes) (found : List Bytes) : Nat × Nat :=
  match lastRec found with
  | some b => (hPlace b + 1, (fld b 24 4 + 1 + hN b) % 4194304)
  | none => (fld d 8 8, fld d 16 4)

/-- Sequence after the records found (R286). -/
def replaySeq (d : Bytes) (found : List Bytes) : Nat := found.foldl (fun a b => max a (hLseq b + 1)) (fld d 24 8)

/-- The ledger opens after a replay (R286): its next place, block and sequence are those after the records found, and its epoch is the next. -/
def replayOpen (d : Bytes) (found : List Bytes) (s : State) : State :=
  let live := (s.led.copies.filter (fun c => c.st = 1)).length
  let s := { s with led.isOpen := true, led.nextPlace := (replayNext d found).1, led.nextBlock := (replayNext d found).2, led.epoch := fld d 40 4 + 1,
                    led.epochFirst := (replayNext d found).1, led.nextLseq := replaySeq d found,
                    led.paused := live < 2, led.persistedTail := fld d 8 8, led.persistedBlock := fld d 16 4 }
  let s := if live < 2 then s.faultAt 113 4 6 0 else s
  retireAll (if live = 0 then s.faultAt 114 4 6 0 else s)

/-- REPLAY_COMPLETE (R284-R287). -/
def replayComplete (x : ReplayScan) (s : State) : State :=
  match s.led.replaying with
  | none => s
  | some d =>
    let read := ((descCopies d).map (·.1)).filter (fun c => !x.failed.contains c)
    let scan := scanCopies d x read
    let found := scan.1.map (·.1)
    let tail := found.foldl (fun a b => max a (fld b 56 8)) (fld d 8 8)
    let app := found.filter (appliedRec found tail)
    let load := scan.1.filter (fun b => appliedRec found tail b.1 && hKind b.1 < 7)
    let need := (load.map (fun b => 1 + hN b.1)).sum
    if scan.2 ∨ read.isEmpty ∨ s.stagingBlocks < need then replayFailed s
    else
      let n := found.length
      let good := read.filter (fun c => !(replayBad d x).contains c)
      let rewritten := good.filter (fun c => load.any (fun b => !b.2.contains c))
      let blocks := (((replayNext d found).2 + 4194304 - fld d 16 4) % 4194304 + 33825) * read.length
      (replayOpen d found (replayRebuild d x load app (n - app.length) good s)).done ledgerSet 0
        (le 8 n ++ le 8 app.length ++ le 8 (n - app.length) ++ le 8 rewritten.length ++ le 8 blocks ++ le 8 (replayNext d found).1 ++ le 8 (replaySeq d found))

def execReplayComplete (scan : ReplayScan) (s : State) := up s (replayComplete scan)

/-! ### Drain and power-fail (R293, R296) -/

/-- DRAIN (R296): `merge_hold` is ignored until every record placed before acceptance is retired. -/
def drain (_ : Bytes) (s : State) : State :=
  if !s.led.isOpen then s.done ledgerSet 2 else { s with led.drain := some s.led.nextPlace }

def execDrain (par : Bytes) (s : State) := up s (ledgerCommand par drain)

/-- DRAIN_COMPLETE (R296). -/
def drainComplete (s : State) : State :=
  match s.led.drain with
  | none => s
  | some p => s.when (s.led.recs.all (fun r => r.retired || p ≤ r.place)) (fun s => ({ s with led.drain := none }).done ledgerSet 0)

def execDrainComplete (s : State) := up s drainComplete

/-- PWRFAIL_WARNING (R218, R293): PWRFAIL_N was low at two consecutive edges. -/
def pwrfailWarning (s : State) : State :=
  s.when (s.led.pwrLow = 2 && s.tgt.pwrfail.isNone) (fun s =>
    ({ s with led.pwrfailBell := s.bell.number, tgt.pwrfail := some s.bell.edges }).faultAt 119 4 6 0)

def execPwrfailWarning (s : State) := up s pwrfailWarning

end Sys2Proof.Machine
end

