-- ==== Sys2Proof/Machine/Cipher.lean ====
section
/-! DEFINITION. Key holds, grants, the service queue, and the cipher, firmware and operator-key commands (R302, R303, R306, R312-R333). -/

namespace Sys2Proof.Machine

abbrev cipherSet : Nat := 0x500020
abbrev fwSet : Nat := 0x900010

/-- KEY_HOLD_EXPIRY (R306): more than `key_hold` bells without use. -/
def keyHoldExpiry (lane vol epoch : Nat) (s : State) : State :=
  let old (k : HeldKey) : Bool := k.vol = vol && k.epoch = epoch && s.objN 0x50000B 4 ≤ s.since k.last
  s.when ((s.lane lane).keys.any old) (fun s =>
    { s with ciph.lanes := tmod s.ciph.lanes lane {} (fun x => { x with keys := x.keys.filter (fun k => !old k) }) }.count Ev.holdErase lane)

def execKeyHoldExpiry (lane vol epoch : Nat) (s : State) := up s (keyHoldExpiry lane vol epoch)

/-- WSEQ_GRANT (R302): above the limit and at most `wseq_next` + 2^40. A wait ends at the edge after. -/
def wseqGrant (v : Nat) (s : State) : State :=
  if s.ciph.wseqLimit < v ∧ v ≤ s.ciph.wseqNext + 2 ^ 40 then
    let wait := if s.ciph.wseqNext = s.ciph.wseqLimit then s.bell.edges + 1 else s.ciph.waitEdge
    ((({ s with ciph.wseqLimit := v, ciph.waitEdge := wait }).setObj 0x500009 (le 8 v)).status 0).count Ev.grantAcc 0
  else (s.status 4).count Ev.grantRef 0

def execWseqGrant (v : Nat) (s : State) := up s (wseqGrant v)

/-! ### The service queue (R314-R316) -/

/-- HBM address of the descriptor at the consumer index. -/
def State.svcAddr (s : State) : Nat := s.objN 0x500030 0 + s.ciph.svcCons % s.objN 0x500031 256 * 64

/-- A descriptor's operation, purpose or length is not one the device has (R315, R316). -/
def svcBad (d : Bytes) : Bool :=
  let op := fld d 0 1
  let len := fld d 16 4
  let pur := fld d 1 1
  op == 0 || 7 < op || !(pur == 2 || (0x10 ≤ pur && pur ≤ 0x1F)) || len == 0 || 1048576 < len || ((op == 2 || op == 3) && len % 16 != 0)
    || (6 ≤ op && 4096 < fld d 36 4)

/-- SERVICE_DESCRIPTOR (R314, R316): the descriptor at the consumer index is taken, in 4 KiB items; one that is refused has none. -/
def serviceDescriptor (s : State) : State :=
  s.when (s.ciph.svc.isNone && s.objN 0x500032 0 ≠ s.ciph.svcCons && s.cipherRuns) (fun s =>
    let (s, d, bad) := s.hbmGet (212 + b2n (inStackB s.svcAddr)) s.ciph.svcCons s.svcAddr 64
    { s with ciph.svc := some { desc := d, left := if bad ∨ svcBad d ∨ s.ciph.root.isNone then 0 else ceilDiv (fld d 16 4) 4096, bad := bad } })

def execServiceDescriptor (s : State) := up s serviceDescriptor

/-- Lane `i` starts one item of the descriptor in progress (R316). -/
def serviceItem (i : Nat) (s : State) : State :=
  let x := s.lane i
  let l : Lane := { x with pipes := lmod x.pipes ((x.pipe 296).getD 0) (· + 296) }
  let r := s.ciph.svc.map (fun (r : SvcRun) => { r with left := r.left - 1 })
  ({ s with ciph.lanes := tset s.ciph.lanes i l, ciph.svc := r }.count Ev.svcItem 0).slot (70 + i)

/-- The lanes that take work in the bell. -/
def State.lanesOpen (s : State) : List Nat := (List.range' 0 16).filter (fun i => (s.lane i).inService && !s.quiet 4 3 (i / 4))

/-- Items start in the lowest lane with a pipeline's room, until none has any or no item is left. -/
def serviceFill : Nat → State → State
  | 0, s => s
  | f + 1, s =>
    match s.lanesOpen.find? (fun i => ((s.lane i).pipe 296).isSome) with
    | some i => if s.ciph.svc.any (fun r => r.left ≠ 0) then serviceFill f (serviceItem i s) else s
    | none => s

/-- At the end of a bell: items take the budget that the bell's data blocks have left, and at least one starts in the package (R316). -/
def serviceItems (s : State) : State :=
  match s.ciph.svc with
  | none => s
  | some r =>
    if r.left = 0 ∨ s.lanesOpen = [] ∨ !s.cipherRuns then s
    else if s.lanesOpen.all (fun i => ((s.lane i).pipe 296).isNone) then serviceItem (s.lanesOpen.headD 0) s
    else serviceFill 240 s

/-- What a descriptor does to HBM, with its status (R315, R316). -/
def svcRun (d : Bytes) (s : State) : State × Nat :=
  let op := fld d 0 1
  let len := fld d 16 4
  let src := fld d 20 8
  let dst := fld d 28 8
  if svcBad d then (s.faultAt 136 4 3 3, 3)
  else match s.ciph.root with
    | none => (s, 4)
    | some root =>
      let key := derive root (fld d 1 1) (sub d 4 6) (be 8 s.ciph.shelfId)
      let n := len + (if op = 7 then 16 else 0)
      let (s, b, bad1) := s.hbmGet (212 + b2n (inStackB src)) 0 src n
      let (s, aad, bad2) := if 6 ≤ op then s.hbmGet (212 + b2n (inStackB (fld d 40 8))) 0 (fld d 40 8) (fld d 36 4) else (s, [], false)
      if bad1 || bad2 then (s, 5)
      else if op = 6 then
        let r := Config.gcmSeal key (sub d 48 12) aad b
        (s.hbmPut dst (padTo len r.1 ++ padTo 16 r.2), 1)
      else if op = 7 then
        let r := Config.gcmOpen key (sub d 48 12) aad (b.take len) (b.drop len)
        (s.hbmPut dst (padTo len r.1), if r.2 then 1 else 2)
      else (s.hbmPut dst (padTo len (Config.aesMode op key (sub d 48 16) b)), 1)

/-- SERVICE_DESCRIPTOR_COMPLETE (R314): status first, then the consumer index, then the interrupt. -/
def serviceDescriptorComplete (s : State) : State :=
  match s.ciph.svc with
  | none => s
  | some r =>
    s.when (r.left = 0) (fun s =>
      let a := s.svcAddr
      let (s, st) := if r.bad then (s, 5) else svcRun r.desc s
      let s := s.hbmPut (a + 3) (le 1 st)
      (({ s with ciph.svc := none, ciph.svcCons := (s.ciph.svcCons + 1) % 2 ^ 32 }).count (Ev.svcSt1 + (st - 1)) 0).emit .cipherIrq)

def execServiceDescriptorComplete (s : State) := up s serviceDescriptorComplete

/-- RANDOM_HEALTH_FAIL (R317). -/
def randomHealthFail (s : State) : State :=
  s.when (!s.ciph.randomFailed) (fun s => ({ s with ciph.randomFailed := true }).faultAt 137 4 10 0)

def execRandomHealthFail (s : State) := up s randomHealthFail

/-! ### Wraps (R326-R330) -/

/-- A wrap entry of the root key for a target's keys (R327), with a fresh ephemeral key. -/
def wrapFor (target agree root : Bytes) (shelf : Nat) (s : State) : State × Bytes :=
  let priv := le 32 s.free
  let eph := padTo 32 (Config.xPublic priv)
  let wk := derive (Config.xShared priv agree) 0x42 (zeros 6) (be 8 shelf)
  let r := Config.gcmSeal wk (zeros 12) (target ++ eph ++ be 8 shelf) root
  (s.took, target ++ eph ++ padTo 32 r.1 ++ padTo 16 r.2 ++ rootCheck root shelf ++ le 8 shelf)

/-- A namespace is in state 1. -/
def State.anyReady (s : State) : Bool := s.tgt.namespaces.any (fun n => n.2.state = 1)

def cipherCommand (par : Bytes) (act : Bytes → State → State) (s : State) : State := s.command cipherSet cipherSet 160 par act
def fwCommand (par : Bytes) (act : Bytes → State → State) (s : State) : State := s.command fwSet fwSet 80 par act

/-- ROOT_CREATE (R326). -/
def rootCreate (signed : Bool) (_ : Bytes) (s : State) : State :=
  if !signed then s.done cipherSet 5
  else if s.ciph.root.isSome ∨ !s.ciph.identityOk then s.done cipherSet 2
  else if s.ciph.randomFailed then s.done cipherSet 6
  else
    let root := le 32 s.free
    let s := s.took
    let shelf := s.free % 2 ^ 64
    let s := s.took
    let (s, w) := wrapFor (padTo 32 signPub) agreePub root shelf s
    ({ s with ciph.root := some root, ciph.shelfId := shelf, ciph.wseqNext := 1, ciph.wseqLimit := 1, ciph.epochNext := 1 }).done cipherSet 0
      (le 8 shelf ++ rootCheck root shelf ++ w)

def execRootCreate (signed : Bool) (par : Bytes) (s : State) := up s (cipherCommand par (rootCreate signed))

/-- UNWRAP (R328). -/
def unwrap (p : Bytes) (s : State) : State :=
  let w := sub p 16 128
  let target := w.take 32
  let eph := sub w 32 32
  let shelf := fld w 120 8
  if s.ciph.root.isSome ∨ !s.ciph.identityOk then s.done cipherSet 2
  else
    let wk := derive (Config.xShared agreePriv eph) 0x42 (zeros 6) (be 8 shelf)
    let r := Config.gcmOpen wk (zeros 12) (target ++ eph ++ be 8 shelf) (sub w 64 32) (sub w 96 16)
    if target ≠ padTo 32 signPub ∨ !r.2 ∨ rootCheck r.1 shelf ≠ sub w 112 8 then (s.faultAt 130 4 10 0).done cipherSet 3
    else ({ s with ciph.root := some r.1, ciph.shelfId := shelf }).done cipherSet 0

def execUnwrap (par : Bytes) (s : State) := up s (cipherCommand par unwrap)

/-- Keljor's signature over an identity block holds under one of the four manufacturing keys (R322, R329). -/
def identityBlockOk (b : Bytes) : Bool := [0, 1, 2, 3].any (fun i => Config.edVerify (Config.keljorKey i) (b.take 72) (sub b 72 64))

/-- ENROLL (R329). -/
def enroll (signed : Bool) (p : Bytes) (s : State) : State :=
  if !signed then s.done cipherSet 5
  else match s.ciph.root with
    | none => s.done cipherSet 2
    | some root =>
      let b := sub p 16 136
      if s.ciph.randomFailed then s.done cipherSet 6
      else if !identityBlockOk b then s.done cipherSet 4
      else
        let (s, w) := wrapFor (b.take 32) (sub b 32 32) root s.ciph.shelfId s
        s.done cipherSet 0 w

def execEnroll (signed : Bool) (par : Bytes) (s : State) := up s (cipherCommand par (enroll signed))

/-- ESCROW_EXPORT (R329): the target field is 32 zero bytes. -/
def escrowExport (signed : Bool) (p : Bytes) (s : State) : State :=
  if !signed then s.done cipherSet 5
  else match s.ciph.root with
    | none => s.done cipherSet 2
    | some root =>
      if s.ciph.randomFailed then s.done cipherSet 6
      else
        let (s, w) := wrapFor (zeros 32) (sub p 16 32) root s.ciph.shelfId s
        s.done cipherSet 0 w

def execEscrowExport (signed : Bool) (par : Bytes) (s : State) := up s (cipherCommand par (escrowExport signed))

/-- ROOT_UNLOAD (R330): effective at the next edge. -/
def rootUnload (_ : Bytes) (s : State) : State :=
  if s.anyReady then s.done cipherSet 2 else ({ s with ciph.unload := true }).done cipherSet 0

def execRootUnload (par : Bytes) (s : State) := up s (cipherCommand par rootUnload)

/-- At an edge: an accepted unload erases the root key and every held key (R330), and rekeyed volumes use their new epoch (R312). -/
def cipherEdge (s : State) : State :=
  let s := if s.ciph.unload then eraseKeys (fun _ => true) { s with ciph.root := none, ciph.unload := false } else s
  { s with vol.volumes := tmap s.vol.volumes (fun _ v => match v.pendCur with
      | some e => { v with epochCur := e, pendCur := none }
      | none => v) }

/-- VOLUME_REKEY (R312). -/
def volumeRekey (p : Bytes) (s : State) : State :=
  let v := fld p 2 2
  let e := s.ciph.epochNext
  if (s.volume v).isNone ∨ e = 0xFFFFFFFF then s.done cipherSet 1
  else ((((({ s with ciph.epochNext := e + 1 }).onVolume v (fun x => { x with pendCur := some e })).persist).count Ev.rekeys 0)).done cipherSet 0 (le 4 e)

def execVolumeRekey (par : Bytes) (s : State) := up s (cipherCommand par volumeRekey)

/-- RESTORE (R303, R325). -/
def restore (p : Bytes) (s : State) : State :=
  if s.anyReady then s.done cipherSet 2
  else
    let base := fld p 8 8
    ({ s with ciph.wseqNext := base, ciph.wseqLimit := base, ciph.epochNext := fld p 16 4
              ciph.opCounters := (List.range' 0 8).foldl (fun t i => tset t i (fld p (32 + 8 * i) 8)) [] }).done cipherSet 0

def execRestore (par : Bytes) (s : State) := up s (cipherCommand par restore)

/-- VOLUME_EPOCH_QUERY (R332). -/
def volumeEpochQuery (p : Bytes) (s : State) : State :=
  match s.volume (fld p 2 2) with
  | none => s.done cipherSet 1
  | some v => s.done cipherSet 0 (le 4 v.epochBase ++ le 4 (v.pendCur.getD v.epochCur))

def execVolumeEpochQuery (par : Bytes) (s : State) := up s (cipherCommand par volumeEpochQuery)

/-! ### Operator keys (R324) -/

/-- An operator key slot's value. -/
def State.opKey (s : State) (i : Nat) : Bytes := padTo 32 (s.obj (0x500010 + i) [])

/-- Slots that are set. -/
def State.opKeysSet (s : State) : List Nat := (List.range' 0 8).filter (fun i => s.opKey i ≠ zeros 32)

/-- OPERATOR_KEY_WRITE (R324, R438). -/
def operatorKeyWrite (slot : Nat) (signed : Bool) (key : Bytes) (s : State) : State :=
  let k := padTo 32 key
  if 7 < slot then s.status 1
  else if 32 < key.length then s.status 3
  else if !signed ∧ s.opKeysSet ≠ [] then s.status 7
  else if k = zeros 32 ∧ s.opKeysSet.all (fun i => i = slot) then s.status 4
  else ((s.setObj (0x500010 + slot) k).persist).status 0

def execOperatorKeyWrite (slot : Nat) (signed : Bool) (key : Bytes) (s : State) := up s (operatorKeyWrite slot signed key)

/-! ### Firmware commands (R320, R321, R323) -/

/-- A measurement register. -/
def State.measure (s : State) (i : Nat) : Bytes := padTo 64 (tgetD s.ciph.measure i [])

/-- MEASUREMENT_EXTEND (R321). -/
def measurementExtend (p : Bytes) (s : State) : State :=
  let i := fld p 1 1
  if i < 2 ∨ 7 < i then s.done fwSet 1
  else ({ s with ciph.measure := tset s.ciph.measure i (padTo 64 (Config.sha512 (s.measure i ++ sub p 16 64))) }).done fwSet 0

def execMeasurementExtend (par : Bytes) (s : State) := up s (fwCommand par measurementExtend)

/-- The attestation report before its signature (R323). -/
def State.attestBody (s : State) (nonce : Bytes) : Bytes :=
  le 4 0x54415452 ++ le 2 1 ++ le 1 s.ciph.bootSlot ++ le 1 (flagWord [(0, s.bell.aligned), (1, s.ciph.root.isSome), (2, s.ciph.fallback)])
    ++ le 8 s.bell.number ++ le 4 s.bell.era ++ le 4 s.ciph.runningSvn ++ le 4 s.ciph.rollback ++ zeros 4 ++ padTo 32 signPub ++ le 8 Config.serial.toNat
    ++ padTo 32 nonce ++ (List.range' 0 8).flatMap s.measure

/-- ATTEST (R323): made in the bell of acceptance. -/
def attest (p : Bytes) (s : State) : State :=
  if !s.ciph.identityOk then s.done fwSet 2
  else
    let b := s.attestBody (sub p 16 32)
    s.done fwSet 0 (b ++ padTo 64 (Config.edSign signSeed b))

def execAttest (par : Bytes) (s : State) := up s (fwCommand par attest)

/-- ROLLBACK_ADVANCE (R320). -/
def rollbackAdvance (signed : Bool) (p : Bytes) (s : State) : State :=
  let v := fld p 1 1
  if !signed then s.done fwSet 5
  else if v < s.ciph.rollback ∨ s.ciph.runningSvn < v then s.done fwSet 1
  else ({ s with ciph.rollback := v }).done fwSet 0

def execRollbackAdvance (signed : Bool) (par : Bytes) (s : State) := up s (fwCommand par (rollbackAdvance signed))

/-- OEM_REVOKE (R320): not the running image's signer, and not the last hash. -/
def oemRevoke (signed : Bool) (p : Bytes) (s : State) : State :=
  let i := fld p 1 1
  if !signed then s.done fwSet 5
  else if 3 < i ∨ i = s.ciph.signer ∨ s.ciph.revoked ||| 2 ^ i = 15 then s.done fwSet 1
  else ({ s with ciph.revoked := s.ciph.revoked ||| 2 ^ i }).done fwSet 0

def execOemRevoke (signed : Bool) (par : Bytes) (s : State) := up s (fwCommand par (oemRevoke signed))

end Sys2Proof.Machine
end

