-- ==== Sys2Proof/Machine/Bays.lean ====
section
/-! DEFINITION. The bay supervisor (R335-R351). -/

namespace Sys2Proof.Machine

/-- Key of a bay's object. -/
abbrev bayKey (n sub : Nat) : Nat := 0x600000 + n * 256 + sub
abbrev baySet (n : Nat) : Nat := bayKey n 0x20

/-- A bay object's value. -/
def State.bayObj (s : State) (n sub d : Nat) : Nat := s.objN (bayKey n sub) d

/-- Field `i` of `pg_window` (R359). -/
def State.pgWindow (s : State) (n i : Nat) : Nat := fld (s.obj (bayKey n 0x0D) (le 2 11000 ++ le 2 13200 ++ le 2 3000 ++ le 2 3600)) (2 * i) 2

/-- Bells of 100 ms: seating, and from power-good to PERST (R337, R339). -/
abbrev bells100ms : Nat := 97657

def Bay.seated (b : Bay) : Bool := b.pinA && b.pinB

/-- The supervisor evaluates: from the release of PD19's region (R55, R351). -/
def State.supervised (s : State) : Bool := s.domReleased 19

/-- An event of the bay supervisor. -/
def bayEvent (src n : Nat) (s : State) : State := s.raise { source := src, die := 5, region := 0, unit := n, detail := n }

/-- A bay's gates turn off, PERST is asserted, the fuse timers clear, and its drive is absent (R337, R344, R353); the blanking of R346 begins where a gate was on. -/
def darken (n : Nat) (s : State) : State :=
  let s := s.onBay n (fun b => { b with gate := false, auxGate := false, gateNv := 0, perst := false, fuse12 := 0, fuseAux := 0, out := 0, outAux := 0, pgEdge := none, shutPerst := none,
                                        offEdge := if b.gate || b.auxGate then s.bell.edges else b.offEdge, retry := none })
  (driveGone n s).onDrive n (fun d => { d with linkHeld := false })

/-- A bay leaves a lit state for another: where it leaves state 3 its member fails with cause 3 and it fails as a copy's bay (R245, R280, R337). -/
def leaveFor (n st : Nat) (s : State) : State :=
  let old := (s.bayOf n).state
  let s := (darken n s).onBay n (fun b => { b with state := st })
  if old = 3 then bayLost n 3 s else s

/-- A power cycle that is cut short ends with outcome 2 (R349). -/
def cutCycle (n : Nat) (s : State) : State :=
  if (s.bayOf n).cycle then (s.onBay n (fun b => { b with cycle := false })).doneNow (baySet n) 2 else s

/-- A ramp starts at this edge with the aux gate (R341); the new ramp of a power cycle ends its command (R349). -/
def startRamp (n : Nat) (s : State) : State :=
  let c := (s.bayOf n).cycle
  let s := (s.onBay n (fun b => { b with state := 2, auxGate := true, gate := false, gateNv := 0, rampEdge := s.bell.edges, gateMet := false, retry := none, short := 0, shortAux := 0,
                                          cycle := false })).count Ev.ramps n
  if c then s.doneNow (baySet n) 0 else s

/-- Recorded faults within the last `latch_window` bells (R348). -/
def State.recentFaults (s : State) (n : Nat) : Nat :=
  ((s.bayOf n).history.filter (fun e => s.since e < s.objN 0x61000C 585937500)).length

/-- Fault source of a cause (R348). -/
def causeSource (c : Nat) : Nat := if c = 1 then 144 else if c = 2 ∨ c = 3 then 145 else if c = 4 then 146 else if c = 5 then 147 else 148

/-- A fault of causes 1-4, 6 or 7 ends the bay's evaluation: retry wait, or latched (R348); it cuts no power cycle short (R349). -/
def bayFault (n cause : Nat) (s : State) : State :=
  let s := (bayEvent (causeSource cause) n s).count (Ev.bayF1 + (cause - 1)) n
  let s := s.onBay n (fun b => { b with history := b.history ++ [s.bell.edges], cause := cause, evaluated := true, trip := false })
  if s.objN 0x61000B 3 ≤ s.recentFaults n then (bayEvent 149 n (leaveFor n 5 s)).count Ev.latches n
  else (leaveFor n 4 s).onBay n (fun b => { b with retry := some s.bell.edges })

/-- A shutdown starts (R342): the drive is told, or PERST is asserted at once where there is no drive in service; outstanding work is abandoned. -/
def startShutdown (n : Nat) (s : State) : State :=
  let ready := (s.bayOf n).drive.state = 5
  let s := s.onBay n (fun b => { b with state := 7, shutEdge := s.bell.edges, out := 0, outAux := 0 })
  let s := bayLost n 3 s
  let s := s.onDrive n (fun d => { d with linkHeld := false })
  if ready then s
  else driveGone n (s.onBay n (fun b => { b with perst := false, shutPerst := some s.bell.edges }))

/-! ### The evaluation of one bell (R338), at the edge after it -/

/-- The bell whose measurements are evaluated, as an edge count. -/
def State.evalBell (s : State) : Nat := s.bell.edges - 1

/-- The 12 V midpoint and the aux midpoint lie in their windows (R341). -/
def State.inWindow12 (s : State) (n : Nat) : Bool := let v := (s.bayOf n).measure.v12; s.pgWindow n 0 ≤ v && v ≤ s.pgWindow n 1
def State.inWindowAux (s : State) (n : Nat) : Bool := let v := (s.bayOf n).measure.vAux; s.pgWindow n 2 ≤ v && v ≤ s.pgWindow n 3
def State.inWindows (s : State) (n : Nat) : Bool := s.inWindow12 n && s.inWindowAux n

/-- The range of each channel of R336, in its order: 12 V sense voltage (nV), 12 V midpoint, aux sense voltage (nV), aux midpoint, gate above midpoint. -/
def adcRange (ch : Nat) : Int × Int := if ch = 0 ∨ ch = 2 then (-60000000, 60000000) else if ch = 4 then (0, 14000) else (0, 16000)

/-- A channel as it is evaluated (R336): the range limit on the side a reading left; a stopped converter's current at its positive limit, its voltage 0. -/
def State.adcValue (s : State) (n ch : Nat) (x : Int) : Int :=
  let r := adcRange ch
  if (s.bayOf n).adcStopped.contains ch then (if ch = 0 ∨ ch = 2 then r.2 else 0)
  else max r.1 (min r.2 x)

/-- Bells in a row in which each channel has read outside its range (R336): the sixteenth raises FS156; the fault bit stands while a channel is so far outside or has stopped (R9). -/
def adcCount (n : Nat) (r : AdcReading) (s : State) : State :=
  let out (ch : Nat) (x : Int) : Bool := x < (adcRange ch).1 || (adcRange ch).2 < x
  let s := [(0, r.s12), (1, r.v12), (2, r.sAux), (3, r.vAux), (4, r.gate)].foldl (fun s c =>
    let k := if out c.1 c.2 then tgetD (s.bayOf n).adcOut c.1 0 + 1 else 0
    let s := s.onBay n (fun b => { b with adcOut := tset b.adcOut c.1 k })
    if k = 16 then bayEvent 156 n s else s) s
  s.onBay n (fun b => { b with adcFault := b.adcOut.any (fun x => 16 ≤ x.2) || !b.adcStopped.isEmpty })

/-- The current in mA that a sense voltage stands for (R336; log 141): nV across µΩ. -/
def senseCurrent (v : Int) (rsense : Nat) : Int := v.tdiv rsense

/-- The measurement, power and energy of the bell, of the values that are evaluated; a negative product counts as 0 (R336). -/
def measureBay (n : Nat) (r : AdcReading) (s : State) : State :=
  let i12 := senseCurrent (s.adcValue n 0 r.s12) (s.bayObj n 0x0F 2000)
  let v12 := (s.adcValue n 1 r.v12).toNat
  let iAux := senseCurrent (s.adcValue n 2 r.sAux) (s.bayObj n 0x10 20000)
  let vAux := (s.adcValue n 3 r.vAux).toNat
  let p := v12 * i12.toNat + vAux * iAux.toNat
  s.onBay n (fun b => { b with
    measure := { bell := s.bell.prev, i12 := i12, v12 := v12, iAux := iAux, vAux := vAux, power := p / 1000, gate := (s.adcValue n 4 r.gate).toNat }
    energy := (b.energy + p * s.bell.lastLen) % (2 ^ 48 * 10 ^ 12) })

/-- Timers and counts of the bell (R339, R344-R347). -/
def countBay (n : Nat) (s : State) : State :=
  let m := (s.bayOf n).measure
  s.onBay n (fun b =>
    let lit := b.state = 2 || b.state = 3 || b.state = 7
    let dark := b.state = 0 || b.state = 1 || b.state = 4 || b.state = 5 || b.state = 6
    { b with
      evaluated := false
      fenced := s.stby.fenceIn
      seat := if b.seated then b.seat + 1 else 0
      fuse12 := if lit && (s.bayObj n 0x07 7000 : Int) < m.i12 then b.fuse12 + 1 else 0
      fuseAux := if lit && (s.bayObj n 0x09 500 : Int) < m.iAux then b.fuseAux + 1 else 0
      short := if dark && 1000 < m.v12 && b.offEdge + 9766 ≤ s.evalBell then b.short + 1 else 0
      shortAux := if dark && 1000 < m.vAux && b.offEdge + 9766 ≤ s.evalBell then b.shortAux + 1 else 0
      out := if b.state = 3 && !s.inWindow12 n then b.out + 1 else 0
      outAux := if b.state = 3 && !s.inWindowAux n then b.outAux + 1 else 0
      gateMet := b.gateMet || (b.state = 2 && 4000 ≤ m.gate) })

/-- Steps 3 to 6 of R338: the fault that is due, as its cause. -/
def State.dueFault (s : State) (n : Nat) : Option Nat :=
  let b := s.bayOf n
  let lit := b.state = 2 || b.state = 3 || b.state = 7
  let t := s.bayObj n 0x08 2000
  if b.evaluated then none
  else if lit && t ≤ b.fuse12 then some 2
  else if lit && t ≤ b.fuseAux then some 3
  else if b.state = 2 && !b.gateMet && b.rampEdge + s.bayObj n 0x0B 4883 ≤ s.evalBell + 1 then some 4
  else if b.state ≠ 2 && b.state ≠ 3 && b.state ≠ 7 && 98 ≤ max b.short b.shortAux then some 5
  else if b.state = 3 && 98 ≤ max b.out b.outAux then some 6
  else if b.state = 2 && b.rampEdge + s.bayObj n 0x0C 48829 ≤ s.evalBell then some 7
  else none

/-- The fence moves a bay to state 6, and its trip is cleared unrecorded (R338, R350). -/
def fenceBay (n : Nat) (s : State) : State :=
  let b := s.bayOf n
  let s := s.onBay n (fun b => { b with trip := false })
  if b.state = 5 then cutCycle n s
  else if b.state = 6 then s
  else
    let s := if b.state = 7 then s.count Ev.shutTo n else s
    leaveFor n 6 (cutCycle n s)

/-- The level conditions of `bay_enable` and of the pins (R339), after every check. -/
def levelBay (n : Nat) (s : State) : State :=
  let b := s.bayOf n
  let en := s.bayObj n 0x01 0 = 1
  if !en then
    (if b.state = 3 then startShutdown n (cutCycle n s)
     else if b.state = 0 ∨ b.state = 1 ∨ b.state = 2 ∨ b.state = 4 then leaveFor n 6 (cutCycle n s)
     else if b.state = 5 ∨ b.state = 7 then cutCycle n s
     else s)
  else if b.state = 6 ∧ !s.stby.fenceIn then
    (if b.seated ∧ bells100ms ≤ b.seat then startRamp n s
     else s.onBay n (fun b => { b with state := if b.seated then 1 else 0 }))
  else if b.state = 0 ∧ b.seated then s.onBay n (fun b => { b with state := 1 })
  else s

/-- PD19 switches off (R351): the gates are held off. -/
def baysOff (s : State) : State :=
  (List.range' 0 24).foldl (fun s n =>
    let b := s.bayOf n
    if b.state = 5 then s else if b.state = 6 then darken n s else leaveFor n 6 (cutCycle n s)) s

/-- PD19 is released (R351): every bay that is not latched starts from state 0, and its measurements start anew. -/
def baysStart (s : State) : State :=
  (List.range' 0 24).foldl (fun s n => s.onBay n (fun b =>
    { b with state := if b.state = 5 then 5 else 0, seat := 0, short := 0, shortAux := 0, out := 0, outAux := 0, fuse12 := 0, fuseAux := 0, offEdge := s.bell.edges, fenced := false,
             adcFault := false, adcOut := [], adcStopped := [] })) s

/-- A root-port domain switches off: PERST is asserted on its bays, and their links are down (R245, R337). -/
def portsOff (domain : Nat) (s : State) : State :=
  ((List.range' 0 24).filter (fun n => portDomain n = domain)).foldl (fun s n =>
    let b := s.bayOf n
    let s := s.onBay n (fun b => { b with perst := false })
    let s := if b.drive.state = 5 then bayLost n 2 s else s
    driveGone n s) s

/-! ### Events of a bay -/

/-- PRESENCE_CHANGE (R340): the pins' levels; an evaluation acts on them. -/
def presenceChange (bay : Nat) (a b : Bool) (s : State) : State :=
  s.when (bay < 24) (fun s =>
    let was := (s.bayOf bay).seated
    let s := s.onBay bay (fun x => { x with pinA := a, pinB := b })
    if (a && b) && !was then s.count Ev.insert bay else if was && !(a && b) then s.count Ev.remove bay else s)

def execPresenceChange (bay : Nat) (a b : Bool) (s : State) :=
  pin s (presenceChange bay a b) (fun s => s.when (bay < 24) (fun s => s.onBay bay (fun x => { x with pinA := a, pinB := b })))

/-- SEATING_COMPLETE (R339): seated at 97,657 consecutive evaluations. -/
def seatingComplete (bay : Nat) (s : State) : State :=
  let b := s.bayOf bay
  s.when (b.state = 1 && bells100ms ≤ b.seat && s.bayObj bay 0x01 0 = 1 && !s.stby.fenceIn && s.supervised && !b.evaluated) (startRamp bay)

def execSeatingComplete (bay : Nat) (s : State) := up s (seatingComplete bay)

/-- PERST_RELEASE (R337, R353, R497): not before the stretch of a reset has ended; the drive's bring-up starts. -/
def perstRelease (bay : Nat) (s : State) : State :=
  let b := s.bayOf bay
  s.when (b.state = 3 && !b.perst && b.pgEdge.any (fun e => bells100ms ≤ s.since e) && s.domOn (portDomain bay) && !s.stby.fenceIn && !s.rst.stretch) (fun s =>
    driveState bay 1 (s.onBay bay (fun b => { b with perst := true, drive := { admin := b.drive.admin, linkHeld := b.drive.linkHeld, lastSb := b.drive.lastSb, lastDone := b.drive.lastDone } })))

def execPerstRelease (bay : Nat) (s : State) := up s (perstRelease bay)

/-- FAST_TRIP (R343): the comparator turns the gate off and latches the trip until the next evaluation. -/
def fastTrip (bay : Nat) (s : State) : State := s.when (bay < 24) (fun s => s.onBay bay (fun b => { b with trip := true, gate := false }))

def execFastTrip (bay : Nat) (s : State) := up s (fastTrip bay)

/-- EFUSE_TRIP (R344). -/
def efuseTrip (bay : Nat) (aux : Bool) (s : State) : State :=
  s.when (s.supervised && s.dueFault bay = some (if aux then 3 else 2)) (bayFault bay (if aux then 3 else 2))

/-- GATE_STUCK (R345). -/
def gateStuck (bay : Nat) (s : State) : State := s.when (s.supervised && s.dueFault bay = some 4) (bayFault bay 4)

/-- OUTPUT_OUT_OF_WINDOW (R347). -/
def outputOutOfWindow (bay : Nat) (s : State) : State := s.when (s.supervised && s.dueFault bay = some 6) (bayFault bay 6)

/-- PG_TIMEOUT (R347). -/
def pgTimeout (bay : Nat) (s : State) : State := s.when (s.supervised && s.dueFault bay = some 7) (bayFault bay 7)

/-- PASS_ELEMENT_SHORT (R346): latched with cause 5, and not recorded in the history. A bay that is latched already is only told of it. -/
def passElementShort (bay : Nat) (s : State) : State :=
  let b := s.bayOf bay
  s.when (s.supervised && s.dueFault bay = some 5 && !(b.state = 5 && b.cause = 5)) (fun s =>
    let s := (bayEvent 147 bay s).count Ev.bayF5 bay
    s.onBay bay (fun b => { b with state := 5, cause := 5, retry := none, evaluated := true }))

/-- RETRY_TIMER_EXPIRY (R339, R348, R349). -/
def retryTimerExpiry (bay : Nat) (s : State) : State :=
  let b := s.bayOf bay
  s.when (s.supervised && b.state = 4 && b.retry.any (fun e => s.bayObj bay 0x0E 976563 ≤ s.since e) && s.bayObj bay 0x01 0 = 1 && !s.stby.fenceIn && !b.evaluated)
    (fun s => startRamp bay (if b.cycle then s else s.count Ev.retries bay))

def execRetryTimerExpiry (bay : Nat) (s : State) := up s (retryTimerExpiry bay)

/-- ADC_FAULT (R336): a channel has read outside its range for 16 bells, or its converter has stopped. -/
def adcFault (bay channel : Nat) (stopped : Bool) (s : State) : State :=
  s.when (bay < 24 && channel < 5 && s.supervised && (stopped || (16 ≤ tgetD (s.bayOf bay).adcOut channel 0 && !(s.bayOf bay).adcFault))) (fun s =>
    bayEvent 156 bay (s.onBay bay (fun b => { b with adcFault := true, adcStopped := if stopped then oncePer channel b.adcStopped else b.adcStopped })))

def execAdcFault (bay channel : Nat) (stopped : Bool) (s : State) := up s (adcFault bay channel stopped)

/-- PERST is asserted once a shutdown's drive has answered or its time is over (R342). -/
def shutdownPerst (bay : Nat) (s : State) : State :=
  driveGone bay (s.onBay bay (fun b => { b with perst := false, shutPerst := some s.bell.edges }))

/-- DRIVE_SHUTDOWN_COMPLETE (R342). -/
def driveShutdownComplete (bay : Nat) (s : State) : State :=
  let b := s.bayOf bay
  s.when (b.state = 7 && b.shutPerst.isNone) (shutdownPerst bay)

def execDriveShutdownComplete (bay : Nat) (s : State) := up s (driveShutdownComplete bay)

/-- SHUTDOWN_TIMEOUT (R342). -/
def shutdownTimeout (bay : Nat) (s : State) : State :=
  let b := s.bayOf bay
  s.when (b.state = 7 && b.shutPerst.isNone && s.objN 0x610008 9765625 ≤ s.since b.shutEdge) (fun s => shutdownPerst bay (s.count Ev.shutTo bay))

def execShutdownTimeout (bay : Nat) (s : State) := up s (shutdownTimeout bay)

/-- SHUTDOWN_GATE_OFF (R339, R342): to state 6, or to state 4 in a power cycle, with no fault counted. -/
def shutdownGateOff (bay : Nat) (s : State) : State :=
  let b := s.bayOf bay
  s.when (b.state = 7 && b.shutPerst.any (fun e => 977 ≤ s.since e)) (fun s =>
    if b.cycle then (leaveFor bay 4 s).onBay bay (fun b => { b with retry := some s.bell.edges }) else leaveFor bay 6 s)

/-- BAY_ENABLE_WRITE (R339, R350, R365): a write of 1 is refused while fenced or in a role that is out of service. -/
def bayEnableWrite (bay v : Nat) (s : State) : State :=
  if 24 ≤ bay then s.status 1
  else if 1 < v then s.status 4
  else if v = 1 ∧ (s.stby.fenceIn ∨ s.outOfService) then s.status 5
  else (s.setObj (bayKey bay 0x01) (le 1 v)).status 0

def execBayEnableWrite (bay v : Nat) (s : State) := up s (bayEnableWrite bay v)

/-! ### Every bay at an edge (R338) -/

/-- The gate of a ramp rises at `ramp_rate` over the bell that has ended (R341): mV/ms are nV/ns. -/
def raiseGate (n : Nat) (s : State) : State :=
  s.when ((s.bayOf n).state = 2 && (s.bayOf n).gate) (fun s => s.onBay n (fun b => { b with gateNv := b.gateNv + s.bayObj n 0x0A 1200 * s.bell.lastLen }))

/-- Step 8 of R338, and the 12 V gate of a ramp whose aux midpoint lies in its window (R341). -/
def stepBay (n : Nat) (s : State) : State :=
  let s := if (s.bayOf n).state = 2 ∧ s.inWindowAux n then s.onBay n (fun b => { b with gate := true }) else s
  shutdownGateOff n (shutdownTimeout n (retryTimerExpiry n (seatingComplete n (perstRelease n s))))

/-- One bay at an edge (R338): measurement, the fence, presence, a trip, the fault that is due, and with none of them power-good, the level conditions and step 8. -/
def evalBay (n : Nat) (r : Option AdcReading) (s : State) : State :=
  let s := match r with
    | some r => measureBay n r (adcCount n r s)
    | none => s
  let s := countBay n (raiseGate n s)
  let s := if s.stby.fenceIn then fenceBay n s else s
  let s := if (s.bayOf n).state = 5 ∧ !(s.bayOf n).seated then cutCycle n s else s
  let b := s.bayOf n
  if b.state ≠ 5 ∧ b.state ≠ 6 ∧ b.state ≠ 0 ∧ !b.seated then leaveFor n 0 (cutCycle n (s.onBay n (fun b => { b with trip := false })))
  else if b.trip ∧ (b.state = 2 ∨ b.state = 3 ∨ b.state = 7) then bayFault n 1 s
  else
    let s := s.onBay n (fun b => { b with trip := false })
    match s.dueFault n with
    | some c => if c = 5 then passElementShort n s else bayFault n c s
    | none =>
      if b.state = 2 ∧ s.inWindows n ∧ 9500 ≤ b.measure.gate ∧ b.fuse12 = 0 ∧ b.fuseAux = 0 then
        (s.onBay n (fun b => { b with state := 3, pgEdge := some s.bell.edges, out := 0 })).count Ev.pGoods n
      else
        let t := levelBay n s
        if (t.bayOf n).state ≠ b.state then t else stepBay n t

/-- Every bay in ascending order (R338), while PD19 is on. -/
def evalBays (rs : List AdcReading) (s : State) : State :=
  if !s.supervised then s
  else (List.range' 0 24).foldl (fun s n => evalBay n (rs.find? (fun r => r.bay = n)) s) s

/-! ### Bay commands (R349) -/

/-- A write of a bay's command object; a bay the device does not have has none. -/
def bayCommand (bay : Nat) (par : Bytes) (act : Bytes → State → State) (s : State) : State :=
  if 24 ≤ bay then s.status 1 else s.command (baySet bay) (baySet bay) 8 par act

/-- BAY_RELEASE (R339, R349): refused while the bay is not latched or the condition of R346 persists. -/
def bayRelease (bay : Nat) (_ : Bytes) (s : State) : State :=
  let b := s.bayOf bay
  if b.state ≠ 5 ∨ 98 ≤ max b.short b.shortAux then s.done (baySet bay) 2
  else (s.onBay bay (fun b => { b with state := if b.seated then 1 else 0, history := [] })).done (baySet bay) 0

def execBayRelease (bay : Nat) (par : Bytes) (s : State) := up s (bayCommand bay par (bayRelease bay))

/-- BAY_ENERGY_CLEAR (R349). -/
def bayEnergyClear (bay : Nat) (_ : Bytes) (s : State) : State := (s.onBay bay (fun b => { b with energy := 0 })).done (baySet bay) 0

def execBayEnergyClear (bay : Nat) (par : Bytes) (s : State) := up s (bayCommand bay par (bayEnergyClear bay))

/-- BAY_POWER_CYCLE (R349): from state 3 only; its outcome is set when the new ramp begins or the cycle is cut short. -/
def bayPowerCycle (bay : Nat) (_ : Bytes) (s : State) : State :=
  if (s.bayOf bay).state ≠ 3 then s.done (baySet bay) 2
  else (startShutdown bay s).onBay bay (fun b => { b with cycle := true })

/-- BAY_HISTORY_CLEAR (R349). -/
def bayHistoryClear (bay : Nat) (_ : Bytes) (s : State) : State := (s.onBay bay (fun b => { b with history := [] })).done (baySet bay) 0

def execBayHistoryClear (bay : Nat) (par : Bytes) (s : State) := up s (bayCommand bay par (bayHistoryClear bay))

end Sys2Proof.Machine
end

