-- ==== Sys2Proof/Machine/Bell.lean ====
section
/-! DEFINITION. The bell and its commands (spec 01). The sequence of an edge itself is in BellEdge. -/

namespace Sys2Proof.Machine

/-- Key of the commands' shared result set (R23). -/
abbrev adjustSet : Nat := 0x120008

/-- φ, `bell_phase` (R14, R40). -/
def State.phase (s : State) : Nat := s.objN 0x120003 0

/-- `lock_holdover` in edges (R17). -/
def State.lockHoldover (s : State) : Nat := s.objN 0x120007 4194304

/-- An event of the bell master, in Saddle region 10 (R41, R48). -/
def State.bellFault (s : State) (src : Nat) : State := s.faultAt src 4 10 0

/-- The bell leaves the aligned state (R18). -/
def State.unalign (s : State) : State :=
  if s.bell.aligned then ({ s with bell.aligned := false }).bellFault 0 else s

/-- A realignment request (R20), merged into one that is pending (R23). -/
def State.requestRealign (s : State) (rebase : Bool) : State :=
  let r := match s.bell.request with
    | some q => q.rebase || rebase
    | none => rebase
  ({ s with bell.request := some { edge := s.bell.edges, rebase := r } }).onRes adjustSet (fun c => { c with ready := false })

/-- PTP_LOCK_WRITE (R17, R20): 1 asserts or refreshes lock, and requests realignment while the bell is unaligned and needs no rebase; 0 drops lock. -/
def ptpLockWrite (v : Nat) (s : State) : State :=
  if v = 1 then
    let t := (({ s with bell.lock := true, bell.lockEdge := s.bell.edges }).setObj 0x120006 [1]).status 0
    if !s.bell.aligned && !s.bell.rebaseNeeded then t.requestRealign false else t
  else if v = 0 then ((({ s with bell.lock := false }).setObj 0x120006 [0]).unalign).status 0
  else s.status 4

def execPtpLockWrite (v : Nat) (s : State) := up s (ptpLockWrite v)

/-- LOCK_HOLDOVER_EXPIRED (R17, R18): more than `lock_holdover` edges since the last write of 1. -/
def lockHoldoverExpired (s : State) : State :=
  s.when (s.bell.aligned && s.lockHoldover < s.since s.bell.lockEdge) State.unalign

def execLockHoldoverExpired (s : State) := up s lockHoldoverExpired

/-- BELL_PHASE_WRITE (R20, R40): 0-1,023; under lock the bell is made unaligned and a realignment requested. -/
def bellPhaseWrite (v : Nat) (s : State) : State :=
  if v < 1024 then
    let t := (s.setObj 0x120003 (le 2 v)).persist.status 0
    if s.bell.lock then (t.unalign).requestRealign false else t
  else s.status 4

def execBellPhaseWrite (v : Nat) (s : State) := up s (bellPhaseWrite v)

/-- What `time_step` and `time_set` share (R20): the clock changes at the next edge; under lock the bell is unaligned and a realignment
requested; without lock the outcome is 2. -/
def changeClock (c : ClockChange) (s : State) : State :=
  let t := { s with bell.clock := some c }
  if s.bell.lock then (t.unalign).requestRealign false else t.done adjustSet 2

/-- A write of a scalar CMD object carries exactly its size (R437). -/
def scalarCommand (key set size : Nat) (par : Bytes) (act : Bytes → State → State) (s : State) : State :=
  if par.length = size then s.command key set size par act else if s.busy set then s.status 6 else s.status 3

/-- TIME_STEP (R20, R40): within ±2^62 ns, or outcome 4. -/
def timeStep (par : Bytes) (s : State) : State :=
  scalarCommand 0x120008 adjustSet 8 par (fun p s =>
    let d := ofLeI p
    if -(2 ^ 62) ≤ d ∧ d ≤ 2 ^ 62 then changeClock (.step d) s else s.done adjustSet 4) s

def execTimeStep (par : Bytes) (s : State) := up s (timeStep par)

/-- TIME_SET (R20, R40): seconds below 2^48 and nanoseconds below 10^9, or outcome 4. -/
def timeSet (par : Bytes) (s : State) : State :=
  s.command 0x120009 adjustSet 12 par (fun p s =>
    let sec := fld p 0 8
    let ns := fld p 8 4
    if sec < 2 ^ 48 ∧ ns < 1000000000 then changeClock (.set (sec * 1000000000 + ns)) s else s.done adjustSet 4)

def execTimeSet (par : Bytes) (s : State) := up s (timeSet par)

/-- REBASE (R22, R23): a value other than 1 ends with outcome 4, checked first; accepted only while a rebase is needed and lock is asserted. -/
def rebase (par : Bytes) (s : State) : State :=
  scalarCommand 0x12000A adjustSet 1 par (fun p s =>
    if ofLe p ≠ 1 then s.done adjustSet 4
    else if s.bell.rebaseNeeded && s.bell.lock then s.requestRealign true
    else s.done adjustSet 3) s

def execRebase (par : Bytes) (s : State) := up s (rebase par)

/-- T* of R21: the least time at or above `t + 1024` that falls on phase `phi`. -/
def nextEdgeTime (t phi : Nat) : Nat := t + 1024 + (phi + 1024 - (t % 1024)) % 1024

/-- REALIGNMENT (R21, R22): at the first edge after a request, the new timeline is computed with the phase in force. Until T* the shared results read not ready, whatever
an earlier command of the bell left there (R23). -/
def realignment (s : State) : State :=
  match s.bell.request with
  | none => s
  | some q =>
    if s.bell.edges ≤ q.edge then s
    else
      let tS := nextEdgeTime s.bell.ptp s.phase
      let nS := (tS - s.phase) / 1024
      let t := { s with bell.request := none }
      if s.bell.number < nS || q.rebase then
        let t := ({ t with bell.stretch := some { tStar := tS, nStar := nS, rebase := q.rebase } }).onRes adjustSet (fun c => { c with ready := false })
        if s.bell.number + 1 < nS || q.rebase then t.bellFault 1 else t
      else ({ t with bell.rebaseNeeded := true }).doneNow adjustSet 1

def execRealignment (s : State) := up s realignment

/-- REFERENCE_FAIL (R19): the bell master falls back to the Millhouse oscillator until reset. -/
def referenceFail (s : State) : State :=
  s.when (!s.bell.fallback) (fun s => ({ s with bell.fallback := true }).bellFault 3)

/-- The reference has not toggled when the PLLs lock (R501): the Millhouse oscillator is the reference, and FS3 is recorded. -/
def referenceAtStart (s : State) : State :=
  s.when (!s.bell.fallback) (fun s =>
    { s with bell.fallback := true, rst.recorded := s.rst.recorded ++ [{ source := 3, die := 4, region := 10 }] })

def execReferenceFail (s : State) : Host.Outcome State Fault Refusal :=
  effect s (match s.rst.phase with
    | .up => referenceFail s
    | .clocks => referenceAtStart s
    | _ => s)

/-- The PD-AO region of a die that holds its repeater (R47). -/
def houseRegion (die : Nat) : Nat := if die < 4 then 5 else if die = 4 then 10 else 1

/-- Bell number that the units of a die see: their repeater's own count after a failed check, else the master's (R26). -/
def State.dieBell (s : State) (die : Nat) : Nat := tgetD s.bell.ownCount die s.bell.number

/-- A repeater's check fails (R26): FS2, and it drives edges from its own count, `n` at this edge. -/
def repeaterFail (die n : Nat) (s : State) : State :=
  ({ s with bell.ownCount := tset s.bell.ownCount die (n % 2 ^ 64) }).faultAt 2 die (houseRegion die) 0

/-- EDGE_TIMEOUT (R26): no edge came within 2,200 ns. -/
def execEdgeTimeout (die : Nat) (s : State) := up s (fun s => s.when (die < 6) (repeaterFail die (s.dieBell die + 1)))

/-- One repeater checks the edge just passed (R26): `received` lists the numbers that arrived otherwise than the master sent them. A repeater on its own count goes on from it. -/
def repeaterCheck (received : List (Nat × Nat)) (s : State) (die : Nat) : State :=
  let last := tgetD s.bell.ownCount die s.bell.prev
  let got := ((received.find? (fun r => r.1 = die)).map (·.2)).getD s.bell.number
  if !s.bell.discontinuity && got % 2 ^ 64 ≠ (last + 1) % 2 ^ 64 then repeaterFail die (last + 1) s
  else if (tget s.bell.ownCount die).isSome then { s with bell.ownCount := tset s.bell.ownCount die ((last + 1) % 2 ^ 64) }
  else s

/-- The fault action of FS2 takes effect on the dies of these events: their repeaters no longer go on from their own count (R26). -/
def ownCountEnds (es : List FaultEvent) (s : State) : State :=
  { s with bell.ownCount := (es.filter (fun e => e.source = 2)).foldl (fun t e => terase t e.die) s.bell.ownCount }

/-- What a re-arm leaves of a capture: nothing, or the overruns of the bell of the write (R9, R38). -/
def OverrunCapture.rearm (c : OverrunCapture) (edge bell : Nat) : OverrunCapture :=
  if c.lastEdge = some edge then { c with firstBell := bell, unit := c.lastUnit, region := c.lastRegion, stuck := c.lastStuck, count := c.lastCount } else {}

/-- OVERRUN_REARM (R38): each named die's capture is cleared and re-armed; overruns of the same bell stay captured (R9). -/
def overrunRearm (v : Nat) (s : State) : State :=
  ({ s with bell.captures := (bitsOf 6 v).foldl (fun t d => tmod t d {} (fun c => c.rearm s.bell.edges (s.dieBell d))) s.bell.captures }).status 0

def execOverrunRearm (v : Nat) (s : State) := up s (overrunRearm v)

/-- One more overrun in a capture (R38): at an edge, with the bell number, unit and region, and whether the unit is stuck. -/
def OverrunCapture.add (c : OverrunCapture) (edge bell unit region : Nat) (stuck : Bool) : OverrunCapture :=
  let c := if c.lastEdge = some edge then { c with lastCount := min (c.lastCount + 1) 0xFFFFFFFF, lastStuck := c.lastStuck || stuck }
           else { c with lastEdge := some edge, lastCount := 1, lastUnit := unit, lastRegion := region, lastStuck := stuck }
  if c.empty then { c with firstBell := bell, unit := unit, region := region, stuck := stuck, empty := false, count := 1 }
  else { c with count := min (c.count + 1) 0xFFFFFFFF, stuck := c.stuck || stuck }

/-- One unit is busy at the edge that begins the current bell (R36-R38): its die's overrun source, FS14 at the second consecutive edge, and the capture. -/
def unitOverrun (die region unit : Nat) (s : State) : State :=
  if s.fenced die region then abandonItem die region unit s
  else
    let stuck := (s.unit (unitCode die region unit)).late = 1
    let c := (tgetD s.bell.captures die {}).add s.bell.edges (s.dieBell die) (unitId die region unit) region stuck
    let s := s.onUnit (unitCode die region unit) (fun u => { u with late := u.late + 1, credit := [], left := 0 })
    let s := (slotOfUnit die region unit).elim s (fun i => s.budgetHeld i (slotShare i))
    let s := { s with bell.captures := tset s.bell.captures die c }
    let s := s.raise { source := 8 + die, die := die, region := region, unit := unitId die region unit, detail := 0 }
    if stuck then s.raise { source := 14, die := die, region := region, unit := unitId die region unit, detail := 0 } else s

/-- The clock and the number at the edge that ends the current bell (R14, R15, R20, R21, R24, R557): `stretch` and `change` are the realignment
and the change of the clock that the bell that ends carries. DESIGN CHOICE (log 91): a realignment whose lock was dropped or ran out of holdover inside the stretched bell
reports outcome 0 at T*, with the bell left unaligned; a rebase advances the era and clears `rebase_needed` at T*, the edge that carries the new number. -/
def advanceBell (stretch : Option Stretch) (change : Option ClockChange) (s : State) : State :=
  let b := s.bell
  let (len, num, isDisc, isRebase) := match stretch with
    | some r => (r.tStar - b.ptp, r.nStar, r.rebase || r.nStar != b.number + 1, r.rebase)
    | none => (1024, b.number + 1, false, false)
  let (t, took) : Nat × Bool := match change with
    | none => (b.ptp + len, false)
    | some (.set v) => (v, false)
    | some (.step d) => if 0 ≤ ((b.ptp + len : Nat) : Int) + d then ((((b.ptp + len : Nat) : Int) + d).toNat, false) else (s.free, true)
  let s := if took then s.took else s
  let done := stretch.isSome && b.request.isNone
  let held := b.lock && (b.edges + 1 - b.lockEdge ≤ s.lockHoldover)
  let al := if done then held else b.aligned
  let s := { s with
    bell.edges := b.edges + 1
    bell.prev := b.number
    bell.prevEra := b.era
    bell.number := num % 2 ^ 64
    bell.era := if isRebase then (b.era + 1) % 2 ^ 32 else b.era
    bell.ptp := t
    bell.lastLen := len
    bell.stretch := none
    bell.clock := none
    bell.freq := ofLeI (s.obj 0x120005 (zeros 4))
    bell.aligned := al
    bell.alignedAtStart := al
    bell.rebaseNeeded := if stretch.isSome then false else b.rebaseNeeded
    bell.discontinuity := isDisc
    bell.rebased := isRebase
    bell.stretched := if 1024 < len then (b.stretched + 1) % 2 ^ 64 else b.stretched }
  if done then s.doneNow adjustSet 0 else s

end Sys2Proof.Machine
end

