-- ==== Sys2Proof/Machine/EventTable.lean ====
section
/-! DEFINITION. The event directory of R529 and R533. -/

namespace Sys2Proof.Machine

/-- One event of the directory (R533): code, kind, unit, instances and name. -/
structure EvDesc where
  code : Nat
  level : Bool
  unit : String
  insts : Nat
  name : String
deriving DecidableEq, Repr

/-- Rows of the directory. -/
def evRows0 : List EvDesc := [
  ⟨256, false, "", 144, "Frames received"⟩,
  ⟨257, false, "bytes", 144, "Bytes received"⟩,
  ⟨258, false, "", 144, "Frames sent"⟩,
  ⟨259, false, "bytes", 144, "Bytes sent"⟩,
  ⟨260, false, "", 144, "FCS error"⟩,
  ⟨261, false, "", 144, "Runt"⟩,
  ⟨262, false, "", 144, "Oversize"⟩,
  ⟨263, false, "", 144, "Bad tag"⟩,
  ⟨264, false, "", 144, "VLAN violation"⟩,
  ⟨265, false, "", 144, "Receive-FIFO overflow"⟩,
  ⟨266, false, "", 144, "Corrected codewords"⟩,
  ⟨267, false, "", 144, "Uncorrectable codewords"⟩,
  ⟨268, false, "", 144, "Corrected symbols"⟩,
  ⟨269, false, "", 1152, "PFC frames received"⟩,
  ⟨270, false, "", 1152, "PFC frames sent"⟩,
  ⟨271, true, "bells", 1152, "Bells paused by peer"⟩,
  ⟨272, true, "bells", 1152, "Bells in XOFF"⟩,
  ⟨512, false, "", 1, "Learned"⟩,
  ⟨513, false, "", 1, "Station move"⟩,
  ⟨514, false, "", 1, "Static move refused"⟩,
  ⟨515, false, "", 1, "Bucket full"⟩,
  ⟨516, false, "", 1, "Unicast flood"⟩,
  ⟨517, false, "", 1, "Hairpin drop"⟩,
  ⟨518, false, "", 1, "Internal-to-internal drop"⟩,
  ⟨519, false, "", 1, "Management drop"⟩,
  ⟨520, false, "", 3672, "Admitted"⟩,
  ⟨521, false, "", 3672, "Refused by alpha"⟩,
  ⟨522, false, "", 3672, "RED drop"⟩,
  ⟨523, false, "", 3672, "CE marked"⟩,
  ⟨524, false, "", 3672, "Lossless drop"⟩,
  ⟨525, false, "", 3672, "Flushed"⟩,
  ⟨526, false, "", 3672, "Storm drop"⟩,
  ⟨768, false, "", 6344, "Items started"⟩,
  ⟨769, false, "bytes", 6344, "Bytes started"⟩,
  ⟨770, true, "bells", 6344, "Bells ineligible by shaper"⟩,
  ⟨771, true, "bells", 6344, "Bells ineligible by gate"⟩,
  ⟨772, true, "bells", 6344, "Bells ineligible by pause"⟩,
  ⟨773, true, "bells", 6344, "Bells stopped on credit"⟩,
  ⟨774, false, "", 168, "Gate-fit waits"⟩,
  ⟨775, true, "bells", 168, "Bells in fallback"⟩]

/-- Rows of the directory. -/
def evRows1 : List EvDesc := [
  ⟨776, false, "", 168, "Lists switched"⟩,
  ⟨777, false, "", 1024, "Green frames"⟩,
  ⟨778, false, "bytes", 1024, "Green bytes"⟩,
  ⟨779, false, "", 1024, "Yellow frames"⟩,
  ⟨780, false, "bytes", 1024, "Yellow bytes"⟩,
  ⟨781, false, "", 1024, "Red frames"⟩,
  ⟨782, false, "bytes", 1024, "Red bytes"⟩,
  ⟨783, false, "", 1024, "Policer drops"⟩,
  ⟨784, false, "", 1024, "Red drops withheld"⟩,
  ⟨1024, false, "", 8, "Packets received SEND"⟩,
  ⟨1025, false, "", 8, "Packets received WRITE"⟩,
  ⟨1026, false, "", 8, "Packets received READ request"⟩,
  ⟨1027, false, "", 8, "Packets received READ response"⟩,
  ⟨1028, false, "", 8, "Packets received ACK"⟩,
  ⟨1029, false, "", 8, "Packets received CNP"⟩,
  ⟨1030, false, "bytes", 8, "Bytes received SEND"⟩,
  ⟨1031, false, "bytes", 8, "Bytes received WRITE"⟩,
  ⟨1032, false, "bytes", 8, "Bytes received READ request"⟩,
  ⟨1033, false, "bytes", 8, "Bytes received READ response"⟩,
  ⟨1034, false, "bytes", 8, "Bytes received ACK"⟩,
  ⟨1035, false, "bytes", 8, "Bytes received CNP"⟩,
  ⟨1036, false, "", 8, "Unknown QP"⟩,
  ⟨1037, false, "", 8, "Address mismatch"⟩,
  ⟨1038, false, "", 8, "ICRC error"⟩,
  ⟨1039, false, "", 8, "P_Key mismatch"⟩,
  ⟨1040, false, "", 8, "Not ready"⟩,
  ⟨1041, false, "", 8, "Ahead of sequence"⟩,
  ⟨1042, false, "", 8, "Duplicate"⟩,
  ⟨1043, false, "", 8, "NAKs sent RNR"⟩,
  ⟨1044, false, "", 8, "NAKs sent PSN error"⟩,
  ⟨1045, false, "", 8, "NAKs sent invalid request"⟩,
  ⟨1046, false, "", 8, "NAKs sent access error"⟩,
  ⟨1047, false, "", 8, "NAKs sent operational"⟩,
  ⟨1048, false, "", 8, "ACKs sent"⟩,
  ⟨1049, false, "", 8, "Packets sent SEND"⟩,
  ⟨1050, false, "", 8, "Packets sent WRITE"⟩,
  ⟨1051, false, "", 8, "Packets sent READ request"⟩,
  ⟨1052, false, "", 8, "Packets sent READ response"⟩,
  ⟨1053, false, "", 8, "Packets sent ACK"⟩,
  ⟨1054, false, "", 8, "Packets sent CNP"⟩]

/-- Rows of the directory. -/
def evRows2 : List EvDesc := [
  ⟨1055, false, "bytes", 8, "Bytes sent SEND"⟩,
  ⟨1056, false, "bytes", 8, "Bytes sent WRITE"⟩,
  ⟨1057, false, "bytes", 8, "Bytes sent READ request"⟩,
  ⟨1058, false, "bytes", 8, "Bytes sent READ response"⟩,
  ⟨1059, false, "bytes", 8, "Bytes sent ACK"⟩,
  ⟨1060, false, "bytes", 8, "Bytes sent CNP"⟩,
  ⟨1061, false, "", 8, "Packets retransmitted"⟩,
  ⟨1062, false, "", 8, "Timer expiries"⟩,
  ⟨1063, false, "", 8, "NAKs received RNR"⟩,
  ⟨1064, false, "", 8, "NAKs received PSN error"⟩,
  ⟨1065, false, "", 8, "NAKs received invalid request"⟩,
  ⟨1066, false, "", 8, "NAKs received access error"⟩,
  ⟨1067, false, "", 8, "NAKs received operational"⟩,
  ⟨1068, false, "", 8, "RNR waits"⟩,
  ⟨1069, false, "", 32, "Context hits"⟩,
  ⟨1070, false, "", 32, "Write-back-buffer hits"⟩,
  ⟨1071, false, "", 32, "Context misses"⟩,
  ⟨1072, false, "", 32, "Evictions"⟩,
  ⟨1073, false, "", 32, "Fetches"⟩,
  ⟨1074, false, "", 32, "Miss-queue discards"⟩,
  ⟨1075, false, "", 32, "Context store errors"⟩,
  ⟨1076, false, "", 8, "Accesses passed"⟩,
  ⟨1077, false, "", 8, "Access failures, check 1"⟩,
  ⟨1078, false, "", 8, "Access failures, check 2"⟩,
  ⟨1079, false, "", 8, "Access failures, check 3"⟩,
  ⟨1080, false, "", 8, "Access failures, check 4"⟩,
  ⟨1081, false, "", 8, "Revocations"⟩,
  ⟨1082, false, "", 8, "Forced revocations"⟩,
  ⟨1083, false, "", 1, "Events posted type 1"⟩,
  ⟨1084, false, "", 1, "Events posted type 2"⟩,
  ⟨1085, false, "", 1, "Events posted type 3"⟩,
  ⟨1086, false, "", 1, "Events posted type 4"⟩,
  ⟨1087, false, "", 1, "Events posted type 5"⟩,
  ⟨1088, false, "", 1, "Events posted type 6"⟩,
  ⟨1089, false, "", 1, "Events posted type 7"⟩,
  ⟨1090, false, "", 1, "Events lost"⟩,
  ⟨1091, true, "bells", 8, "Bells a QP was held by A < 0"⟩,
  ⟨1092, false, "bytes", 8, "Paced bytes"⟩,
  ⟨1093, false, "", 8, "Rate decreases"⟩,
  ⟨1094, false, "", 8, "Rate increases"⟩]

/-- Rows of the directory. -/
def evRows3 : List EvDesc := [
  ⟨1095, false, "", 8, "Idle resets"⟩,
  ⟨1096, false, "", 8, "Timed packets"⟩,
  ⟨1097, false, "", 8, "Plausible samples"⟩,
  ⟨1098, false, "", 8, "Implausible samples"⟩,
  ⟨1099, false, "", 8, "Void samples"⟩,
  ⟨1100, false, "", 8, "Abandoned timed packets"⟩,
  ⟨1101, false, "", 8, "Sampled intervals"⟩,
  ⟨1102, false, "", 8, "Missing intervals"⟩,
  ⟨1103, false, "", 8, "Idle intervals"⟩,
  ⟨1104, false, "", 8, "CE received"⟩,
  ⟨1105, false, "", 8, "CNPs sent"⟩,
  ⟨1106, false, "", 8, "CE suppressed by cnp_interval"⟩,
  ⟨1107, false, "", 8, "CNPs received"⟩,
  ⟨1108, false, "", 8, "CNPs ignored in delay mode"⟩,
  ⟨1109, false, "", 8, "Moves to ECN mode"⟩,
  ⟨1110, false, "", 8, "Moves to delay mode"⟩,
  ⟨1111, false, "", 8, "Matches"⟩,
  ⟨1112, false, "", 8, "Runs completed"⟩,
  ⟨1113, false, "", 8, "WRs started"⟩,
  ⟨1114, false, "", 8, "Chain failures cause 1"⟩,
  ⟨1115, false, "", 8, "Chain failures cause 2"⟩,
  ⟨1116, false, "", 8, "Chain failures cause 3"⟩,
  ⟨1117, false, "", 8, "Chain failures cause 4"⟩,
  ⟨1118, false, "", 8, "Triggers while running"⟩,
  ⟨1119, false, "", 8, "Packets translated"⟩,
  ⟨1120, false, "", 8, "Duplicates"⟩,
  ⟨1121, false, "", 8, "READ Requests discarded"⟩,
  ⟨1122, false, "", 8, "Pre-sync discards"⟩,
  ⟨1123, false, "", 8, "Gaps"⟩,
  ⟨1280, false, "", 1, "Capsules parsed"⟩,
  ⟨1281, false, "", 1, "Capsules to the inbox reason 1"⟩,
  ⟨1282, false, "", 1, "Capsules to the inbox reason 2"⟩,
  ⟨1283, false, "", 1, "Capsules to the inbox reason 3"⟩,
  ⟨1284, false, "", 1, "Capsules to the inbox reason 4"⟩,
  ⟨1285, false, "", 1, "Capsules held for a full inbox"⟩,
  ⟨1286, false, "", 1, "Outbox records consumed"⟩,
  ⟨1287, false, "", 1, "Outbox records discarded"⟩,
  ⟨1288, false, "", 256, "Completions status row 0"⟩]

/-- Rows of the directory. -/
def evRows4 : List EvDesc := [
  ⟨1289, false, "", 256, "Completions status row 1"⟩,
  ⟨1290, false, "", 256, "Completions status row 2"⟩,
  ⟨1291, false, "", 256, "Completions status row 3"⟩,
  ⟨1292, false, "", 256, "Completions status row 4"⟩,
  ⟨1293, false, "", 256, "Completions status row 5"⟩,
  ⟨1294, false, "", 256, "Completions status row 6"⟩,
  ⟨1295, false, "", 256, "Completions status row 7"⟩,
  ⟨1296, false, "", 256, "Completions status row 8"⟩,
  ⟨1297, false, "", 256, "Completions status row 9"⟩,
  ⟨1298, false, "", 256, "Completions status row 10"⟩,
  ⟨1299, false, "", 256, "Completions status row 11"⟩,
  ⟨1300, false, "", 256, "Completions status row 12"⟩,
  ⟨1301, false, "", 256, "Completions status row 13"⟩,
  ⟨1302, false, "", 256, "Completions status row 14"⟩,
  ⟨1303, false, "", 256, "Completions status row 15"⟩,
  ⟨1304, false, "", 256, "Completions status row 16"⟩,
  ⟨1305, false, "", 1024, "Reads"⟩,
  ⟨1306, false, "", 1024, "Blocks from the granary"⟩,
  ⟨1307, false, "", 1024, "Blocks from drives"⟩,
  ⟨1308, false, "", 1024, "Deallocated blocks as zeros"⟩,
  ⟨1309, false, "bytes", 1024, "Bytes read"⟩,
  ⟨1310, false, "", 1024, "Write-class commands"⟩,
  ⟨1311, false, "", 1024, "Chunks"⟩,
  ⟨1312, false, "", 1024, "Full-stripe chunks"⟩,
  ⟨1313, false, "", 1024, "In-capsule transfers"⟩,
  ⟨1314, false, "", 1024, "Keyed transfers"⟩,
  ⟨1315, false, "", 1024, "Window transfers"⟩,
  ⟨1316, false, "", 1024, "Overlap holds"⟩,
  ⟨1317, false, "bytes", 1024, "Bytes written"⟩,
  ⟨1318, false, "", 1, "Host conflicts"⟩,
  ⟨1319, false, "", 1, "View writes"⟩,
  ⟨1320, false, "", 1, "Drive conflicts"⟩,
  ⟨1321, false, "", 1, "Binds"⟩,
  ⟨1322, false, "", 1, "Releases"⟩,
  ⟨1323, false, "", 1, "Keep-alive expiries"⟩,
  ⟨1324, false, "", 1, "Commands abandoned"⟩,
  ⟨1536, false, "", 32, "Merges whole stripe"⟩,
  ⟨1537, false, "", 32, "Merges reconstruct with intent"⟩,
  ⟨1538, false, "", 32, "Merges rmw"⟩,
  ⟨1539, false, "", 32, "Merges reconstruct"⟩,
  ⟨1540, false, "", 32, "Records merged"⟩]

/-- Rows of the directory. -/
def evRows5 : List EvDesc := [
  ⟨1541, false, "", 32, "Records superseded"⟩,
  ⟨1542, false, "", 32, "Parity-intent records"⟩,
  ⟨1543, false, "", 32, "Rows processed"⟩,
  ⟨1544, false, "", 32, "Stripes written in place"⟩,
  ⟨1545, false, "", 32, "Stripes remapped"⟩,
  ⟨1546, false, "", 32, "Float-empty fallbacks"⟩,
  ⟨1547, false, "", 32, "Rows reconstructed"⟩,
  ⟨1548, false, "", 32, "Reads waiting on a claim"⟩,
  ⟨1549, false, "", 32, "Media errors"⟩,
  ⟨1550, false, "", 32, "Repairs"⟩,
  ⟨1551, false, "", 32, "Integrity repairs"⟩,
  ⟨1552, false, "", 32, "Stripes rebuilt"⟩,
  ⟨1553, false, "", 32, "Stripes skipped as unwritten"⟩,
  ⟨1554, false, "", 32, "Blocks listed"⟩,
  ⟨1555, false, "", 32, "Spares taken"⟩,
  ⟨1556, false, "", 32, "Stripes checked"⟩,
  ⟨1557, false, "", 32, "Verdicts kind 0"⟩,
  ⟨1558, false, "", 32, "Verdicts kind 1"⟩,
  ⟨1559, false, "", 32, "Verdicts kind 2"⟩,
  ⟨1560, false, "", 32, "Verdicts kind 3"⟩,
  ⟨1561, false, "", 32, "Verdicts kind 4"⟩,
  ⟨1562, false, "", 65535, "Stripes copied"⟩,
  ⟨1563, false, "", 65535, "Merges held by a copy"⟩,
  ⟨1792, false, "", 1, "Records submitted kind 1"⟩,
  ⟨1793, false, "", 1, "Records submitted kind 2"⟩,
  ⟨1794, false, "", 1, "Records submitted kind 3"⟩,
  ⟨1795, false, "", 1, "Records submitted kind 4"⟩,
  ⟨1796, false, "", 1, "Records submitted kind 5"⟩,
  ⟨1797, false, "", 1, "Records submitted kind 6"⟩,
  ⟨1798, false, "", 1, "Records submitted kind 7"⟩,
  ⟨1799, false, "", 1, "Records submitted kind 8"⟩,
  ⟨1800, false, "blocks", 1, "Blocks written"⟩,
  ⟨1801, false, "", 1, "Writes submitted"⟩,
  ⟨1802, false, "", 1, "Records durable"⟩,
  ⟨1803, false, "", 1, "Records held"⟩,
  ⟨1804, false, "", 1, "Records retired"⟩,
  ⟨1805, false, "", 1, "Records superseded"⟩,
  ⟨1806, false, "", 3, "Writes completed"⟩,
  ⟨1807, false, "", 3, "Write errors"⟩,
  ⟨1808, false, "", 3, "Failures"⟩]

/-- Rows of the directory. -/
def evRows6 : List EvDesc := [
  ⟨1809, false, "", 3, "Seeding blocks written"⟩,
  ⟨1810, false, "", 3, "Copies rewritten by replay"⟩,
  ⟨1811, false, "", 1, "Batches filled"⟩,
  ⟨1812, false, "", 1, "Refetches"⟩,
  ⟨1813, true, "bells", 1, "Bells waiting for buffer credit"⟩,
  ⟨1814, false, "", 1, "Chunks waiting for space"⟩,
  ⟨1815, true, "bells", 1, "Bells with staging full"⟩,
  ⟨1816, true, "bells", 1, "Bells waiting for a checkpoint"⟩,
  ⟨1817, false, "", 1, "Lookups"⟩,
  ⟨1818, false, "", 1, "Hits in staging"⟩,
  ⟨1819, false, "", 1, "Hits in the cache"⟩,
  ⟨1820, false, "", 1, "Misses"⟩,
  ⟨1821, false, "", 1, "Insertions"⟩,
  ⟨1822, false, "", 1, "Insertions dropped"⟩,
  ⟨1823, false, "", 1, "Removals"⟩,
  ⟨1824, false, "", 1, "Replacements"⟩,
  ⟨1825, false, "", 1, "Claims waiting for operand slots"⟩,
  ⟨2048, false, "", 16, "Blocks encrypted"⟩,
  ⟨2049, false, "", 16, "Blocks decrypted"⟩,
  ⟨2050, false, "", 16, "Deallocated blocks passed"⟩,
  ⟨2051, false, "", 16, "Tag failures"⟩,
  ⟨2052, false, "", 16, "Metadata failures cause 1"⟩,
  ⟨2053, false, "", 16, "Metadata failures cause 2"⟩,
  ⟨2054, false, "", 16, "Metadata failures cause 3"⟩,
  ⟨2055, false, "", 16, "Metadata failures cause 4"⟩,
  ⟨2056, false, "", 16, "Metadata failures cause 5"⟩,
  ⟨2057, false, "", 16, "Derivations"⟩,
  ⟨2058, false, "", 16, "Hold hits"⟩,
  ⟨2059, false, "", 16, "Hold erasures"⟩,
  ⟨2060, true, "bells", 16, "Bells waiting for a key unit"⟩,
  ⟨2061, false, "", 1, "Descriptors completed status 1"⟩,
  ⟨2062, false, "", 1, "Descriptors completed status 2"⟩,
  ⟨2063, false, "", 1, "Descriptors completed status 3"⟩,
  ⟨2064, false, "", 1, "Descriptors completed status 4"⟩,
  ⟨2065, false, "", 1, "Descriptors completed status 5"⟩,
  ⟨2066, false, "", 1, "Items started"⟩,
  ⟨2067, false, "", 1, "Grants accepted"⟩,
  ⟨2068, false, "", 1, "Grants refused"⟩,
  ⟨2069, false, "", 1, "Rekeys"⟩,
  ⟨2070, false, "", 1, "Signed requests accepted"⟩]

/-- Rows of the directory. -/
def evRows7 : List EvDesc := [
  ⟨2071, false, "", 1, "Signed requests rejected"⟩,
  ⟨2304, false, "", 24, "Insertions"⟩,
  ⟨2305, false, "", 24, "Removals"⟩,
  ⟨2306, false, "", 24, "Ramps"⟩,
  ⟨2307, false, "", 24, "Power-goods"⟩,
  ⟨2308, false, "", 24, "Faults cause 1"⟩,
  ⟨2309, false, "", 24, "Faults cause 2"⟩,
  ⟨2310, false, "", 24, "Faults cause 3"⟩,
  ⟨2311, false, "", 24, "Faults cause 4"⟩,
  ⟨2312, false, "", 24, "Faults cause 5"⟩,
  ⟨2313, false, "", 24, "Faults cause 6"⟩,
  ⟨2314, false, "", 24, "Faults cause 7"⟩,
  ⟨2315, false, "", 24, "Retries"⟩,
  ⟨2316, false, "", 24, "Latches"⟩,
  ⟨2317, false, "", 24, "Shutdown timeouts"⟩,
  ⟨2318, false, "", 24, "Trainings"⟩,
  ⟨2319, false, "", 24, "Link downs"⟩,
  ⟨2320, false, "", 24, "Speed or width changes"⟩,
  ⟨2321, false, "", 24, "AER correctable errors"⟩,
  ⟨2322, false, "", 24, "AER uncorrectable errors"⟩,
  ⟨2323, false, "", 24, "Submitted queue 0"⟩,
  ⟨2324, false, "", 24, "Submitted queue 1"⟩,
  ⟨2325, false, "", 24, "Submitted queue 2"⟩,
  ⟨2326, false, "", 24, "Submitted queue 3"⟩,
  ⟨2327, false, "", 24, "Submitted queue 4"⟩,
  ⟨2328, false, "", 24, "Submitted queue 5"⟩,
  ⟨2329, false, "", 24, "Submitted queue 6"⟩,
  ⟨2330, false, "", 24, "Completed queue 0"⟩,
  ⟨2331, false, "", 24, "Completed queue 1"⟩,
  ⟨2332, false, "", 24, "Completed queue 2"⟩,
  ⟨2333, false, "", 24, "Completed queue 3"⟩,
  ⟨2334, false, "", 24, "Completed queue 4"⟩,
  ⟨2335, false, "", 24, "Completed queue 5"⟩,
  ⟨2336, false, "", 24, "Completed queue 6"⟩,
  ⟨2337, false, "blocks", 24, "Blocks read"⟩,
  ⟨2338, false, "blocks", 24, "Blocks written"⟩,
  ⟨2339, false, "", 24, "Completions with error status"⟩,
  ⟨2340, false, "", 24, "Member timeouts"⟩,
  ⟨2341, false, "", 24, "Admin passthroughs"⟩,
  ⟨2342, false, "", 24, "Polls"⟩]

/-- Rows of the directory. -/
def evRows8 : List EvDesc := [
  ⟨2343, false, "", 24, "Transfers"⟩,
  ⟨2344, false, "", 24, "NAKs"⟩,
  ⟨2345, false, "", 24, "Clock-low timeouts"⟩,
  ⟨2560, false, "", 1, "Trainings"⟩,
  ⟨2561, false, "", 1, "Speed or width changes"⟩,
  ⟨2562, false, "", 1, "AER errors Receiver"⟩,
  ⟨2563, false, "", 1, "AER errors Bad TLP"⟩,
  ⟨2564, false, "", 1, "AER errors Bad DLLP"⟩,
  ⟨2565, false, "", 1, "AER errors Replay Rollover"⟩,
  ⟨2566, false, "", 1, "AER errors Replay Timeout"⟩,
  ⟨2567, false, "", 1, "AER errors Corrected Int"⟩,
  ⟨2568, false, "", 1, "AER errors Advisory NF"⟩,
  ⟨2569, false, "", 1, "AER errors Hdr Log Ovf"⟩,
  ⟨2570, false, "", 1, "AER errors DLP"⟩,
  ⟨2571, false, "", 1, "AER errors FCP"⟩,
  ⟨2572, false, "", 1, "AER errors Rcvr Ovf"⟩,
  ⟨2573, false, "", 1, "AER errors Malformed"⟩,
  ⟨2574, false, "", 1, "AER errors Poisoned"⟩,
  ⟨2575, false, "", 1, "AER errors Cpl Timeout"⟩,
  ⟨2576, false, "", 1, "AER errors Unexp Cpl"⟩,
  ⟨2577, false, "", 1, "AER errors Unsup Req"⟩,
  ⟨2578, false, "", 1, "AER errors Uncorr Int"⟩,
  ⟨2579, false, "", 1, "Master reads class 0"⟩,
  ⟨2580, false, "", 1, "Master reads class 1"⟩,
  ⟨2581, false, "bytes", 1, "Master read bytes class 0"⟩,
  ⟨2582, false, "bytes", 1, "Master read bytes class 1"⟩,
  ⟨2583, false, "", 1, "Master writes class 0"⟩,
  ⟨2584, false, "", 1, "Master writes class 1"⟩,
  ⟨2585, false, "", 1, "Master writes class 2"⟩,
  ⟨2586, false, "", 1, "Master writes class 3"⟩,
  ⟨2587, false, "bytes", 1, "Master write bytes class 0"⟩,
  ⟨2588, false, "bytes", 1, "Master write bytes class 1"⟩,
  ⟨2589, false, "bytes", 1, "Master write bytes class 2"⟩,
  ⟨2590, false, "bytes", 1, "Master write bytes class 3"⟩,
  ⟨2591, true, "bells", 1, "Bells waiting for a tag"⟩,
  ⟨2592, false, "", 1, "Timeouts"⟩,
  ⟨2593, false, "", 1, "Unexpected completions"⟩,
  ⟨2594, false, "", 1, "BAR0 accesses"⟩,
  ⟨2595, false, "", 1, "BAR2 accesses"⟩,
  ⟨2596, false, "", 1, "BAR4 accesses"⟩]

/-- Rows of the directory. -/
def evRows9 : List EvDesc := [
  ⟨2597, false, "", 1, "Unsupported Requests"⟩,
  ⟨2598, false, "", 1, "Aperture refusals"⟩,
  ⟨2599, false, "", 1, "Messages sent"⟩,
  ⟨2600, false, "", 1, "Triggers held pending"⟩,
  ⟨2601, false, "", 4096, "Tail doorbells"⟩,
  ⟨2602, false, "", 4096, "Push doorbells"⟩,
  ⟨2603, false, "", 4096, "Entries pushed"⟩,
  ⟨2604, false, "", 4096, "Doorbells ignored"⟩,
  ⟨2605, false, "", 4096, "Fetch reads"⟩,
  ⟨2606, false, "", 4096, "Entries fetched"⟩,
  ⟨2607, false, "", 4096, "Fetch failures"⟩,
  ⟨2608, false, "", 4096, "Jobs started opcode 0x01"⟩,
  ⟨2609, false, "", 4096, "Jobs started opcode 0x02"⟩,
  ⟨2610, false, "", 4096, "Jobs started opcode 0x03"⟩,
  ⟨2611, false, "", 4096, "Jobs started opcode 0x04"⟩,
  ⟨2612, false, "", 4096, "Jobs started opcode 0x10"⟩,
  ⟨2613, false, "", 4096, "Jobs started opcode 0x11"⟩,
  ⟨2614, false, "", 4096, "Jobs started opcode 0x12"⟩,
  ⟨2615, false, "", 4096, "Jobs started opcode 0x13"⟩,
  ⟨2616, false, "", 4096, "Jobs started opcode 0x14"⟩,
  ⟨2617, false, "", 4096, "Jobs started opcode 0x20"⟩,
  ⟨2618, false, "", 4096, "Jobs failed class 1"⟩,
  ⟨2619, false, "", 4096, "Jobs failed class 2"⟩,
  ⟨2620, false, "", 4096, "Jobs failed class 3"⟩,
  ⟨2621, false, "", 4096, "Jobs failed class 4"⟩,
  ⟨2622, false, "", 4096, "Entries discarded by disable"⟩,
  ⟨2623, false, "", 4096, "Head publications"⟩,
  ⟨2624, false, "", 4096, "Messages sent"⟩,
  ⟨2625, true, "bells", 4096, "Bells with the head stopped"⟩,
  ⟨2816, false, "", 5, "Requests executed"⟩,
  ⟨2817, false, "", 5, "Answered from cache"⟩,
  ⟨2818, false, "", 5, "Refused msg_status 1"⟩,
  ⟨2819, false, "", 5, "Refused msg_status 2"⟩,
  ⟨2820, false, "", 5, "Refused msg_status 3"⟩,
  ⟨2821, false, "", 5, "Refused msg_status 4"⟩,
  ⟨2822, false, "", 5, "CRC discards"⟩,
  ⟨2823, true, "bells", 5, "Bells with requests waiting"⟩,
  ⟨2824, false, "", 5, "Ops op 1"⟩,
  ⟨2825, false, "", 5, "Ops op 2"⟩,
  ⟨2826, false, "", 5, "Ops op 3"⟩]

/-- Rows of the directory. -/
def evRows10 : List EvDesc := [
  ⟨2827, false, "", 5, "Ops op 4"⟩,
  ⟨2828, false, "", 5, "Ops op 5"⟩,
  ⟨2829, false, "", 5, "Ops status 0"⟩,
  ⟨2830, false, "", 5, "Ops status 1"⟩,
  ⟨2831, false, "", 5, "Ops status 2"⟩,
  ⟨2832, false, "", 5, "Ops status 3"⟩,
  ⟨2833, false, "", 5, "Ops status 4"⟩,
  ⟨2834, false, "", 5, "Ops status 5"⟩,
  ⟨2835, false, "", 5, "Ops status 6"⟩,
  ⟨2836, false, "", 5, "Ops status 7"⟩,
  ⟨2837, false, "", 5, "Ops status 8"⟩,
  ⟨2838, false, "", 5, "Ops status 9"⟩,
  ⟨2839, false, "", 5, "Ops status 10"⟩,
  ⟨2840, false, "", 5, "Ops status 11"⟩,
  ⟨2841, false, "", 1, "Entries taken"⟩,
  ⟨2842, false, "", 1, "Evictions"⟩,
  ⟨2843, false, "", 1, "Exports"⟩,
  ⟨2844, false, "", 1, "Imports"⟩,
  ⟨2845, false, "", 1, "Entries skipped"⟩,
  ⟨3072, false, "", 1, "Evaluations with events"⟩,
  ⟨3073, false, "", 1, "Events severity 0"⟩,
  ⟨3074, false, "", 1, "Events severity 1"⟩,
  ⟨3075, false, "", 1, "Events severity 2"⟩,
  ⟨3076, false, "", 1, "Events severity 3"⟩,
  ⟨3077, false, "", 1, "Events severity 4"⟩,
  ⟨3078, false, "", 1, "Fences applied"⟩,
  ⟨3079, false, "", 1, "Fences released"⟩,
  ⟨3080, false, "", 1, "FAULT_N pulses"⟩,
  ⟨3081, false, "", 1, "Injections"⟩,
  ⟨3082, false, "", 1282, "Corrected errors"⟩,
  ⟨3083, false, "", 1282, "Uncorrectable errors"⟩,
  ⟨3084, false, "", 1282, "Unwritten reads"⟩,
  ⟨3085, false, "", 1282, "Write-backs"⟩,
  ⟨3086, false, "", 1282, "Bucket overflows"⟩,
  ⟨3087, false, "bytes", 1282, "Fill bytes"⟩,
  ⟨3328, false, "", 1, "Regions tested kind 1"⟩,
  ⟨3329, false, "", 1, "Regions tested kind 2"⟩,
  ⟨3330, false, "", 1, "Regions tested kind 3"⟩,
  ⟨3331, false, "", 1, "Regions skipped status 2"⟩,
  ⟨3332, false, "", 1, "Regions skipped status 3"⟩]

/-- Rows of the directory. -/
def evRows11 : List EvDesc := [
  ⟨3333, false, "", 1, "Regions skipped status 4"⟩,
  ⟨3334, false, "", 1, "Captures"⟩,
  ⟨3335, false, "", 1, "Sections truncated"⟩,
  ⟨3336, false, "", 1, "Closes"⟩,
  ⟨3337, false, "bytes", 1, "dump_image bytes read"⟩]

/-- Every event of R529. -/
def evTable : List EvDesc := evRows0 ++ evRows1 ++ evRows2 ++ evRows3 ++ evRows4 ++ evRows5 ++ evRows6 ++ evRows7 ++ evRows8 ++ evRows9 ++ evRows10 ++ evRows11

/-- The directory entry of a code (R533). -/
def evDesc (code : Nat) : Option EvDesc := evTable.find? (fun d => d.code == code)

end Sys2Proof.Machine
end

