-- ==== Sys2Proof/Machine/Counters.lean ====
section
/-! DEFINITION. The counters, the snapshot bank and slot accounting (spec 18). -/

namespace Sys2Proof.Machine

/-- Key of `ctr_command` and of its results. -/
abbrev ctrSet : Nat := 0x800080


/-! ### The guard interval (R519, R522, R526-R528) -/

/-- What an event of one instance adds in a bell (R519). -/
def evAmount (code amt : Nat) : Nat := if Ev.isLevel code then b2n (0 < amt) else amt

/-- The fixed counters take the bell's amounts (R518, R519). -/
def foldEvents (amounts : Tbl Nat) (t : Tbl Nat) : Tbl Nat :=
  amounts.foldl (fun t a => tmod t a.1 0 (fun v => (v + evAmount (a.1 / 65536) a.2) % 2 ^ 64)) t

/-- Amount of a selection in a bell: one instance, or the sum over all (R522). -/
def selAmount (amounts : Tbl Nat) (code inst : Nat) : Nat :=
  if inst = 0xFFFF then ((amounts.filter (fun a => a.1 / 65536 = code)).map (fun a => evAmount code a.2)).sum
  else evAmount code (tgetD amounts (code * 65536 + inst) 0)

/-- What a selectable counter adds in a bell by its mode (R522). -/
def selStep (now prev : Tbl Nat) (cfg : Bytes) : Nat :=
  let code := fld cfg 0 2
  let inst := fld cfg 2 2
  let mode := fld cfg 4 1
  let a := selAmount now code inst
  if mode = 0 then a
  else if mode = 1 then b2n (0 < a)
  else b2n (0 < a && selAmount prev code inst = 0)

/-- The selectable counters of a bell, in ascending order: an odd chained counter counts the overflows of the one below (R522). -/
def foldSel (now prev : Tbl Nat) (cfgs : Tbl Bytes) : List Nat → Nat → Tbl Nat → Tbl Nat
  | [], _, t => t
  | j :: r, carry, t =>
    let cfg := tgetD cfgs j []
    let fl := fld cfg 5 1
    let d := if !fl.testBit 1 then 0 else if j % 2 = 1 ∧ fl.testBit 0 then carry else selStep now prev cfg
    let v := tgetD t j 0 + d
    foldSel now prev cfgs r (v / 2 ^ 32) (if d = 0 then t else tset t j (v % 2 ^ 32))

/-- Stage of a slot instance (R528). -/
def slotStage (i : Nat) : Nat :=
  if i < 4 then 2 else if i < 36 then 4 else if i = 36 then 5 else if i < 69 then 6 else if i = 69 then 7
  else if i < 86 then 8 else if i < 110 then 9 else if i = 110 then 10 else 11

/-- A slot instance's stage is neither fenced, quiesced nor off (R527). -/
def State.slotRuns (s : State) (i : Nat) : Bool :=
  if i < 4 then s.runs i 2
  else if i < 36 then let e := (i - 4) / 4; s.clusterRuns (e / 2) (3 + e % 2) ((i - 4) % 4)
  else if i = 36 then s.runs 4 4
  else if i < 69 then s.clusterRuns 4 5 ((i - 37) / 8)
  else if i = 69 then s.runs 4 6
  else if i < 86 then s.clusterRuns 4 3 ((i - 70) / 4)
  else if i < 110 then s.clusterRuns 4 ((i - 86) / 12) ((i - 86) % 12 / 6)
  else if i = 110 then s.runs 4 2
  else true

/-- Slots of one instance in a bell, sorted into the four classes (R527). -/
def classify (n : Nat) (u : SlotUse) (c : SlotCtr) : SlotCtr :=
  let free := n - (u.retired + u.wasted)
  let held := min free u.budget
  let rest := free - held
  { retired := c.retired + u.retired + (if u.lastWasted then 0 else held)
    wasted := c.wasted + u.wasted + (if u.lastWasted then held else 0)
    back := c.back + (if u.creditBlocked then rest else 0)
    front := c.front + (if u.creditBlocked then 0 else rest)
    late := c.late + u.late
    bells := c.bells + 1 }

/-- SLOT_CLASSIFY (R527): every instance whose stage runs; FS264 where the classes do not add up. -/
def classifySlots (s : State) : State :=
  let s := (List.range' 0 112).foldl (fun s i =>
    let u := tgetD s.ctr.slotUse i {}
    if s.slotRuns i then
      let s := { s with ctr.live.slots := tmod s.ctr.live.slots i {} (classify (slotsPerBell i) u) }
      if slotsPerBell i < u.retired + u.wasted then s.fault 264 i else s
    else if u.late = 0 then s
    else { s with ctr.live.slots := tmod s.ctr.live.slots i {} (fun c => { c with late := c.late + u.late }) }) s
  { s with ctr.slotUse := [] }

/-- COUNTER_UPDATE (R519): in the guard interval the counters take the bell's events, and the slots are classified. -/
def guardCounters (s : State) : State :=
  let now := s.ctr.amounts
  classifySlots { s with
    ctr.live.events := foldEvents now s.ctr.live.events
    ctr.live.sel := foldSel now s.ctr.prev s.ctr.selCfg (List.range' 0 64) 0 s.ctr.live.sel
    ctr.prev := now
    ctr.amounts := []
    tgt.integNew := 0 }

/-! ### Snapshots (R523, R524) -/

/-- The live bank is copied; two causes at one edge give one snapshot. -/
def takeSnapshot (s : State) : State :=
  if s.ctr.snapEdge = some s.bell.edges then s
  else
    { s with ctr.snap := s.ctr.live, ctr.snapTaken := s.bell.number, ctr.snapEra := s.bell.era, ctr.snapCount := (s.ctr.snapCount + 1) % 2 ^ 32
             ctr.snapEdge := some s.bell.edges }

/-- The next target after a snapshot at bell `n` (R523). -/
def nextTarget (t p n : Nat) (rebased : Bool) : Nat :=
  if p = 0 then 0 else if rebased ∨ n < t then n + p else t + ((n - t) / p + 1) * p

/-- SNAPSHOT_TARGET (R523): the first edge at or above `snap_bell`, or a rebase edge. -/
def snapshotTarget (s : State) : State :=
  let t := s.objN 0x800002 0
  s.when (t ≠ 0 && s.ctr.armEdge < s.bell.edges && (t ≤ s.bell.number || s.bell.rebased)) (fun s =>
    let s := takeSnapshot s
    { (s.setObj 0x800002 (le 8 (nextTarget t (s.objN 0x800003 0) s.bell.number s.bell.rebased))) with ctr.armEdge := s.bell.edges })

def execSnapshotTarget (s : State) := up s snapshotTarget

/-- The counters at an edge: a snapshot-now command is answered, and written selections come into force (R522, R523). -/
def countersEdge (s : State) : State :=
  let s := match s.ctr.snapNow with
    | some _ => (takeSnapshot { s with ctr.snapNow := none }).doneNow ctrSet 0 (le 8 s.bell.number)
    | none => s
  { s with ctr.selCfg := (List.range' 0 64).foldl (fun t j => match tget s.dict.objs (0x800010 + j) with
      | some v => tset t j v
      | none => t) s.ctr.selCfg }

/-! ### Commands (R525, R532) -/

/-- A write of `ctr_command`. -/
def ctrCommand (par : Bytes) (act : Bytes → State → State) (s : State) : State := s.command ctrSet ctrSet 16 par act

/-- CLEAR_ALL (R10, R525): the events of this bell are still added in its guard interval, and what this bell lost stays in the two counts of lost records. -/
def clearAll (_ : Bytes) (s : State) : State :=
  ({ s with
    ctr.live := {}
    ctr.clearBell := s.bell.number
    xp.eventLost := tgetD s.ctr.amounts (Ev.evLost * 65536) 0
    tgt.integLost := s.tgt.integNew
    flt.sources := tmap s.flt.sources (fun _ x => { x with count := 0, recoveries := 0 }) }).done ctrSet 0

def execClearAll (par : Bytes) (s : State) := up s (ctrCommand par clearAll)

/-- CLEAR_STAGE (R532). -/
def clearStage (p : Bytes) (s : State) : State :=
  let g := fld p 1 1
  if g < 1 ∨ 13 < g then s.done ctrSet 1
  else
    ({ s with ctr.live.events := s.ctr.live.events.filter (fun e => e.1 / 65536 / 256 ≠ g)
              ctr.live.slots := s.ctr.live.slots.filter (fun e => slotStage e.1 ≠ g) }).done ctrSet 0

def execClearStage (par : Bytes) (s : State) := up s (ctrCommand par clearStage)

/-- CLEAR_SELECTABLE (R532). -/
def clearSelectable (p : Bytes) (s : State) : State :=
  ({ s with ctr.live.sel := s.ctr.live.sel.filter (fun e => !(fld p 8 8).testBit e.1) }).done ctrSet 0

def execClearSelectable (par : Bytes) (s : State) := up s (ctrCommand par clearSelectable)

/-- SNAPSHOT_NOW (R523): taken at the next edge, which sets the outcome. -/
def snapshotNow (_ : Bytes) (s : State) : State := { s with ctr.snapNow := some s.bell.edges }

def execSnapshotNow (par : Bytes) (s : State) := up s (ctrCommand par snapshotNow)

/-- A slot instance's field (R521). -/
def slotField (b : CtrBank) (i off : Nat) : Nat :=
  let c := tgetD b.slots i {}
  match off with
  | 0 => c.retired
  | 8 => c.wasted
  | 16 => c.front
  | 24 => c.back
  | 32 => c.late
  | 40 => c.bells
  | 48 => slotsPerBell i
  | _ => 0

/-- One 64-bit word of a bank at a multiple of 8 (R521). -/
def CtrBank.word (b : CtrBank) (off : Nat) : Nat :=
  if off < 0x100 then tgetD b.sel (off / 4) 0 + tgetD b.sel (off / 4 + 1) 0 * 2 ^ 32
  else if off < 0x1000 then 0
  else if off < 0x1000 + 64 * 112 then slotField b ((off - 0x1000) / 64) ((off - 0x1000) % 64) % 2 ^ 64
  else if off < 0x10000 then 0
  else match evTable.find? (fun e => Config.eventOffset e.code ≤ off && off < Config.eventOffset e.code + 8 * e.insts) with
    | some e => tgetD b.events (e.code * 65536 + (off - Config.eventOffset e.code) / 8) 0
    | none => 0

/-- COUNTER_READ (R532, R533): past 3 MiB it ends with outcome 1. -/
def counterRead (p : Bytes) (s : State) : State :=
  let k := fld p 1 1
  let off := fld p 4 4
  let n := fld p 8 1
  if 1 < k ∨ off % 8 ≠ 0 ∨ n < 1 ∨ 16 < n ∨ 0x300000 < off + 8 * n then s.done ctrSet 1
  else
    let b := if k = 0 then s.ctr.live else s.ctr.snap
    s.done ctrSet 0 ((List.range' 0 n).flatMap (fun q => le 8 (b.word (off + 8 * q))))

def execCounterRead (par : Bytes) (s : State) := up s (ctrCommand par counterRead)

/-- DIRECTORY_QUERY (R532, R533). -/
def directoryQuery (p : Bytes) (s : State) : State :=
  match evDesc (fld p 2 2) with
  | none => s.done ctrSet 1
  | some e =>
    s.done ctrSet 0 (padTo 32 (ascii e.name) ++ le 1 (b2n e.level) ++ zeros 3 ++ le 4 (Config.eventOffset e.code) ++ le 2 e.insts ++ padTo 6 (ascii e.unit))

def execDirectoryQuery (par : Bytes) (s : State) := up s (ctrCommand par directoryQuery)

/-- Whether a `select_cfg` value is in range (R522, R531): the event and instance exist and the mode is 0-2. -/
def selectOk (v : Bytes) : Bool :=
  fld v 4 1 ≤ 2 && match evDesc (fld v 0 2) with
    | some e => fld v 2 2 = 0xFFFF || fld v 2 2 < e.insts
    | none => v.all (· = 0)

end Sys2Proof.Machine
end

