-- ==== Sys2Proof/Machine/EndpointCore.lean ====
section
/-! DEFINITION. The host endpoint's shared operations: configuration space, errors, interrupts, and what it does as bus master (R393-R402, R407-R411). -/

namespace Sys2Proof.Machine

/-! ### Configuration space (R393-R395) -/

/-- Lane control and status registers of the margining capability, one for each of the 16 lanes. -/
def isMarginLane (off : Nat) : Bool := 0x1F8 ≤ off && off < 0x238

/-- Bits of a doubleword that a configuration write sets (R393-R395; the layout of the capabilities is the PCIe specification's). -/
def State.cfgMask (s : State) (off : Nat) : Nat :=
  if off = 0x04 then 0x146
  else if off = 0x10 then 0xFC000000
  else if off = 0x14 ∨ off = 0x1C ∨ off = 0x58 ∨ off = 0x60 then 0xFFFFFFFF
  else if off = 0x18 then 0xFF000000
  else if off = 0x24 then 0xFFFFFFF0
  else if off = 0x30 then (if s.ep.rom then 0xFFF00001 else 0)
  else if off = 0x3C then 0xFF
  else if off = 0x44 then 0x3
  else if off = 0x50 then 0x710000
  else if off = 0x54 then 0xFFFFFFFC
  else if off = 0x5C then 0xFFFF
  else if off = 0x70 then 0xC0000000
  else if off = 0x88 then 0x79FF
  else if off = 0x90 then 0x02CB
  else if off = 0xA8 then 0x100F
  else if off = 0xB0 then 0xFFBF
  else if off = 0x108 ∨ off = 0x10C then 0x07FFF030
  else if off = 0x114 then 0xF1C1
  else if isMarginLane off then 0xFFFF
  else 0

/-- Bits that a configuration write of 1 clears. -/
def cfgClear (off : Nat) : Nat :=
  if off = 0x04 then 0xF9000000
  else if off = 0x88 then 0xF0000
  else if off = 0x104 then 0x07FFF030
  else if off = 0x110 then 0xF1C1
  else 0

/-- Reset values of the written bits (R393, R395, R411). -/
def cfgReset (off : Nat) : Nat :=
  if off = 0x88 then 0x2910
  else if off = 0xB0 then 6
  else if off = 0x108 then 0x00400000
  else if off = 0x10C then 0x00462010
  else if off = 0x114 then 0x0000E000
  else if isMarginLane off then 0x9C38
  else 0

/-- The AER registers, whose bits are sticky: status, masks, severities, first error pointer and header log (R405). -/
def isAer (off : Nat) : Bool := 0x104 ≤ off && off ≤ 0x128

/-- Doublewords that keep their bits through every endpoint reset (R405): of AER, and Link Control 2. -/
def cfgSticky (off : Nat) : Bool := isAer off || off = 0xB0

/-- The written and event bits of a doubleword. -/
def State.cfgVal (s : State) (off : Nat) : Nat := tgetD s.ep.cfg off (cfgReset off)

/-- Pending bits of the MSI capability (R402). -/
def State.msiPending (s : State) : Nat := bitmap 32 (fun i => s.ep.vectors.contains i)

/-- What a lane's margining status answers its control (R395): timing and voltage margining with an independent error sampler, and what R395 does not give as the
device's own constant; the command itself where it names none. -/
def State.marginStatus (s : State) (off : Nat) : Nat :=
  let c := s.cfgVal off % 65536
  if c / 8 % 8 = 1 ∧ c / 256 = 0x88 then c % 256 + 256 * ((Config.cfgWord off).toNat % 32 ||| 0x11)
  else if c / 8 % 8 = 7 then c
  else (Config.cfgWord off).toNat % 65536

/-- Fixed bits of a doubleword (R393-R395). -/
def State.cfgFixed (s : State) (off : Nat) : Nat :=
  if off = 0x00 then 0x72241F3B
  else if off = 0x04 then 0x100000
  else if off = 0x08 then Config.siliconRev.toNat + 0x01800000
  else if off = 0x10 ∨ off = 0x18 then 4
  else if off = 0x20 then 0xC
  else if off = 0x2C then s.ep.subsys
  else if off = 0x34 then 0x40
  else if off = 0x40 then 0x35001
  else if off = 0x44 then 8
  else if off = 0x50 then 0x018A7005
  else if off = 0x64 then (if (s.cfgVal 0x70).testBit 31 then 0 else s.msiPending)
  else if off = 0x70 then 0x07FF8011
  else if off = 0x74 then 0x10000
  else if off = 0x78 then 0x20000
  else if off = 0x80 then 0x80020010
  else if off = 0x84 then 0x10008022
  else if off = 0x88 then (if s.ep.tags.isEmpty then 0 else 0x200000)
  else if off = 0x8C then 0x400906
  else if off = 0x90 then s.ep.speed * 0x10000 + s.ep.width * 0x100000
  else if off = 0xA4 then 0x30001
  else if off = 0xAC then 0x7E
  else if off = 0x100 then 0x18020001
  else if off = 0x180 then 0x19010003
  else if off = 0x184 then Config.serial.toNat % 2 ^ 32
  else if off = 0x188 then Config.serial.toNat / 2 ^ 32
  else if off = 0x190 then 0x1A010025
  else if off = 0x194 then 0x80000001
  else if off = 0x1A0 then 0x1D01002A
  else if off = 0x1D0 then 0x1F010031
  else if off = 0x1F0 then 0x00010027
  else if isMarginLane off then s.marginStatus off * 65536
  else if off = 0x198 ∨ (0x1A0 ≤ off ∧ off < 0x240) then (Config.cfgWord off).toNat
  else 0

/-- A configuration read of a doubleword; Initiate FLR reads 0. -/
def State.cfgRead (s : State) (off : Nat) : Nat :=
  s.cfgFixed off ||| (s.cfgVal off &&& (s.cfgMask off ||| cfgClear off ||| (if isAer off then 0xFFFFFFFF else 0)))

/-- Memory Space Enable and Bus Master Enable (R393). -/
def State.memSpace (s : State) : Bool := (s.cfgVal 0x04).testBit 1
def State.busMaster (s : State) : Bool := (s.cfgVal 0x04).testBit 2
/-- The function is in D3hot (R399). -/
def State.d3 (s : State) : Bool := s.cfgVal 0x44 % 4 = 3
/-- MSI-X Enable, Function Mask, MSI Enable and vectors granted (R400-R402). -/
def State.msixOn (s : State) : Bool := (s.cfgVal 0x70).testBit 31
def State.fnMask (s : State) : Bool := (s.cfgVal 0x70).testBit 30
def State.msiOn (s : State) : Bool := (s.cfgVal 0x50).testBit 16
def State.msiCount (s : State) : Nat := 2 ^ min 5 (bits (s.cfgVal 0x50) 22 20)
/-- Max_Read_Request_Size in bytes (R408). -/
def State.mrrs (s : State) : Nat := 128 * 2 ^ min 5 (bits (s.cfgVal 0x88) 14 12)

/-- Set bits of a doubleword. -/
def State.cfgSet (s : State) (off m : Nat) : State :=
  { s with ep.cfg := tset s.ep.cfg off (s.cfgVal off ||| m), ep.cfgNew := tmod s.ep.cfgNew off 0 (· ||| m) }

/-! ### State of the function -/

/-- The endpoint's region runs and no reset of the function is in progress (R391, R404). -/
def State.epRuns (s : State) : Bool := s.runs 4 2 && !s.ep.perst && s.ep.flr.isNone

/-- Requests and messages may be sent (R399, R402, R408). -/
def State.epSends (s : State) : Bool := s.epRuns && s.ep.link && s.busMaster && !s.d3

/-- A BAR access is decoded (R393, R399). -/
def State.barOpen (s : State) : Bool := s.epRuns && s.ep.link && s.memSpace && !s.d3

/-- An event of the endpoint. -/
def State.epFault (s : State) (src detail : Nat) : State := s.faultAt src 4 2 detail

/-- An event bit of R403 is set. -/
def State.epEvent (s : State) (i : Nat) : State :=
  let new := !s.ep.ev.testBit i && s.ep.evEnable.testBit i
  { s with ep.ev := s.ep.ev ||| 2 ^ i, ep.evRose := s.ep.evRose || new, ep.evNew := s.ep.evNew ||| 2 ^ i }

/-! ### Errors (R411) -/

/-- An error message under the reporting enables of Device Control and SERR# Enable; for an Unsupported Request its own enable must be set too. -/
def errSignal (sev : Nat) (ur : Bool) (s : State) : State :=
  let ctl := s.cfgVal 0x88
  let serr := (s.cfgVal 0x04).testBit 8
  let on := ctl.testBit sev && (!ur || ctl.testBit 3)
  if sev = 0 then (if on then s.emit (.errMessage 0) else s)
  else
    let s := if serr then s.cfgSet 0x04 0x40000000 else s
    if on || serr then s.emit (.errMessage sev) else s

/-- A correctable error of a type of R411's order, with its AER bit. -/
def aerCorr (type bit : Nat) (s : State) (ur : Bool := false) : State :=
  let s := ((s.count (Ev.epAer0 + type) 0).cfgSet 0x110 (2 ^ bit)).cfgSet 0x88 0x10000
  if (s.cfgVal 0x114).testBit bit then s else errSignal 0 ur s

/-- Uncorrectable errors whose log takes the header of the TLP: poisoned, Completion Timeout, Unexpected Completion, Malformed TLP, Unsupported Request. -/
def headerBits : List Nat := [12, 14, 16, 18, 20]

/-- The first error pointer and the header log take an error that is not masked, where they hold none; where they do, an error with a header overflows the log
(R405, R411). The spec does not give the header's bits of a request or a completion: they are free. -/
def logHeader (bit : Nat) (s : State) : State :=
  if (s.cfgVal 0x108).testBit bit then s
  else
    let first := s.cfgVal 0x118 % 32
    if (s.cfgVal 0x104).testBit first ∧ s.cfgVal 0x118 ≠ 0 then (if headerBits.contains bit then aerCorr 7 15 s else s)
    else
      let s := { s with ep.cfg := tset s.ep.cfg 0x118 bit }
      if headerBits.contains bit then
        (List.range' 0 4).foldl (fun s i => { s.took with ep.cfg := tset s.ep.cfg (0x11C + 4 * i) (s.free % 2 ^ 32) }) s
      else s

/-- An uncorrectable error; `advisory` where Role-Based Error Reporting signals it as Advisory Non-Fatal. -/
def aerUnc (type bit : Nat) (advisory : Bool) (s : State) : State :=
  let fatal := (s.cfgVal 0x10C).testBit bit
  let s := (logHeader bit (s.count (Ev.epAer0 + type) 0)).cfgSet 0x104 (2 ^ bit)
  let s := if bit = 20 then s.cfgSet 0x88 0x80000 else s
  if advisory && !fatal then aerCorr 6 13 s (bit = 20)
  else
    let s := s.cfgSet 0x88 (if fatal then 0x40000 else 0x20000)
    if (s.cfgVal 0x108).testBit bit then s else errSignal (if fatal then 2 else 1) (bit = 20) s

/-- AER bits of the correctable errors 0-4, 7 and the uncorrectable errors 8-11 of R411's order that the link and received requests raise. -/
def linkErrBits : List (Nat × Nat) := [(0, 0), (1, 6), (2, 7), (3, 8), (4, 12), (7, 15), (8, 4), (9, 13), (10, 17), (11, 18)]

/-- An error of the link or of a received request (R411). -/
def linkError (type : Nat) (s : State) : State :=
  match linkErrBits.find? (fun x => x.1 = type) with
  | none => s
  | some (_, bit) => if type < 8 then aerCorr type bit s else aerUnc type bit false s

/-- A poisoned TLP has been received (R409, R411): a write, which is discarded, or, to the endpoint as master, a completion. -/
def poisonedTlp (master : Bool) (s : State) : State :=
  aerUnc 12 12 false (s.cfgSet 0x04 (if master && (s.cfgVal 0x04).testBit 6 then 0x81000000 else 0x80000000))

/-- A poisoned write is discarded and logged (R411). -/
def poisonedWrite (s : State) : State := poisonedTlp false s

/-- An access completed with, or logged as, Unsupported Request (R393, R396, R397). -/
def unsupported (posted : Bool) (s : State) : State := aerUnc 15 20 posted (s.count Ev.epUr 0)

/-! ### Interrupts (R400-R403) -/

/-- An MSI-X table entry; its reset value is masked (R402). -/
def State.msixEntry (s : State) (v : Nat) : Bytes := tgetD s.ep.msix v (le 16 (2 ^ 96))

/-- A vector as it is sent: in MSI mode its number is taken modulo the vectors granted (R401). -/
def State.vectorAs (s : State) (v : Nat) : Nat := if s.msixOn then v else v % s.msiCount

/-- A vector is unmasked and sending is allowed. -/
def State.vectorOpen (s : State) (v : Nat) : Bool :=
  s.epSends && (if s.msixOn then !s.fnMask && (fld (s.msixEntry v) 12 4) % 2 = 0
                else s.msiOn && !(s.cfgVal 0x60).testBit (s.vectorAs v))

/-- One message of a vector. -/
def sendVector (v : Nat) (s : State) : State :=
  let s := ((s.count Ev.msgSent 0).count Ev.mwWr3 0).count Ev.mwBy3 0 4
  if s.msixOn then s.emit (.message (fld (s.msixEntry v) 0 8) (fld (s.msixEntry v) 8 4))
  else s.emit (.message (s.cfgVal 0x58 * 2 ^ 32 + s.cfgVal 0x54) (s.cfgVal 0x5C / s.msiCount * s.msiCount + s.vectorAs v))

/-- A vector is triggered (R400-R402): sent, held pending, or, with neither form enabled, not sent at all. One that is pending already sends one message in all. -/
def trigger (v : Nat) (s : State) : State :=
  if !s.msixOn && !s.msiOn then s
  else
    let v := s.vectorAs v
    if s.ep.vectors.contains v then s.count Ev.trigPend 0
    else if s.vectorOpen v then sendVector v s
    else { s.count Ev.trigPend 0 with ep.vectors := s.ep.vectors ++ [v] }

/-! ### Writes and reads as master (R407-R410) -/

/-- Relaxed Ordering of a class: payload both ways, where the host has left it enabled (R407). -/
def State.relaxed (s : State) (payload : Bool) : Bool := payload && (s.cfgVal 0x88).testBit 4

/-- A posted write leaves. -/
def writeOut (w : HostWrite) (s : State) : State :=
  ((s.emit (.hostWrite w.addr (s.relaxed (w.cls = 0)) w.data)).count (Ev.mwWr0 + w.cls) 0).count (Ev.mwBy0 + w.cls) 0 w.data.length

/-- A posted write to host memory: it waits while requests may not be sent (R408, R420). -/
def hostWrite (cls addr : Nat) (b : Bytes) (s : State) : State :=
  let w : HostWrite := { cls := cls, addr := addr, data := b }
  if s.epSends ∧ s.ep.writes.isEmpty then writeOut w s else { s with ep.writes := s.ep.writes ++ [w] }

/-- Tags that may be used (R408). -/
def State.tagLimit (s : State) : Nat :=
  let cap := min (s.objN 0x700009 768) 768
  if s.ep.flit || (s.cfgVal 0xA8).testBit 12 then cap else min cap 256

/-- A tag that is neither in use nor quarantined (R408, R410). -/
def State.freeTag (s : State) : Option Nat :=
  if s.tagLimit ≤ s.ep.tags.length + s.ep.quarantine.length then none
  else (List.range' 0 s.tagLimit).find? (fun t => (tget s.ep.tags t).isNone && (tget s.ep.quarantine t).isNone)

/-- The class of a read (R407): 0 write data, 1 entry fetch. -/
def ReadFor.cls : ReadFor → Nat
  | .data .. => 0
  | .entries .. => 1
  | .dropped => 1

/-- A read leaves under a free tag. -/
def readOut (t : Nat) (w : ReadWait) (s : State) : State :=
  let s := { s with ep.tags := tset s.ep.tags t { use := w.use, edge := s.bell.edges, len := w.len } }
  ((s.emit (.hostRead t w.addr w.len (s.relaxed (w.use.cls = 0)))).count (Ev.mrRd0 + w.use.cls) 0).count (Ev.mrBy0 + w.use.cls) 0 w.len

/-- A read of host memory: its requester waits where no tag is free (R408). -/
def hostRead (use : ReadFor) (addr len : Nat) (s : State) : State :=
  let w : ReadWait := { use := use, addr := addr, len := len }
  match s.freeTag with
  | some t => if s.epSends ∧ s.ep.reads.isEmpty then readOut t w s else { s with ep.reads := s.ep.reads ++ [w] }
  | none => { (if s.epSends then s.count Ev.tagWait 0 else s) with ep.reads := s.ep.reads ++ [w] }

/-- Reads that waited go out while tags are free. -/
def drainReads : Nat → State → State
  | 0, s => s
  | f + 1, s =>
    match s.ep.reads, s.freeTag with
    | w :: r, some t => drainReads f (readOut t w { s with ep.reads := r })
    | _, _ => s

/-- Reads that satisfy `p` have lost their requester: the ones that wait are dropped, those that are out keep their tags. -/
def dropReads (p : ReadFor → Bool) (s : State) : State :=
  { s with ep.tags := tmap s.ep.tags (fun _ t => if p t.use then { t with use := .dropped } else t), ep.reads := s.ep.reads.filter (fun w => !p w.use) }

/-- Whether a read fetches entries of a ring, or data of its job. -/
def ReadFor.entriesOf (q : Nat) : ReadFor → Bool
  | .entries r _ _ => r = q
  | _ => false
def ReadFor.dataOf (q idx : Nat) : ReadFor → Bool
  | .data r i _ _ => r = q && i = idx
  | _ => false

/-- Completion timeout in bells (R409). -/
def State.cplTimeout (s : State) : Nat :=
  let v := s.cfgVal 0xA8 % 16
  if v = 1 then 64 else if v = 2 then 4883 else s.objN 0x70000A 15625

/-- The events of the bell that has ended: their message goes out, and the bits of the bell that begins start anew (R9, R403). -/
def endpointEvents (s : State) : State :=
  let s := { s with ep.evNew := 0, ep.cfgNew := [] }
  if s.ep.evRose then trigger s.ep.evVector { s with ep.evRose := false } else s

/-- What the endpoint does at an edge: the aperture takes its new value, waiting writes and reads leave (R397, R408). -/
def endpointEdge (s : State) : State :=
  let moved := s.ep.aperture != s.obj 0x700010 []
  let s := { s with ep.aperture := s.obj 0x700010 [] }
  let s := if moved then s.epEvent 4 else s
  if s.epSends then
    let s := s.ep.writes.foldl (fun s w => writeOut w s) { s with ep.writes := [] }
    let s := drainReads s.ep.reads.length s
    if s.ep.reads.isEmpty then s else s.count Ev.tagWait 0
  else s

/-- Pieces of a host range: no longer than a read may be, and none across a 4 KiB boundary (R408). Address and length of each. -/
def readPieces (mrrs : Nat) : Nat → Nat → Nat → List (Nat × Nat)
  | 0, _, _ => []
  | f + 1, a, n =>
    if n = 0 then []
    else
      let k := min (min mrrs n) (4096 - a % 4096)
      (a, k) :: readPieces mrrs f (a + k) (n - k)

end Sys2Proof.Machine
end

