-- ==== Sys2Proof/Machine/CoroloCore.lean ====
section
/-! DEFINITION. The Corolo queues' shared operations: rings, indices, jobs and their ends, fetching, messages, and what an endpoint reset does to them (R406, R414-R433). -/

namespace Sys2Proof.Machine

/-! ### Indices and rings (R414) -/

/-- Sum and difference of free-running U32 indices. -/
def add32 (a b : Nat) : Nat := (a + b) % 2 ^ 32
def sub32 (a b : Nat) : Nat := (a + 2 ^ 32 - b % 2 ^ 32) % 2 ^ 32

/-- A ring, and a change of it. -/
def State.ring (s : State) (q : Nat) : Ring := tgetD s.cor.rings q {}
def State.onRing (s : State) (q : Nat) (f : Ring → Ring) : State := { s with cor.rings := tmod s.cor.rings q {} f }

/-- The rings are muted by an endpoint reset that has not been recorded yet (R406). -/
def State.muted (s : State) : Bool := s.cor.reset.isSome

/-- A power of two in a range. -/
def pow2In (lo hi n : Nat) : Bool := lo ≤ n && n ≤ hi && (List.range' 0 17).any (fun k => n = 2 ^ k)

/-! ### Messages (R415, R428) -/

/-- A ring's message; it resets the count and the timer (R428). -/
def ringMessage (q : Nat) (s : State) : State :=
  trigger (s.ring q).vector ((s.onRing q (fun r => { r with passed := 0 })).count Ev.rgMsg q)

/-- A ring stops (R415, R423, R424): FS184 and one message; a fetch that has not gone out does not. -/
def stopRing (q cause : Nat) (s : State) : State :=
  let s := { s with ep.reads := s.ep.reads.filter (fun w => !w.use.entriesOf q) }
  ringMessage q ((s.onRing q (fun r => { r with state := 2, cause := cause, newStop := true })).epFault 184 q)

/-! ### Ends of jobs (R425, R426) -/

/-- Change a job that has not ended. -/
def State.onJob (s : State) (q idx : Nat) (f : Job → Job) : State :=
  s.onRing q (fun r => { r with jobs := r.jobs.map (fun j => if j.idx = idx ∧ j.ended.isNone then f j else j) })

/-- A job of a ring that has not ended. -/
def State.job (s : State) (q idx : Nat) : Option Job := (s.ring q).jobs.find? (fun j => j.idx = idx ∧ j.ended.isNone)

/-- A job ends at an edge count, with its failure (R425, R426), whatever it is. -/
def closeJob (q idx edge : Nat) (fail : Option (Nat × Nat × Nat)) (s : State) : State :=
  match s.job q idx with
  | none => s
  | some _ =>
    let s := s.onJob q idx (fun j => { j with ended := some edge, endBell := s.bell.number - (s.bell.edges - edge), endEra := s.bell.era, fail := fail, got := [] })
    match fail with
    | some (c, _, _) => s.count (Ev.jobF1 + (c - 1)) q
    | none => s

/-- A job ends; a volume job does not while completions of host commands are withheld (R217, R366, R386). -/
def endJobAt (q idx edge : Nat) (fail : Option (Nat × Nat × Nat)) (s : State) : State :=
  if s.withheld && (s.job q idx).any (fun j => 1 ≤ j.op && j.op ≤ 4) then s else closeJob q idx edge fail s

/-- A job ends in the current bell. -/
def endJob (q idx : Nat) (fail : Option (Nat × Nat × Nat)) (s : State) : State := endJobAt q idx s.bell.edges fail s

/-- The exception record of a job (R426). DESIGN CHOICE (log 121): its fields are little-endian. -/
def excRecord (j : Job) : Bytes :=
  let f := j.fail.getD (0, 0, 0)
  le 4 j.idx ++ le 4 j.tag ++ le 1 j.op ++ le 1 f.1 ++ le 2 f.2.1 ++ le 4 f.2.2 ++ le 8 j.endBell ++ le 4 j.endEra ++ zeros 4

/-- Records that are due are written in job order while the exception ring has room; a full ring that holds the head back raises FS185 once (R426). -/
def writeRecords (q : Nat) (s : State) : State :=
  let due := (s.ring q).jobs.filter (fun j => j.ended.any (· < s.bell.edges) && j.fail.isSome && !j.recorded)
  let s := due.foldl (fun s j =>
    let r := s.ring q
    if r.excSize ≤ sub32 r.excProd r.excCons then s
    else
      let s := hostWrite 1 (r.excBase + r.excProd % r.excSize * 32) (excRecord j) s
      s.onRing q (fun r => { r with
        excProd := add32 r.excProd 1, newRecord := true, full := false
        jobs := r.jobs.map (fun k => if k.idx = j.idx then { k with recorded := true } else k) })) s
  match (s.ring q).jobs with
  | j :: _ =>
    if j.ended.any (· < s.bell.edges) && j.fail.isSome && !j.recorded then
      let s := s.count Ev.headStop q
      if (s.ring q).full then s else (s.onRing q (fun r => { r with full := true })).epFault 185 q
    else s
  | [] => s

/-- A job may be passed (R425): it ended in an earlier bell, and its exception record, if any, is written. -/
def Job.passable (edges : Nat) (j : Job) : Bool := j.ended.any (· < edges) && (j.fail.isNone || j.recorded)

/-- Publish a ring's head (R425) and send the message that falls due (R428). DESIGN CHOICE (log 121): the two words are little-endian. -/
def publish (q : Nat) (s : State) : State :=
  let r := s.ring q
  let n := (r.jobs.takeWhile (Job.passable s.bell.edges)).length
  let gone := (r.jobs.take n).foldl (fun a j => a + j.n) 0
  let head := add32 r.head gone
  let passed := r.passed + gone
  let s := s.onRing q (fun r => { r with jobs := r.jobs.drop n, head := head, passed := passed, passEdge := if r.passed = 0 then s.bell.edges else r.passEdge,
                                         newRecord := false, newStop := false })
  let s := (hostWrite 2 r.headAddr (le 4 head ++ le 4 r.excProd) s).count Ev.headPub q
  if r.newRecord || r.newStop || r.modCount ≤ passed then ringMessage q s else s

/-! ### Data of jobs (R420) -/

/-- The parts of a job's segments that `n` bytes from `off` on cover: host address, offset within the data, length. -/
def segParts : List (Nat × Nat) → Nat → Nat → Nat → List (Nat × Nat × Nat)
  | [], _, _, _ => []
  | (a, l) :: r, base, off, n =>
    let lo := max base off
    let hi := min (base + l) (off + n)
    (if lo < hi then [(a + (lo - base), lo - off, hi - lo)] else []) ++ segParts r (base + l) off n

/-- Bytes of a read job go to its segments. -/
def payloadOut (j : Job) (off : Nat) (b : Bytes) (s : State) : State :=
  (segParts j.segs 0 off b.length).foldl (fun s p => hostWrite 0 p.1 (sub b p.2.1 p.2.2) s) s

/-- Blocks of a read that have arrived go out in order (R420). -/
def payloadNext : Nat → Nat → Nat → State → State
  | 0, _, _, s => s
  | f + 1, q, idx, s =>
    match s.job q idx with
    | none => s
    | some j =>
      match tget j.got j.next with
      | none => s
      | some b =>
        payloadNext f q idx (payloadOut j j.next b (s.onJob q idx (fun j => { j with got := terase j.got j.next, next := j.next + b.length })))

/-- A block reaches a read job. -/
def jobData (q idx off : Nat) (b : Bytes) (s : State) : State :=
  let s := s.onJob q idx (fun j => { j with got := tset j.got off b })
  payloadNext 256 q idx s

/-- A volume job's command has ended (R426): data that has arrived goes out, and its status becomes class 2. -/
def jobEnded (q idx status : Nat) (dnr : Bool) (detail : Nat) (s : State) : State :=
  match s.job q idx with
  | none => s
  | some j =>
    let s := j.got.foldl (fun s g => payloadOut j g.1 g.2 s) s
    endJob q idx (if status = 0 then none else some (2, status + (if dnr then 32768 else 0), detail)) s

/-- The command entry that runs a job. -/
def State.jobCmd (s : State) (q idx : Nat) : Option (Nat × Cmd) := s.tgt.cmds.find? (fun c => c.2.ring = some (q, idx))

/-- All of a write's data is in (R420): it may stage. -/
def writeReady (q idx : Nat) (b : Bytes) (s : State) : State :=
  match s.jobCmd q idx with
  | some (h, c) => dataComplete c.order (s.onCmd h (fun c => { c with buf := b }))
  | none => s

/-- A write job's data cannot be read: it ends with class 3 and no effect (R420). -/
def writeFailed (q idx status seg : Nat) (s : State) (reset : Bool := false) : State :=
  let s := dropReads (ReadFor.dataOf q idx) s
  let endJob := if reset then (fun q idx => closeJob q idx s.bell.edges) else endJob
  match s.jobCmd q idx with
  | some (h, _) => endJob q idx (some (3, status, seg)) (freeCmd h s)
  | none => endJob q idx (some (3, status, seg)) s

/-! ### Fetching (R416, R423, R424) -/

/-- Advance `fetched` past entries that have been taken. -/
def passFetched : Nat → Ring → Ring
  | 0, r => r
  | f + 1, r => if (tget r.entries r.fetched).isSome then passFetched f { r with fetched := add32 r.fetched 1 } else r

/-- Entries taken or asked for and not started (R424). -/
def Ring.held (r : Ring) : Nat := sub32 r.asked r.started

/-- Entries of push copies are taken as their turn comes (R423). -/
def takePushed : Nat → Nat → State → State
  | 0, _, s => s
  | f + 1, q, s =>
    let r := s.ring q
    match tget r.pushed r.asked with
    | some e =>
      if r.held < 64 then
        takePushed f q (s.onRing q (fun r => passFetched 64 { r with
          asked := add32 r.asked 1, pushed := terase r.pushed r.asked, entries := tset r.entries r.asked (e, s.bell.edges) }))
      else s
    | none => s

/-- How many entries from `i` on are in ring memory and not in a push copy. -/
def Ring.unpushed (r : Ring) : Nat → Nat → Nat
  | 0, _ => 0
  | f + 1, i => if (tget r.pushed i).isSome then 0 else 1 + r.unpushed f (add32 i 1)

/-- A ring's fetch read of this bell (R408, R424). -/
def fetchEntries (q : Nat) (s : State) : State :=
  let r := s.ring q
  let a := r.base + r.asked % r.size * 64
  let n := min (min (min 16 (64 - r.held)) (min (sub32 r.tail r.asked) (r.size - r.asked % r.size))) (min (s.mrrs / 64) ((4096 - a % 4096) / 64))
  let n := r.unpushed n r.asked
  if n = 0 ∨ r.size = 0 then s
  else
    let s := (s.onRing q (fun r => { r with asked := add32 r.asked n })).count Ev.fetRd q
    hostRead (.entries q r.asked n) a (n * 64) s

/-- Entries arrive (R424); they may start in the next bell. Entries of a ring that no longer runs are dropped. -/
def entriesIn (q first : Nat) (es : List Bytes) (s : State) : State :=
  if (s.ring q).state ≠ 1 then s
  else
    let s := s.count Ev.fetEnt q es.length
    s.onRing q (fun r => passFetched 64 { r with entries := (es.zipIdx).foldl (fun t e => tset t (add32 first e.2) (padTo 64 e.1, s.bell.edges + 1)) r.entries })

/-- A fetch fails (R424): the ring stops with cause 3, and its entries from there on are not started. -/
def fetchFailed (q first : Nat) (s : State) : State :=
  if (s.ring q).state ≠ 1 then s
  else stopRing q 3 ((s.onRing q (fun r => { r with entries := r.entries.filter (fun e => sub32 e.1 r.started < sub32 first r.started) })).count Ev.fetFail q)

/-! ### Requests for the dictionary engine (R421, R457) -/

/-- Place of a request among those of its bell (R457): cores, window, rings, relayed datagrams. -/
def WaitReq.rank (w : WaitReq) : Nat := if w.path = 0 then w.addr else if w.path = 1 then 8 else if w.path = 2 then 9 + w.addr else 5000

/-- A request joins those that wait: bells in order of arrival, and within a bell in the order of R457. -/
def insertWait (w : WaitReq) : List WaitReq → List WaitReq
  | [] => [w]
  | x :: r => if w.edge < x.edge ∨ (w.edge = x.edge ∧ w.rank < x.rank) then w :: x :: r else x :: insertWait w r

/-- A request reaches the engine, which executes it in the next bell; a relayed one that finds 64 waiting is refused (R457). -/
def submit (q : Nat × Nat × Nat) (job : Nat) (b : Bytes) (s : State) : State :=
  let w : WaitReq := { path := q.1, addr := q.2.1, port := q.2.2, edge := s.bell.edges, msg := b, job := job }
  if 3 ≤ q.1 ∧ 64 ≤ (s.dict.waiting.filter (fun x => 3 ≤ x.path)).length then { s with dict.refused := s.dict.refused ++ [w] }
  else { s with dict.waiting := insertWait w s.dict.waiting }

/-! ### Reads as master end (R409) -/

/-- A master read has all its data. -/
def readDone (u : ReadFor) (b : Bytes) (s : State) : State :=
  match u with
  | .entries q first n => entriesIn q first ((List.range' 0 n).map (fun i => sub b (i * 64) 64)) s
  | .data q idx _ off =>
    let s := s.onJob q idx (fun j => { j with buf := putAt j.buf off b, left := j.left - 1 })
    match s.job q idx with
    | some j => if j.left ≠ 0 then s else if j.op = 0x20 then submit (2, q, 0) idx j.buf s else writeReady q idx j.buf s
    | none => s
  | .dropped => s

/-- A master read fails whole (R409): 1 for a timeout, 2 for an error or poisoned data. It counts as a wasted slot of the endpoint's stage. -/
def readFailed (u : ReadFor) (cause : Nat) (s : State) : State :=
  let s := s.lateWaste 110
  match u with
  | .entries q first _ => fetchFailed q first s
  | .data q idx seg _ => writeFailed q idx cause seg s
  | .dropped => s

/-! ### Discards and endpoint reset (R405, R406, R410, R431) -/

/-- Entries taken and not started are discarded, and so is what their fetch reads still bring (R431, R528). -/
def discardEntries (q : Nat) (s : State) : State :=
  let s := dropReads (ReadFor.entriesOf q) s
  let r := s.ring q
  let n := r.entries.length
  ((s.onRing q (fun r => { r with entries := [], pushed := [], asked := r.started, fetched := r.started })).count Ev.jobDis q n).lateWaste 110 n

/-- Started jobs that still need a transfer with the host's memory end (R406): a write whose data is not in has no effect, a read's data and an exchange's response are not sent.
The spec gives no status of their failure: class 3 with a free status. -/
def endTransfers (q : Nat) (s : State) : State :=
  ((s.ring q).jobs.filter (fun j => j.ended.isNone)).foldl (fun s j =>
    if j.op = 1 ∨ j.op = 0x20 then closeJob q j.idx s.bell.edges (some (3, s.free % 65536, 0)) s.took
    else if j.op = 2 ∧ 0 < j.left then writeFailed q j.idx (s.free % 65536) 0 s.took true
    else if 0x10 ≤ j.op ∧ j.op ≤ 0x14 then endJob q j.idx none s
    else s) s

/-- Every ring is disabled at the next edge, muted until the reset record is written (R406). -/
def resetRings (s : State) : State :=
  let e := s.bell.edges
  let s := s.cor.rings.foldl (fun s r =>
    let s := endTransfers r.1 s
    s.onRing r.1 (fun x => { x with change := if x.state = 1 ∨ x.state = 2 then some .drain else none })) s
  { s with cor.reset := some e }

/-- Every tag in use is quarantined; what waited to leave is dropped (R405, R410). -/
def abandonMaster (s : State) : State :=
  let e := s.bell.edges + 2 * s.cplTimeout
  { s with ep.quarantine := s.ep.tags.foldl (fun t u => tset t u.1 e) s.ep.quarantine, ep.tags := [], ep.reads := [], ep.writes := [] }

/-- What every endpoint reset does (R405, R429, R433, R454). -/
def resetFunction (s : State) : State :=
  let s := resetRings (abandonMaster s)
  let s := { s with
    ep.cfg := s.ep.cfg.filter (fun c => cfgSticky c.1)
    ep.msix := []
    ep.vectors := []
    ep.ev := 8
    ep.evEnable := 0
    ep.evVector := 0
    ep.evRose := false
    ep.dead := false
    cor.base := 0
    cor.size := 0
    cor.headAddr := 0
    cor.excBase := 0
    cor.excSize := 0
    cor.vector := 0
    cor.enable := false
    cor.start := 0
    cor.modCount := 0
    cor.modTime := 0 }
  { s with dict.dwRequest := [], dict.dwResponse := [], dict.dwBusy := false, dict.dwSeq := 0, dict.dwVector := 0,
           dict.waiting := s.dict.waiting.map (fun w => if w.path = 1 then { w with job := 1 } else w) }

/-- The fundamental reset begins (R404, R405): the link goes down and `ep_config_ready` returns to 0. -/
def fundamentalReset (s : State) : State :=
  let s := resetFunction s
  let s := { s with ep.link := false, ep.speed := 0, ep.width := 0, ep.flit := false, ep.flr := none, ep.fundamental := (s.ep.fundamental + 1) % 2 ^ 32,
                    ep.subsys := s.objN 0x700004 0x00001F3B, ep.rom := s.objN 0x700006 0 = 1 }
  (s.setObj 0x700005 [0]).epFault 180 0

/-- The reset record is written (R433). -/
def rrWrite (s : State) : State :=
  { s with cor.rrBell := s.bell.number, cor.rrEra := s.bell.era, cor.rrSeq := (s.cor.rrSeq + 1) % 2 ^ 32 }

/-- A failure goes into the reset record's list (R431, R433). -/
def rrAdd (q : Nat) (j : Job) (s : State) : State :=
  if s.cor.rrList.length < 8192 then
    let f := j.fail.getD (0, 0, 0)
    { s with cor.rrList := s.cor.rrList ++ [{ ring := q, cls := f.1, op := j.op, idx := j.idx, tag := j.tag, status := f.2.1 }] }
  else ({ s with cor.rrOverflow := true, cor.rrNew := true }).epFault 186 q

/-- A ring's final head and its unwritten records go to the reset record (R431, R433). -/
def rrRing (q : Nat) (s : State) : State :=
  let r := s.ring q
  let s := { s with cor.finals := tset s.cor.finals q r.started }
  (r.jobs.filter (fun j => j.fail.isSome && !j.recorded)).foldl (fun s j => rrAdd q j s) s

/-- Uncorrectable Internal Error (R411): FS179, and every ring is disabled as by a reset. -/
def endpointInternalError (s : State) : State :=
  let s := (aerUnc 16 22 false s).epFault 179 0
  resetRings { s with ep.dead := true }

/-! ### Starting a job (R416-R419) -/

/-- The entries of a ring's next job, where nothing of its ring holds it, and whether its flags match (R416, R417). DEDUCED (log 148): an entry after the first with another opcode than 0x7F does not match (R417). -/
def State.headJob (s : State) (q : Nat) : Option (List Bytes × Bool) :=
  let r := s.ring q
  let at' (i : Nat) : Option Bytes := match tget r.entries (add32 r.started i) with
    | some (b, e) => if e ≤ s.bell.edges then some b else none
    | none => none
  if r.state ≠ 1 ∨ s.muted then none
  else match at' 0 with
    | none => none
    | some e0 =>
      let busy := r.jobs.any (fun j => !(j.ended.any (· ≤ s.bell.edges)))
      if busy ∧ (q = 0 ∨ (fld e0 1 1).testBit 2) then none
      else
        let n := fld e0 2 2
        if n = 0 ∨ 64 < n then some ([e0], false)
        else if sub32 r.tail r.started < n then none
        else
          let es := (List.range' 0 n).filterMap at'
          if es.length < n then none
          else some (es, es.zipIdx.all (fun e =>
            (fld e.1 1 1).testBit 0 == (e.2 == 0) && (fld e.1 1 1).testBit 1 == (e.2 + 1 == n) && (e.2 == 0 || fld e.1 0 1 == 0x7F)))

/-- The target takes no further job in the bell (R190, R419). -/
def State.jobsFull (s : State) : Bool := !s.targetRuns || 256 ≤ s.tgt.parse

/-- The job that a ring may start now (R416, R419). -/
def State.nextJob (s : State) (q : Nat) : Option (List Bytes × Bool) :=
  if s.jobsFull ∨ 64 ≤ s.cor.starts ∨ s.tgt.cmds.any (fun c => s.immediate c.2) then none else s.headJob q

/-- Job starts that the target's credit does not cover (R527). -/
def noteJobs (s : State) : State :=
  if s.jobsFull && s.cor.starts < 64 && s.cor.rings.any (fun r => (s.headJob r.1).isSome) then s.creditBlocked 110 else s

/-- Segments of a job's entries (R417). DESIGN CHOICE (log 121): fields in host memory are little-endian. -/
def segsOf (es : List Bytes) : List (Nat × Nat) :=
  let count := fld (es.getD 0 []) 12 4
  let at' (b : Bytes) (off : Nat) : Nat × Nat := (fld b off 8, fld b (off + 8) 4)
  let all := match es with
    | [] => []
    | e :: r => [at' e 32, at' e 48] ++ r.flatMap (fun b => [at' b 16, at' b 32, at' b 48])
  all.take count

/-- Opcodes of R418. -/
def jobOps : List Nat := [0x01, 0x02, 0x03, 0x04, 0x10, 0x11, 0x12, 0x13, 0x14, 0x20]

/-- The opcode may stand on the ring (R418). -/
def State.opAllowed (s : State) (q op : Nat) : Bool :=
  if op = 0x20 then q = 0 || ((s.ring q).mgmt && s.objN 0x700022 1 = 1)
  else if 0x10 ≤ op ∧ op ≤ 0x14 then q = 0
  else q ≠ 0

/-- Take the next job's entries and start it: index and entries (R414, R419, R526). -/
def takeJob (q : Nat) (es : List Bytes) (s : State) : State × Nat :=
  let r := s.ring q
  let e := es.getD 0 []
  let j : Job := { idx := r.started, n := es.length, tag := fld e 4 4, op := fld e 0 1, segs := segsOf es }
  let s := s.onRing q (fun r => { r with
    started := add32 r.started es.length
    entries := (List.range' 0 es.length).foldl (fun t i => terase t (add32 r.started i)) r.entries
    jobs := r.jobs ++ [j] })
  let s := { s with tgt.parse := s.tgt.parse + 1, cor.starts := s.cor.starts + 1 }
  let s := if jobOps.contains j.op then s.count (Ev.job0 + jobOps.idxOf j.op) q else s
  ((s.slot 36).slot 110, j.idx)

/-- What fails a job as it comes (R416, R418), as code of class 1: its flags, an opcode that there is not, one that is not valid on its ring. -/
def State.jobRefused (s : State) (q op : Nat) (flags : Bool) : Option Nat :=
  if !flags then some 2
  else if !jobOps.contains op then some (if op = 0x7F ∧ q = 0 then 6 else 1)
  else if !s.opAllowed q op then some 6
  else none

/-- Jobs at the head of a ring that no row runs fail as they come (R416, R418). -/
def failUnknown : Nat → Nat → State → State
  | 0, _, s => s
  | f + 1, q, s =>
    match s.nextJob q with
    | none => s
    | some (es, flags) =>
      match s.jobRefused q (fld (es.getD 0 []) 0 1) flags with
      | none => s
      | some code =>
        let (s, idx) := takeJob q es s
        failUnknown f q (endJob q idx (some (1, code, 0)) s)

/-- No ring of a lower number has a job that may start: in a bell jobs are parsed in ascending ring number (R419). -/
def State.jobTurn (s : State) (q : Nat) : Bool := s.cor.rings.all (fun r => q ≤ r.1 || (s.nextJob r.1).isNone)

/-- Start the next job of a ring where its opcode is `op` and its turn has come; one whose flags or ring do not fit fails at once (R416, R418, R419). -/
def startJob (q op : Nat) (act : Nat → List Bytes → State → State) (s : State) : State :=
  match s.nextJob q with
  | none => s
  | some (es, flags) =>
    if fld (es.getD 0 []) 0 1 ≠ op ∨ !s.jobTurn q then s
    else
      let (s, idx) := takeJob q es s
      failUnknown 64 q (match s.jobRefused q op flags with
        | some code => endJob q idx (some (1, code, 0)) s
        | none => act idx es s)

/-! ### The edge (R424-R426, R429, R431) -/

/-- The admin job whose action takes effect at this edge ends (R429). -/
def endAdmin (ops : List Nat) (s : State) : State :=
  ((s.ring 0).jobs.filter (fun j => j.ended.isNone ∧ ops.contains j.op)).foldl (fun s j => endJobAt 0 j.idx (s.bell.edges - 1) none s) s

/-- A ring's accepted change takes effect. -/
def ringChange (q : Nat) (s : State) : State :=
  match (s.ring q).change with
  | none => s
  | some c =>
    let s := s.onRing q (fun r => { r with change := none })
    match c with
    | .run st =>
      endAdmin [0x10, 0x14] (s.onRing q (fun r => { r with state := 1, cause := 0, tail := st, fetched := st, started := st, head := st, asked := st, jobs := [] }))
    | .drain => (discardEntries q s).onRing q (fun r => { r with state := 3 })
    | .moderate n t => endAdmin [0x13] (s.onRing q (fun r => { r with modCount := n, modTime := t }))

/-- Flushes end in the bell after their parse (R204, R419). -/
def endFlushes (q : Nat) (s : State) : State :=
  ((s.ring q).jobs.filter (fun j => j.ended.isNone ∧ j.op = 3)).foldl (fun s j => endJob q j.idx none s) s

/-- One ring at an edge. -/
def ringEdge (q : Nat) (s : State) : State :=
  let s := endFlushes q (ringChange q s)
  let s := if s.muted then s else writeRecords q s
  if (s.ring q).state = 1 ∧ !s.muted then
    let s := takePushed 64 q s
    failUnknown 64 q (if s.epSends then fetchEntries q s else s)
  else s

/-- Every ring at an edge, in ascending number. -/
def coroloEdge (s : State) : State :=
  let s := { s with cor.starts := 0, cor.rrNew := false }
  if s.runs 4 2 then (s.cor.rings.map (fun r => r.1)).foldl (fun s q => ringEdge q s) s else s

/-! ### What the target and the transport have handed on -/

/-- One note of the target. -/
def ringNote (n : RingNote) (s : State) : State :=
  match n with
  | .ended q i st dnr d => jobEnded q i st dnr d s
  | .data q i off b => jobData q i off b s

end Sys2Proof.Machine
end

