-- ==== Sys2Proof/Machine/Endpoint.lean ====
section
/-! DEFINITION. The commands of the host endpoint (R391-R410). -/

namespace Sys2Proof.Machine

/-- A link width of R391. -/
def widthOk (w : Nat) : Bool := [1, 2, 4, 8, 16].contains w

/-- EP_LINK_UP (R391): 64 GT/s is flit mode; below its caps FS176 is raised and the link is used as trained. -/
def epLinkUp (speed width : Nat) (flit : Bool) (s : State) : State :=
  let capS := s.objN 0x700002 6
  let capW := s.objN 0x700003 16
  s.when (s.domOn 14 && s.runs 4 2 && !s.ep.perst && 1 ≤ speed && speed ≤ capS && width ≤ capW && widthOk width && (speed ≠ 6 || flit)) (fun s =>
    let changed := s.ep.last.any (fun l => l.1 != speed || l.2 != width)
    let s := ({ s with ep.link := true, ep.speed := speed, ep.width := width, ep.flit := flit, ep.last := some (speed, width) }).count Ev.epTrain 0
    let s := if changed then (s.epEvent 0).count Ev.epSpeed 0 else s
    if speed < capS ∨ width < capW then s.epFault 176 (speed * 256 + width) else s)

def execEpLinkUp (speed width : Nat) (flit : Bool) (s : State) := up s (epLinkUp speed width flit)

/-- EP_FLR (R404, R405): the link stays up; configuration requests are retried until the reset completes. -/
def epFlr (s : State) : State :=
  s.when (s.runs 4 2 && !s.ep.perst && s.ep.link) (fun s =>
    let s := resetFunction s
    ({ s with ep.flr := some s.bell.edges, ep.flrs := (s.ep.flrs + 1) % 2 ^ 32 }).epFault 180 2)

def execEpFlr (s : State) := up s epFlr

/-- Bits of a doubleword that byte enables select. -/
def byteMask (be : Nat) : Nat := (bitsOf 4 be).foldl (fun a i => a + 255 * 256 ^ i) 0

/-- A configuration write (R393-R395). A power state that is not supported leaves the state as it is. -/
def cfgWrite (off be data : Nat) (s : State) : State :=
  let m := byteMask be
  let old := s.cfgVal off
  let wm := s.cfgMask off &&& m
  let new := (old - (old &&& wm)) + (data &&& wm)
  let new := if off = 0x44 ∧ (new % 4 = 1 ∨ new % 4 = 2) then old else new
  let clr := data &&& cfgClear off &&& m
  let clr := clr - (clr &&& tgetD s.ep.cfgNew off 0)
  let new := new - (new &&& clr)
  let s := if s.cfgMask off = 0 ∧ cfgClear off = 0 then s else { s with ep.cfg := tset s.ep.cfg off new }
  if off = 0x88 ∧ (data &&& m).testBit 15 then epFlr s else s

/-- EP_CONFIG_REQUEST (R392, R404): retried until `ep_config_ready` is 1 and while a function-level reset runs. -/
def epConfigRequest (wr : Bool) (off be data : Nat) (s : State) : State :=
  let off := off % 4096 / 4 * 4
  s.when (s.runs 4 2 && !s.ep.perst && s.ep.link) (fun s =>
    if s.objN 0x700005 0 = 0 ∨ s.ep.flr.isSome then s.emit (.cfgCpl 2 0)
    else if wr then (cfgWrite off be data s).emit (.cfgCpl 0 0)
    else s.emit (.cfgCpl 0 (s.cfgRead off)))

def execEpConfigRequest (wr : Bool) (off be data : Nat) (s : State) := up s (epConfigRequest wr off be data)

/-- EP_CONFIG_READY_WRITE (R392, R412). -/
def epConfigReadyWrite (v : Nat) (s : State) : State := if v < 2 then (s.setObj 0x700005 (le 1 v)).status 0 else s.status 4

def execEpConfigReadyWrite (v : Nat) (s : State) := up s (epConfigReadyWrite v)

/-- Some window of the aperture in force holds a range and grants its direction (R397, R412). -/
def State.apertureOk (s : State) (wr : Bool) (off len : Nat) : Bool :=
  (List.range' 0 16).any (fun i =>
    let base := fld s.ep.aperture (16 * i) 8
    let size := fld s.ep.aperture (16 * i + 8) 4
    size ≠ 0 && base ≤ off && off + len ≤ base + size && (fld s.ep.aperture (16 * i + 12) 1).testBit (b2n wr))

/-- One word of a BAR4 write that covers only part of it: merged with a read, and left as it was where the read is uncorrectable (R478). -/
def mergeWord (w lo : Nat) (b : Bytes) (s : State) : State :=
  let (s, _, bad) := s.hbmGet (212 + b2n (inStackB w)) 0 w 8
  if bad then s else s.hbmPut lo b

/-- A BAR4 write (R397, R478): whole words are written, a first and a last word that it covers in part are merged. -/
def bar4Write (off : Nat) (b : Bytes) (s : State) : State :=
  let head := min b.length ((8 - off % 8) % 8)
  let tail := (b.length - head) % 8
  let mid := b.length - head - tail
  let s := if head = 0 then s else mergeWord (off / 8 * 8) off (b.take head) s
  let s := if mid = 0 then s else s.hbmPut (off + head) (sub b head mid)
  if tail = 0 then s else mergeWord (off + head + mid) (off + head + mid) (b.drop (head + mid)) s

/-- BAR4_ACCESS (R397). While PD17 or PD18 is off it completes with Unsupported Request (R53). -/
def bar4Access (x : Bar4Access) (s : State) : State :=
  s.when (s.epRuns && s.ep.link) (fun s =>
    let s := s.count Ev.bar4 0
    let refuse (s : State) : State := let s := unsupported x.wr s; if x.wr then s else s.emit (.barCpl 1 false x.ro [])
    if x.wr ∧ x.poisoned then poisonedWrite s
    else if !s.memSpace ∨ s.d3 ∨ !s.domOn 17 ∨ !s.domOn 18 then refuse s
    else if !s.apertureOk x.wr x.off x.len then refuse (s.count Ev.apRef 0)
    else if x.wr then bar4Write x.off (padTo x.len x.data) s
    else
      let (s, b, bad) := s.hbmGet (212 + b2n (inStackB x.off)) 0 x.off x.len
      s.emit (.barCpl 0 bad x.ro b))

def execBar4Access (a : Bar4Access) (s : State) := up s (bar4Access a)

/-- EP_FUNDAMENTAL_RESET (R404): PERST_EP_N; the reset holds while it is asserted, and as it begins EP_CLKMODE is
sampled (R546). -/
def epFundamentalReset (p : PerstEp) (s : State) : State :=
  if p.asserted && !s.ep.perst then
    let s := { s with ep.perst := true, rst.epClkmode := p.clkmode }
    if s.domReleased 14 then fundamentalReset s else s
  else { s with ep.perst := p.asserted }

/-- Before the Saddle is released the pin's level is followed (R404); the straps are those of the cause's end (R546). -/
def execEpFundamentalReset (p : PerstEp) (s : State) := pin s (epFundamentalReset p) (fun s => { s with ep.perst := p.asserted })

/-- EP_HOT_RESET (R404, R405): the link passes through Detect; a function-level reset in progress starts again. -/
def epHotReset (s : State) : State :=
  s.when (s.runs 4 2 && !s.ep.perst && s.ep.link) (fun s =>
    let s := resetFunction s
    ({ s with ep.link := false, ep.speed := 0, ep.width := 0, ep.flit := false, ep.hot := (s.ep.hot + 1) % 2 ^ 32,
              ep.flr := s.ep.flr.map (fun _ => s.bell.edges) }).epFault 180 1)

def execEpHotReset (s : State) := up s epHotReset

/-- EP_FLR_COMPLETE (R404). -/
def epFlrComplete (s : State) : State := s.when (s.ep.flr.isSome && s.runs 4 2 && !s.ep.perst) (fun s => { s with ep.flr := none })

def execEpFlrComplete (s : State) := up s epFlrComplete

/-- RESET_RECORD_WRITE (R406, R433): once every started entry has ended, the rings are recorded and are Free. -/
def resetRecordWrite (s : State) : State :=
  s.when (s.cor.reset.any (· < s.bell.edges) && s.cor.rings.all (fun r => r.2.jobs.all (fun j => j.ended.any (· < s.bell.edges)))) (fun s =>
    let s := (s.cor.rings.filter (fun r => r.2.state ≠ 0)).foldl (fun s r => rrRing r.1 s) s
    (rrWrite { s with cor.rings := [], cor.reset := none }).epEvent 3)

def execResetRecordWrite (s : State) := up s resetRecordWrite

/-- INTERRUPT_PENDING_SEND (R402). -/
def interruptPendingSend (vec : Nat) (s : State) : State :=
  s.when (s.ep.vectors.contains vec && s.vectorOpen vec) (fun s =>
    sendVector vec { s with ep.vectors := s.ep.vectors.filter (fun v => s.vectorAs v ≠ s.vectorAs vec) })

def execInterruptPendingSend (vec : Nat) (s : State) := up s (interruptPendingSend vec)

/-- A completion that matches no outstanding read (R410). -/
def unexpectedCompletion (s : State) : State := (aerUnc 14 16 true (s.count Ev.epUnexp 0)).epFault 178 0

/-- EP_COMPLETION_TIMEOUT (R409, R410). -/
def epCompletionTimeout (tag : Nat) (s : State) : State :=
  match tget s.ep.tags tag with
  | none => s
  | some t => s.when (s.cplTimeout ≤ s.since t.edge) (fun s =>
      let s := { s with ep.tags := terase s.ep.tags tag, ep.quarantine := tset s.ep.quarantine tag (s.bell.edges + 2 * s.cplTimeout) }
      readFailed t.use 1 ((aerUnc 13 14 false (s.count Ev.epTo 0)).epFault 177 tag))

def execEpCompletionTimeout (tag : Nat) (s : State) := up s (epCompletionTimeout tag)

/-- EP_COMPLETION_RECEIVE (R409, R410). -/
def epCompletionReceive (tag : Nat) (c : Completion) (s : State) : State :=
  s.when (s.runs 4 2 && !s.ep.perst && s.ep.link) (fun s =>
    let s := epCompletionTimeout tag s
    match tget s.ep.tags tag with
    | none => unexpectedCompletion s
    | some t =>
      if c.status ≠ 0 ∨ c.poisoned then
        let s := { s with ep.tags := terase s.ep.tags tag }
        let s := if c.poisoned then poisonedTlp true s else s
        let s := if c.status = 1 then s.cfgSet 0x04 0x20000000 else if c.status = 4 then s.cfgSet 0x04 0x10000000 else s
        readFailed t.use 2 s
      else
        let b := t.data ++ c.data
        if t.len ≤ b.length then readDone t.use (b.take t.len) { s with ep.tags := terase s.ep.tags tag }
        else { s with ep.tags := tset s.ep.tags tag { t with data := b } })

/-- TAG_QUARANTINE_END (R410). -/
def tagQuarantineEnd (tag : Nat) (s : State) : State :=
  s.when ((tget s.ep.quarantine tag).any (· ≤ s.bell.edges)) (fun s => { s with ep.quarantine := terase s.ep.quarantine tag })

def execTagQuarantineEnd (tag : Nat) (s : State) := up s (tagQuarantineEnd tag)

/-- What the endpoint's timers do at an edge: reads that time out fail, quarantined tags are free again, a function-level reset of 977 bells is over,
and pending vectors that may be sent go out (R402, R404, R409, R410). -/
def endpointTimers (s : State) : State :=
  let s := s.ep.tags.foldl (fun s t => epCompletionTimeout t.1 s) s
  let s := s.ep.quarantine.foldl (fun s t => tagQuarantineEnd t.1 s) s
  let s := if s.ep.flr.any (fun e => 977 ≤ s.since e) then epFlrComplete s else s
  s.ep.vectors.foldl (fun s v => interruptPendingSend v s) s

/-- PD14 opens (R53): the link is down. -/
def endpointOff (s : State) : State := { s with ep.link := false, ep.speed := 0, ep.width := 0, ep.flit := false }

end Sys2Proof.Machine
end

