-- ==== Sys2Proof/Machine/Corolo.lean ====
section
/-! DEFINITION. The commands of the Corolo queues (R414-R433) and the BAR0 and BAR2 registers that the endpoint holds. -/

namespace Sys2Proof.Machine

/-! ### Register writes (R393, R396, R399) -/

/-- A posted write that reaches BAR0 or BAR2: lost without a link, an Unsupported Request where the BAR is not decoded or the size is not 4 or 8. -/
def barWrite (ev size : Nat) (f : State → State) (s : State) : State :=
  s.when (s.epRuns && s.ep.link) (fun s =>
    let s := s.count ev 0
    if !s.barOpen ∨ (size ≠ 4 ∧ size ≠ 8) then unsupported true s else f s)

/-! ### Doorbells (R415, R422, R423, R426) -/

/-- A doorbell of a ring: taken only while the ring runs, in D0, and not after an Uncorrectable Internal Error (R399, R411, R415). -/
def doorbell (ev q : Nat) (f : State → State) (s : State) : State :=
  s.when (q < 4096) (fun s =>
    if s.epRuns && s.ep.link && s.d3 then s.count Ev.dbIgn q
    else barWrite Ev.bar2 4 (fun s =>
      let s := if ev = 0 then s else s.count ev q
      if (s.ring q).state = 1 ∧ !s.ep.dead then f s else s.count Ev.dbIgn q) s)

/-- A new tail `t` (R423). -/
def newTail (push : Bool) (q t : Nat) (s : State) : State :=
  let r := s.ring q
  let d := sub32 t r.tail
  if d = 0 then s
  else if 2 ^ 31 ≤ d then stopRing q 2 s
  else if r.size < sub32 t r.head then stopRing q 1 s
  else if push then
    let n := min 4 d
    (s.onRing q (fun r => { r with
      tail := t % 2 ^ 32
      pushed := (List.range' 0 n).foldl (fun p i => tset p (add32 r.tail i) (sub r.push (64 * i) 64)) r.pushed })).count Ev.pushed q n
  else s.onRing q (fun r => { r with tail := t % 2 ^ 32 })

/-- TAIL_DOORBELL (R423). -/
def tailDoorbell (q t : Nat) (s : State) : State := doorbell Ev.tailDb q (newTail false q t) s

def execTailDoorbell (q t : Nat) (s : State) := up s (tailDoorbell q t)

/-- PUSH_DOORBELL (R423): the entries of the push slot as it stands are copied. -/
def pushDoorbell (q t : Nat) (s : State) : State := doorbell Ev.pushDb q (newTail true q t) s

def execPushDoorbell (q t : Nat) (s : State) := up s (pushDoorbell q t)

/-- EXC_CONS_DOORBELL (R426). -/
def excConsDoorbell (q t : Nat) (s : State) : State := doorbell 0 q (fun s => s.onRing q (fun r => { r with excCons := t % 2 ^ 32 })) s

def execExcConsDoorbell (q t : Nat) (s : State) := up s (excConsDoorbell q t)

/-- ENTRY_FETCH_COMPLETE (R409, R424): the completion of the oldest fetch read of the ring that is out, with its status, or poisoned where that is 8. -/
def entryFetchComplete (q : Nat) (entries : List Bytes) (status : Nat) (s : State) : State :=
  match s.ep.tags.find? (fun t => t.2.use.entriesOf q) with
  | none => s
  | some (tag, _) => epCompletionReceive tag { status := if status = 8 then 0 else status, poisoned := status = 8, data := entries.flatMap (padTo 64) } s

/-! ### Volume jobs (R417-R420) -/

/-- Fields of a job's first entry (R417). -/
def jobNsid (e : Bytes) : Nat := fld e 8 4
def jobSegs (e : Bytes) : Nat := fld e 12 4
def jobSlba (e : Bytes) : Nat := fld e 16 8
def jobNlb (e : Bytes) : Nat := fld e 24 4

/-- The segment checks of R417 and R418, in the place of step 10: 0 or the code of class 1. -/
def segFails (kind : Nat) (es : List Bytes) : Nat :=
  let e := es.getD 0 []
  let n := jobSegs e
  let segs := segsOf es
  if kind = 0 ∨ kind = 2 ∨ kind = 6 then
    if 191 < n ∨ es.length ≠ 1 + ceilDiv (n - 2) 3 ∨ (kind = 6 ∧ n ≠ 2) then 3
    else if kind ≠ 6 ∧ segs.foldl (fun a x => a + x.2) 0 ≠ jobNlb e * 4096 then 3
    else if segs.any (fun x => x.1 % 4 ≠ 0 ∨ x.2 % 4 ≠ 0 ∨ x.2 < 4 ∨ 1048576 < x.2) then 4
    else if kind ≠ 6 ∧ jobNlb e = 0 then 5
    else 0
  else if n ≠ 0 ∨ es.length ≠ 1 then 3
  else if kind = 4 ∧ (jobNlb e = 0 ∨ 65536 < jobNlb e) then 5
  else 0

/-- The checks of R194 (steps 4-9 and 11) and of R417 for a job: its failure, or none. Kinds 0 read, 2 write, 4 deallocate, 5 flush. -/
def State.jobFails (s : State) (a kind : Nat) (es : List Bytes) : Option (Nat × Nat × Nat) :=
  let e := es.getD 0 []
  let fail (st : Nat) (dnr : Bool) : Option (Nat × Nat × Nat) := some (2, st + (if dnr then 32768 else 0), 0)
  let seg : Option (Nat × Nat × Nat) := if segFails kind es = 0 then none else some (1, segFails kind es, 0)
  if s.pwrStops then fail 0x05 false
  else if kind = 5 ∧ jobNsid e = 0xFFFFFFFF then seg
  else match s.nsFor a (jobNsid e) with
    | none => fail 0x0B true
    | some (_, n) =>
      if n.state = 2 then fail 0x82 false
      else if n.state = 3 then fail 0x82 true
      else if kind = 5 then seg
      else if isWriteKind kind ∧ tgetD n.access (s.assoc a).group 0 ≠ 2 then fail 0x20 true
      else if kind ≠ 4 ∧ 256 < jobNlb e then fail 0x02 true
      else if s.nsSize n < jobSlba e + jobNlb e then fail 0x80 true
      else if seg.isSome then seg
      else if !resvOk n a (isWriteKind kind) then fail 0x83 true
      else none

/-- The submission entry that stands for a job: its ring number is the command ID (R210, R419); as a capsule's, its fields are in network order (R3). -/
def jobSqe (q kind : Nat) (e : Bytes) : Bytes :=
  le 1 (if kind = 0 then 2 else if kind = 2 then 1 else 9) ++ le 1 0x40 ++ be 2 q ++ be 4 (jobNsid e) ++ zeros 32 ++ be 8 (jobSlba e) ++ be 2 (jobNlb e - 1) ++ zeros 14

/-- A job becomes a command of its ring's association (R419). -/
def jobCommand (q idx kind : Nat) (e : Bytes) (s : State) : State × Nat :=
  let h := ((List.range' 0 (s.tgt.cmds.length + 1)).find? (fun i => (tget s.tgt.cmds (262400 + i)).isNone)).getD 0 + 262400
  let c : Cmd := { key := 2 ^ 40, qpn := 0, assoc := (s.ring q).assoc, qid := 0xFFFF, sqe := jobSqe q kind e, icd := [], ring := some (q, idx),
                   bell := s.bell.number, edge := s.bell.edges, order := s.tgt.nextOrder }
  let s := { s with tgt.cmds := tset s.tgt.cmds h c, tgt.nextOrder := s.tgt.nextOrder + 1 }
  ((setAddress h kind c s).onCmd h (fun c => { c with src := 3 }), h)

/-- Reads of a write job's data, segment by segment (R408, R420). -/
def jobReads (q idx : Nat) (segs : List (Nat × Nat)) (s : State) : State :=
  let pieces : List (Nat × Nat × Nat × Nat) := (segs.zipIdx.foldl (fun (x : Nat × List (Nat × Nat × Nat × Nat)) g =>
    let ps := readPieces s.mrrs (g.1.2 + 1) g.1.1 g.1.2
    (x.1 + g.1.2, x.2 ++ ps.map (fun (p : Nat × Nat) => (g.2, x.1 + (p.1 - g.1.1), p.1, p.2)))) (0, [])).2
  let s := s.onJob q idx (fun j => { j with left := pieces.length })
  pieces.foldl (fun s p => hostRead (.data q idx p.1 p.2.1) p.2.2.1 p.2.2.2 s) s

/-- A volume job that passes its checks goes on as `go`; otherwise it fails. -/
def volumeJob (q kind : Nat) (go : Nat → List Bytes → State → State) (idx : Nat) (es : List Bytes) (s : State) : State :=
  match s.jobFails (s.ring q).assoc kind es with
  | some f => endJob q idx (some f) (if f.2.1 % 32768 = 0x83 then s.count Ev.hostConf 0 else s)
  | none => go idx es s

/-- A counter of a command's namespace. -/
def countNs (h ev amt : Nat) (s : State) : State := match s.cmd h with | some c => s.count ev c.ns amt | none => s

/-- COROLO_READ (R419). -/
def coroloRead (q : Nat) (s : State) : State :=
  startJob q 0x01 (volumeJob q 0 (fun idx es s =>
    let e := es.getD 0 []
    let (s, h) := jobCommand q idx 0 e s
    serveBlocks h (jobNlb e) (countNs h Ev.nsRead 1 s))) s

/-- COROLO_WRITE (R420): its chunks wait until every read of its data has ended. -/
def coroloWrite (q : Nat) (s : State) : State :=
  startJob q 0x02 (volumeJob q 2 (fun idx es s =>
    let e := es.getD 0 []
    let (s, h) := jobCommand q idx 2 e s
    let s := countNs h Ev.nsWrBytes (jobNlb e * 4096) (countNs h Ev.nsWrCmd 1 (s.onCmd h (fun c => { c with phase := .fetching })))
    jobReads q idx (segsOf es) (makeChunks h [(jobSlba e, jobNlb e)] s))) s

/-- COROLO_FLUSH (R204, R419): it ends in the bell after its parse. -/
def coroloFlush (q : Nat) (s : State) : State := startJob q 0x03 (volumeJob q 5 (fun _ _ s => s)) s

/-- COROLO_DEALLOCATE (R204, R419). -/
def coroloDeallocate (q : Nat) (s : State) : State :=
  startJob q 0x04 (volumeJob q 4 (fun idx es s =>
    let e := es.getD 0 []
    let (s, h) := jobCommand q idx 4 e s
    makeChunks h [(jobSlba e, jobNlb e)] (countNs h Ev.nsWrCmd 1 (s.onCmd h (fun c => { c with bufReady := true }))))) s

/-- The response of a dictionary exchange goes to segment 1, and the job ends; one that is too long is not written (R421). -/
def exchangeDone (q idx : Nat) (resp : Bytes) (s : State) : State :=
  match s.job q idx with
  | none => s
  | some j =>
    let b := j.segs.getD 1 (0, 0)
    if b.2 < resp.length then endJob q idx (some (1, 7, 0)) s
    else endJob q idx none (hostWrite 0 b.1 resp s)

/-! ### Head and moderation (R425, R428) -/

/-- HEAD_PUBLISH (R425): behind every posted write of its jobs (R407, R420). -/
def headPublish (q : Nat) (s : State) : State :=
  let r := s.ring q
  s.when (!s.muted && s.epSends && s.ep.writes.isEmpty && 1 ≤ r.state && r.state ≤ 3 && (r.jobs.head?.any (Job.passable s.bell.edges))) (publish q)

def execHeadPublish (q : Nat) (s : State) := up s (headPublish q)

/-- MOD_TIME_EXPIRY (R428). -/
def modTimeExpiry (q : Nat) (s : State) : State :=
  let r := s.ring q
  s.when (!s.muted && r.modTime ≠ 0 && r.passed ≠ 0 && r.modTime ≤ s.since r.passEdge) (ringMessage q)

def execModTimeExpiry (q : Nat) (s : State) := up s (modTimeExpiry q)

/-- Rings whose moderation time runs out at an edge send their message (R428). -/
def moderationEdge (s : State) : State := (s.cor.rings.map (fun r => r.1)).foldl (fun s q => modTimeExpiry q s) s

/-! ### The admin ring (R429) -/

/-- Setup of ring 0 that an enable accepts. -/
def CoroloState.setupOk (c : CoroloState) : Bool :=
  c.base % 64 == 0 && pow2In 16 4096 c.size && c.headAddr % 8 == 0 && c.excBase % 32 == 0 && pow2In 16 65536 c.excSize

/-- A write of 1 to `admin_enable`: from Free or Disabled, with a valid setup, Running at the next edge. -/
def adminOn (s : State) : State :=
  let r := s.ring 0
  let c := s.cor
  if (r.state = 0 ∨ r.state = 4) ∧ c.setupOk ∧ !s.muted then
    let s := { s with cor.enable := true }
    s.onRing 0 (fun r => { r with base := c.base, size := c.size, headAddr := c.headAddr, excBase := c.excBase, excSize := c.excSize, vector := c.vector,
                                  modCount := c.modCount, modTime := c.modTime, mgmt := true, change := some (.run c.start) })
  else s

/-- A write of 0 to `admin_enable`: a disable (R431). -/
def adminOff (s : State) : State :=
  let r := s.ring 0
  let s := { s with cor.enable := false }
  if r.state = 1 ∨ r.state = 2 then s.onRing 0 (fun r => { r with change := some .drain })
  else if (r.state = 0 ∨ r.state = 4) ∧ r.change.isSome then s.onRing 0 (fun r => { r with change := none })
  else s

/-- ADMIN_RING_ENABLE (R429). -/
def adminRingEnable (s : State) : State := barWrite Ev.bar0 4 adminOn s

def execAdminRingEnable (s : State) := up s adminRingEnable

/-- ADMIN_RING_DISABLE (R429, R431). -/
def adminRingDisable (s : State) : State := barWrite Ev.bar0 4 adminOff s

def execAdminRingDisable (s : State) := up s adminRingDisable

/-- A write of 1 to `rr_clear` (R433); a record lost in the same bell leaves `rr_overflow` set (R9). -/
def rrClear (s : State) : State := rrWrite { s with cor.rrList := [], cor.rrOverflow := s.cor.rrNew }

/-- RESET_RECORD_CLEAR (R433). -/
def resetRecordClear (s : State) : State := barWrite Ev.bar0 4 rrClear s

def execResetRecordClear (s : State) := up s resetRecordClear

/-- An admin job names a ring that its action accepts, or fails with class 4 (R429). -/
def adminJob (accept : Nat → Bool) (act : Nat → Nat → Bytes → State → State) (idx : Nat) (es : List Bytes) (s : State) : State :=
  let e := es.getD 0 []
  let q := fld e 8 2
  if es.length ≠ 1 then endJob 0 idx (some (1, 2, 0)) s
  else if q = 0 ∨ 4096 ≤ q then endJob 0 idx (some (4, 1, 0)) s
  else if !accept (s.ring q).state ∨ (s.ring q).change.isSome then endJob 0 idx (some (4, 2, 0)) s
  else act q idx e s

/-- The association can carry a ring (R429). -/
def State.coroloAssocOk (s : State) (a : Nat) : Bool :=
  let first := s.objN 0x700020 0
  (s.assoc a).state == 1 && first ≤ a && a < first + s.objN 0x700021 0

/-- RING_CREATE (R429): the ring's requester entry is cleared (R449). -/
def ringCreate (s : State) : State :=
  startJob 0 0x10 (adminJob (fun st => st = 0) (fun q idx e s =>
    let base := fld e 16 8
    let size := fld e 24 4
    let excSize := fld e 28 4
    let excBase := fld e 32 8
    let headAddr := fld e 40 8
    let mgmt := (fld e 10 1).testBit 0
    if base % 64 ≠ 0 ∨ !pow2In 16 65536 size ∨ excBase % 32 ≠ 0 ∨ !pow2In 16 65536 excSize ∨ headAddr % 8 ≠ 0 then endJob 0 idx (some (4, 3, 0)) s
    else if !s.coroloAssocOk (fld e 12 2) then endJob 0 idx (some (4, 4, 0)) s
    else if 4096 ≤ fld e 14 2 then endJob 0 idx (some (4, 5, 0)) s
    else if mgmt ∧ s.objN 0x700022 1 = 0 then endJob 0 idx (some (4, 6, 0)) s
    else
      let r : Ring := { mgmt := mgmt, assoc := fld e 12 2, vector := fld e 14 2, base := base, size := size, excBase := excBase, excSize := excSize,
                        headAddr := headAddr, modCount := fld e 52 2, modTime := fld e 56 4, push := (s.ring q).push, change := some (.run (fld e 48 4)) }
      { s.onRing q (fun _ => r) with dict.requesters := s.dict.requesters.filter (fun x => x.path ≠ 2 ∨ x.addr ≠ q) })) s

def execRingCreate (s : State) := up s ringCreate

/-- RING_DISABLE (R429, R431). -/
def ringDisable (s : State) : State :=
  startJob 0 0x11 (adminJob (fun st => st = 1 || st = 2) (fun q _ _ s => s.onRing q (fun r => { r with change := some .drain }))) s

def execRingDisable (s : State) := up s ringDisable

/-- RING_DESTROY (R429): disabled if needed, then Free. -/
def ringDestroy (s : State) : State :=
  startJob 0 0x12 (adminJob (fun st => st ≠ 0) (fun q idx _ s =>
    if (s.ring q).state = 4 then endJob 0 idx none { s with cor.rings := terase s.cor.rings q }
    else s.onRing q (fun r => { r with change := if r.state = 3 then none else some .drain, destroy := true }))) s

def execRingDestroy (s : State) := up s ringDestroy

/-- RING_SET_MODERATION (R429): from the next edge. -/
def ringSetModeration (s : State) : State :=
  startJob 0 0x13 (adminJob (fun st => st ≠ 0) (fun q _ e s => s.onRing q (fun r => { r with change := some (.moderate (fld e 52 2) (fld e 56 4)) }))) s

def execRingSetModeration (s : State) := up s ringSetModeration

/-- RING_ENABLE (R429): a Disabled ring runs from its start index. -/
def ringEnable (s : State) : State :=
  startJob 0 0x14 (adminJob (fun st => st = 4) (fun q _ e s => s.onRing q (fun r => { r with change := some (.run (fld e 48 4)) }))) s

def execRingEnable (s : State) := up s ringEnable

/-- RING_DRAIN_COMPLETE (R431): the final head is published and recorded; records that do not fit go to the reset record. -/
def ringDrainComplete (q : Nat) (s : State) : State :=
  let r := s.ring q
  s.when (r.state = 3 && !s.muted && s.runs 4 2 && r.jobs.all (fun j => j.ended.any (· < s.bell.edges))) (fun s =>
    let lost := r.jobs.any (fun j => j.fail.isSome && !j.recorded)
    let s := rrWrite (rrRing q s)
    let s := s.onRing q (fun r => { r with jobs := r.jobs.map (fun j => { j with recorded := true }) })
    let s := publish q s
    let s := if lost then s.epEvent 3 else s
    let s := s.onRing q (fun r => { r with state := 4 })
    let s := if r.destroy then { s with cor.rings := terase s.cor.rings q } else s
    if q = 0 then s else endAdmin [0x11, 0x12] s)

def execRingDrainComplete (q : Nat) (s : State) := up s (ringDrainComplete q)

/-! ### BAR0 and BAR2 registers (R396, R401, R403, R422, R429) -/

/-- A half of a 64-bit register replaced. -/
def half (old : Nat) (hi : Bool) (v : Nat) : Nat := if hi then old % 2 ^ 32 + v * 2 ^ 32 else old / 2 ^ 32 * 2 ^ 32 + v

/-- One doubleword written to the registers of R403, R401 and R429; reserved bits are ignored (R4). -/
def bar0Dword (off v : Nat) (s : State) : State :=
  let v := v % 2 ^ 32
  let idle := (s.ring 0).state = 0 ∨ (s.ring 0).state = 4
  if off = 0x10 then
    let clr := (v % 32) &&& s.ep.ev
    let clr := clr - (clr &&& s.ep.evNew)
    { s with ep.ev := s.ep.ev - clr }
  else if off = 0x18 then
    let rose := (v % 32 - (v % 32 &&& s.ep.evEnable)) &&& s.ep.ev
    { s with ep.evEnable := v % 32, ep.evRose := s.ep.evRose || rose ≠ 0 }
  else if off = 0x1C then { s with ep.evVector := v % 4096 }
  else if 0x10000 ≤ off ∧ off < 0x20000 then
    let e := (off - 0x10000) / 16
    let at' := (off - 0x10000) % 16
    let w := if at' = 0 then v / 4 * 4 else if at' = 12 then v % 2 else v
    { s with ep.msix := tset s.ep.msix e (putAt (s.msixEntry e) at' (le 4 w)) }
  else if off = 0x100028 then (if v.testBit 0 then adminOn s else adminOff s)
  else if off = 0x100040 then (if v.testBit 0 then rrClear s else s)
  else if !(0x100000 ≤ off ∧ off ≤ 0x100034 ∧ idle) then s
  else if off = 0x100000 ∨ off = 0x100004 then { s with cor.base := half s.cor.base (off = 0x100004) v }
  else if off = 0x100008 then { s with cor.size := v }
  else if off = 0x100010 ∨ off = 0x100014 then { s with cor.headAddr := half s.cor.headAddr (off = 0x100014) v }
  else if off = 0x100018 ∨ off = 0x10001C then { s with cor.excBase := half s.cor.excBase (off = 0x10001C) v }
  else if off = 0x100020 then { s with cor.excSize := v }
  else if off = 0x100024 then { s with cor.vector := v % 4096 }
  else if off = 0x10002C then { s with cor.start := v }
  else if off = 0x100030 then { s with cor.modCount := v % 65536 }
  else if off = 0x100034 then { s with cor.modTime := v }
  else s

/-- A write of a push slot (R422). -/
def pushSlotWrite (q off size v : Nat) (s : State) : State := s.onRing q (fun r => { r with push := padTo 256 (putAt (padTo 256 r.push) off (le size v)) })

end Sys2Proof.Machine
end

