-- ==== Sys2Proof/Machine/MemCore.lean ====
section
/-! DEFINITION. The table of the protected memories (R480) and their valid bits as a whole (R482). -/

namespace Sys2Proof.Machine

/-- A protected memory (R480): index within its die, region, size in bytes, whether its code is (72,64). -/
structure MemDesc where
  idx : Nat
  region : Nat
  bytes : Nat
  wide : Bool
deriving DecidableEq, Repr

/-- Memories of a Ridge die. -/
def ridgeMems : List MemDesc := [
  ⟨0, 0, 589824, true⟩, ⟨1, 1, 589824, true⟩, ⟨2, 2, 50331648, true⟩, ⟨3, 2, 2097152, false⟩, ⟨4, 2, 1048576, false⟩,
  ⟨5, 3, 2097152, false⟩, ⟨6, 3, 196608, false⟩, ⟨7, 4, 2097152, false⟩, ⟨8, 4, 196608, false⟩, ⟨9, 5, 16384, false⟩]

/-- Memories of the Saddle, the HBM stacks last. -/
def saddleMems : List MemDesc := [
  ⟨0, 0, 1572864, false⟩, ⟨1, 1, 1572864, false⟩, ⟨2, 2, 1048576, false⟩, ⟨3, 3, 786432, false⟩, ⟨4, 4, 1048576, false⟩,
  ⟨5, 5, 2097152, false⟩, ⟨6, 6, 2097152, true⟩, ⟨7, 7, 786432, false⟩, ⟨8, 8, 786432, false⟩, ⟨9, 9, 4194304, false⟩,
  ⟨10, 10, 524288, false⟩, ⟨11, 7, 25769803776, true⟩, ⟨12, 8, 25769803776, true⟩]

/-- Memories of the Millhouse. -/
def millhouseMems : List MemDesc := [⟨0, 0, 32768, false⟩, ⟨1, 1, 8192, false⟩]

/-- Memories of a die. -/
def memsOf (die : Nat) : List MemDesc :=
  if die < 4 then ridgeMems else if die = 4 then saddleMems else if die = 5 then millhouseMems else []

/-- An instance by its number (R480). -/
def memOf (inst : Nat) : Option MemDesc := (memsOf (inst / 256)).find? (fun m => m.idx = inst % 256)

/-- Whether an instance is an HBM stack. -/
def isStack (inst : Nat) : Bool := inst = 1035 || inst = 1036

/-- On-die instances of a region, with their descriptions. -/
def regionMems (die region : Nat) : List (Nat × MemDesc) :=
  (((memsOf die).filter (fun m => m.region = region)).map (fun m => (die * 256 + m.idx, m))).filter (fun x => !isStack x.1)

/-- An instance of the machine. -/
def State.memInst (s : State) (inst : Nat) : MemInst := tgetD s.mp.insts inst {}

/-- Change an instance. -/
def State.onMem (s : State) (inst : Nat) (f : MemInst → MemInst) : State := { s with mp.insts := tmod s.mp.insts inst {} f }

/-- Every valid bit of a region's memories clears (R482, R506). -/
def clearMems (die region : Nat) (s : State) : State :=
  (regionMems die region).foldl (fun s x => s.onMem x.1 (fun m => { m with filled := none, ran := false, words := [], writeBack := [] })) s

/-- A region starts to run: from now on its words change with what it does. -/
def runMems (die region : Nat) (s : State) : State :=
  (regionMems die region).foldl (fun s x => s.onMem x.1 (fun m => { m with ran := true, words := [] })) s

end Sys2Proof.Machine
end

