-- ==== Sys2Proof/Machine/Drives.lean ====
section
/-! DEFINITION. The drives' bring-up, polls, sideband, LEDs and commands, and firmware's own drive I/O (R98, R352-R362). -/

namespace Sys2Proof.Machine

abbrev driveSet : Nat := 0x610030

/-- The drive of a bay is in a state, and its root port runs. -/
def State.driveIn (s : State) (bay st : Nat) : Bool := bay < 24 && (s.bayOf bay).drive.state = st && s.runs 4 (portRegion bay)

/-- An event of a root port. -/
def portEvent (src bay : Nat) (s : State) : State := s.raise { source := src, die := 4, region := portRegion bay, unit := unitId 4 (portRegion bay) (bay % 12), detail := bay }

/-- Bring-up fails (R353). -/
def bringUpFail (src bay : Nat) (s : State) : State := portEvent src bay (driveState bay 7 s)

/-- A link that trains below 64 GT/s or x4 raises FS151 (R352). -/
def linkTrained (bay speed width : Nat) (s : State) : State :=
  let s := s.onDrive bay (fun d => { d with speed := speed, width := width })
  if speed < 6 ∨ width < 4 then portEvent 151 bay s else s

/-- Bus number of a bay's drive and the size of its memory window (R352). -/
def driveBus (bay : Nat) : Nat := bay + 1
abbrev driveWindow : Nat := 0x4000000

/-- The port assigns the drive's bus and window and sets Max Payload Size to the lesser of 512 bytes and the drive's, and Max Read Request Size to 4,096 bytes (R352, R353). -/
def driveSetup (bay : Nat) (cap : DriveCap) (s : State) : State :=
  (s.onDrive bay (fun d => { d with mps := min 512 cap.mps, capTo := cap.timeout })).emit (.driveSetup bay (driveBus bay) driveWindow (min 512 cap.mps) 4096)

/-- DRIVE_LINK_UP (R352, R353, R362): the end of training, or of a retrain. -/
def driveLinkUp (bay : Nat) (link : DriveLink) (cap : DriveCap) (s : State) : State :=
  let d := (s.bayOf bay).drive
  if s.driveIn bay 1 && !d.linkHeld then driveState bay 2 (driveSetup bay cap (linkTrained bay link.speed link.width (s.count Ev.train bay)))
  else if bay < 24 && d.retrain && s.runs 4 (portRegion bay) then
    let s := s.count Ev.speedCh bay (b2n (d.speed ≠ link.speed || d.width ≠ link.width))
    ((linkTrained bay link.speed link.width (s.count Ev.train bay)).onDrive bay (fun d => { d with retrain := false })).done driveSet 0 (le 1 link.speed ++ le 1 link.width)
  else s

def execDriveLinkUp (bay : Nat) (link : DriveLink) (cap : DriveCap) (s : State) := up s (driveLinkUp bay link cap)

/-- DRIVE_LINK_TIMEOUT (R353). -/
def driveLinkTimeout (bay : Nat) (s : State) : State :=
  s.when (s.driveIn bay 1 && s.objN 0x610005 976563 ≤ s.since (s.bayOf bay).drive.stateEdge) (bringUpFail 150 bay)

def execDriveLinkTimeout (bay : Nat) (s : State) := up s (driveLinkTimeout bay)

/-- DRIVE_CONTROLLER_READY (R353): a BAR0 larger than 64 MiB fails state 2. -/
def driveControllerReady (bay : Nat) (ams : Bool) (bar0 : Nat) (s : State) : State :=
  s.when (s.driveIn bay 2 && !(s.bayOf bay).drive.linkHeld) (fun s =>
    if driveWindow < bar0 then bringUpFail 152 bay s
    else driveState bay 3 (s.onDrive bay (fun d => { d with ams := ams })))

def execDriveControllerReady (bay : Nat) (ams : Bool) (bar0 : Nat) (s : State) := up s (driveControllerReady bay ams bar0)

/-- Bells in which a drive must become ready: the lesser of CAP.TO × 500 ms (488,281.25 bells each) and `enable_timeout` (R353). -/
def State.enableBells (s : State) (bay : Nat) : Nat := min (ceilDiv ((s.bayOf bay).drive.capTo * 1953125) 4) (s.objN 0x610006 29296875)

/-- DRIVE_ENABLE_TIMEOUT (R353). -/
def driveEnableTimeout (bay : Nat) (s : State) : State :=
  s.when (s.driveIn bay 2 && s.enableBells bay ≤ s.since (s.bayOf bay).drive.stateEdge) (bringUpFail 152 bay)

def execDriveEnableTimeout (bay : Nat) (s : State) := up s (driveEnableTimeout bay)

/-- The checks of R354 on SGLS, the maximum transfer and ONCS. -/
def identifyOk (i : DriveIdentify) : Bool :=
  i.sgls % 4 ≠ 0 && (i.mdts = 0 || 1064960 ≤ 2 ^ i.mdts * 2 ^ (12 + i.mpsMin)) && i.oncs.testBit 5

/-- DRIVE_IDENTIFY_COMPLETE (R353, R354, R361). -/
def driveIdentifyComplete (bay : Nat) (i : DriveIdentify) (s : State) : State :=
  s.when (s.driveIn bay 3) (fun s =>
    let s := s.onDrive bay (fun d => { d with ext := i.ext, sgl := i.sgls % 4 ≠ 0, nsBlocks := i.blocks, serial := padTo 20 i.serial, model := padTo 40 i.model,
                                              fwRev := padTo 8 i.fwRev, mdts := i.mdts })
    if !identifyOk i || !i.nsReady then bringUpFail 152 bay s
    else if !i.ext || i.lbaSize ≠ 4096 || i.metaSize ≠ 64 then driveState bay 6 s
    else driveState bay 4 s)

def execDriveIdentifyComplete (bay : Nat) (info : DriveIdentify) (s : State) := up s (driveIdentifyComplete bay info)

/-- DRIVE_QUEUES_CREATED (R353). -/
def driveQueuesCreated (bay : Nat) (ok : Bool) (s : State) : State :=
  s.when (s.driveIn bay 4) (fun s =>
    if ok then driveState bay 5 (s.onDrive bay (fun d => { d with queues := s.objN 0x610003 16, sqTail := [], cqHead := [], cqTurned := [], sqRing := [], cqRing := [], lastCfs := s.bell.edges }))
    else bringUpFail 152 bay s)

def execDriveQueuesCreated (bay : Nat) (ok : Bool) (s : State) := up s (driveQueuesCreated bay ok)

/-- CFS_POLL (R356): CFS = 1 fails the member with cause 1. -/
def cfsPoll (bay : Nat) (cfs : Bool) (s : State) : State :=
  s.when (s.driveIn bay 5 && s.objN 0x610009 977 ≤ s.since (s.bayOf bay).drive.lastCfs) (fun s =>
    let s := s.onDrive bay (fun d => { d with lastCfs := s.bell.edges })
    if cfs then bayLost bay 1 (portEvent 153 bay (driveState bay 7 s)) else s)

/-- A retrain whose link is lost ends with a transfer error (R362). -/
def cutRetrain (bay : Nat) (s : State) : State :=
  if (s.bayOf bay).drive.retrain then (s.onDrive bay (fun d => { d with retrain := false })).done driveSet 4 else s

/-- DRIVE_LINK_DOWN (R353, R356, R363): counted in every drive state; cause 2 once the drive is in service; identifying and creating queues fail without a link (log 142). -/
def driveLinkDown (bay : Nat) (s : State) : State :=
  s.when (bay < 24 && (s.bayOf bay).drive.speed ≠ 0 && s.runs 4 (portRegion bay)) (fun s =>
    let st := (s.bayOf bay).drive.state
    let s := ((cutRetrain bay s).count Ev.linkDn bay).onDrive bay (fun d => { d with speed := 0, width := 0 })
    if st = 5 then bayLost bay 2 (driveState bay 7 s)
    else if st = 3 ∨ st = 4 then bringUpFail 152 bay s
    else s)

/-- DRIVE_AER_ERROR (R356, R363): in every drive state cause 2, and the link is held disabled until the bay leaves state 3. -/
def driveAerError (bay : Nat) (s : State) : State :=
  s.when (bay < 24 && (s.bayOf bay).drive.state ≠ 0 && s.runs 4 (portRegion bay)) (fun s =>
    let s := portEvent 154 bay (((cutRetrain bay s).count Ev.aerU bay).onDrive bay (fun d => { d with linkHeld := true, speed := 0, width := 0 }))
    bayLost bay 2 (if (s.bayOf bay).drive.state = 7 then s else driveState bay 7 s))

/-- SIDEBAND_POLL (R357): only in bay state 3, every `sb_poll` bells; the port reads 8 bytes at address 0x6A, command code 0. -/
def sidebandPoll (bay : Nat) (how : SidebandEnd) (temp warning : Nat) (s : State) : State :=
  let p := s.objN 0x61000A 976563
  s.when (bay < 24 && (s.bayOf bay).state = 3 && p ≠ 0 && p ≤ s.since (s.bayOf bay).drive.lastSb) (fun s =>
    let s := ((s.count Ev.sbPoll bay).onDrive bay (fun d => { d with lastSb := s.bell.edges })).emit (.sideband bay (s.bayObj bay 0x12 1) 0 0x6A [0] 8)
    match how with
    | .nak => s.count Ev.sbNak bay
    | .clockLow => s.count Ev.sbClk bay
    | .ack =>
      let s := s.onDrive bay (fun d => { d with temp := temp % 65536, warning := warning % 256 })
      if warning % 256 = 0 then s else bayEvent 155 bay s)

def execSidebandPoll (bay : Nat) (how : SidebandEnd) (temp warning : Nat) (s : State) := up s (sidebandPoll bay how temp warning)

/-! ### LEDs (R358) -/

/-- On in the first half of each period of `n` bells. -/
def State.blink (s : State) (n : Nat) : Bool := s.bell.edges % n < n / 2

/-- A bay's four LED bits: power, activity, fault, locate, unless forced. -/
def State.bayLeds (s : State) (n : Nat) : Nat :=
  let b := s.bayOf n
  let o := s.bayObj n 0x11 0
  let st := if s.supervised then b.state else 6
  let power := st = 3 || ((st = 2 || st = 7) && s.blink 976562)
  let act := b.drive.lastDone.any (fun e => s.since e < 48 * 1024)
  let bad := st = 5 || b.drive.state = 7 || (st = 4 && s.blink 488281)
  let d := flagWord [(0, power), (1, act), (2, bad)]
  bitmap 4 (fun i => if o.testBit (4 + i) then o.testBit i else d.testBit i)

/-- LED_SHIFT (R358): every 1,024 bells. -/
def ledShift (s : State) : State :=
  s.when (1024 ≤ s.since s.bay.ledEdge) (fun s =>
    ({ s with bay.ledEdge := s.bell.edges }).emit (.leds ((List.range' 0 24).foldl (fun a n => a + s.bayLeds n * 16 ^ n) 0)))

def execLedShift (s : State) := up s ledShift

/-! ### Drive commands (R362) -/

def driveCommand (par : Bytes) (act : Bytes → State → State) (s : State) : State := s.command driveSet driveSet 96 par act

/-- ADMIN_PASSTHROUGH (R362): drive states 5 and 6; the device sets the CID, and the completion entry comes back with DRIVE_COMPLETION. -/
def adminPassthrough (p : Bytes) (s : State) : State :=
  let bay := fld p 1 1
  let st := (s.bayOf bay).drive.state
  if 24 ≤ bay then s.done driveSet 1
  else if st ≠ 5 ∧ st ≠ 6 then s.done driveSet 2
  else
    let e := sub p 16 2 ++ le 2 adminCid ++ sub p 20 60
    let s := s.hbmPut (s.sqeAddr bay 0 (tgetD (s.bayOf bay).drive.sqTail 0 0)) e
    ((s.onDrive bay (fun d => { d with admin := some s.bell.edges, sqTail := ringStep 32 0 d.sqTail, sqRing := oncePer 0 d.sqRing })).count Ev.drAdm bay).emit (.driveAdmin bay e)

def execAdminPassthrough (par : Bytes) (s : State) := up s (driveCommand par adminPassthrough)

/-- ADMIN_TIMEOUT (R362). -/
def adminTimeout (bay : Nat) (s : State) : State :=
  s.when ((s.bayOf bay).drive.admin.any (fun e => s.objN 0x610007 9765625 ≤ s.since e)) (fun s =>
    (s.onDrive bay (fun d => { d with admin := none })).done driveSet 3)

def execAdminTimeout (bay : Nat) (s : State) := up s (adminTimeout bay)

/-- CONTROLLER_RESET (R362): drive states 5-7; bring-up runs again from state 2. -/
def controllerReset (p : Bytes) (s : State) : State :=
  let bay := fld p 1 1
  let st := (s.bayOf bay).drive.state
  if 24 ≤ bay then s.done driveSet 1
  else if st < 5 ∨ 7 < st then s.done driveSet 2
  else (driveState bay 2 (s.onDrive bay (fun d => { d with failed := none, queues := 0 }))).done driveSet 0

def execControllerReset (par : Bytes) (s : State) := up s (driveCommand par controllerReset)

/-- SIDEBAND_TRANSFER (R362): the drive acknowledges and returns bytes, or the outcome is 4. -/
def sidebandTransfer (how : SidebandEnd) (rd : Bytes) (p : Bytes) (s : State) : State :=
  let bay := fld p 1 1
  let w := fld p 4 1
  let r := fld p 5 1
  if 24 ≤ bay ∨ 1 < fld p 2 1 ∨ 64 < w ∨ 64 < r then s.done driveSet 1
  else if (s.bayOf bay).state ≠ 3 then s.done driveSet 2
  else
    let s := (s.count Ev.sbXfer bay).emit (.sideband bay (s.bayObj bay 0x12 1) (fld p 2 1) (fld p 3 1) (sub p 16 w) r)
    match how with
    | .ack => s.done driveSet 0 (padTo r rd)
    | .nak => (s.count Ev.sbNak bay).done driveSet 4
    | .clockLow => (s.count Ev.sbClk bay).done driveSet 4

def execSidebandTransfer (par : Bytes) (how : SidebandEnd) (rd : Bytes) (s : State) := up s (driveCommand par (sidebandTransfer how rd))

/-- LINK_RETRAIN (R362): drive state 5; DRIVE_LINK_UP reports its end. -/
def linkRetrain (p : Bytes) (s : State) : State :=
  let bay := fld p 1 1
  if 24 ≤ bay then s.done driveSet 1
  else if (s.bayOf bay).drive.state ≠ 5 then s.done driveSet 2
  else s.onDrive bay (fun d => { d with retrain := true })

def execLinkRetrain (par : Bytes) (s : State) := up s (driveCommand par linkRetrain)

/-- FIRMWARE_DRIVE_IO (R98): firmware's own commands, through queue 0 or queues 116-127. -/
def firmwareDriveIo (bay queue : Nat) (io : FwDriveIo) (s : State) : State :=
  s.when (bay < 24 && (queue = 0 || (116 ≤ queue && queue ≤ 127)) && (s.bayOf bay).drive.state = 5) (fun s =>
    driveEnqueue bay { op := io.op, lba := io.lba, n := io.nblocks, data := io.data, cdw := io.cdw, consumer := .firmware, queue := queue } s)

def execFirmwareDriveIo (bay queue : Nat) (io : FwDriveIo) (s : State) := up s (firmwareDriveIo bay queue io)

end Sys2Proof.Machine
end

