-- ==== Sys2Proof/Machine/Standby.lean ====
section
/-! DEFINITION. Roles, the fence, the heartbeat pins, the lease and takeover (R364-R389). -/

namespace Sys2Proof.Machine

abbrev standbySet : Nat := 0x540010

def standbyCommand (par : Bytes) (act : Bytes → State → State) (s : State) : State := s.command standbySet standbySet 8 par act

/-- A cause of withdrawal arises (R366): in roles 2 and 3, and while a take-over is about to begin; of several before the edge, the lowest decides. -/
def withdrawFor (cause : Nat) (s : State) : State :=
  if s.stby.role = 2 ∨ s.stby.role = 3 ∨ s.stby.pend = some 2 then
    { s with stby.withdrawal := match s.stby.withdrawal with
        | some (c, e) => some (min c cause, e)
        | none => some (cause, s.bell.edges) }
  else s

/-- The role becomes `r`; the host is told when role 3 is left (R403). -/
def State.setRole (s : State) (r : Nat) : State :=
  let t := { s with stby.role := r }
  if s.stby.role = 3 ∧ r ≠ 3 then t.epEvent 2 else t

/-! ### Commands (R389) -/

/-- ENTER_STANDBY (R364, R365). -/
def enterStandby (_ : Bytes) (s : State) : State :=
  if s.stby.role ≠ 0 then s.done standbySet 2 else ({ s with stby.role := 1 }).done standbySet 0

def execEnterStandby (par : Bytes) (s : State) := up s (standbyCommand par enterStandby)

/-- TAKE_OVER (R380): accepted in role 1 while FENCE_IN_N is released; the rest follows from the next edge. -/
def takeOver (_ : Bytes) (s : State) : State :=
  if s.stby.role ≠ 1 ∨ s.stby.fenceIn then s.done standbySet 2 else { s with stby.pend := some 2 }

def execTakeOver (par : Bytes) (s : State) := up s (standbyCommand par takeOver)

/-- FENCE_RELEASE (R385). -/
def fenceRelease (_ : Bytes) (s : State) : State :=
  if s.stby.role ≠ 3 ∨ s.stby.peerFail ∨ s.stby.beatSeen then s.done standbySet 2
  else ({ s with stby.fenceOut := false }).done standbySet 0

def execFenceRelease (par : Bytes) (s : State) := up s (standbyCommand par fenceRelease)

/-- RESIGN (R386): signed, in role 3; effective at the next edge. -/
def resign (signed : Bool) (_ : Bytes) (s : State) : State :=
  if s.stby.role ≠ 3 then s.done standbySet 2
  else if !signed then s.done standbySet 4
  else ({ s with stby.pend := some 4 }).done standbySet 0

def execResign (signed : Bool) (par : Bytes) (s : State) := up s (standbyCommand par (resign signed))

/-! ### What an edge does -/

/-- Step 1 of R380: role 2, and `bay_enable` = 1 on every seated bay. -/
def takeOverBegin (s : State) : State :=
  let bays := (List.range' 0 24).filter (fun n => (s.bayOf n).seated)
  let s := bays.foldl (fun s n => s.setObj (bayKey n 0x01) [1]) s
  { s with stby.role := 2, stby.stopped := false, stby.take := some { start := s.bell.edges, bays := bays } }

/-- A command that waits for the edge takes effect (R380, R382): the taking over begins, or the appliance stops. -/
def standbyPend (s : State) : State :=
  match s.stby.pend with
  | some 2 => takeOverBegin { s with stby.pend := none }
  | some _ =>
    let s := s.setRole (if s.stby.role = 3 then 1 else s.stby.role)
    { s with stby.pend := none, stby.stopped := true, stby.beat := none, stby.activeOut := false }
  | none => s

/-- HANDOVER_WAIT_END (R380 step 2): every such bay is in state 3, or `handover_wait` bells have passed; the stagger begins. -/
def handoverWaitEnd (s : State) : State :=
  match s.stby.take with
  | none => s
  | some t =>
    let all := t.bays.all (fun n => (s.bayOf n).state = 3)
    s.when (t.waitEnd.isNone && (all || s.objN 0x540009 48829 ≤ s.since t.start)) (fun s =>
      let s := { s with stby.take := some { t with waitEnd := some s.bell.edges } }
      if all then s else s.fault 165 0)

def execHandoverWaitEnd (s : State) := up s handoverWaitEnd

/-- FENCE_STAGGER_EXPIRY (R380 step 3): FENCE_OUT_N is asserted and role 3 entered, unless a withdrawal is due. -/
def fenceStaggerExpiry (s : State) : State :=
  match s.stby.take with
  | none => s
  | some t =>
    s.when (t.waitEnd.any (fun e => s.objN 0x54000A 64 ≤ s.since e) && !s.stby.fenceIn && s.stby.withdrawal.isNone && s.stby.role = 2) (fun s =>
      let on := ((List.range' 0 24).filter (fun n => (s.bayOf n).state = 3)).length
      let late := ((List.range' 0 24).filter (fun n => (s.bayOf n).seated && (s.bayOf n).state ≠ 3)).length
      ({ s with stby.take := none, stby.fenceOut := true, stby.role := 3 }).doneNow standbySet 0 (le 8 s.bell.number ++ le 1 on ++ le 1 late))

def execFenceStaggerExpiry (s : State) := up s fenceStaggerExpiry

/-! ### The fence (R62, R350, R367) -/

/-- FENCE_IN_ASSERT (R350, R367): ports go down, gates turn off, PERST is asserted and every `bay_enable` is 0, at once; roles 2 and 3 withdraw. -/
def fenceInAssert (s : State) : State :=
  s.when (!s.stby.fenceIn) (fun s =>
    let s := { s with stby.fenceIn := true }
    let s := (List.range' 0 144).foldl (fun s p => portSilent p (portGoesDown p s)) s
    let s := (List.range' 0 24).foldl (fun s n => (s.onBay n (fun b => { b with gate := false, auxGate := false, perst := false })).setObj (bayKey n 0x01) [0]) s
    let s := if s.stby.role = 2 ∨ s.stby.pend = some 2 then s.fault 164 0 else if s.stby.role = 3 then s.fault 163 0 else s
    withdrawFor 1 s)

def execFenceInAssert (s : State) := pin s fenceInAssert (fun s => { s with stby.fenceIn := true })

/-- FENCE_IN_RELEASE (R367). -/
def fenceInRelease (s : State) : State := { s with stby.fenceIn := false }

def execFenceInRelease (s : State) := pin s fenceInRelease fenceInRelease

/-- WITHDRAW (R366, R380): at the edge after the cause; a take-over that runs, or is about to begin, ends with outcome 3, or 5 for a fault action. -/
def withdraw (s : State) : State :=
  match s.stby.withdrawal with
  | none => s
  | some (c, e) =>
    s.when (e < s.bell.edges) (fun s =>
      let ran := s.stby.take.isSome || s.stby.pend = some 2
      let s := s.setRole 4
      let s := { s with stby.cause := c, stby.stopped := true, stby.withdrawal := none, stby.pend := none, stby.take := none, stby.beat := none,
                        stby.activeOut := c ≠ 1 }
      if ran then s.doneNow standbySet (if c = 1 then 3 else 5) else s)

def execWithdraw (s : State) := up s withdraw

/-! ### The beat (R368, R369, R379) -/

/-- HB_REFRESH (R368, R388): only 1 is in range; the bell of the write is kept in every role, and counts in role 3. -/
def hbRefresh (v : Nat) (s : State) : State :=
  if v ≠ 1 then s.status 4 else ({ s with stby.hb := some s.bell.edges }).status 0

def execHbRefresh (v : Nat) (s : State) := up s (hbRefresh v)

/-- HB_HOLD_EXPIRY (R368). -/
def hbHoldExpiry (s : State) : State :=
  s.when (s.stby.beat.isSome && s.stby.hb.all (fun e => s.objN 0x540004 195313 < s.since e)) (fun s => { s with stby.beat := none, stby.activeOut := false })

def execHbHoldExpiry (s : State) := up s hbHoldExpiry

/-- BEAT_TOGGLE (R368): every 488 bells. -/
def beatToggle (s : State) : State :=
  s.when (s.stby.beat.any (fun e => 488 ≤ s.since e)) (fun s => { s with stby.beat := some s.bell.edges, stby.activeOut := !s.stby.activeOut })

def execBeatToggle (s : State) := up s beatToggle

/-- ACTIVE_IN_EDGE (R369): a level that has been stable for 8 bells. -/
def activeInEdge (level : Bool) (s : State) : State :=
  s.when (level != s.stby.activeIn) (fun s =>
    { s with stby.activeIn := level, stby.inEdge := s.bell.edges, stby.inBell := s.bell.number, stby.curHad := true, stby.peerFail := false, stby.silent := false })

def execActiveInEdge (level : Bool) (s : State) := pin s (activeInEdge level) (fun s => { s with stby.activeIn := level })

/-- BEAT_WINDOW_END (R369): windows of 1,024 edges from Saddle release. -/
def beatWindowEnd (s : State) : State :=
  s.when ((s.stby.windows + 1) * 1024 ≤ s.bell.edges) (fun s =>
    { s with stby.windows := s.stby.windows + 1, stby.beatSeen := s.stby.curHad && s.stby.lastHad, stby.lastHad := s.stby.curHad, stby.curHad := false })

def execBeatWindowEnd (s : State) := up s beatWindowEnd

/-- PEER_FAIL_DETECT (R369). -/
def peerFailDetect (s : State) : State :=
  s.when (s.stby.activeIn && !s.stby.peerFail && 2048 ≤ s.since s.stby.inEdge) (fun s => ({ s with stby.peerFail := true }).fault 161 0)

def execPeerFailDetect (s : State) := up s peerFailDetect

/-- ACTIVE_IN_SILENCE (R379): once for each silence, in role 1. -/
def activeInSilence (s : State) : State :=
  s.when (s.stby.role = 1 && !s.stby.silent && !s.stby.peerFail && s.objN 0x540005 488282 ≤ s.since s.stby.inEdge) (fun s =>
    ({ s with stby.silent := true }).fault 160 0)

def execActiveInSilence (s : State) := up s activeInSilence

/-! ### The lease (R378) -/

/-- LEASE_CONFIRM (R378). -/
def leaseConfirm (v : Nat) (s : State) : State :=
  if s.stby.role ≠ 3 then s.status 5
  else if s.stby.confirm.any (fun c => v ≤ c) then s.status 4
  else ({ s with stby.confirm := some v, stby.deadline := s.bell.number + s.objN 0x540005 488282 - s.objN 0x540006 97657, stby.lapsed := false }).status 0

def execLeaseConfirm (v : Nat) (s : State) := up s (leaseConfirm v)

/-- LEASE_DEADLINE (R378): the bell number has reached the deadline in role 3; the device withdraws at the next edge. -/
def leaseDeadline (s : State) : State :=
  s.when (s.stby.role = 3 && s.stby.confirm.isSome && !s.stby.lapsed && s.stby.deadline ≤ s.bell.number) (fun s =>
    withdrawFor 2 (({ s with stby.lapsed := true }).fault 162 0))

def execLeaseDeadline (s : State) := up s leaseDeadline

/-! ### The edge -/

/-- A deadline that is reached in another role than 3 has no effect (R378). -/
def leaseEdge (s : State) : State :=
  let s := leaseDeadline s
  if s.stby.confirm.isSome ∧ s.stby.deadline ≤ s.bell.number then { s with stby.lapsed := true } else s

/-- ACTIVE_OUT at an edge (R368): the hold, the next level change, and the start of a beating period. -/
def beatEdge (s : State) : State :=
  let s := beatToggle (hbHoldExpiry s)
  if s.stby.role = 3 ∧ s.stby.beat.isNone ∧ s.stby.hb.any (fun e => e < s.bell.edges ∧ s.since e ≤ s.objN 0x540004 195313) then
    { s with stby.beat := some s.bell.edges, stby.activeOut := true }
  else s

/-- Roles, beats and the lease at an edge (R366, R368, R369, R378, R379, R380, R386): `jump` is by how much the bell number left the number after the last. -/
def standbyEdge (jump : Int) (s : State) : State :=
  let s := { s with stby.deadline := if s.stby.confirm.isSome then ((s.stby.deadline : Int) + jump).toNat else s.stby.deadline }
  leaseEdge (activeInSilence (peerFailDetect (beatWindowEnd (beatEdge (standbyPend (withdraw s))))))

/-- A take-over goes on at the edge, after the bays have been evaluated (R380, steps 2 and 3). -/
def takeOverEdge (s : State) : State := fenceStaggerExpiry (handoverWaitEnd s)

end Sys2Proof.Machine
end

