-- ==== Sys2Proof/Machine/Hier.lean ====
section
/-! DEFINITION. Domains, fences, clusters, die clocks and die links (spec 02). -/

namespace Sys2Proof.Machine

/-! ### Tables (R47, R53, R57) -/

/-- Key of `hier_command` and of its results. -/
abbrev hierSet : Nat := 0x14000A

/-- Key of the results that `reset_command` and `dump_command` share (R514). -/
abbrev resetSet : Nat := 0x7A0020

/-- Domains that a domain requires (R53). -/
def domDeps (d : Nat) : List Nat :=
  if d < 12 then (if d % 3 = 2 then [17, 18] else [d / 3 * 3 + 2])
  else if d = 12 ∨ d = 13 ∨ d = 16 then [17, 18]
  else []

/-- Rank of a domain (R57). -/
def domRank (d : Nat) : Nat :=
  if d < 12 then (if d % 3 = 2 then 1 else 2) else if d = 12 ∨ d = 13 ∨ d = 16 then 1 else 0

/-- Die of a domain. -/
def domDie (d : Nat) : Nat := if d < 12 then d / 3 else if d = 19 then 5 else 4

/-- Regions of a domain (R47). -/
def domRegions (d : Nat) : List Nat := (List.range' 0 (regionCount (domDie d))).filter (fun r => domainOf (domDie d) r = some d)

/-- The domains of a mask in the order in which they are switched on (R57). -/
def rankOrder (m : Nat) : List Nat := [0, 1, 2].flatMap (fun k => (bitsOf 20 m).filter (fun d => domRank d = k))

/-- A region that hierarchy commands may name: it exists and lies outside PD-AO (R559). -/
def regionNamed (die region : Nat) : Bool := (domainOf die region).isSome

/-- A domain's phase set, with the present edge. -/
def setPhase (d : Nat) (p : DomPhase) (s : State) : State :=
  { s with hier.doms := tset s.hier.doms d { phase := p, edge := s.bell.edges } }

/-- A number put into a list that holds none twice. -/
def putIn (x : Nat) (l : List Nat) : List Nat := if l.contains x then l else l ++ [x]

/-! ### Live work (R56, R504) -/

/-- Items held by a region, by slot instance (R47, R528): what a forced switch-off discards. -/
def State.heldItems (s : State) (die region : Nat) : List (Nat × Nat) :=
  let us := (s.bell.units.filter (fun u => u.1 / 65536 = regionKey die region)).map (fun u =>
    ((slotOfUnit die region (codeUnit u.1)).getD 112, (u.2.queues.map (·.2.length)).sum + b2n (0 < u.2.late || u.2.busy.isSome)))
  let own : List (Nat × Nat) :=
    if die < 4 then
      if region = 2 then [(die, s.cellsUsed die + s.receptionUsed die)]
      else if region = 3 ∨ region = 4 then
        let e := 2 * die + (region - 3)
        ((List.range' 0 4).map (fun c =>
          let x := s.cache (4 * e + c)
          (4 + 4 * e + c, x.missQ.length + x.posted.length + x.fetching.length + x.writing.length + (s.xp.held.filter (fun h => h.1 = e ∧ h.2.destQp / 8 % 4 = c)).length)))
        ++ (s.xp.qps.filter (fun q => engOf q.1 = e)).map (fun q =>
          (4 + clOf q.1, q.2.sendQ.length + q.2.resend.length + q.2.resps.length + b2n q.2.ackPend))
        ++ [(4 + 4 * e, (s.xp.control.filter (fun p => p.engine = e)).length + (tgetD s.sw.ingress (144 + e) []).length)]
      else [(112, ((List.range' 0 18).map (fun i => (s.port (36 * die + 18 * region + i)).fifo + s.fifoWaits (36 * die + 18 * region + i))).sum)]
    else if die = 4 then
      if region < 2 then (List.range' 0 12).map (fun i =>
        let b := 12 * region + i
        (86 + b, (s.bayOf b).drive.out.length + ((List.range' 0 128).map (fun q => (s.queue 2 b q).items.length)).sum))
      else if region = 2 then
        [(110, s.ep.tags.length + s.ep.reads.length + s.ep.writes.length
          + (s.cor.rings.map (fun r => (r.2.jobs.filter (fun j => j.ended.isNone)).length)).sum)]
      else if region = 3 then [(70, s.ciph.waiting.length + b2n s.ciph.svc.isSome)]
      else if region = 4 then [(36, s.tgt.cmds.length)]
      else if region = 5 then [(37, s.vol.merges.length + s.vol.rowJobs.length + s.vol.items.length)]
      else if region = 6 then [(69, s.unplaced.length + (s.led.recs.filter (fun r => !r.durable)).length)]
      else []
    else []
  us ++ own

/-- Whether a region holds queued or in-flight items. -/
def State.liveWork (s : State) (die region : Nat) : Bool := (s.heldItems die region).any (fun x => 0 < x.2)

/-- A forced switch-off discards the items of a region as wasted (R56, R528). -/
def discardItems (die region : Nat) (s : State) : State :=
  clearUnits (fun d r => d = die && r = region) ((s.heldItems die region).foldl (fun s x => if x.1 < 112 then s.lateWaste x.1 x.2 else s) s)

/-! ### Fences (R44, R45) -/

/-- A region comes to be fenced: what it has in flight is abandoned; a cipher lane forgets its keys (R44, R306). -/
def fenceOnset (die region : Nat) (s : State) : State :=
  let s := s.bell.units.foldl (fun s u =>
    if u.1 / 65536 = regionKey die region ∧ 0 < u.2.late then abandonItem die region (u.1 % 65536) s else s) s
  if die = 4 ∧ region = 3 then eraseKeys (fun _ => true) s else s

/-- A command fence is set (R44). -/
def setCmdFence (k : Nat) (s : State) : State :=
  let was := s.fenced (k / 256) (k % 256)
  let s := { s with hier.cmdFence := putIn k s.hier.cmdFence }
  if was then s else fenceOnset (k / 256) (k % 256) s

/-- A command fence is released; a region that no longer holds any runs again (R45). -/
def clearCmdFence (k : Nat) (s : State) : State :=
  let s := { s with hier.cmdFence := s.hier.cmdFence.filter (· ≠ k) }
  if s.fenced (k / 256) (k % 256) then s else runMems (k / 256) (k % 256) s

/-! ### Commands (R43-R45, R55-R58) -/

/-- A write of `hier_command`: refused as busy while domain bring-up runs (R559). -/
def hierCommand (par : Bytes) (act : Bytes → State → State) (s : State) : State :=
  if s.rst.bringUpPend || s.hier.run.any (·.bringUp) then s.status 6 else s.command hierSet hierSet 8 par act

/-- Whether every domain of a list in switching order finds its dependencies on or earlier in the list (R55, step 1). -/
def depsMet (on : Nat → Bool) : List Nat → Bool
  | [] => true
  | d :: r => (domDeps d).all on && depsMet (fun x => x = d || on x) r

/-- DOMAIN_ON (R55 step 1, R57). -/
def domainOn (p : Bytes) (s : State) : State :=
  let m := fld p 0 4
  let ds := rankOrder m
  let off := ds.filter (fun d => !s.domOn d)
  if 2 ^ 20 ≤ m then s.done hierSet 5
  else if !depsMet s.domOn ds then s.done hierSet 1
  else if off.isEmpty then s.done hierSet 0
  else { s with hier.run := some { on := true, forced := false, bringUp := false, queue := off } }

def execDomainOn (par : Bytes) (s : State) := up s (hierCommand par domainOn)

/-- DOMAIN_OFF and DOMAIN_FORCED_OFF (R56 step 1, R57): refused whole where a dependant stays on, or work is live. -/
def domainOffAs (forced : Bool) (p : Bytes) (s : State) : State :=
  let m := fld p 0 4
  let ds := (rankOrder m).reverse.filter s.domOn
  if 2 ^ 20 ≤ m then s.done hierSet 5
  else if (List.range' 0 20).any (fun q => s.domOn q && !ds.contains q && (domDeps q).any (fun d => ds.contains d)) then s.done hierSet 1
  else if !forced && ds.any (fun d => (domRegions d).any (s.liveWork (domDie d))) then s.done hierSet 2
  else if ds.isEmpty then s.done hierSet 0
  else { s with hier.run := some { on := false, forced := forced, bringUp := false, queue := ds } }

/-- DOMAIN_OFF (R56). -/
def domainOff (p : Bytes) (s : State) : State := domainOffAs false p s

def execDomainOff (par : Bytes) (s : State) := up s (hierCommand par domainOff)

/-- DOMAIN_FORCED_OFF (R56). -/
def domainForcedOff (p : Bytes) (s : State) : State := domainOffAs true p s

def execDomainForcedOff (par : Bytes) (s : State) := up s (hierCommand par domainForcedOff)

/-- The clusters that a command names (R58); none where the region or cluster does not exist or lies in PD-AO (R559). -/
def clustersNamed (p : Bytes) : Option (List Nat) :=
  let die := fld p 5 1
  let r := fld p 6 1
  let c := fld p 7 1
  if !regionNamed die r then none
  else if c = 0xFF then some ((List.range' 0 (clusterCount die r)).map (clusterKey die r))
  else if c < clusterCount die r then some [clusterKey die r c]
  else none

/-- CLUSTER_QUIESCE (R43): no new item from the next edge; the outcome waits for QUIESCE_COMPLETE. -/
def clusterQuiesce (p : Bytes) (s : State) : State :=
  match clustersNamed p with
  | none => s.done hierSet 5
  | some cs =>
    { s with
      hier.quietPend := s.hier.quietPend ++ cs.map (fun c => (c, true))
      hier.quiesce := some { die := fld p 5 1, region := fld p 6 1, clusters := cs, edge := s.bell.edges } }

def execClusterQuiesce (par : Bytes) (s : State) := up s (hierCommand par clusterQuiesce)

/-- CLUSTER_RESUME (R43): in effect from the next guard interval. -/
def clusterResume (p : Bytes) (s : State) : State :=
  match clustersNamed p with
  | none => s.done hierSet 5
  | some cs => ({ s with hier.quietPend := s.hier.quietPend ++ cs.map (fun c => (c, false)) }).done hierSet 0

def execClusterResume (par : Bytes) (s : State) := up s (hierCommand par clusterResume)

/-- QUIESCE_COMPLETE (R43): the second edge after acceptance, or the first after it at which no unit of the clusters is late. -/
def quiesceComplete (s : State) : State :=
  match s.hier.quiesce with
  | none => s
  | some q =>
    let late := s.bell.units.any (fun u => 0 < u.2.late && u.1 / 65536 = regionKey q.die q.region
      && q.clusters.contains (clusterKey q.die q.region (u.1 % 65536 / unitsPerCluster q.die q.region)))
    s.when (2 ≤ s.since q.edge && !late) (fun s => ({ s with hier.quiesce := none }).doneNow hierSet 0)

def execQuiesceComplete (s : State) := up s quiesceComplete

/-- What the two fence commands share (R44, R45): the change falls at the next edge, which sets the outcome. -/
def fenceCommand (on : Bool) (p : Bytes) (s : State) : State :=
  if !regionNamed (fld p 5 1) (fld p 6 1) then s.done hierSet 5
  else { s with hier.fencePend := s.hier.fencePend ++ [(regionKey (fld p 5 1) (fld p 6 1), on)] }

/-- REGION_COMMAND_FENCE (R44). -/
def regionCommandFence (p : Bytes) (s : State) : State := fenceCommand true p s

def execRegionCommandFence (par : Bytes) (s : State) := up s (hierCommand par regionCommandFence)

/-- REGION_COMMAND_UNFENCE (R45). -/
def regionCommandUnfence (p : Bytes) (s : State) : State := fenceCommand false p s

def execRegionCommandUnfence (par : Bytes) (s : State) := up s (hierCommand par regionCommandUnfence)

/-! ### Switching on (R55, R57) -/

/-- A domain has failed to come on: its switches are open, FS22, and no later domain of the command starts. -/
def domainFails (d : Nat) (s : State) : State :=
  let s := (setPhase d .off s).fault 22 d
  { s with hier.run := s.hier.run.map (fun r => { r with failed := true, queue := [] }) }

/-- DOMAIN_SWITCH_START (R55 step 2, R57): the next domain of the command once its dependencies are on and 49 bells have passed since the last start.
A domain of a die held out of service is never started. -/
def domainSwitchStart (d : Nat) (s : State) : State :=
  match s.hier.run with
  | none => s
  | some r =>
    let next := r.on && !r.failed && r.queue.head? = some d && (domDeps d).all s.domOn
    if !next then s
    else if s.hier.heldOut.contains (domDie d) then domainFails d s
    else s.when (s.hier.lastSwitch.all (fun e => 49 ≤ s.since e)) (fun s =>
      let s := setPhase d .switching s
      { s with hier.lastSwitch := some s.bell.edges, hier.run := some { r with queue := r.queue.drop 1 } })

def execDomainSwitchStart (d : Nat) (s : State) := up s (domainSwitchStart d)

/-- Edges since a domain's switches started to close. -/
def State.sinceSwitch (s : State) (d : Nat) : Nat := s.since (tgetD s.hier.doms d {}).edge

/-- A domain's phase changes and the edge of its switch start stays. -/
def movePhase (d : Nat) (p : DomPhase) (s : State) : State :=
  { s with hier.doms := tmod s.hier.doms d {} (fun x => { x with phase := p }) }

/-- DOMAIN_POWER_GOOD (R55 steps 3, 4): within 200 µs. -/
def domainPowerGood (d : Nat) (s : State) : State :=
  s.when (d < 20 && s.domPhase d = .switching && s.sinceSwitch d ≤ 195) (movePhase d .good)

def execDomainPowerGood (d : Nat) (s : State) := up s (domainPowerGood d)

/-- DOMAIN_PG_TIMEOUT (R55 steps 3, 5). -/
def domainPgTimeout (d : Nat) (s : State) : State :=
  s.when (d < 20 && (s.domPhase d = .switching || s.domPhase d = .good) && 196 ≤ s.sinceSwitch d) (domainFails d)

def execDomainPgTimeout (d : Nat) (s : State) := up s (domainPgTimeout d)

/-- What the release of a domain starts besides its regions: PD14 the endpoint's fundamental reset (R404), PD19 the bays (R351). -/
def releaseHook (d : Nat) (s : State) : State :=
  if d = 14 then fundamentalReset s else if d = 19 then baysStart s else s

/-- DOMAIN_RELEASE (R55 step 5, R482): at an edge with clock-good, within 200 µs; each region starts with a command fence, its memories unwritten. -/
def domainRelease (d : Nat) (s : State) : State :=
  s.when (d < 20 && s.domPhase d = .good && s.hier.clockGood.getD (domDie d) false && s.sinceSwitch d ≤ 195) (fun s =>
    let s := movePhase d .released s
    let s := (domRegions d).foldl (fun s r =>
      clearMems (domDie d) r { s with hier.cmdFence := putIn (regionKey (domDie d) r) s.hier.cmdFence }) s
    releaseHook d s)

def execDomainRelease (d : Nat) (s : State) := up s (domainRelease d)

/-- Self-test of the cipher's lanes while PD15 comes on (R307): a failed lane leaves dispatch until device reset. -/
def laneTest (failed : Nat) (s : State) : State :=
  (bitsOf 16 failed).foldl (fun s i =>
    ({ s with ciph.lanes := tmod s.ciph.lanes i {} (fun x => { x with inService := false }) }).faultAt 133 4 3 i) s

/-- Links of a ridge train while its domain comes on (R50, R55 step 6). -/
def linksTrain (n : Nat) (s : State) : State :=
  { s with hier.linkDown := s.hier.linkDown.filter (fun l =>
      l ≠ n && !((List.range' 0 4).any (fun m => m ≠ n && meshLink n m = l))) }

/-- DOMAIN_TRAINED (R55 step 6). -/
def domainTrained (d failedLanes : Nat) (s : State) : State :=
  s.when (d < 20 && s.domPhase d = .released) (fun s =>
    let s := movePhase d .on s
    if d = 15 then laneTest failedLanes s else if d < 12 ∧ d % 3 = 2 then linksTrain (d / 3) s else s)

def execDomainTrained (d failedLanes : Nat) (s : State) := up s (domainTrained d failedLanes)

/-! ### Switching off (R53, R56) -/

/-- The contents of a domain are lost (R53, R56 step 4). -/
def contentsLost (d : Nat) (s : State) : State :=
  let s := clearUnits (fun die r => domainOf die r = some d) s
  if d < 12 then
    if d % 3 = 2 then
      let n := d / 3
      let s := dropCopies Ev.flushed (fun c => s.instRidge c.inst = n) s
      evalXoff { s with
        xp.caches := s.xp.caches.filter (fun c => c.1 / 8 ≠ n)
        xp.held := s.xp.held.filter (fun h => h.1 / 2 ≠ n)
        xp.control := s.xp.control.filter (fun p => p.engine / 2 ≠ n)
        sw.reception := terase s.sw.reception n
        sw.credit := terase s.sw.credit n
        sw.ingress := s.sw.ingress.filter (fun i => i.1 < 144 || (i.1 - 144) / 2 ≠ n) }
    else (List.range' 0 18).foldl (fun s i => let p := 36 * (d / 3) + 18 * (d % 3) + i; portSilent p (portGoesDown p { s with sw.ingress := terase s.sw.ingress p })) s
  else if d = 12 ∨ d = 13 then portsOff d s
  else if d = 14 then endpointOff s
  else if d = 15 then eraseKeys (fun _ => true) { s with ciph.waiting := [], ciph.svc := none }
  else if d = 16 then
    { s with tgt.cmds := [], tgt.arrived := [], tgt.parse := 0, tgt.inboxHeld := [], vol.claims := [], vol.granted := [], vol.opWaited := [], vol.merges := [], vol.rowJobs := [], vol.items := []
             led := { pwrfailBell := s.led.pwrfailBell, pwrLow := s.led.pwrLow } }
  else if d = 17 ∨ d = 18 then
    { s with mem := s.mem.lose (d = 18), xp.qps := [], xp.regions := [], cc.rates := [] }
  else if d = 19 then baysOff s
  else s

/-- Step 2 of R56 for the domain at the head of a switch-off. -/
def fenceDomain (forced : Bool) (d : Nat) (s : State) : State :=
  (domRegions d).foldl (fun s r =>
    let s := setCmdFence (regionKey (domDie d) r) s
    if forced then discardItems (domDie d) r s else s) (setPhase d .fenced s)

/-- DOMAIN_RETENTION_LOST (R56 step 5). -/
def domainRetentionLost (d : Nat) (s : State) : State := s.when (d < 20 && s.domPhase d = .clamped) (setPhase d .off)

def execDomainRetentionLost (d : Nat) (s : State) := up s (domainRetentionLost d)

/-! ### The edge -/

/-- Fences that fall due (R44, R45), each ending its command: outcome 4 where a fault fence remains at an unfence. -/
def takeFences (s : State) : State :=
  s.hier.fencePend.foldl (fun s f =>
    if f.2 then (setCmdFence f.1 s).doneNow hierSet 0
    else (clearCmdFence f.1 s).doneNow hierSet (if s.faultFenced (f.1 / 256) (f.1 % 256) then 4 else 0)) { s with hier.fencePend := [] }

/-- Clusters that fall due (R43). -/
def takeQuiet (s : State) : State :=
  s.hier.quietPend.foldl (fun s c =>
    { s with hier.quiesced := if c.2 then putIn c.1 s.hier.quiesced else s.hier.quiesced.filter (· ≠ c.1) }) { s with hier.quietPend := [] }

/-- A domain command or bring-up has ended; bring-up reports a failure as a state error (R57, R514). -/
def endRun (r : HierRun) (outcome : Nat) (s : State) : State :=
  let s := { s with hier.run := none }
  if r.bringUp then s.doneNow resetSet (if outcome = 0 then 0 else 2) else s.doneNow hierSet outcome

/-- A switch-off at an edge (R56, R57): what was fenced at the edge before is clamped; after a domain has gone below retention the next is fenced. -/
def offEdge (r : HierRun) (s : State) : State :=
  match r.queue with
  | [] => endRun r 0 s
  | d :: q =>
    match s.domPhase d with
    | .on => fenceDomain r.forced d s
    | .fenced => setPhase d .clamped (contentsLost d s)
    | .off =>
      (match q with
       | [] => endRun r 0 s
       | e :: _ => fenceDomain r.forced e { s with hier.run := some { r with queue := q } })
    | _ => s

/-- Some domain is on its way to being on. -/
def State.switching (s : State) : Bool :=
  (List.range' 0 20).any (fun d => match s.domPhase d with
    | .switching | .good | .released => true
    | _ => false)

/-- A switch-on at an edge (R57): it ends once every domain that has started has settled. -/
def onEdge (r : HierRun) (s : State) : State :=
  if r.queue.isEmpty && !s.switching then endRun r (if r.failed then 3 else 0) s else s

/-- Domain bring-up starts at the edge after its command (R499, step 7), under R55 and R57. -/
def startBringUp (s : State) : State :=
  let s := { s with rst.bringUpPend := false }
  let ds := rankOrder (s.objN 0x140002 0x000FFFFF)
  let off := ds.filter (fun d => !s.domOn d)
  if !depsMet s.domOn ds then s.doneNow resetSet 2
  else if off.isEmpty then s.doneNow resetSet 0
  else { s with hier.run := some { on := true, forced := false, bringUp := true, queue := off } }

/-- The hierarchy at an edge. -/
def hierEdge (s : State) : State :=
  let s := takeQuiet (takeFences s)
  match s.hier.run with
  | some r => if r.on then onEdge r s else offEdge r s
  | none => if s.rst.bringUpPend then startBringUp s else s

/-! ### Die clocks and links (R50-R52, R560) -/

/-- A region is fault-fenced from an edge on (R467, R475). -/
def faultFence (die region edge : Nat) (permanent : Bool) (s : State) : State :=
  if !regionNamed die region then s
  else
    let was := s.fenced die region
    let old := tget s.flt.fences (regionKey die region)
    let s := if old.isSome then s else s.count Ev.fncApp 0
    let s := { s with flt.fences := tset s.flt.fences (regionKey die region) { lastEdge := edge, permanent := permanent || old.any (·.permanent) } }
    if was then s else fenceOnset die region s

/-- The regions of a die have been released: a region of a switchable domain, or on the Saddle the regions 9 and 10 of the Saddle release, which any later moment follows (R52, R499). -/
def State.dieReleased (s : State) (die : Nat) : Bool :=
  die = 4 || (List.range' 0 (regionCount die)).any (fun r => (domainOf die r).any s.domReleased)

/-- CLOCK_GOOD_LOST (R52): after a release, the regions outside PD-AO are fault-fenced, the links clamped, the logic of PD-AO runs from the always-on oscillator, and the die is
held out until device reset. -/
def clockGoodLost (die : Nat) (s : State) : State :=
  s.when (die < 6 && s.hier.clockGood.getD die false) (fun s =>
    let s := { s with hier.clockGood := s.hier.clockGood.set die false }
    if s.dieReleased die then
      let rs := (List.range' 0 (regionCount die)).filter (regionNamed die)
      let s := rs.foldl (fun s r => faultFence die r s.bell.edges true s) s
      let s := { s with hier.heldOut := putIn die s.hier.heldOut, hier.clamped := putIn die s.hier.clamped, hier.oscillator := putIn die s.hier.oscillator }
      s.faultAt (16 + die) die (houseRegion die) 0
    else s)

def execClockGoodLost (die : Nat) (s : State) := up s (clockGoodLost die)

/-- The two ends of a link (R560): 0-3 Ridge n to Saddle, 4-9 the mesh pairs; 4 stands for the Saddle. -/
def linkEnds (l : Nat) : Nat × Nat :=
  match l with
  | 4 => (0, 1)
  | 5 => (0, 2)
  | 6 => (0, 3)
  | 7 => (1, 2)
  | 8 => (1, 3)
  | 9 => (2, 3)
  | n => (n, 4)

/-- An event of a link names its die and its ends (R560). -/
def linkEvent (src l : Nat) (s : State) : State :=
  s.raise { source := src, die := (linkEnds l).1, detail := (linkEnds l).1 + 256 * (linkEnds l).2 }

/-- UCIE_RETRY (R50). -/
def ucieRetry (link : Nat) (s : State) : State := s.when (link < 10) (linkEvent 23 link)

def execUcieRetry (link : Nat) (s : State) := up s (ucieRetry link)

/-- UCIE_LINK_FAIL (R50): FS24-FS27 for a link to the Saddle, FS28-FS33 for a mesh link. -/
def ucieLinkFail (link : Nat) (s : State) : State :=
  s.when (link < 10 && !s.hier.linkDown.contains link) (fun s =>
    linkEvent (24 + link) link { s with hier.linkDown := putIn link s.hier.linkDown })

def execUcieLinkFail (link : Nat) (s : State) := up s (ucieLinkFail link)

end Sys2Proof.Machine
end

