-- ==== Sys2Proof/Machine/Memory.lean ====
section
/-! DEFINITION. The protected memories: fills, test access, errors and buckets (R478-R491). -/

namespace Sys2Proof.Machine

/-- Key of `mp_command` and of its results. -/
abbrev mpSet : Nat := 0x790010

/-- A write of `mp_command`. -/
def mpCommand (par : Bytes) (act : Bytes → State → State) (s : State) : State := s.command mpSet mpSet 40 par act

/-! ### Fills (R484) -/

/-- REGION_FILL (R483, R484, R491): a region in PD-AO, or one that is not command-fenced, is refused with outcome 2. The outcome waits for FILL_COMPLETE. -/
def regionFill (p : Bytes) (s : State) : State :=
  let die := fld p 1 1
  let r := fld p 2 1
  if regionCount die ≤ r then s.done mpSet 1
  else if !s.cmdFenced die r then s.done mpSet 2
  else { s with mp.fill := some { hbm := false, die := die, region := r, base := 0, len := 0, pattern := fld p 8 8, edge := s.bell.edges } }

def execRegionFill (par : Bytes) (s : State) := up s (mpCommand par regionFill)

/-- HBM_FILL (R484, R491): base and length are multiples of 4 KiB within HBM. -/
def hbmFill (p : Bytes) (s : State) : State :=
  let base := fld p 16 8
  let len := fld p 24 8
  if base % 4096 ≠ 0 ∨ len % 4096 ≠ 0 ∨ hbmSize < base + len then s.done mpSet 1
  else { s with mp.fill := some { hbm := true, die := 4, region := 7, base := base, len := len, pattern := fld p 8 8, edge := s.bell.edges } }

def execHbmFill (par : Bytes) (s : State) := up s (mpCommand par hbmFill)

/-- A stack that is off holds nothing. -/
def dropOffStacks (s : State) : State :=
  let s := if s.domReleased 17 then s else { s with mem := s.mem.lose false }
  if s.domReleased 18 then s else { s with mem := s.mem.lose true }

/-- The words of a fill are written (R482, R484): every valid bit or written-map bit it covers is set. -/
def fillWords (f : FillRun) (s : State) : State × Nat :=
  if f.hbm then
    let p := f.base / 4096
    let n := f.len / 4096
    let nb := (p + n) / 2 - p / 2
    let s := dropOffStacks { s with mem := (s.mem.lay f.base f.len (.word f.pattern)).markPages p n }
    ((s.count Ev.mFill 1035 ((n - nb) * 4096)).count Ev.mFill 1036 (nb * 4096), f.len)
  else
    let ran := !s.cmdFenced f.die f.region
    let ms := regionMems f.die f.region
    (ms.foldl (fun s x => (s.onMem x.1 (fun m => { m with filled := some f.pattern, ran := ran, words := [], writeBack := [] })).count Ev.mFill x.1 x.2.bytes) s,
      (ms.map (fun x => x.2.bytes)).sum)

/-- Bells that a fill takes (R28, R484): 256 bytes in each cycle of the budget window of the region's die, or 1.6 TB/s of HBM. -/
def FillRun.bells (f : FillRun) : Nat :=
  if f.hbm then ceilDiv f.len 1638400
  else ceilDiv ((regionMems f.die f.region).map (fun x => x.2.bytes)).sum (256 * (if f.die < 4 then 1600 else if f.die = 4 then 1500 else 50))

/-- FILL_COMPLETE (R484). DESIGN CHOICE (log 149): the bell of acceptance counts as the first of those that the fill takes. -/
def fillComplete (s : State) : State :=
  match s.mp.fill with
  | none => s
  | some f =>
    s.when (f.bells ≤ s.since f.edge + 1) (fun s =>
      let r := fillWords f { s with mp.fill := none }
      r.1.doneNow mpSet 0 (le 8 r.2))

def execFillComplete (s : State) := up s fillComplete

/-! ### Test access (R485) -/

/-- Byte address of a word of an HBM stack (R266). -/
def stackByte (inst w : Nat) : Nat := (w / 512 * 2 + (inst - 1035)) * 4096 + w % 512 * 8

/-- What the two test accesses share: outcome 1 for an instance or address that does not exist, 2 where an on-die region is not command-fenced. -/
def testAccess (p : Bytes) (s : State) (go : Nat → MemDesc → Nat → State → State) : State :=
  let inst := fld p 2 2
  let a := fld p 8 8
  match memOf inst with
  | none => s.done mpSet 1
  | some m =>
    if m.bytes ≤ a * 8 then s.done mpSet 1
    else if !isStack inst && !s.cmdFenced (inst / 256) m.region then s.done mpSet 2
    else go inst m a s

/-- TEST_WRITE (R485): data and check bits are stored unencoded, and the word's valid bit is set. -/
def testWrite (p : Bytes) (s : State) : State :=
  testAccess p s (fun inst m a s =>
    let c := fld p 24 5 % (if m.wide then 256 else 2 ^ 40)
    let s :=
      if isStack inst then
        let x := stackByte inst a
        { s with mem := ((s.mem.write x (sub p 16 8)).markPages (x / 4096) 1).setCheck (x / 8) c }
      else s.onMem inst (fun x => { x with words := tset x.words a (fld p 16 8, c) })
    s.done mpSet 0)

def execTestWrite (par : Bytes) (s : State) := up s (mpCommand par testWrite)

/-- Stored data, check bits and valid bit of an on-die word; free values where the spec does not give what the word holds. -/
def storedWord (inst : Nat) (m : MemDesc) (a : Nat) (s : State) : State × Nat × Nat × Bool :=
  let x := s.memInst inst
  match tget x.words a with
  | some w => (s, w.1, w.2, true)
  | none =>
    if x.ran then
      let d := s.free % 2 ^ 64
      let t := s.took
      let c := t.free % (if m.wide then 256 else 2 ^ 40)
      let t := t.took
      (t.took, d, c, t.free % 2 = 1)
    else match x.filled with
      | some w => (s, w, Config.eccEncode m.wide w, true)
      | none => (s.took.took, s.free % 2 ^ 64, s.took.free % (if m.wide then 256 else 2 ^ 40), false)

/-- TEST_READ (R485): the stored bits, the syndrome, and the verdict of a normal read, with no correction, write-back or report. -/
def testRead (p : Bytes) (s : State) : State :=
  testAccess p s (fun inst m a s =>
    let (s, d, c, valid) : State × Nat × Nat × Bool :=
      if isStack inst then
        let x := stackByte inst a
        let d := ofLe (s.mem.read x 8)
        (s, d, (tget s.mem.checks (x / 8)).getD (Config.eccEncode true d), s.mem.pageWritten x)
      else storedWord inst m a s
    let v := Config.eccCheck m.wide d c
    s.done mpSet 0 (le 8 d ++ le 5 c ++ le 5 v.1 ++ le 1 (if valid then v.2 else 3)))

def execTestRead (par : Bytes) (s : State) := up s (mpCommand par testRead)

/-- Spare rows and columns an instance's repair map uses: none for a stack, or where the map could not be loaded (R481, R500). -/
def State.spares (s : State) (inst : Nat) : Nat × Nat :=
  if isStack inst || s.rst.fuseStatus.testBit (inst / 256) then (0, 0)
  else ((Config.sparesUsed inst).1.toNat, (Config.sparesUsed inst).2.toNat)

/-- The instance query's result (R491). -/
def State.instanceBytes (s : State) (inst : Nat) : Bytes :=
  let x := s.memInst inst
  le 8 x.corrected ++ le 8 x.uncorrectable ++ le 2 x.bucket ++ le 2 (s.spares inst).1 ++ le 2 (s.spares inst).2
    ++ le 6 x.lastAddr ++ le 1 x.lastVerdict

/-- INSTANCE_QUERY (R491). -/
def instanceQuery (p : Bytes) (s : State) : State :=
  if (memOf (fld p 2 2)).isNone then s.done mpSet 1 else s.done mpSet 0 (s.instanceBytes (fld p 2 2))

def execInstanceQuery (par : Bytes) (s : State) := up s (mpCommand par instanceQuery)

/-! ### Errors (R479, R486) -/

/-- CORRECTED_WRITEBACK (R479): the corrected word is written back. DESIGN CHOICE (log 150): where a write to the word has come first, the row is not sent. -/
def correctedWriteback (inst addr : Nat) (s : State) : State :=
  s.when ((s.memInst inst).writeBack.contains addr) (fun s =>
    let s := (s.onMem inst (fun m => { m with writeBack := m.writeBack.filter (· ≠ addr) })).count Ev.mWb inst
    if isStack inst then
      let x := stackByte inst addr
      match tget s.mem.checks (x / 8) with
      | some c => s.hbmPut x (le 8 (Config.eccFix (ofLe (s.mem.read x 8)) c))
      | none => s
    else s)

def execCorrectedWriteback (inst addr : Nat) (s : State) := up s (correctedWriteback inst addr)

/-- The instance's own source (R486). -/
def ownSource (inst : Nat) : Nat :=
  if inst = 1035 then 212 else if inst = 1036 then 213
  else if inst / 256 < 4 then 206 + inst / 256 else if inst / 256 = 4 then 210 else 211

/-- The source an uncorrectable read raises with the word in its detail. -/
def raiseOwn (e : MemError) (s : State) : State :=
  match memOf e.inst with
  | none => s
  | some m => s.faultAt (ownSource e.inst) (e.inst / 256) m.region (memDetail e.inst e.addr (e.verdict = 3))

/-- The record, and the slot of its image, that holds a byte of the staging partition. -/
def State.imageAt (s : State) (a : Nat) : Option (Rec × Nat) :=
  s.led.recs.findSome? (fun r => ((List.range' 0 r.size).find? (fun i => s.stageAddr r.slot i ≤ a && a < s.stageAddr r.slot i + 4160)).map (fun i => (r, i)))

/-- The granary's part in an uncorrectable read (R292): an index entry, or a block of a staged image. -/
def granaryError (src a : Nat) (s : State) : State :=
  if src = 116 then
    let slot := (a - s.objN 0x480010 0) / 32
    let s := cacheRemove (fun x => s.stagingBlocks + s.operandBlocks + x.slot = slot) s
    match s.imageAt (s.slotAddr slot) with
    | some (r, i) => loseIndexed r.place (i - 1) s
    | none => s
  else match s.imageAt a with
    | some (r, i + 1) => imageLost r i s
    | _ => s

/-- What an uncorrectable read of an HBM area does to its consumer, whose source it raises (R131, R220, R292, R355, R480). -/
def stackConsumer (src : Nat) (e : MemError) (s : State) : State :=
  let a := stackByte e.inst e.addr
  let s := s.faultAt src (hbmPlace src a).1 (hbmPlace src a).2 e.handle
  if 64 ≤ src ∧ src < 72 then enterError e.handle 8 (s.count Ev.ctxErr (clOf e.handle))
  else if src = 90 then abandon e.handle s
  else if src = 121 then cacheRemove (fun x => x.slot = e.handle) s
  else if src = 157 then bayLost e.handle 1 s
  else if 116 ≤ src ∧ src ≤ 118 then granaryError src a s
  else s

/-- What an uncorrectable read of an on-die memory does (R480, R486): the consumer's handling and source, or the instance's own source and an abandoned item. -/
def onDieConsumer (e : MemError) (s : State) : State :=
  let n := e.inst / 256
  let i := e.inst % 256
  if n < 4 then
    if i < 2 then (raiseOwn e s).count Ev.fcs e.handle
    else if i = 2 then dropCopies Ev.flushed (fun c => c.frame = e.handle && s.instRidge c.inst = n) (raiseOwn e s)
    else if i = 3 then (raiseOwn e s).lateWaste n
    else if i = 4 then
      { (raiseOwn e s) with sw.fdb := s.sw.fdb.filter (fun x => !(x.vid = e.handle / 2 ^ 48 && x.mac = e.handle % 2 ^ 48)) }
    else if i < 9 then
      enterError e.handle 8 ((s.engineFault (64 + engOf e.handle) (engOf e.handle) (s.qpn e.handle)).count Ev.ctxErr (clOf e.handle))
    else raiseOwn e s
  else if n = 4 then
    if i < 2 then bayLost e.handle 1 (raiseOwn e s)
    else if i = 2 then endpointInternalError s
    else if i = 3 then (raiseOwn e s).lateWaste (70 + e.handle % 16)
    else if i = 4 then abandon e.handle (s.faultAt 90 4 4 e.handle)
    else if i = 5 then (raiseOwn e s).lateWaste (37 + e.handle % 32)
    else if i = 6 then { raiseOwn e s with led.buffer := s.led.buffer.filter (fun x => x.1 ≠ e.handle) }
    else if i = 10 ∧ e.consumer = some 192 then { s.faultAt 192 4 10 e.handle with dict.requesters := s.dict.requesters.eraseIdx e.handle }
    else raiseOwn e s
  else raiseOwn e s

/-- The bay whose part of the drive queue area holds an address (R355). -/
def State.queueArea (s : State) (a : Nat) : Option Nat :=
  let base := s.objN 0x610002 0
  if base ≤ a ∧ a < base + 0xC000000 then some ((a - base) / 0x800000) else none

/-- One memory error of the bell (R479, R486). -/
def memError (e : MemError) (s : State) : State :=
  if (memOf e.inst).isNone then s
  else if e.verdict = 1 then s.memCorrected e.inst e.addr
  else
    let s := s.memUncorrectable e.inst e.addr (e.verdict = 3)
    if isStack e.inst then
      match s.queueArea (stackByte e.inst e.addr), e.consumer with
      | some bay, none => stackConsumer 157 { e with handle := bay } s
      | some bay, some 157 => stackConsumer 157 { e with handle := bay } s
      | _, some src => stackConsumer src e s
      | none, none => raiseOwn e s
    else onDieConsumer e s

/-! ### Buckets (R487) -/

/-- A bucket at an evaluation edge: the bell's corrected errors are added, and an overflow raises the die's source and empties it; of the endpoint's memory it is a Corrected Internal Error too (R411). -/
def bucketEdge (inst : Nat) (m : MemInst) (s : State) : State :=
  if m.fresh = 0 then s
  else
    let b := m.bucket + m.fresh
    let above := s.objN 0x790001 16 < b
    let s := s.onMem inst (fun m => { m with bucket := if above then 0 else b, fresh := 0 })
    let s := if above ∧ inst = 1026 then aerCorr 5 14 s else s
    if above then (s.count Ev.mBkt inst).faultAt (200 + inst / 256) (inst / 256) (houseRegion (inst / 256)) inst else s

/-- Every bucket. -/
def bucketsEdge (s : State) : State := s.mp.insts.foldl (fun s x => bucketEdge x.1 x.2 s) s

/-- BUCKET_LEAK (R487): the number of the bell that has been evaluated is a multiple of `leak_interval`. -/
def bucketLeak (inst : Nat) (s : State) : State :=
  let m := s.memInst inst
  s.when (0 < s.bell.edges && m.leakEdge ≠ s.bell.edges && s.bell.prev % s.objN 0x790002 976563 = 0) (fun s =>
    s.onMem inst (fun m => { m with bucket := m.bucket - 1, leakEdge := s.bell.edges }))

/-- Every bucket leaks where the bell that has been evaluated calls for it (R487). -/
def bucketsLeak (s : State) : State := (s.mp.insts.filter (fun x => x.2.bucket ≠ 0)).foldl (fun s x => bucketLeak x.1 s) s

def execBucketLeak (inst : Nat) (s : State) := up s (bucketLeak inst)

end Sys2Proof.Machine
end

