-- ==== Sys2Proof/Machine/Faults.lean ====
section
/-! DEFINITION. The package fault collector (R463-R477). -/

namespace Sys2Proof.Machine

/-! ### Sources and their configuration (R463-R465) -/

/-- Default severities of the used sources, as runs of numbers: first, last, severity (R463 and the chapters' tables). -/
def severityRuns : List (Nat × Nat × Nat) := [
  (0, 1, 0), (2, 2, 4), (3, 3, 2), (8, 13, 2), (14, 14, 4), (16, 21, 4), (22, 22, 2), (23, 23, 1), (24, 27, 4), (28, 33, 2),
  (34, 37, 0), (38, 53, 2), (54, 55, 0), (64, 71, 2), (72, 72, 4), (73, 75, 0), (80, 81, 0), (88, 89, 0), (90, 90, 2), (91, 91, 3),
  (92, 92, 0), (96, 98, 2), (99, 99, 0), (100, 101, 2), (102, 103, 1), (104, 104, 2), (105, 105, 4), (112, 114, 2), (116, 116, 4),
  (117, 117, 1), (118, 118, 4), (119, 119, 0), (120, 120, 4), (121, 121, 1), (128, 128, 2), (129, 131, 0), (132, 133, 2), (134, 135, 4),
  (136, 136, 0), (137, 137, 4), (144, 146, 2), (147, 147, 3), (148, 150, 2), (151, 151, 0), (152, 154, 2), (155, 155, 0), (156, 157, 2),
  (160, 160, 2), (161, 161, 0), (162, 163, 3), (164, 164, 0), (165, 165, 2), (176, 178, 0), (179, 179, 2), (180, 180, 0), (184, 186, 0),
  (192, 192, 2), (193, 193, 0), (194, 194, 2), (200, 209, 2), (210, 211, 4), (212, 213, 2), (232, 232, 0), (233, 235, 2), (236, 238, 0),
  (264, 264, 2), (480, 511, 0)]

/-- Default severity of a source, firmware sources among them; none where it is not used. -/
def defaultSeverity (src : Nat) : Option Nat := (severityRuns.find? (fun r => r.1 ≤ src && src ≤ r.2.1)).map (fun r => r.2.2)

/-- Key of the `source_cfg` object that holds a source's byte. -/
abbrev cfgKey (j : Nat) : Nat := 0x780040 + j

/-- Default of `source_cfg` object `j` (R464). -/
def defaultCfg (j : Nat) : Bytes :=
  (List.range' 0 32).map (fun i => match defaultSeverity (32 * j + i) with
    | some v => BitVec.ofNat 8 (128 + v)
    | none => 0)

/-- Default action set of a severity (R465). -/
def defaultActions (sev : Nat) : Nat := if sev < 2 then 1 else if sev = 2 then 3 else if sev = 3 then 11 else 31

/-- A source's byte in force for the evaluation (R464). -/
def State.srcCfg (s : State) (src : Nat) : Nat := fld (tgetD s.flt.cfg (cfgKey (src / 32)) (defaultCfg (src / 32))) (src % 32) 1

/-- A severity's action set in force for the evaluation (R465). -/
def State.sevActions (s : State) (sev : Nat) : Nat := ofLe (tgetD s.flt.cfg (0x780010 + sev) (le 4 (defaultActions sev)))

/-- SOURCE_CFG_WRITE (R464): refused whole where any byte has a severity of 5-7; an entry of an unused source has no effect; in force from the next bell. -/
def sourceCfgWrite (j : Nat) (v : Bytes) (s : State) : State :=
  if 16 ≤ j then s.status 1
  else if 32 < v.length then s.status 3
  else
    let v := padTo 32 v
    if (List.range' 0 32).any (fun i => 5 ≤ fld v i 1 % 8) then s.status 4
    else
      let w := (List.range' 0 32).map (fun i => if (defaultSeverity (32 * j + i)).isSome then (v.getD i 0) &&& 0x87#8 else 0#8)
      (((s.setObj (cfgKey j) w).persist).status 0)

def execSourceCfgWrite (j : Nat) (v : Bytes) (s : State) := up s (sourceCfgWrite j v)

/-- SEVERITY_ACTIONS_WRITE (R465, R488): count reads 1, reserved bits 0; INFO and CORRECTED never fence, signal the peer or halt. -/
def severityActionsWrite (sev v : Nat) (s : State) : State :=
  let w := v % 32 / 2 * 2 + 1
  if 5 ≤ sev then s.status 1
  else if sev < 2 ∧ 4 ≤ w then s.status 4
  else (((s.setObj (0x780010 + sev) (le 4 w)).persist).status 0)

def execSeverityActionsWrite (sev v : Nat) (s : State) := up s (severityActionsWrite sev v)

/-- FAULT_INJECT (R477): one event in the bell of the write, with no place. -/
def faultInject (par : Bytes) (s : State) : State :=
  if 10 < par.length then s.status 3
  else
    let src := fld par 0 2
    if (defaultSeverity src).isNone then s.status 4
    else (((s.raise { source := src, detail := fld par 2 8, injected := true }).count Ev.inject 0).status 0)

def execFaultInject (par : Bytes) (s : State) := up s (faultInject par)

/-! ### Evaluation (R465-R473) -/

/-- Whether an event goes before another as the one to report (R469). -/
def FaultEvent.before (a b : FaultEvent) : Bool :=
  if a.injected ≠ b.injected then b.injected
  else if a.die ≠ b.die then a.die < b.die
  else if a.region ≠ b.region then a.region < b.region
  else a.unit < b.unit

/-- The event to report: the first of the foremost place (R469). -/
def reported : FaultEvent → List FaultEvent → FaultEvent
  | e, [] => e
  | e, f :: r => reported (if f.before e then f else e) r

/-- A log entry (R472). -/
def logEntry (bell era src sev acts : Nat) (e : FaultEvent) (more : Nat) : Bytes :=
  le 8 bell ++ le 4 era ++ le 2 src ++ le 1 sev ++ le 1 acts ++ le 1 e.die ++ le 1 e.region ++ le 2 e.unit ++ le 8 e.detail ++ le 4 (min more (2 ^ 32 - 1))

/-- A halt (R468 steps 1-3): the fences fall at the following edge. A later halt adds nothing. -/
def halt (src : Nat) (s : State) : State :=
  if s.flt.halted then s
  else
    let s := ({ s with flt.halted := true, flt.haltEdge := some s.bell.edges, flt.haltSource := src }).epEvent 1
    (List.range' 0 8).foldl (fun s e => if s.fenced (e / 2) (3 + e % 2) then s else s.postEvent 6 e src 0 0 0 0) s

/-- The actions of one source's severity (R465-R467). -/
def takeActions (src sev acts : Nat) (es : List FaultEvent) (s : State) : State :=
  let s := if acts.testBit 1 then ({ s with flt.irqBell := s.bell.number }).emit .faultIrq else s
  let s := if acts.testBit 2 then es.foldl (fun s e => faultFence e.die e.region (s.bell.edges - 1) (sev = 4) s) s else s
  let s := if acts.testBit 3 then withdrawFor 3 s else s
  if acts.testBit 4 then halt src s else s

/-- A source's record (R489). -/
def State.source (s : State) (src : Nat) : SourceStatus := tgetD s.flt.sources src {}

/-- One source's events of the bell that has ended are evaluated (R464, R469). -/
def evalSource (src : Nat) (es : List FaultEvent) (s : State) : State :=
  match es with
  | [] => s
  | e :: r =>
    let n := es.length
    let c := s.srcCfg src
    let sev := c % 8
    let old := s.source src
    let counted := { old with count := min (old.count + n) (2 ^ 32 - 1), lastBell := s.bell.prev, lastEra := s.bell.prevEra }
    let s := s.count (Ev.evSev0 + sev) 0 n
    if !c.testBit 7 then { s with flt.sources := tset s.flt.sources src counted }
    else
      let acts := s.sevActions sev
      let bits := acts / 2 % 16 + (if 2 ≤ sev then 16 else 0) + (if es.any (·.injected) then 32 else 0)
      let fresh := old.active = 0
      let now := { counted with
        lastEdge := s.bell.edges - 1
        active := if sev = 4 then 2 else if fresh then 1 else old.active
        worst := if fresh then sev else max old.worst sev
        actions := if fresh then bits else old.actions ||| bits
        activeBell := if fresh then s.bell.prev else old.activeBell }
      let s := takeActions src sev acts es { s with flt.sources := tset s.flt.sources src now }
      let entry := logEntry s.bell.prev s.bell.prevEra src sev bits (reported e r) (n - 1)
      let s := if ofLe (tgetD s.flt.cfg 0x780006 [0]) ≤ sev then
          { s with flt.log := tset s.flt.log (s.flt.logProd % 256) entry, flt.logProd := (s.flt.logProd + 1) % 2 ^ 32 } else s
      if 2 ≤ sev ∧ s.flt.firstFault.isNone then { s with flt.firstFault := some entry } else s

/-- Whether an event drives FAULT_N (R470): its source is enabled at DEGRADED or worse. -/
def State.pulses (s : State) (e : FaultEvent) : Bool := (s.srcCfg e.source).testBit 7 && 2 ≤ s.srcCfg e.source % 8

/-- Objects whose written values wait for the evaluation of the bell's events (R464, R465). -/
def heldKeys : List Nat := [0x780006] ++ (List.range' 0 5).map (0x780010 + ·) ++ (List.range' 0 16).map cfgKey

/-- Sources in ascending order, each once. -/
def sourcesOf (es : List FaultEvent) : List Nat := (List.range' 0 512).filter (fun i => es.any (fun e => e.source = i))

/-- The events of one bell, in ascending source number (R469), and the pulse of FAULT_N that they start (R470). -/
def evalEvents (es : List FaultEvent) (s : State) : State :=
  if es.isEmpty then s
  else
    let pulse := es.any s.pulses
    let s := s.count Ev.evals 0
    let s := (sourcesOf es).foldl (fun s i => evalSource i (es.filter (fun e => e.source = i)) s) s
    if pulse then ({ s with flt.pulseEdge := some s.bell.edges }).count Ev.fnPulse 0 else s

/-- FAULT_EVALUATION (R469): the events of the bell that has ended are evaluated; then the values written in that bell come into force. -/
def evaluateFaults (s : State) : State :=
  let s := evalEvents s.flt.events { s with flt.events := [] }
  { s with flt.cfg := heldKeys.foldl (fun t k => match tget s.dict.objs k with
      | some v => tset t k v
      | none => t) s.flt.cfg }

/-- A change decided at the edge just passed: what it raises is an event of the bell that ended there, evaluated at that edge (R338, R469). -/
def ofEndedBell (f : State → State) (s : State) : State :=
  let r := f { s with flt.events := [] }
  let r := evalEvents r.flt.events { r with flt.events := [] }
  { r with flt.events := s.flt.events ++ r.flt.events }

/-! ### The halt's fences, FAULT_N, the capture -/

/-- Regions that a halt fences (R468). -/
def haltRegions : List (Nat × Nat) :=
  ((List.range' 0 4).flatMap (fun d => (List.range' 0 5).map (fun r => (d, r)))) ++ [(4, 0), (4, 1), (4, 3), (4, 4), (4, 5), (4, 6)]

/-- HALT_FENCE (R468 step 4). -/
def haltFence (s : State) : State :=
  s.when (s.flt.haltEdge.any (· < s.bell.edges)) (fun s =>
    haltRegions.foldl (fun s r => faultFence r.1 r.2 s.bell.edges true s) { s with flt.haltEdge := none })

def execHaltFence (s : State) := up s haltFence

/-- FAULT_N_PULSE_END (R470): ten bells from the edge of the evaluation. -/
def faultNPulseEnd (s : State) : State :=
  s.when (s.flt.pulseEdge.any (fun e => 10 ≤ s.since e)) (fun s => { s with flt.pulseEdge := none })

def execFaultNPulseEnd (s : State) := up s faultNPulseEnd

/-- FAULT_N_HOLD_WRITE (R470). -/
def faultNHoldWrite (v : Nat) (s : State) : State := if v < 2 then (s.setObj 0x780003 (le 1 v)).status 0 else s.status 4

def execFaultNHoldWrite (v : Nat) (s : State) := up s (faultNHoldWrite v)

/-- FAULT_N is low (R470, R501). -/
def State.faultNLow (s : State) : Bool :=
  s.flt.pulseEdge.isSome || s.objN 0x780003 0 = 1 || s.flt.erralHold || s.rst.stopLow

/-- FIRST_FAULT_REARM (R473): a write of 1. -/
def firstFaultRearm (v : Nat) (s : State) : State :=
  if v = 1 then ({ s with flt.firstFault := none }).status 0 else s.status 4

def execFirstFaultRearm (v : Nat) (s : State) := up s (firstFaultRearm v)

/-! ### Recovery (R474, R475) -/

/-- `quiet_period`. -/
def State.quietPeriod (s : State) : Nat := s.objN 0x780002 1048576

/-- Whether an edge count lies `quiet_period` bells before the bell just evaluated. -/
def State.quietSince (s : State) (e : Nat) : Bool := 0 < s.bell.edges && e + s.quietPeriod ≤ s.bell.edges - 1

/-- SOURCE_RECOVERY (R474). -/
def sourceRecovery (src : Nat) (s : State) : State :=
  let x := s.source src
  s.when (x.active = 1 && s.quietSince x.lastEdge) (fun s =>
    { s with flt.sources := tset s.flt.sources src { x with active := 0, recoveries := (x.recoveries + 1) % 2 ^ 32 } })

def execSourceRecovery (src : Nat) (s : State) := up s (sourceRecovery src)

/-- FAULT_FENCE_RELEASE (R475): the region's own last fencing event was `quiet_period` bells ago, and none of its causes stays until reset. -/
def faultFenceRelease (die region : Nat) (s : State) : State :=
  match tget s.flt.fences (regionKey die region) with
  | none => s
  | some f =>
    s.when (!f.permanent && s.quietSince f.lastEdge) (fun s =>
      let s := ({ s with flt.fences := terase s.flt.fences (regionKey die region) }).count Ev.fncRel 0
      if s.fenced die region then s else runMems die region s)

/-- What leaves its fault state at an evaluation (R474, R475): sources, then regions. -/
def recoverAll (s : State) : State :=
  let s := (s.flt.sources.filter (fun x => x.2.active = 1)).foldl (fun s x => sourceRecovery x.1 s) s
  s.flt.fences.foldl (fun s x => faultFenceRelease (x.1 / 256) (x.1 % 256) s) s

def execFaultFenceRelease (die region : Nat) (s : State) := up s (faultFenceRelease die region)

end Sys2Proof.Machine
end

