-- ==== Sys2Proof/Machine/Pins.lean ====
section
/-! DEFINITION. The time pins and the temperature sensors (R547, R552, R556). -/

namespace Sys2Proof.Machine

/-- PPS_IN_EDGE (R547): a rising edge at PTP time `t` in nanoseconds replaces the stored one. -/
def ppsInEdge (t : Nat) (s : State) : State :=
  { s with pins.ppsBell := s.bell.number, pins.ppsTime := t, pins.ppsCount := (s.pins.ppsCount + 1) % 2 ^ 32 }

def execPpsInEdge (t : Nat) (s : State) := up s (ppsInEdge t)

/-- `pps_in_capture` (R556). -/
def State.ppsBytes (s : State) : Bytes :=
  if s.pins.ppsCount = 0 then zeros 24
  else le 8 s.pins.ppsBell ++ le 8 (s.pins.ppsTime / 1000000000) ++ le 4 (s.pins.ppsTime % 1000000000) ++ le 4 s.pins.ppsCount

/-- PPS_OUT may be high (R547). -/
def State.ppsOn (s : State) : Bool := s.objN 0x120031 0 = 1 && s.bell.aligned

/-- The whole PTP second that falls in the current bell, in nanoseconds. -/
def State.wholeSecond (s : State) : Option Nat :=
  let r := s.bell.ptp % 1000000000
  let k := if r = 0 then s.bell.ptp else s.bell.ptp - r + 1000000000
  if k < s.bell.ptp + s.bellSpan.1 then some k else none

/-- PPS_OUT_RISE (R547). -/
def ppsOutRise (s : State) : State :=
  match s.wholeSecond with
  | none => s
  | some k => s.when (s.ppsOn && s.pins.ppsOut.isNone) (fun s => { s with pins.ppsOut := some k })

def execPpsOutRise (s : State) := up s ppsOutRise

/-- PPS_OUT_FALL (R547): 100 ms after it rose. -/
def ppsOutFall (s : State) : State :=
  s.when (s.pins.ppsOut.any (fun k => k + 100000000 < s.bell.ptp + s.bellSpan.1)) (fun s => { s with pins.ppsOut := none })

def execPpsOutFall (s : State) := up s ppsOutFall

/-- At an edge PPS_OUT goes low where it may no longer be high (R547). -/
def pinsEdge (s : State) : State := if s.ppsOn then s else { s with pins.ppsOut := none }

/-- The higher of two readings. -/
def hotter (a b : Option Int) : Option Int :=
  match a, b with
  | some x, some y => some (max x y)
  | none, y => y
  | x, none => x

/-- TEMP_SENSOR_UPDATE (R552): every 1,024 bells; a stack's reading is unavailable while its domain is off. Eight updates of a die's sensor at the limit drive THERMTRIP_N low. -/
def tempSensorUpdate (temps : List (Option Int)) (s : State) : State :=
  s.when (1024 ≤ s.since s.pins.tempEdge) (fun s =>
    let ts := (List.range' 0 8).map (fun i =>
      if (i = 6 ∧ !s.domOn 17) ∨ (i = 7 ∧ !s.domOn 18) then none else temps.getD i none)
    let lim : Int := (s.objN 0x140022 125 * 10 : Nat)
    let hot := (List.range' 0 6).map (fun i => match ts.getD i none with
      | some t => if lim ≤ t then s.pins.hot.getD i 0 + 1 else 0
      | none => 0)
    { s with pins := { s.pins with
      temps := ts
      peaks := (List.range' 0 8).map (fun i => hotter (s.pins.peaks.getD i none) (ts.getD i none))
      hot := hot
      tempEdge := s.bell.edges
      tripped := s.pins.tripped || hot.any (8 ≤ ·) } })

def execTempSensorUpdate (temps : List (Option Int)) (s : State) := up s (tempSensorUpdate temps)

/-- Eight readings as I16, 0x7FFF where unavailable (R556). -/
def tempBytes (l : List (Option Int)) : Bytes :=
  (List.range' 0 8).flatMap (fun i => match l.getD i none with
    | some t => leI 2 t
    | none => le 2 0x7FFF)

end Sys2Proof.Machine
end

