-- ==== Sys2Proof/Machine/Reset.lean ====
section
/-! DEFINITION. Device reset and bring-up, self-test, the post-mortem dump and the TAP (spec 17), and boot verification (R318-R321). -/

namespace Sys2Proof.Machine

/-! ### Causes (R493-R497, R502, R512) -/

/-- Whether the closed dump can be kept through a reset by RESET_N (R512). -/
def State.keepsDump (s : State) : Bool := s.objN 0x7A0006 0 = 1 && s.rst.dump.closed && s.domOn 17 && s.domOn 18

/-- What a cause does at once (R496, R497, R503): everything outside the fuses, the pins' levels and a dump that may yet be kept is gone.
The model's own record and counter, and the queue, stay. -/
def resetTaken (cause : Nat) (s : State) : State :=
  let keep := cause = 3 && s.keepsDump
  { State.born with
    pending := s.pending
    sent := s.sent
    freeIdx := s.freeIdx
    mem := if keep then s.mem else {}
    hier := { doms := if keep then [(17, { phase := .on }), (18, { phase := .on })] else [], clockGood := [false, false, false, false, false, false] }
    ciph := { rollback := s.ciph.rollback, revoked := s.ciph.revoked }
    bay := { bays := s.bay.bays.map (fun b => (b.1, { ({} : Bay) with pinA := b.2.pinA, pinB := b.2.pinB })) }
    stby := { fenceIn := s.stby.fenceIn, activeIn := s.stby.activeIn }
    ep := { perst := s.ep.perst }
    pins := { tripped := s.pins.tripped && cause = 3 }
    rst := {
      phase := .cause
      holding := [cause]
      deciding := cause
      keep := keep
      cause := s.rst.cause
      warm := s.rst.warm
      valid := []
      jtag := if cause = 3 then s.rst.jtag else .reset
      boundary := s.rst.boundary
      dump := { retBase := s.objN 0x7A0005 0, retLen := s.rst.dump.length } } }

/-- A further cause before Saddle release belongs to the same device reset and restarts it (R502, R512). -/
def causeAgain (cause : Nat) (s : State) : State :=
  let keep := s.rst.keep && cause = 3
  { s with
    mem := if keep then s.mem else {}
    hier := { doms := if keep then s.hier.doms else [], clockGood := [false, false, false, false, false, false] }
    bell := {}
    pins := { s.pins with tripped := s.pins.tripped && cause = 3 }
    ciph.identityOk := true
    rst := { s.rst with
      phase := .cause
      holding := putIn cause s.rst.holding
      deciding := min cause s.rst.deciding
      keep := keep
      valid := []
      fuseStatus := 0
      recorded := []
      stretch := true
      stopLow := false
      jtag := if cause = 3 then s.rst.jtag else .reset } }

/-- A reset cause is taken: 1 the power-on detector, 2 PORST_N, 3 RESET_N. -/
def takeCause (cause : Nat) (s : State) : State :=
  match s.rst.phase with
  | .up => resetTaken cause s
  | _ => causeAgain cause s

/-- POWER_ON_DETECT (R495). -/
def powerOnDetect (s : State) : State := takeCause 1 s

def execPowerOnDetect (s : State) : Host.Outcome State Fault Refusal := effect s (powerOnDetect s)

/-- PORST_N_ASSERT (R494). -/
def porstNAssert (s : State) : State := takeCause 2 s

def execPorstNAssert (s : State) : Host.Outcome State Fault Refusal := effect s (porstNAssert s)

/-- RESET_N_ASSERT (R494). -/
def resetNAssert (s : State) : State := takeCause 3 s

def execResetNAssert (s : State) : Host.Outcome State Fault Refusal := effect s (resetNAssert s)

/-- RESET_CAUSE_END (R367, R498, R502, R546): the last cause ends, the straps and FENCE_IN_N are read as they stand, and each die begins its fuse load with its valid flag clear. -/
def resetCauseEnd (drvClkmode epClkmode fenceInLow : Bool) (s : State) : State :=
  s.when (s.rst.phase = .cause) (fun s =>
    { s with
      stby.fenceIn := fenceInLow
      rst := { s.rst with phase := .fuses, holding := [], valid := [], fuseStatus := 0, recorded := [], drvClkmode := drvClkmode, epClkmode := epClkmode } })

def execResetCauseEnd (drvClkmode epClkmode fenceInLow : Bool) (s : State) : Host.Outcome State Fault Refusal :=
  effect s (resetCauseEnd drvClkmode epClkmode fenceInLow s)

/-- RESET_STRETCH_END (R497): SYSRST_OUT_N, the 10BASE-T1S PHY and the bays' PERST are no longer held. -/
def resetStretchEnd (s : State) : State :=
  s.when (s.rst.phase ≠ .cause && s.rst.stretch) (fun s => { s with rst.stretch := false })

def execResetStretchEnd (s : State) : Host.Outcome State Fault Refusal := effect s (resetStretchEnd s)

/-! ### Bring-up (R499-R502) -/

/-- An event of steps 2 and 3, to be raised in bell 0. -/
def recordEvent (src die : Nat) (s : State) : State :=
  { s with rst.recorded := s.rst.recorded ++ [{ source := src, die := die, region := houseRegion die }] }

/-- FUSE_LOAD_COMPLETE (R322, R500): the defaults stand in for a block that failed three times. Step 3 starts once all six valid flags are set. -/
def fuseLoadComplete (die : Nat) (r : FuseResult) (s : State) : State :=
  s.when (s.rst.phase = .fuses && die < 6 && !s.rst.valid.contains die) (fun s =>
    let badId := die = 4 && !r.identityOk
    let bits := flagWord [(die, !r.mapOk), (6 + die, !r.trimsOk), (12, badId), (13, r.retried)]
    let s := { s with rst.valid := putIn die s.rst.valid, rst.fuseStatus := s.rst.fuseStatus ||| bits
                      ciph.identityOk := s.ciph.identityOk && !badId }
    let s := if r.retried then recordEvent 232 die s else s
    let s := if r.mapOk then s else recordEvent 233 die s
    let s := if r.trimsOk then s else recordEvent 234 die s
    let s := if badId then recordEvent 134 die s else s
    if s.rst.valid.length = 6 then
      { s with rst.phase := .clocks, hier.clockGood := s.hier.clockGood.set 5 true }
    else s)

def execFuseLoadComplete (die : Nat) (r : FuseResult) (s : State) : Host.Outcome State Fault Refusal := effect s (fuseLoadComplete die r s)

/-- CLOCK_GOOD_REACHED (R51, R501): a die held out of service reads 0 whatever its PLL does. -/
def clockGoodReached (die : Nat) (s : State) : State :=
  s.when ((s.rst.phase = .clocks || s.rst.phase = .up) && die < 6 && !s.hier.heldOut.contains die)
    (fun s => { s with hier.clockGood := s.hier.clockGood.set die true })

def execClockGoodReached (die : Nat) (s : State) : Host.Outcome State Fault Refusal := effect s (clockGoodReached die s)

/-- CLOCK_GOOD_TIMEOUT (R501): the Saddle stops bring-up and FAULT_N is held low; a Ridge die is held out of service and FS235 recorded. -/
def clockGoodTimeout (die : Nat) (s : State) : State :=
  s.when (s.rst.phase = .clocks && die < 5 && !s.hier.clockGood.getD die false && !s.hier.heldOut.contains die) (fun s =>
    if die = 4 then { s with rst.phase := .stopped, rst.stopLow := true }
    else recordEvent 235 die { s with hier.heldOut := putIn die s.hier.heldOut })

def execClockGoodTimeout (die : Nat) (s : State) : Host.Outcome State Fault Refusal := effect s (clockGoodTimeout die s)

/-- Every die has settled at step 3: the Saddle has clock-good, and each Ridge die has it or is held out. -/
def State.clocksSettled (s : State) : Bool :=
  s.hier.clockGood.getD 4 false && (List.range' 0 4).all (fun d => s.hier.clockGood.getD d false || s.hier.heldOut.contains d)

/-- The memories of PD-AO that the hardware fills (R499 step 4). -/
def fillHouse (s : State) : State :=
  [9, 265, 521, 777, 1034, 1281].foldl (fun s i => s.onMem i (fun m => { m with filled := some 0, ran := true })) s

/-- Code of `reset_cause` (R514). -/
def State.causeCode (s : State) : Nat := if s.rst.deciding = 3 ∧ s.rst.keep then 4 else s.rst.deciding

/-- SADDLE_RELEASE (R16, R499 step 4, R502, R503, R512): bell 0 begins, and what was recorded is raised in it. -/
def saddleRelease (s : State) : State :=
  s.when (s.rst.phase = .clocks && s.clocksSettled) (fun s =>
    let c := s.causeCode
    let s := fillHouse s
    let d := s.rst.dump
    let s := { s with
      mem := if s.rst.keep then ((s.mem.unwrite false).unwrite true).markPages (d.retBase / 4096) (d.retLen / 4096) else {}
      rst := { s.rst with
        phase := .up
        cause := c
        warm := if s.rst.deciding = 3 then (s.rst.warm + 1) % 2 ^ 32 else 0
        booting := true
        dump := if s.rst.keep then { retained := true, retBase := d.retBase, retLen := d.retLen } else {}
        recorded := [] }
      flt.events := s.rst.recorded }
    if 3 ≤ c then s.fault 238 0 else s)

/-! ### Boot (R318-R321) -/

/-! ### Boot slots (R318-R321) -/

/-- Address of a slot in the QSPI NOR (R318): slot A, then slot B. -/
def slotBase (slot : Nat) : Nat := if slot = 0 then 0 else 0x400000

/-- Security version of a slot's header (R318). -/
def slotSvn (b : BootSlot) : Nat := fld b.header 8 4

/-- Length of the body that follows the header (R318). -/
def slotLen (b : BootSlot) : Nat := fld b.header 12 4

/-- The body (R318). -/
def slotBody (b : BootSlot) : Bytes := padTo (slotLen b) b.body

/-- The fused OEM key hash, not revoked, that the signer's key hashes to (R319). -/
def State.slotSigner (s : State) (b : BootSlot) : Option Nat :=
  [0, 1, 2, 3].find? (fun i => (Config.sha512 (sub b.header 64 32)).take 32 == padTo 32 (Config.oemHash i) && !s.ciph.revoked.testBit i)

/-- Whether a slot is valid (R319); a body length outside 1 to 3,145,728 is none that Erral can load (R318; log 140). -/
def State.slotValid (s : State) (b : BootSlot) : Bool :=
  fld b.header 0 4 == 0x4C525245 && fld b.header 4 2 == 1 && (s.slotSigner b).isSome && s.ciph.rollback ≤ slotSvn b
    && Config.edVerify (sub b.header 64 32) (sub b.header 0 192) (sub b.header 192 64)
    && 1 ≤ slotLen b && slotLen b ≤ 3145728 && padTo 64 (Config.sha512 (slotBody b)) == sub b.header 96 64

/-- Erral reads a slot over QSPI (R318, R499): its header and its body. -/
def readSlot (slot : Nat) (b : BootSlot) (s : State) : State := s.emit (.norRead (slotBase slot) (256 + min (slotLen b) 3145728))

/-- Boot an image (R319, R321, R499): its body stands in management SRAM, the rest of which is filled with zeros, M1 is the digest of header and body, and the cores start at `entry`. -/
def bootFrom (slot : Nat) (b : BootSlot) (second : Bool) (s : State) : State :=
  let s := { s with rst.booting := false, ciph.bootSlot := slot, ciph.fallback := second, ciph.runningSvn := slotSvn b, ciph.signer := (s.slotSigner b).getD 0
                    ciph.image := slotBody b, ciph.entry := fld b.header 16 4
                    ciph.measure := tset (tset s.ciph.measure 0 Config.romDigest) 1 (padTo 64 (Config.sha512 (padTo 256 b.header ++ slotBody b))) }
  let s := s.onMem 1033 (fun m => { m with filled := some 0, ran := true })
  if second then s.faultAt 132 4 9 slot else s

/-- ERRAL_VERIFY_COMPLETE (R319, R499 steps 5 and 6): the slot with the higher `svn` first, slot A where they are equal; with neither valid the cores stay in reset. -/
def erralVerifyComplete (a b : BootSlot) (s : State) : State :=
  s.when s.rst.booting (fun s =>
    let i := b2n (slotSvn a < slotSvn b)
    let x := if i = 1 then b else a
    let y := if i = 1 then a else b
    let s := readSlot i x (s.emit (.norRead (slotBase (1 - i)) 256))
    if s.slotValid x then bootFrom i x false s
    else
      let s := readSlot (1 - i) y s
      if s.slotValid y then bootFrom (1 - i) y true s
      else ({ s with rst.booting := false, ciph.bootHeld := true, flt.erralHold := true,
                     ciph.measure := tset s.ciph.measure 0 Config.romDigest }).faultAt 135 4 9 0)

def execErralVerifyComplete (a b : BootSlot) (s : State) := up s (erralVerifyComplete a b)

/-- DOMAIN_BRING_UP (R499 step 7, R514): once since reset. It starts at the next edge. -/
def domainBringUp (_ : Bytes) (s : State) : State :=
  if s.rst.bringUpIssued then s.done resetSet 2 else { s with rst.bringUpIssued := true, rst.bringUpPend := true }

def execDomainBringUp (par : Bytes) (s : State) := up s (fun s => s.command 0x7A0020 resetSet 4 par domainBringUp)

/-! ### Self-test (R504-R507, R515) -/

/-- Key of `bist_command` and of its results. -/
abbrev bistSet : Nat := 0x7A0010

/-- The 30 testable regions, as region keys (R504). -/
def testable : List Nat :=
  ((List.range' 0 6).flatMap (fun d => (List.range' 0 (regionCount d)).map (regionKey d))).filter (fun k => regionNamed (k / 256) (k % 256))

/-- Why a region is skipped (R504, R515): 0 where it may be tested. -/
def State.bistSkip (s : State) (k : Nat) : Nat :=
  if !(domainOf (k / 256) (k % 256)).any s.domOn then 4
  else if !s.cmdFenced (k / 256) (k % 256) then 2
  else if s.liveWork (k / 256) (k % 256) then 3
  else 0

/-- Regions that a command names; none where there is no such die or region (R515). -/
def bistNamed (p : Bytes) : Option (List Nat) :=
  let die := fld p 1 1
  let r := fld p 2 1
  if die = 0xFF then some testable
  else if 6 ≤ die then none
  else if r = 0xFF then some (testable.filter (fun k => k / 256 = die))
  else if regionCount die ≤ r then none
  else some [regionKey die r]

/-- `bist_result` (R515). -/
def bistBytes (rs : Tbl BistEntry) : Bytes :=
  let ran := (rs.filter (fun r => r.2.status = 1)).length
  let skipped := (rs.filter (fun r => 2 ≤ r.2.status)).length
  le 4 ran ++ le 4 skipped ++ testable.flatMap (fun k =>
    let x := tgetD rs k {}
    le 1 (k / 256) ++ le 1 (k % 256) ++ le 1 x.kind ++ le 1 x.status ++ le 4 x.mismatches ++ le 8 x.logic ++ le 8 x.memory)

/-- The three self-test commands (R504, R505). -/
def bistStart (kind : Nat) (p : Bytes) (s : State) : State :=
  match bistNamed p with
  | none => s.done bistSet 1
  | some ks =>
    let single := fld p 1 1 ≠ 0xFF && fld p 2 1 ≠ 0xFF
    if single && ks.any (fun k => !testable.contains k || s.bistSkip k ≠ 0) then s.done bistSet 2
    else
      let rs : Tbl BistEntry := ks.foldl (fun t k => tset t k { kind := kind, status := s.bistSkip k }) []
      let todo := ks.filter (fun k => s.bistSkip k = 0)
      let s := ks.foldl (fun s k => let w := s.bistSkip k; if w = 0 then s else s.count (Ev.bistS2 + (w - 2)) 0) s
      if todo.isEmpty then s.done bistSet 0 (bistBytes rs)
      else
        let n := fld p 4 4
        let seed := fld p 8 8
        { s with rst.bist := some { kind := kind, patterns := if n = 0 then 65536 else n, seed := if seed = 0 then 1 else seed, todo := todo, results := rs } }

/-- A write of `bist_command`. -/
def bistCommand (kind : Nat) (par : Bytes) (s : State) : State := s.command bistSet bistSet 16 par (bistStart kind)

/-- LOGIC_BIST (R505). -/
def logicBist (par : Bytes) (s : State) : State := bistCommand 1 par s

def execLogicBist (par : Bytes) (s : State) := up s (logicBist par)

/-- MEMORY_BIST (R505). -/
def memoryBist (par : Bytes) (s : State) : State := bistCommand 2 par s

def execMemoryBist (par : Bytes) (s : State) := up s (memoryBist par)

/-- LOGIC_AND_MEMORY_BIST (R505). -/
def logicAndMemoryBist (par : Bytes) (s : State) : State := bistCommand 3 par s

def execLogicAndMemoryBist (par : Bytes) (s : State) := up s (logicAndMemoryBist par)

/-- A tested region is reset (R506): its valid and written-map bits clear, and its caches and queues are empty. -/
def regionReset (die r : Nat) (s : State) : State :=
  let s := clearUnits (fun d q => d = die && q = r) (clearMems die r s)
  if die < 4 ∧ (r = 3 ∨ r = 4) then { s with xp.caches := s.xp.caches.filter (fun c => c.1 / 4 ≠ 2 * die + (r - 3)) }
  else if die = 4 ∧ r = 3 then eraseKeys (fun _ => true) s
  else if die = 4 ∧ r = 6 then cacheRemove (fun _ => true) s
  else if die = 4 ∧ r = 7 then { s with mem := s.mem.unwrite false }
  else if die = 4 ∧ r = 8 then { s with mem := s.mem.unwrite true }
  else s

/-- A region that still waits for its test, or is under it, may no longer be tested (R46, R504): it is marked so, and nothing of it changes. -/
def bistDrop (k : Nat) (b : BistRun) (s : State) : State × BistRun :=
  (s.count (Ev.bistS2 + (s.bistSkip k - 2)) 0,
   { b with todo := b.todo.filter (· ≠ k), results := tset b.results k { kind := b.kind, status := s.bistSkip k } })

/-- The command ends with its last region (R515). -/
def bistNext (b : BistRun) (s : State) : State :=
  if b.todo.isEmpty then ({ s with rst.bist := none }).doneNow bistSet 0 (bistBytes b.results) else { s with rst.bist := some b }

/-- BIST_REGION_COMPLETE (R505-R507): one of the first four regions still to test ends; one that has lost its command fence meanwhile is not tested (R46). -/
def bistRegionComplete (die region mismatches : Nat) (s : State) : State :=
  match s.rst.bist with
  | none => s
  | some b =>
    let k := regionKey die region
    s.when ((b.todo.take 4).contains k && region < 256) (fun s =>
      if s.bistSkip k ≠ 0 then let r := bistDrop k b s; bistNext r.2 r.1
      else
      let mm := if b.kind = 1 then 0 else mismatches
      let sig (mem : Bool) : Nat := (Config.misr mem k Config.siliconRev b.seed b.patterns).toNat
      let e : BistEntry := { kind := b.kind, status := 1, mismatches := mm, logic := if b.kind = 2 then 0 else sig false, memory := if b.kind = 1 then 0 else sig true }
      let b := { b with todo := b.todo.filter (· ≠ k), results := tset b.results k e }
      let s := (regionReset die region s).count (Ev.bistT1 + (b.kind - 1)) 0
      let s := if 0 < mm then s.faultAt 236 die region 0 else s
      bistNext b s)

def execBistRegionComplete (die region mismatches : Nat) (s : State) := up s (bistRegionComplete die region mismatches)

/-! ### The dump (R508-R512, R516) -/

/-- A write of `dump_command`. -/
def dumpCommand (par : Bytes) (act : Bytes → State → State) (s : State) : State := s.command 0x7A0021 resetSet 32 par act

/-- `dump_base`. -/
def State.dumpBase (s : State) : Nat := s.objN 0x7A0005 0

/-- `fault_state` (R471, R488). -/
def State.faultState (s : State) : Nat :=
  let act := s.flt.sources.filter (fun x => x.2.active ≠ 0)
  act.foldl (fun a x => max a (x.2.worst + 1)) 0 + flagWord [(3, s.flt.halted), (4, s.faultNLow), (5, s.flt.pulseEdge.isSome)] + act.length * 65536

/-- Source of `first_fault`; 0xFFFF where it is empty (R473, R510). -/
def State.firstSource (s : State) : Nat := match s.flt.firstFault with
  | some e => fld e 12 2
  | none => 0xFFFF

/-- DUMP_CAPTURE (R509, R510, R516): refused without a base, and while a dump is closed. The outcome waits for DUMP_CAPTURE_COMPLETE. -/
def dumpCapture (p : Bytes) (s : State) : State :=
  if s.dumpBase = 0 then s.done resetSet 1
  else if s.rst.dump.closed then s.done resetSet 2
  else
    { s with rst.dump := { s.rst.dump with
      captured := false, truncated := false, sections := [], run := some (fld p 4 4), bell := s.bell.number, era := s.bell.era
      reason := s.firstSource, role := s.stby.role, faults := s.faultState } }

def execDumpCapture (par : Bytes) (s : State) := up s (dumpCommand par dumpCapture)

/-- Whether the regions a section reads are on (R509): the engines for kind 4, the storage engines for kind 5. -/
def State.sectionOn (s : State) (kind : Nat) : Bool :=
  if kind = 4 then (List.range' 0 4).any (fun n => s.domOn (3 * n + 2)) else if kind = 5 then s.domOn 16 else true

/-- A length rounded up to 4 KiB. -/
def page4k (n : Nat) : Nat := (n + 4095) / 4096 * 4096

/-- Size of the dump area (R267, R509). -/
abbrev dumpArea : Nat := 268435456

/-- Length of a section (R509): kinds 1 to 4 have a fixed size; that of kinds 5 and 6 is at most 4 and 6 MiB. -/
def sectionLen (kind len : Nat) : Nat :=
  if kind = 1 then 28672 else if kind = 2 then 4096 else if kind = 3 then 8192 else if kind = 4 then 8519680
  else if kind = 5 then min len 4194304 else min len 6291456

/-- One section is captured at an offset (R509): its contents go to HBM as values the spec gives no layout for. -/
def captureSection (x : State × Nat) (k : Nat × Nat) : State × Nat :=
  let (s, off) := x
  let (kind, len) := k
  let add (e : DumpSection) (s : State) : State := { s with rst.dump.sections := s.rst.dump.sections ++ [e] }
  if !s.sectionOn kind then (add { kind := kind, flags := 2, off := off, len := 0 } s, off)
  else
    let len := sectionLen kind len
    let n := min len (dumpArea - off)
    let s := ({ s with mem := s.mem.lay (s.dumpBase + off) n (.free s.freeIdx) }).took
    if n < len then
      (((add { kind := kind, flags := 1, off := off, len := n } { s with rst.dump.truncated := true }).fault 237 kind).count Ev.dumpTr 0, page4k (off + n))
    else (add { kind := kind, flags := 0, off := off, len := n } s, page4k (off + n))

/-- DUMP_CAPTURE_COMPLETE (R509): the lengths of the sections named, in kind order; those of kinds 1 to 4 are fixed. -/
def dumpCaptureComplete (lens : List Nat) (s : State) : State :=
  match s.rst.dump.run with
  | none => s
  | some m =>
    let kinds := (bitsOf 7 m).filter (1 ≤ ·)
    let s := { s with rst.dump.run := none, rst.dump.captured := true }
    let s := (((List.range' 0 kinds.length).map (fun i => (kinds.getD i 0, lens.getD i 0))).foldl captureSection (s, 4096)).1
    (s.count Ev.dumpCap 0).doneNow resetSet 0

def execDumpCaptureComplete (lens : List Nat) (s : State) := up s (dumpCaptureComplete lens)

/-- End of the sections of a dump. -/
def sectionsEnd (l : List DumpSection) : Nat := l.foldl (fun a e => max a (page4k (e.off + e.len))) 4096

/-- Firmware's sections as a close command names them, from an offset (R516). -/
def fwSections (p : Bytes) : Nat → Nat → Nat → List DumpSection
  | 0, _, _ => []
  | n + 1, i, off =>
    let len := fld p (9 + 3 * i) 2 * 4096
    { kind := fld p (8 + 3 * i) 1, flags := 0, off := off, len := len } :: fwSections p n (i + 1) (off + len)

/-- The header and directory, with `crc` 0 (R510). -/
def dumpHeader (ss : List DumpSection) (len : Nat) (s : State) : Bytes :=
  let d := s.rst.dump
  padTo 4096 (le 4 0x504D5544 ++ le 2 1 ++ le 2 ss.length ++ le 4 len ++ zeros 4 ++ le 8 d.bell ++ le 4 d.era ++ le 2 d.reason ++ zeros 2
    ++ le 8 Config.serial.toNat ++ padTo 32 signPub ++ le 1 d.role ++ le 1 s.ciph.bootSlot ++ zeros 2 ++ le 4 s.ciph.runningSvn ++ le 4 d.faults ++ zeros 4
    ++ le 8 s.bell.number ++ zeros 24 ++ zeros 8
    ++ ss.flatMap (fun e => le 2 e.kind ++ le 2 e.flags ++ le 4 e.off ++ le 4 e.len ++ zeros 4))

/-- DUMP_CLOSE (R510, R516). Without both stacks it ends with outcome 2 (R266, log 139). -/
def dumpClose (p : Bytes) (s : State) : State :=
  let n := fld p 1 1
  let fs := fwSections p n 0 (sectionsEnd s.rst.dump.sections)
  let ss := s.rst.dump.sections ++ fs
  let len := sectionsEnd ss
  if s.dumpBase = 0 ∨ 8 < n ∨ fs.any (fun e => e.kind < 0x80) ∨ dumpArea < len then s.done resetSet 1
  else if !s.rst.dump.captured ∨ s.rst.dump.closed ∨ !s.hbmOn then s.done resetSet 2
  else
    let h := dumpHeader ss len s
    let crc := crc64 (h ++ s.mem.read (s.dumpBase + 4096) (len - 4096))
    let s := s.hbmPut s.dumpBase (putAt h 120 (le 8 crc))
    (({ s with rst.dump := { s.rst.dump with closed := true, length := len, sections := ss } }).count Ev.dumpCl 0).done resetSet 0

def execDumpClose (par : Bytes) (s : State) := up s (dumpCommand par dumpClose)

/-- DUMP_CLEAR (R516). -/
def dumpClear (_ : Bytes) (s : State) : State := ({ s with rst.dump := {} }).done resetSet 0

def execDumpClear (par : Bytes) (s : State) := up s (dumpCommand par dumpClear)

/-! ### The TAP (R513) -/

/-- An instruction reaches the TAP; the power-on detector and PORST_N hold it in reset. It lies in PD-AO and takes no part in a RESET_N. -/
def tap (i : JtagInstr) (s : State) : State :=
  s.when (!s.rst.holding.contains 1 && !s.rst.holding.contains 2) (fun s => { s with rst.jtag := i })

/-- TRST_N_ASSERT. -/
def trstNAssert (s : State) : State := { s with rst.jtag := .reset }

def execTrstNAssert (s : State) : Host.Outcome State Fault Refusal := effect s (trstNAssert s)

/-- JTAG_BYPASS. -/
def jtagBypass (s : State) : State := tap .bypass s

def execJtagBypass (s : State) : Host.Outcome State Fault Refusal := effect s (jtagBypass s)

/-- The identification code (R513). -/
def idcode : Nat := ((Config.siliconRev.setWidth 4 ++ 0x7224#16) ++ (Config.jtagManufacturer ++ 1#1)).toNat

/-- JTAG_IDCODE: the code is shifted out. -/
def jtagIdcode (s : State) : State :=
  s.when (!s.rst.holding.contains 1 && !s.rst.holding.contains 2) (fun s => ({ s with rst.jtag := .idcode }).emit (.jtag idcode 32))

def execJtagIdcode (s : State) : Host.Outcome State Fault Refusal := effect s (jtagIdcode s)

/-- JTAG_SAMPLE_PRELOAD: the boundary register is preloaded. -/
def jtagSamplePreload (preload : Bits) (s : State) : State :=
  s.when (!s.rst.holding.contains 1 && !s.rst.holding.contains 2) (fun s => { s with rst.jtag := .sample, rst.boundary := preload })

def execJtagSamplePreload (preload : Bits) (s : State) : Host.Outcome State Fault Refusal := effect s (jtagSamplePreload preload s)

/-- JTAG_EXTEST: the pins are driven from the boundary register. -/
def jtagExtest (s : State) : State := tap .extest s

def execJtagExtest (s : State) : Host.Outcome State Fault Refusal := effect s (jtagExtest s)

/-- JTAG_CLAMP: outputs held from the boundary register, bypass selected. -/
def jtagClamp (s : State) : State := tap .clamp s

def execJtagClamp (s : State) : Host.Outcome State Fault Refusal := effect s (jtagClamp s)

/-- JTAG_HIGHZ: outputs in high impedance, bypass selected. -/
def jtagHighz (s : State) : State := tap .highz s

def execJtagHighz (s : State) : Host.Outcome State Fault Refusal := effect s (jtagHighz s)

end Sys2Proof.Machine
end

