-- ==== Sys2Proof/Machine/ObjTable.lean ====
section
/-! DEFINITION. The objects of the dictionary: address, type, access, size, default, range, unit and name, as the chapters' tables give them (R436-R438, R446, R458). -/

namespace Sys2Proof.Machine

/-- One row of an object table: index × 256 + sub-index of the first address, indices and sub-indices the row covers, type code (R437),
access (1 RO, 2 RW, 3 RWP, 4 RWS, 5 WO, 6 CMD), size or greatest size, default, minimum and maximum of a scalar, unit and name. -/
structure ObjDesc where
  key : Nat
  idxs : Nat
  subs : Nat
  ty : Nat
  acc : Nat
  size : Nat
  dflt : Option Nat
  lo : Int
  hi : Int
  unit : String
  name : String
deriving DecidableEq, Repr

/-- Rows of the object tables. -/
def objRows0 : List ObjDesc := [
  ⟨0x100001, 1, 1, 3, 1, 2, (some 7995), 0, 65535, "", "vendor_id"⟩,
  ⟨0x100002, 1, 1, 3, 1, 2, (some 29220), 0, 65535, "", "device_id"⟩,
  ⟨0x100003, 1, 1, 2, 1, 1, none, 0, 255, "", "silicon_rev"⟩,
  ⟨0x100004, 1, 1, 5, 1, 8, none, 0, 18446744073709551615, "", "serial"⟩,
  ⟨0x100005, 1, 1, 10, 1, 32, none, 0, 0, "", "vendor_name"⟩,
  ⟨0x100006, 1, 1, 10, 1, 32, none, 0, 0, "", "part_name"⟩,
  ⟨0x100007, 1, 1, 4, 1, 4, none, 0, 4294967295, "", "erral_version"⟩,
  ⟨0x100008, 1, 1, 10, 2, 64, none, 0, 0, "", "fw_version"⟩,
  ⟨0x100009, 1, 1, 3, 1, 2, (some 1), 0, 65535, "", "dict_version"⟩,
  ⟨0x10000A, 1, 1, 10, 3, 64, none, 0, 0, "", "shelf_name"⟩,
  ⟨0x10000B, 1, 1, 10, 3, 64, none, 0, 0, "", "location"⟩,
  ⟨0x110001, 1, 1, 3, 3, 2, (some 50417), 1, 65535, "", "brodlet_port"⟩,
  ⟨0x110002, 1, 1, 8, 3, 4, (some 15), 0, 31, "", "write_paths"⟩,
  ⟨0x110003, 1, 1, 1, 3, 1, (some 1), 0, 1, "", "t1s_enable"⟩,
  ⟨0x110004, 1, 1, 11, 1, 6, none, 0, 0, "", "t1s_mac"⟩,
  ⟨0x110005, 1, 1, 4, 3, 4, (some 0), 0, 4294967295, "", "t1s_ipv4"⟩,
  ⟨0x110006, 1, 1, 2, 3, 1, (some 24), 0, 32, "bits", "t1s_prefix"⟩,
  ⟨0x110007, 1, 1, 2, 3, 1, (some 255), 0, 255, "", "plca_node_id"⟩,
  ⟨0x110008, 1, 1, 2, 3, 1, (some 8), 1, 8, "nodes", "plca_node_count"⟩,
  ⟨0x110009, 1, 1, 2, 3, 1, (some 0), 0, 255, "frames", "plca_max_burst"⟩,
  ⟨0x11000A, 1, 1, 2, 3, 1, (some 128), 0, 255, "bit time", "plca_burst_timer"⟩,
  ⟨0x11000B, 1, 1, 2, 3, 1, (some 32), 0, 255, "bit time", "plca_to_timer"⟩,
  ⟨0x11000C, 1, 1, 8, 1, 4, (some 0), 0, 4294967295, "", "t1s_status"⟩,
  ⟨0x11000D, 1, 1, 4, 3, 4, (some 0), 0, 4294967295, "", "mgmt_ipv4"⟩,
  ⟨0x11000E, 1, 1, 11, 3, 16, none, 0, 0, "", "mgmt_ipv6"⟩,
  ⟨0x11000F, 1, 1, 5, 1, 8, (some 0), 0, 18446744073709551615, "", "persist_gen"⟩,
  ⟨0x110010, 1, 1, 3, 1, 2, (some 0), 0, 64, "", "requesters"⟩,
  ⟨0x110020, 1, 1, 11, 6, 32, none, 0, 0, "", "dict_command"⟩,
  ⟨0x110021, 1, 1, 4, 1, 4, (some 0), 0, 4294967295, "", "dict_seq"⟩,
  ⟨0x110022, 1, 1, 1, 1, 1, (some 1), 0, 1, "", "dict_ready"⟩,
  ⟨0x110023, 1, 1, 2, 1, 1, (some 0), 0, 3, "", "dict_outcome"⟩,
  ⟨0x110024, 1, 1, 11, 1, 32, none, 0, 0, "", "dict_result"⟩,
  ⟨0x110025, 1, 1, 9, 1, 8, (some 0), 0, 18446744073709551615, "", "dict_done_bell"⟩,
  ⟨0x120001, 1, 1, 9, 1, 8, none, 0, 18446744073709551615, "", "bell_number"⟩,
  ⟨0x120002, 1, 1, 8, 1, 4, (some 0), 0, 4294967295, "", "bell_status"⟩,
  ⟨0x120003, 1, 1, 3, 3, 2, (some 0), 0, 1023, "ns", "bell_phase"⟩,
  ⟨0x120004, 1, 1, 11, 1, 24, none, 0, 0, "", "edge_time"⟩,
  ⟨0x120005, 1, 1, 6, 2, 4, (some 0), -6553600, 6553600, "ppm/64Ki", "freq_adjust"⟩,
  ⟨0x120006, 1, 1, 1, 2, 1, (some 0), 0, 1, "", "ptp_lock"⟩,
  ⟨0x120007, 1, 1, 4, 3, 4, (some 4194304), 1024, 4294967295, "bells", "lock_holdover"⟩,
  ⟨0x120008, 1, 1, 7, 6, 8, none, -4611686018427387904, 4611686018427387904, "ns", "time_step"⟩,
  ⟨0x120009, 1, 1, 11, 6, 12, none, 0, 0, "", "time_set"⟩,
  ⟨0x12000A, 1, 1, 2, 6, 1, none, 1, 1, "", "rebase"⟩,
  ⟨0x12000B, 1, 1, 4, 1, 4, (some 0), 0, 4294967295, "", "adjust_seq"⟩,
  ⟨0x12000C, 1, 1, 1, 1, 1, (some 1), 0, 1, "", "adjust_ready"⟩]

/-- Rows of the object tables. -/
def objRows1 : List ObjDesc := [
  ⟨0x12000D, 1, 1, 2, 1, 1, (some 2), 0, 4, "", "adjust_outcome"⟩,
  ⟨0x12000E, 1, 1, 9, 1, 8, (some 0), 0, 18446744073709551615, "", "adjust_bell"⟩,
  ⟨0x12000F, 1, 1, 4, 1, 4, (some 0), 0, 4294967295, "", "bell_era"⟩,
  ⟨0x120010, 1, 1, 5, 1, 8, (some 0), 0, 18446744073709551615, "bells", "stretched_bells"⟩,
  ⟨0x120011, 1, 1, 3, 1, 2, (some 1000), 0, 65535, "ns", "budget_window"⟩,
  ⟨0x120020, 1, 6, 11, 1, 16, none, 0, 0, "", "overrun_capture"⟩,
  ⟨0x120026, 1, 1, 8, 5, 4, none, 0, 63, "", "overrun_rearm"⟩,
  ⟨0x120030, 1, 1, 11, 1, 24, none, 0, 0, "", "pps_in_capture"⟩,
  ⟨0x120031, 1, 1, 1, 3, 1, (some 0), 0, 1, "", "pps_out_enable"⟩,
  ⟨0x140001, 1, 1, 8, 1, 4, none, 0, 1048575, "", "pd_state"⟩,
  ⟨0x140002, 1, 1, 8, 3, 4, (some 1048575), 0, 1048575, "", "pd_boot_set"⟩,
  ⟨0x140003, 1, 1, 8, 1, 4, none, 0, 63, "", "clock_good"⟩,
  ⟨0x140004, 1, 1, 11, 1, 12, none, 0, 0, "", "region_fence"⟩,
  ⟨0x14000A, 1, 1, 11, 6, 8, none, 0, 0, "", "hier_command"⟩,
  ⟨0x14000B, 1, 1, 4, 1, 4, (some 0), 0, 4294967295, "", "hier_seq"⟩,
  ⟨0x14000C, 1, 1, 1, 1, 1, (some 1), 0, 1, "", "hier_ready"⟩,
  ⟨0x14000D, 1, 1, 2, 1, 1, (some 0), 0, 5, "", "hier_outcome"⟩,
  ⟨0x14000E, 1, 1, 9, 1, 8, (some 0), 0, 18446744073709551615, "", "hier_done_bell"⟩,
  ⟨0x140020, 1, 1, 11, 1, 16, none, 0, 0, "", "die_temp"⟩,
  ⟨0x140021, 1, 1, 11, 1, 16, none, 0, 0, "", "temp_peak"⟩,
  ⟨0x140022, 1, 1, 2, 3, 1, (some 125), 110, 125, "degC", "thermtrip_limit"⟩,
  ⟨0x200001, 144, 1, 2, 3, 1, (some 0), 0, 5, "", "port_mode"⟩,
  ⟨0x200002, 144, 1, 2, 3, 1, (some 1), 0, 2, "", "interface"⟩,
  ⟨0x200003, 144, 1, 1, 3, 1, (some 0), 0, 1, "", "port_enable"⟩,
  ⟨0x200004, 144, 1, 8, 1, 4, (some 0), 0, 4294967295, "", "port_status"⟩,
  ⟨0x200005, 144, 1, 1, 3, 1, (some 1), 0, 1, "", "autoneg"⟩,
  ⟨0x200006, 144, 1, 1, 3, 1, (some 1), 0, 1, "", "pfc_enable"⟩,
  ⟨0x200007, 144, 1, 2, 3, 1, (some 1), 0, 1, "", "trust"⟩,
  ⟨0x200008, 144, 1, 3, 3, 2, (some 1), 1, 4094, "", "pvid"⟩,
  ⟨0x200009, 144, 1, 3, 3, 2, (some 9216), 1518, 9216, "bytes", "mtu"⟩,
  ⟨0x20000A, 144, 1, 6, 3, 4, (some 0), -1000000, 1000000, "ps", "ptp_rx_delay"⟩,
  ⟨0x20000B, 144, 1, 6, 3, 4, (some 0), -1000000, 1000000, "ps", "ptp_tx_delay"⟩,
  ⟨0x20000C, 144, 1, 11, 1, 256, none, 0, 0, "", "ts_fifo"⟩,
  ⟨0x20000D, 144, 1, 4, 3, 4, (some 1000000), 0, 4294967295, "symbols", "fec_ser_limit"⟩,
  ⟨0x20000E, 144, 1, 4, 3, 4, (some 97657), 1024, 4294967295, "bells", "storm_detect"⟩,
  ⟨0x20000F, 144, 1, 4, 3, 4, (some 195313), 1024, 4294967295, "bells", "storm_restore"⟩,
  ⟨0x200010, 144, 1, 2, 3, 1, (some 1), 0, 1, "", "storm_action"⟩,
  ⟨0x200011, 144, 1, 3, 3, 2, (some 1024), 0, 65535, "cells", "headroom"⟩,
  ⟨0x200012, 144, 1, 2, 3, 1, (some 6), 0, 10, "", "alpha_in"⟩,
  ⟨0x200013, 144, 1, 3, 3, 2, (some 256), 0, 65535, "cells", "p_min"⟩,
  ⟨0x200014, 144, 1, 11, 3, 16, none, 0, 0, "", "pcp_map"⟩,
  ⟨0x200015, 144, 1, 11, 3, 64, none, 0, 0, "", "dscp_map"⟩,
  ⟨0x200016, 144, 1, 8, 1, 4, (some 0), 0, 4294967295, "", "pfc_state"⟩,
  ⟨0x200020, 144, 8, 11, 3, 8, none, 0, 0, "", "queue_cfg"⟩,
  ⟨0x240001, 1, 1, 8, 3, 4, (some 8), 0, 255, "", "lossless_classes"⟩]

/-- Rows of the object tables. -/
def objRows2 : List ObjDesc := [
  ⟨0x240002, 1, 1, 1, 3, 1, (some 1), 0, 1, "", "fdb_learn"⟩,
  ⟨0x240003, 1, 1, 4, 3, 4, (some 292968750), 0, 4294967295, "", "fdb_age"⟩,
  ⟨0x240004, 1, 1, 4, 1, 4, (some 0), 0, 4294967295, "entries", "fdb_count"⟩,
  ⟨0x240005, 1, 1, 2, 3, 1, (some 0), 0, 3, "", "mgmt_ridge"⟩,
  ⟨0x240006, 1, 1, 4, 3, 4, (some 25000), 1000, 100000, "Mbit/s", "mgmt_rate"⟩,
  ⟨0x240007, 1, 1, 3, 3, 2, (some 0), 0, 4094, "", "mgmt_vlan"⟩,
  ⟨0x240008, 1, 1, 2, 3, 1, (some 3), 0, 15, "", "red_weight"⟩,
  ⟨0x240010, 1, 1, 11, 6, 48, none, 0, 0, "", "switch_command"⟩,
  ⟨0x240011, 1, 1, 4, 1, 4, (some 0), 0, 4294967295, "", "switch_seq"⟩,
  ⟨0x240012, 1, 1, 1, 1, 1, (some 1), 0, 1, "", "switch_ready"⟩,
  ⟨0x240013, 1, 1, 2, 1, 1, (some 0), 0, 3, "", "switch_outcome"⟩,
  ⟨0x240014, 1, 1, 11, 1, 48, none, 0, 0, "", "switch_result"⟩,
  ⟨0x240020, 1, 4, 11, 3, 8, none, 0, 0, "", "buffer_cfg"⟩,
  ⟨0x240024, 1, 4, 11, 1, 16, none, 0, 0, "", "buffer_state"⟩,
  ⟨0x240030, 1, 32, 11, 3, 8, none, 0, 0, "", "red_profile"⟩,
  ⟨0x240050, 1, 72, 11, 3, 8, none, 0, 0, "", "internal_queue_cfg"⟩,
  ⟨0x260001, 1, 1, 2, 3, 1, (some 10), 0, 20, "", "sample_k_egress"⟩,
  ⟨0x260002, 1, 1, 2, 3, 1, (some 10), 0, 20, "", "sample_k_response"⟩,
  ⟨0x260003, 1, 1, 2, 3, 1, (some 14), 0, 20, "", "sample_k_drive"⟩,
  ⟨0x260004, 1, 1, 4, 3, 4, (some 4096), 0, 1048576, "bytes", "drive_cmd_cost"⟩,
  ⟨0x260010, 1, 1, 11, 6, 64, none, 0, 0, "", "sched_command"⟩,
  ⟨0x260011, 1, 1, 4, 1, 4, (some 0), 0, 4294967295, "", "sched_seq"⟩,
  ⟨0x260012, 1, 1, 1, 1, 1, (some 1), 0, 1, "", "sched_ready"⟩,
  ⟨0x260013, 1, 1, 2, 1, 1, (some 0), 0, 2, "", "sched_outcome"⟩,
  ⟨0x260014, 1, 1, 11, 1, 1024, none, 0, 0, "", "sched_result"⟩,
  ⟨0x260015, 1, 1, 9, 1, 8, (some 0), 0, 18446744073709551615, "", "sched_done_bell"⟩,
  ⟨0x300001, 1, 1, 4, 1, 4, (some 0), 0, 4294967295, "QPs", "qp_count"⟩,
  ⟨0x300002, 1, 1, 4, 1, 4, (some 0), 0, 4294967295, "domains", "pd_count"⟩,
  ⟨0x300003, 1, 1, 4, 1, 4, (some 0), 0, 4294967295, "regions", "mr_count"⟩,
  ⟨0x300004, 1, 1, 2, 3, 1, (some 2), 1, 2, "", "qp_placement"⟩,
  ⟨0x300005, 1, 1, 5, 2, 8, (some 0), 0, 51539607551, "", "ctx_store_base"⟩,
  ⟨0x300006, 1, 1, 5, 2, 8, (some 0), 0, 51539607551, "", "mr_table_base"⟩,
  ⟨0x300007, 1, 1, 5, 2, 8, (some 0), 0, 51539607551, "", "wr_store_base"⟩,
  ⟨0x300008, 1, 1, 5, 2, 8, (some 0), 0, 51539607551, "", "mr_area_base"⟩,
  ⟨0x300009, 1, 1, 5, 2, 8, (some 0), 0, 68719476736, "bytes", "mr_area_size"⟩,
  ⟨0x30000A, 1, 1, 5, 2, 8, (some 0), 0, 51539607551, "", "event_ring_base"⟩,
  ⟨0x30000B, 1, 1, 4, 2, 4, (some 4096), 256, 65536, "records", "event_ring_size"⟩,
  ⟨0x30000C, 1, 1, 4, 1, 4, (some 0), 0, 4294967295, "", "event_prod"⟩,
  ⟨0x30000D, 1, 1, 4, 2, 4, (some 0), 0, 4294967295, "", "event_cons"⟩,
  ⟨0x30000E, 1, 1, 5, 1, 8, (some 0), 0, 18446744073709551615, "events", "event_lost"⟩,
  ⟨0x30000F, 1, 1, 2, 3, 1, (some 8), 1, 64, "packets", "ack_every"⟩,
  ⟨0x300010, 1, 1, 2, 3, 1, (some 14), 0, 31, "", "rnr_timer"⟩,
  ⟨0x300011, 1, 1, 4, 3, 4, (some 97657), 1024, 4294967295, "bells", "revoke_timeout"⟩,
  ⟨0x300020, 1, 1, 11, 6, 96, none, 0, 0, "", "qp_command"⟩,
  ⟨0x300021, 1, 1, 4, 1, 4, (some 0), 0, 4294967295, "", "qp_seq"⟩]

/-- Rows of the object tables. -/
def objRows3 : List ObjDesc := [
  ⟨0x300022, 1, 1, 1, 1, 1, (some 1), 0, 1, "", "qp_ready"⟩,
  ⟨0x300023, 1, 1, 2, 1, 1, (some 0), 0, 5, "", "qp_outcome"⟩,
  ⟨0x300024, 1, 1, 11, 1, 128, none, 0, 0, "", "qp_result"⟩,
  ⟨0x300025, 1, 1, 9, 1, 8, (some 0), 0, 18446744073709551615, "", "qp_done_bell"⟩,
  ⟨0x300028, 1, 1, 11, 6, 48, none, 0, 0, "", "mr_command"⟩,
  ⟨0x300029, 1, 1, 4, 1, 4, (some 0), 0, 4294967295, "", "mr_seq"⟩,
  ⟨0x30002A, 1, 1, 1, 1, 1, (some 1), 0, 1, "", "mr_ready"⟩,
  ⟨0x30002B, 1, 1, 2, 1, 1, (some 0), 0, 4, "", "mr_outcome"⟩,
  ⟨0x30002C, 1, 1, 11, 1, 48, none, 0, 0, "", "mr_result"⟩,
  ⟨0x30002D, 1, 1, 9, 1, 8, (some 0), 0, 18446744073709551615, "", "mr_done_bell"⟩,
  ⟨0x300030, 1, 8, 11, 1, 16, none, 0, 0, "", "engine_state"⟩,
  ⟨0x300040, 1, 1, 5, 2, 8, (some 0), 0, 51539607551, "", "chain_store_base"⟩,
  ⟨0x300041, 1, 1, 4, 1, 4, (some 0), 0, 4294967295, "chains", "chains_armed"⟩,
  ⟨0x300048, 1, 1, 11, 6, 32, none, 0, 0, "", "chain_command"⟩,
  ⟨0x300049, 1, 1, 4, 1, 4, (some 0), 0, 4294967295, "", "chain_seq"⟩,
  ⟨0x30004A, 1, 1, 1, 1, 1, (some 1), 0, 1, "", "chain_ready"⟩,
  ⟨0x30004B, 1, 1, 2, 1, 1, (some 0), 0, 3, "", "chain_outcome"⟩,
  ⟨0x30004C, 1, 1, 11, 1, 64, none, 0, 0, "", "chain_result"⟩,
  ⟨0x30004D, 1, 1, 9, 1, 8, (some 0), 0, 18446744073709551615, "", "chain_done_bell"⟩,
  ⟨0x340001, 1, 1, 3, 3, 2, (some 48), 1, 65535, "bells", "cnp_interval"⟩,
  ⟨0x340002, 1, 1, 2, 3, 1, (some 6), 0, 7, "", "cnp_class"⟩,
  ⟨0x340003, 1, 1, 2, 3, 1, (some 48), 0, 63, "", "cnp_dscp"⟩,
  ⟨0x340004, 1, 1, 2, 3, 1, (some 0), 0, 15, "", "cc_default_profile"⟩,
  ⟨0x340005, 1, 1, 2, 3, 1, (some 0), 0, 2, "", "cc_default_mode"⟩,
  ⟨0x340010, 1, 16, 11, 3, 48, none, 0, 0, "", "cc_profile"⟩,
  ⟨0x340020, 1, 1, 11, 6, 16, none, 0, 0, "", "cc_command"⟩,
  ⟨0x340021, 1, 1, 4, 1, 4, (some 0), 0, 4294967295, "", "cc_seq"⟩,
  ⟨0x340022, 1, 1, 1, 1, 1, (some 1), 0, 1, "", "cc_ready"⟩,
  ⟨0x340023, 1, 1, 2, 1, 1, (some 0), 0, 2, "", "cc_outcome"⟩,
  ⟨0x340024, 1, 1, 11, 1, 48, none, 0, 0, "", "cc_result"⟩,
  ⟨0x340025, 1, 1, 9, 1, 8, (some 0), 0, 18446744073709551615, "", "cc_done_bell"⟩,
  ⟨0x400001, 1, 1, 4, 1, 4, (some 0), 0, 4294967295, "associat", "assoc_count"⟩,
  ⟨0x400002, 1, 1, 4, 1, 4, (some 0), 0, 4294967295, "namespac", "ns_count"⟩,
  ⟨0x400003, 1, 1, 4, 1, 4, (some 0), 0, 4294967295, "commands", "cmds_outstanding"⟩,
  ⟨0x400004, 1, 1, 4, 1, 4, (some 0), 0, 262144, "", "entries_bound"⟩,
  ⟨0x400005, 1, 1, 5, 2, 8, (some 0), 0, 51539607551, "", "target_store_base"⟩,
  ⟨0x400006, 1, 1, 5, 2, 8, (some 0), 0, 51539607551, "", "inbox_base"⟩,
  ⟨0x400007, 1, 1, 4, 2, 4, (some 1024), 256, 65536, "records", "inbox_size"⟩,
  ⟨0x400008, 1, 1, 4, 1, 4, (some 0), 0, 4294967295, "", "inbox_prod"⟩,
  ⟨0x400009, 1, 1, 4, 2, 4, (some 0), 0, 4294967295, "", "inbox_cons"⟩,
  ⟨0x40000A, 1, 1, 5, 2, 8, (some 0), 0, 51539607551, "", "outbox_base"⟩,
  ⟨0x40000B, 1, 1, 4, 2, 4, (some 1024), 256, 65536, "records", "outbox_size"⟩,
  ⟨0x40000C, 1, 1, 4, 2, 4, (some 0), 0, 4294967295, "", "outbox_prod"⟩,
  ⟨0x40000D, 1, 1, 4, 1, 4, (some 0), 0, 4294967295, "", "outbox_cons"⟩,
  ⟨0x40000E, 1, 1, 5, 2, 8, (some 0), 0, 51539607551, "", "integrity_ring_base"⟩]

/-- Rows of the object tables. -/
def objRows4 : List ObjDesc := [
  ⟨0x40000F, 1, 1, 4, 2, 4, (some 4096), 256, 65536, "records", "integrity_ring_size"⟩,
  ⟨0x400010, 1, 1, 4, 1, 4, (some 0), 0, 4294967295, "", "integrity_prod"⟩,
  ⟨0x400011, 1, 1, 4, 2, 4, (some 0), 0, 4294967295, "", "integrity_cons"⟩,
  ⟨0x400012, 1, 1, 5, 1, 8, (some 0), 0, 18446744073709551615, "records", "integrity_lost"⟩,
  ⟨0x400013, 1, 1, 1, 1, 1, (some 0), 0, 1, "", "pwrfail_seen"⟩,
  ⟨0x400014, 1, 1, 5, 1, 8, none, 0, 18446744073709551615, "", "drive_resv_key"⟩,
  ⟨0x400020, 1, 1, 11, 6, 64, none, 0, 0, "", "target_command"⟩,
  ⟨0x400021, 1, 1, 4, 1, 4, (some 0), 0, 4294967295, "", "target_seq"⟩,
  ⟨0x400022, 1, 1, 1, 1, 1, (some 1), 0, 1, "", "target_ready"⟩,
  ⟨0x400023, 1, 1, 2, 1, 1, (some 0), 0, 4, "", "target_outcome"⟩,
  ⟨0x400024, 1, 1, 11, 1, 64, none, 0, 0, "", "target_result"⟩,
  ⟨0x400025, 1, 1, 9, 1, 8, (some 0), 0, 18446744073709551615, "", "target_done_bell"⟩,
  ⟨0x440001, 1, 1, 4, 1, 4, (some 0), 0, 4294967295, "groups", "group_count"⟩,
  ⟨0x440002, 1, 1, 4, 1, 4, (some 0), 0, 4294967295, "volumes", "volume_count"⟩,
  ⟨0x440003, 1, 1, 5, 2, 8, (some 0), 0, 51539607551, "", "map_base"⟩,
  ⟨0x440004, 1, 1, 5, 2, 8, (some 0), 0, 8589934592, "bytes", "map_size"⟩,
  ⟨0x440005, 1, 1, 8, 3, 4, (some 0), 0, 16777215, "", "spare_set"⟩,
  ⟨0x440006, 1, 1, 1, 3, 1, (some 1), 0, 1, "", "auto_rebuild"⟩,
  ⟨0x440007, 1, 1, 4, 3, 4, (some 7812500), 97657, 4294967295, "bells", "member_timeout"⟩,
  ⟨0x440008, 1, 1, 3, 3, 2, (some 64), 1, 65535, "errors", "media_error_limit"⟩,
  ⟨0x440009, 1, 1, 3, 3, 2, (some 64), 0, 65535, "bells", "merge_hold"⟩,
  ⟨0x440010, 1, 1, 11, 6, 64, none, 0, 0, "", "layout_command"⟩,
  ⟨0x440011, 1, 1, 4, 1, 4, (some 0), 0, 4294967295, "", "layout_seq"⟩,
  ⟨0x440012, 1, 1, 1, 1, 1, (some 1), 0, 1, "", "layout_ready"⟩,
  ⟨0x440013, 1, 1, 2, 1, 1, (some 0), 0, 5, "", "layout_outcome"⟩,
  ⟨0x440014, 1, 1, 11, 1, 128, none, 0, 0, "", "layout_result"⟩,
  ⟨0x440015, 1, 1, 9, 1, 8, (some 0), 0, 18446744073709551615, "", "layout_done_bell"⟩,
  ⟨0x440040, 1, 32, 11, 1, 64, none, 0, 0, "", "group_state"⟩,
  ⟨0x480001, 1, 1, 8, 1, 4, (some 0), 0, 4294967295, "", "ledger_state"⟩,
  ⟨0x480002, 1, 1, 5, 1, 8, (some 0), 0, 18446744073709551615, "", "ledger_id"⟩,
  ⟨0x480003, 1, 1, 5, 1, 8, (some 0), 0, 18446744073709551615, "", "next_lseq"⟩,
  ⟨0x480004, 1, 1, 5, 1, 8, (some 0), 0, 18446744073709551615, "", "head_place"⟩,
  ⟨0x480005, 1, 1, 5, 1, 8, (some 0), 0, 18446744073709551615, "", "tail_place"⟩,
  ⟨0x480006, 1, 1, 4, 1, 4, (some 0), 0, 4294967295, "blocks", "live_blocks"⟩,
  ⟨0x480008, 1, 1, 11, 1, 64, none, 0, 0, "", "ledger_descriptor"⟩,
  ⟨0x480009, 1, 1, 4, 2, 4, (some 0), 0, 4294967295, "", "checkpoint_persisted"⟩,
  ⟨0x480010, 1, 1, 5, 2, 8, (some 0), 0, 51539607551, "", "granary_base"⟩,
  ⟨0x480011, 1, 1, 5, 2, 8, (some 0), 0, 42949672960, "bytes", "granary_size"⟩,
  ⟨0x480012, 1, 1, 4, 3, 4, (some 524288), 65536, 2097152, "slots", "staging_blocks"⟩,
  ⟨0x480013, 1, 1, 4, 3, 4, (some 262144), 16384, 2097152, "slots", "operand_blocks"⟩,
  ⟨0x480014, 1, 1, 2, 3, 1, (some 2), 0, 2, "", "cache_admit"⟩,
  ⟨0x480015, 1, 1, 11, 1, 20, none, 0, 0, "", "granary_state"⟩,
  ⟨0x480016, 1, 1, 9, 1, 8, (some 0), 0, 18446744073709551615, "", "pwrfail_bell"⟩,
  ⟨0x480020, 1, 1, 11, 6, 80, none, 0, 0, "", "ledger_command"⟩,
  ⟨0x480021, 1, 1, 4, 1, 4, (some 0), 0, 4294967295, "", "ledger_seq"⟩]

/-- Rows of the object tables. -/
def objRows5 : List ObjDesc := [
  ⟨0x480022, 1, 1, 1, 1, 1, (some 1), 0, 1, "", "ledger_ready"⟩,
  ⟨0x480023, 1, 1, 2, 1, 1, (some 0), 0, 4, "", "ledger_outcome"⟩,
  ⟨0x480024, 1, 1, 11, 1, 64, none, 0, 0, "", "ledger_result"⟩,
  ⟨0x480025, 1, 1, 9, 1, 8, (some 0), 0, 18446744073709551615, "", "ledger_done_bell"⟩,
  ⟨0x500001, 1, 1, 8, 1, 4, (some 0), 0, 4294967295, "", "key_state"⟩,
  ⟨0x500002, 1, 1, 5, 1, 8, (some 0), 0, 18446744073709551615, "", "shelf_id"⟩,
  ⟨0x500003, 1, 1, 11, 1, 8, none, 0, 0, "", "root_check"⟩,
  ⟨0x500004, 1, 1, 11, 1, 32, none, 0, 0, "", "identity_sign_pub"⟩,
  ⟨0x500005, 1, 1, 11, 1, 32, none, 0, 0, "", "identity_agree_pub"⟩,
  ⟨0x500006, 1, 1, 11, 1, 72, none, 0, 0, "", "identity_cert"⟩,
  ⟨0x500007, 1, 1, 5, 1, 8, (some 0), 0, 18446744073709551615, "", "wseq_next"⟩,
  ⟨0x500008, 1, 1, 5, 1, 8, (some 0), 0, 18446744073709551615, "", "wseq_limit"⟩,
  ⟨0x500009, 1, 1, 5, 2, 8, (some 0), 0, 18446744073709551615, "", "wseq_grant"⟩,
  ⟨0x50000A, 1, 1, 4, 1, 4, (some 0), 0, 4294967295, "", "epoch_next"⟩,
  ⟨0x50000B, 1, 1, 2, 3, 1, (some 4), 1, 64, "bells", "key_hold"⟩,
  ⟨0x50000C, 1, 1, 8, 1, 4, none, 0, 65535, "", "lane_state"⟩,
  ⟨0x500010, 1, 8, 11, 4, 32, none, 0, 0, "", "operator_key"⟩,
  ⟨0x500018, 1, 1, 11, 1, 64, none, 0, 0, "", "op_counters"⟩,
  ⟨0x500020, 1, 1, 11, 6, 160, none, 0, 0, "", "cipher_command"⟩,
  ⟨0x500021, 1, 1, 4, 1, 4, (some 0), 0, 4294967295, "", "cipher_seq"⟩,
  ⟨0x500022, 1, 1, 1, 1, 1, (some 1), 0, 1, "", "cipher_ready"⟩,
  ⟨0x500023, 1, 1, 2, 1, 1, (some 0), 0, 6, "", "cipher_outcome"⟩,
  ⟨0x500024, 1, 1, 11, 1, 160, none, 0, 0, "", "cipher_result"⟩,
  ⟨0x500025, 1, 1, 9, 1, 8, (some 0), 0, 18446744073709551615, "", "cipher_done_bell"⟩,
  ⟨0x500030, 1, 1, 5, 2, 8, (some 0), 0, 51539607551, "", "svc_ring_base"⟩,
  ⟨0x500031, 1, 1, 4, 2, 4, (some 256), 256, 65536, "descript", "svc_ring_size"⟩,
  ⟨0x500032, 1, 1, 4, 2, 4, (some 0), 0, 4294967295, "", "svc_prod"⟩,
  ⟨0x500033, 1, 1, 4, 1, 4, (some 0), 0, 4294967295, "", "svc_cons"⟩,
  ⟨0x540001, 1, 1, 2, 1, 1, (some 0), 0, 4, "", "role"⟩,
  ⟨0x540002, 1, 1, 8, 1, 4, (some 0), 0, 4294967295, "", "standby_status"⟩,
  ⟨0x540003, 1, 1, 2, 5, 1, none, 1, 1, "", "hb_refresh"⟩,
  ⟨0x540004, 1, 1, 4, 3, 4, (some 195313), 977, 4294967295, "bells", "hb_hold"⟩,
  ⟨0x540005, 1, 1, 4, 3, 4, (some 488282), 97657, 9765625, "bells", "lease_time"⟩,
  ⟨0x540006, 1, 1, 4, 3, 4, (some 97657), 9766, 4294967295, "bells", "lease_margin"⟩,
  ⟨0x540007, 1, 1, 5, 5, 8, none, 0, 18446744073709551615, "generati", "lease_confirm"⟩,
  ⟨0x540008, 1, 1, 9, 1, 8, (some 0), 0, 18446744073709551615, "", "lease_deadline"⟩,
  ⟨0x540009, 1, 1, 4, 3, 4, (some 48829), 977, 976563, "bells", "handover_wait"⟩,
  ⟨0x54000A, 1, 1, 3, 2, 2, (some 64), 0, 4095, "bells", "fence_stagger"⟩,
  ⟨0x54000B, 1, 1, 9, 1, 8, (some 0), 0, 18446744073709551615, "", "peer_edge_bell"⟩,
  ⟨0x54000C, 1, 1, 3, 3, 2, (some 50418), 1, 65535, "", "hb_port"⟩,
  ⟨0x54000D, 1, 1, 4, 3, 4, (some 97657), 9766, 195313, "bells", "renew_period"⟩,
  ⟨0x540010, 1, 1, 11, 6, 8, none, 0, 0, "", "standby_command"⟩,
  ⟨0x540011, 1, 1, 4, 1, 4, (some 0), 0, 4294967295, "", "standby_seq"⟩,
  ⟨0x540012, 1, 1, 1, 1, 1, (some 1), 0, 1, "", "standby_ready"⟩,
  ⟨0x540013, 1, 1, 2, 1, 1, (some 0), 0, 5, "", "standby_outcome"⟩]

/-- Rows of the object tables. -/
def objRows6 : List ObjDesc := [
  ⟨0x540014, 1, 1, 11, 1, 16, none, 0, 0, "", "standby_result"⟩,
  ⟨0x540015, 1, 1, 9, 1, 8, (some 0), 0, 18446744073709551615, "", "standby_done_bell"⟩,
  ⟨0x540020, 1, 1, 11, 1, 15732976, none, 0, 0, "", "record_image"⟩,
  ⟨0x600001, 24, 1, 1, 2, 1, (some 0), 0, 1, "", "bay_enable"⟩,
  ⟨0x600002, 24, 1, 2, 1, 1, (some 0), 0, 7, "", "bay_state"⟩,
  ⟨0x600003, 24, 1, 8, 1, 4, (some 0), 0, 4294967295, "", "bay_flags"⟩,
  ⟨0x600004, 24, 1, 11, 1, 32, none, 0, 0, "", "bay_measure"⟩,
  ⟨0x600005, 24, 1, 5, 1, 8, (some 0), 0, 18446744073709551615, "mJ", "bay_energy"⟩,
  ⟨0x600006, 24, 1, 3, 3, 2, (some 12000), 0, 65535, "mA", "fast_trip"⟩,
  ⟨0x600007, 24, 1, 3, 3, 2, (some 7000), 500, 20000, "mA", "efuse_limit"⟩,
  ⟨0x600008, 24, 1, 4, 3, 4, (some 2000), 1, 1000000, "bells", "efuse_time"⟩,
  ⟨0x600009, 24, 1, 3, 3, 2, (some 500), 50, 2000, "mA", "aux_limit"⟩,
  ⟨0x60000A, 24, 1, 3, 3, 2, (some 1200), 100, 12000, "mV/ms", "ramp_rate"⟩,
  ⟨0x60000B, 24, 1, 4, 3, 4, (some 4883), 98, 97657, "bells", "start_window"⟩,
  ⟨0x60000C, 24, 1, 4, 3, 4, (some 48829), 977, 976563, "bells", "pg_timeout"⟩,
  ⟨0x60000D, 24, 1, 11, 3, 8, none, 0, 0, "", "pg_window"⟩,
  ⟨0x60000E, 24, 1, 4, 3, 4, (some 976563), 977, 4294967295, "bells", "retry_time"⟩,
  ⟨0x60000F, 24, 1, 4, 3, 4, (some 2000), 500, 10000, "uOhm", "rsense"⟩,
  ⟨0x600010, 24, 1, 4, 3, 4, (some 20000), 2000, 100000, "uOhm", "rsense_aux"⟩,
  ⟨0x600011, 24, 1, 2, 2, 1, (some 0), 0, 255, "", "led_override"⟩,
  ⟨0x600012, 24, 1, 2, 3, 1, (some 1), 0, 2, "", "sb_mode"⟩,
  ⟨0x600020, 24, 1, 11, 6, 8, none, 0, 0, "", "bay_command"⟩,
  ⟨0x600021, 24, 1, 4, 1, 4, (some 0), 0, 4294967295, "", "bay_seq"⟩,
  ⟨0x600022, 24, 1, 1, 1, 1, (some 1), 0, 1, "", "bay_ready"⟩,
  ⟨0x600023, 24, 1, 2, 1, 1, (some 0), 0, 2, "", "bay_outcome"⟩,
  ⟨0x600024, 24, 1, 9, 1, 8, (some 0), 0, 18446744073709551615, "", "bay_done_bell"⟩,
  ⟨0x610001, 1, 1, 8, 1, 4, (some 0), 0, 16777215, "", "drive_ready"⟩,
  ⟨0x610002, 1, 1, 5, 2, 8, (some 0), 0, 51539607551, "", "dq_area_base"⟩,
  ⟨0x610003, 1, 1, 2, 3, 1, (some 16), 1, 128, "", "io_queues"⟩,
  ⟨0x610004, 1, 1, 3, 3, 2, (some 64), 2, 1024, "entries", "io_depth"⟩,
  ⟨0x610005, 1, 1, 4, 3, 4, (some 976563), 0, 4294967295, "bells", "link_timeout"⟩,
  ⟨0x610006, 1, 1, 4, 3, 4, (some 29296875), 0, 4294967295, "bells", "enable_timeout"⟩,
  ⟨0x610007, 1, 1, 4, 3, 4, (some 9765625), 0, 4294967295, "bells", "admin_timeout"⟩,
  ⟨0x610008, 1, 1, 4, 3, 4, (some 9765625), 0, 4294967295, "bells", "shutdown_timeout"⟩,
  ⟨0x610009, 1, 1, 4, 3, 4, (some 977), 98, 976563, "bells", "cfs_poll"⟩,
  ⟨0x61000A, 1, 1, 4, 3, 4, (some 976563), 0, 4294967295, "bells", "sb_poll"⟩,
  ⟨0x61000B, 1, 1, 2, 3, 1, (some 3), 1, 255, "faults", "latch_count"⟩,
  ⟨0x61000C, 1, 1, 4, 3, 4, (some 585937500), 0, 4294967295, "bells", "latch_window"⟩,
  ⟨0x610010, 1, 24, 11, 1, 128, none, 0, 0, "", "drive_info"⟩,
  ⟨0x610030, 1, 1, 11, 6, 96, none, 0, 0, "", "drive_command"⟩,
  ⟨0x610031, 1, 1, 4, 1, 4, (some 0), 0, 4294967295, "", "drive_seq"⟩,
  ⟨0x610032, 1, 1, 1, 1, 1, (some 1), 0, 1, "", "drive_ready_cmd"⟩,
  ⟨0x610033, 1, 1, 2, 1, 1, (some 0), 0, 4, "", "drive_outcome"⟩,
  ⟨0x610034, 1, 1, 11, 1, 64, none, 0, 0, "", "drive_result"⟩,
  ⟨0x610035, 1, 1, 9, 1, 8, (some 0), 0, 18446744073709551615, "", "drive_done_bell"⟩]

/-- Rows of the object tables. -/
def objRows7 : List ObjDesc := [
  ⟨0x700001, 1, 1, 8, 1, 4, (some 0), 0, 4294967295, "", "ep_link"⟩,
  ⟨0x700002, 1, 1, 2, 3, 1, (some 6), 1, 6, "", "ep_max_speed"⟩,
  ⟨0x700003, 1, 1, 2, 3, 1, (some 16), 1, 16, "", "ep_max_width"⟩,
  ⟨0x700004, 1, 1, 4, 3, 4, (some 7995), 0, 4294967295, "", "ep_subsys"⟩,
  ⟨0x700005, 1, 1, 1, 2, 1, (some 0), 0, 1, "", "ep_config_ready"⟩,
  ⟨0x700006, 1, 1, 1, 3, 1, (some 0), 0, 1, "", "ep_rom_enable"⟩,
  ⟨0x700007, 1, 1, 5, 2, 8, (some 0), 0, 51539607551, "", "ep_rom_base"⟩,
  ⟨0x700008, 1, 1, 1, 2, 1, (some 0), 0, 1, "", "ep_rom_valid"⟩,
  ⟨0x700009, 1, 1, 3, 3, 2, (some 768), 1, 768, "tags", "ep_tag_cap"⟩,
  ⟨0x70000A, 1, 1, 4, 3, 4, (some 15625), 49, 62500, "bells", "ep_cpl_timeout"⟩,
  ⟨0x70000B, 1, 1, 11, 1, 6, none, 0, 0, "", "ep_tag_state"⟩,
  ⟨0x70000C, 1, 1, 11, 1, 12, none, 0, 0, "", "ep_reset_count"⟩,
  ⟨0x700010, 1, 1, 11, 3, 256, none, 0, 0, "", "ep_aperture"⟩,
  ⟨0x700020, 1, 1, 3, 3, 2, (some 0), 0, 2047, "", "corolo_assoc_first"⟩,
  ⟨0x700021, 1, 1, 3, 3, 2, (some 0), 0, 2048, "", "corolo_assoc_count"⟩,
  ⟨0x700022, 1, 1, 1, 3, 1, (some 1), 0, 1, "", "corolo_mgmt_allowed"⟩,
  ⟨0x700023, 1, 1, 11, 1, 12, none, 0, 0, "", "corolo_state"⟩,
  ⟨0x780001, 1, 1, 8, 1, 4, (some 0), 0, 4294967295, "", "fault_state"⟩,
  ⟨0x780002, 1, 1, 4, 3, 4, (some 1048576), 1024, 4294967295, "bells", "quiet_period"⟩,
  ⟨0x780003, 1, 1, 1, 2, 1, (some 0), 0, 1, "", "fault_n_hold"⟩,
  ⟨0x780004, 1, 1, 11, 5, 10, none, 0, 0, "", "fault_inject"⟩,
  ⟨0x780005, 1, 1, 4, 1, 4, (some 0), 0, 4294967295, "", "log_prod"⟩,
  ⟨0x780006, 1, 1, 2, 3, 1, (some 0), 0, 4, "", "log_min"⟩,
  ⟨0x780007, 1, 1, 11, 1, 32, none, 0, 0, "", "first_fault"⟩,
  ⟨0x780008, 1, 1, 2, 5, 1, none, 1, 1, "", "first_rearm"⟩,
  ⟨0x780009, 1, 1, 9, 1, 8, (some 0), 0, 18446744073709551615, "", "irq_bell"⟩,
  ⟨0x78000A, 1, 1, 11, 1, 64, none, 0, 0, "", "active_set"⟩,
  ⟨0x780010, 1, 5, 8, 3, 4, none, 0, 31, "", "severity_actions"⟩,
  ⟨0x780040, 1, 16, 11, 3, 32, none, 0, 0, "", "source_cfg"⟩,
  ⟨0x780050, 1, 8, 11, 1, 1024, none, 0, 0, "", "fault_log"⟩,
  ⟨0x780080, 1, 64, 11, 1, 256, none, 0, 0, "", "source_status"⟩,
  ⟨0x790001, 1, 1, 3, 3, 2, (some 16), 1, 65535, "errors", "bucket_limit"⟩,
  ⟨0x790002, 1, 1, 4, 3, 4, (some 976563), 1024, 4294967295, "bells", "leak_interval"⟩,
  ⟨0x790003, 1, 6, 11, 1, 24, none, 0, 0, "", "mp_die_summary"⟩,
  ⟨0x790010, 1, 1, 11, 6, 40, none, 0, 0, "", "mp_command"⟩,
  ⟨0x790011, 1, 1, 4, 1, 4, (some 0), 0, 4294967295, "", "mp_seq"⟩,
  ⟨0x790012, 1, 1, 1, 1, 1, (some 1), 0, 1, "", "mp_ready"⟩,
  ⟨0x790013, 1, 1, 2, 1, 1, (some 0), 0, 2, "", "mp_outcome"⟩,
  ⟨0x790014, 1, 1, 11, 1, 32, none, 0, 0, "", "mp_result"⟩,
  ⟨0x790015, 1, 1, 9, 1, 8, (some 0), 0, 18446744073709551615, "", "mp_done_bell"⟩,
  ⟨0x7A0001, 1, 1, 2, 1, 1, none, 1, 4, "", "reset_cause"⟩,
  ⟨0x7A0002, 1, 1, 4, 1, 4, none, 0, 4294967295, "resets", "warm_resets"⟩,
  ⟨0x7A0003, 1, 1, 8, 1, 4, none, 0, 4294967295, "", "fuse_status"⟩,
  ⟨0x7A0004, 1, 1, 4, 1, 4, none, 0, 4294967295, "", "jtag_idcode"⟩,
  ⟨0x7A0005, 1, 1, 5, 2, 8, (some 0), 0, 51539607551, "", "dump_base"⟩]

/-- Rows of the object tables. -/
def objRows8 : List ObjDesc := [
  ⟨0x7A0006, 1, 1, 1, 2, 1, (some 0), 0, 1, "", "dump_retain"⟩,
  ⟨0x7A0007, 1, 1, 8, 1, 4, (some 0), 0, 4294967295, "", "dump_state"⟩,
  ⟨0x7A0008, 1, 1, 4, 1, 4, (some 0), 0, 4294967295, "bytes", "dump_length"⟩,
  ⟨0x7A0009, 1, 1, 11, 1, 12, none, 0, 0, "", "dump_retained"⟩,
  ⟨0x7A000A, 1, 1, 11, 1, 268435456, none, 0, 0, "", "dump_image"⟩,
  ⟨0x7A0010, 1, 1, 11, 6, 16, none, 0, 0, "", "bist_command"⟩,
  ⟨0x7A0011, 1, 1, 4, 1, 4, (some 0), 0, 4294967295, "", "bist_seq"⟩,
  ⟨0x7A0012, 1, 1, 1, 1, 1, (some 1), 0, 1, "", "bist_ready"⟩,
  ⟨0x7A0013, 1, 1, 2, 1, 1, (some 0), 0, 2, "", "bist_outcome"⟩,
  ⟨0x7A0014, 1, 1, 11, 1, 728, none, 0, 0, "", "bist_result"⟩,
  ⟨0x7A0015, 1, 1, 9, 1, 8, (some 0), 0, 18446744073709551615, "", "bist_done_bell"⟩,
  ⟨0x7A0020, 1, 1, 11, 6, 4, none, 0, 0, "", "reset_command"⟩,
  ⟨0x7A0021, 1, 1, 11, 6, 32, none, 0, 0, "", "dump_command"⟩,
  ⟨0x7A0022, 1, 1, 4, 1, 4, (some 0), 0, 4294967295, "", "dump_seq"⟩,
  ⟨0x7A0023, 1, 1, 1, 1, 1, (some 1), 0, 1, "", "dump_ready"⟩,
  ⟨0x7A0024, 1, 1, 2, 1, 1, (some 0), 0, 2, "", "dump_outcome"⟩,
  ⟨0x7A0025, 1, 1, 9, 1, 8, (some 0), 0, 18446744073709551615, "", "dump_done_bell"⟩,
  ⟨0x800001, 1, 1, 8, 1, 4, (some 0), 0, 4294967295, "", "ctr_status"⟩,
  ⟨0x800002, 1, 1, 9, 2, 8, (some 0), 0, 18446744073709551615, "", "snap_bell"⟩,
  ⟨0x800003, 1, 1, 4, 2, 4, (some 0), 0, 4294967295, "bells", "snap_period"⟩,
  ⟨0x800004, 1, 1, 9, 1, 8, (some 0), 0, 18446744073709551615, "", "snap_taken"⟩,
  ⟨0x800005, 1, 1, 4, 1, 4, (some 0), 0, 4294967295, "", "snap_era"⟩,
  ⟨0x800006, 1, 1, 4, 1, 4, (some 0), 0, 4294967295, "snapshot", "snap_count"⟩,
  ⟨0x800007, 1, 1, 9, 1, 8, (some 0), 0, 18446744073709551615, "", "ctr_clear_bell"⟩,
  ⟨0x800010, 1, 64, 11, 2, 8, none, 0, 0, "", "select_cfg"⟩,
  ⟨0x800080, 1, 1, 11, 6, 16, none, 0, 0, "", "ctr_command"⟩,
  ⟨0x800081, 1, 1, 4, 1, 4, (some 0), 0, 4294967295, "", "ctr_seq"⟩,
  ⟨0x800082, 1, 1, 1, 1, 1, (some 1), 0, 1, "", "ctr_ready"⟩,
  ⟨0x800083, 1, 1, 2, 1, 1, (some 0), 0, 1, "", "ctr_outcome"⟩,
  ⟨0x800084, 1, 1, 11, 1, 128, none, 0, 0, "", "ctr_result"⟩,
  ⟨0x800085, 1, 1, 9, 1, 8, (some 0), 0, 18446744073709551615, "", "ctr_done_bell"⟩,
  ⟨0x900001, 1, 1, 2, 1, 1, none, 0, 1, "", "boot_slot"⟩,
  ⟨0x900002, 1, 1, 8, 1, 4, none, 0, 4294967295, "", "boot_flags"⟩,
  ⟨0x900003, 1, 1, 4, 1, 4, none, 0, 64, "", "running_svn"⟩,
  ⟨0x900004, 1, 1, 2, 1, 1, none, 0, 64, "", "rollback_count"⟩,
  ⟨0x900005, 1, 1, 11, 1, 132, none, 0, 0, "", "oem_key_hash"⟩,
  ⟨0x900006, 1, 1, 11, 1, 512, none, 0, 0, "", "measurements"⟩,
  ⟨0x900010, 1, 1, 11, 6, 80, none, 0, 0, "", "fw_command"⟩,
  ⟨0x900011, 1, 1, 4, 1, 4, (some 0), 0, 4294967295, "", "fw_seq"⟩,
  ⟨0x900012, 1, 1, 1, 1, 1, (some 1), 0, 1, "", "fw_ready"⟩,
  ⟨0x900013, 1, 1, 2, 1, 1, (some 0), 0, 5, "", "fw_outcome"⟩,
  ⟨0x900014, 1, 1, 11, 1, 680, none, 0, 0, "", "fw_result"⟩,
  ⟨0x900015, 1, 1, 9, 1, 8, (some 0), 0, 18446744073709551615, "", "fw_done_bell"⟩]

/-- Every object of the device but the sub-indices 0 (R436). -/
def objTable : List ObjDesc :=
  objRows0 ++ objRows1 ++ objRows2 ++ objRows3 ++ objRows4 ++ objRows5 ++ objRows6 ++ objRows7 ++ objRows8

/-- The row covers an address. -/
def ObjDesc.covers (d : ObjDesc) (k : Nat) : Bool :=
  d.key / 256 ≤ k / 256 && k / 256 < d.key / 256 + d.idxs && d.key % 256 ≤ k % 256 && k % 256 < d.key % 256 + d.subs

/-- The row of an address. -/
def objDesc (k : Nat) : Option ObjDesc := objTable.find? (fun d => d.covers k)

/-- Highest sub-index under an index; none where the index holds no object (R436). -/
def topSub (index : Nat) : Option Nat :=
  (objTable.filter (fun d => d.key / 256 ≤ index && index < d.key / 256 + d.idxs)).foldl
    (fun a d => some (max (a.getD 0) (d.key % 256 + d.subs - 1))) none

/-- The first address above `k` among sub-indices `u` to `u + m - 1` of indices `i` to `i + n - 1`. -/
def nextIn (i n u m k : Nat) : Option Nat :=
  if k / 256 < i then some (i * 256 + u)
  else if i + n ≤ k / 256 then none
  else if k % 256 < u then some (k / 256 * 256 + u)
  else if k % 256 + 1 < u + m then some (k + 1)
  else if k / 256 + 1 < i + n then some ((k / 256 + 1) * 256 + u)
  else none

/-- The next defined address above `k` (R446). -/
def nextObj (k : Nat) : Option Nat :=
  (objTable.flatMap (fun d => [nextIn (d.key / 256) d.idxs 0 1 k, nextIn (d.key / 256) d.idxs (d.key % 256) d.subs k])).foldl
    (fun a x => match a, x with
      | some a, some x => some (min a x)
      | none, x => x
      | a, none => a) none

/-- Companion result objects of the CMD objects (R12): address, key of the results, and 0 sequence, 1 ready, 2 outcome, 3 result, 4 done bell. A bay's are given for bay 0. -/
def companions : List (Nat × Nat × Nat) := [
  (0x110021, 0x110020, 0), (0x110022, 0x110020, 1), (0x110023, 0x110020, 2), (0x110024, 0x110020, 3), (0x110025, 0x110020, 4),
  (0x12000B, 0x120008, 0), (0x12000C, 0x120008, 1), (0x12000D, 0x120008, 2), (0x12000E, 0x120008, 4), (0x14000B, 0x14000A, 0),
  (0x14000C, 0x14000A, 1), (0x14000D, 0x14000A, 2), (0x14000E, 0x14000A, 4), (0x240011, 0x240010, 0), (0x240012, 0x240010, 1),
  (0x240013, 0x240010, 2), (0x240014, 0x240010, 3), (0x260011, 0x260010, 0), (0x260012, 0x260010, 1), (0x260013, 0x260010, 2),
  (0x260014, 0x260010, 3), (0x260015, 0x260010, 4), (0x300021, 0x300020, 0), (0x300022, 0x300020, 1), (0x300023, 0x300020, 2),
  (0x300024, 0x300020, 3), (0x300025, 0x300020, 4), (0x300029, 0x300028, 0), (0x30002A, 0x300028, 1), (0x30002B, 0x300028, 2),
  (0x30002C, 0x300028, 3), (0x30002D, 0x300028, 4), (0x300049, 0x300048, 0), (0x30004A, 0x300048, 1), (0x30004B, 0x300048, 2),
  (0x30004C, 0x300048, 3), (0x30004D, 0x300048, 4), (0x340021, 0x340020, 0), (0x340022, 0x340020, 1), (0x340023, 0x340020, 2),
  (0x340024, 0x340020, 3), (0x340025, 0x340020, 4), (0x400021, 0x400020, 0), (0x400022, 0x400020, 1), (0x400023, 0x400020, 2),
  (0x400024, 0x400020, 3), (0x400025, 0x400020, 4), (0x440011, 0x440010, 0), (0x440012, 0x440010, 1), (0x440013, 0x440010, 2),
  (0x440014, 0x440010, 3), (0x440015, 0x440010, 4), (0x480021, 0x480020, 0), (0x480022, 0x480020, 1), (0x480023, 0x480020, 2),
  (0x480024, 0x480020, 3), (0x480025, 0x480020, 4), (0x500021, 0x500020, 0), (0x500022, 0x500020, 1), (0x500023, 0x500020, 2),
  (0x500024, 0x500020, 3), (0x500025, 0x500020, 4), (0x540011, 0x540010, 0), (0x540012, 0x540010, 1), (0x540013, 0x540010, 2),
  (0x540014, 0x540010, 3), (0x540015, 0x540010, 4), (0x600021, 0x600020, 0), (0x600022, 0x600020, 1), (0x600023, 0x600020, 2),
  (0x600024, 0x600020, 4), (0x610031, 0x610030, 0), (0x610032, 0x610030, 1), (0x610033, 0x610030, 2), (0x610034, 0x610030, 3),
  (0x610035, 0x610030, 4), (0x790011, 0x790010, 0), (0x790012, 0x790010, 1), (0x790013, 0x790010, 2), (0x790014, 0x790010, 3),
  (0x790015, 0x790010, 4), (0x7A0011, 0x7A0010, 0), (0x7A0012, 0x7A0010, 1), (0x7A0013, 0x7A0010, 2), (0x7A0014, 0x7A0010, 3),
  (0x7A0015, 0x7A0010, 4), (0x7A0022, 0x7A0020, 0), (0x7A0023, 0x7A0020, 1), (0x7A0024, 0x7A0020, 2), (0x7A0025, 0x7A0020, 4),
  (0x800081, 0x800080, 0), (0x800082, 0x800080, 1), (0x800083, 0x800080, 2), (0x800084, 0x800080, 3), (0x800085, 0x800080, 4),
  (0x900011, 0x900010, 0), (0x900012, 0x900010, 1), (0x900013, 0x900010, 2), (0x900014, 0x900010, 3), (0x900015, 0x900010, 4)]

end Sys2Proof.Machine
end

