-- ==== Sys2Proof/Machine/DictView.lean ====
section
/-! DEFINITION. What each object of the dictionary reads (spec 15, R436-R439, and the object tables of the other chapters). -/

namespace Sys2Proof.Machine

/-! ### Objects that hold what was written -/

/-- Default of an OCTETS object that is not all zeros (R93, R94, R168, R359, R464, R465). -/
def octetsDefault (k : Nat) : Bytes :=
  let i := k / 256
  let u := k % 256
  if 0x2000 ≤ i ∧ i < 0x2090 then
    (if u = 0x14 then defaultPcpMap else if u = 0x15 then defaultDscpMap else if 0x20 ≤ u ∧ u < 0x28 then defaultQueueCfg else [])
  else if i = 0x2400 then
    (if 0x20 ≤ u ∧ u < 0x24 then le 4 16384 else if 0x30 ≤ u ∧ u < 0x50 then [0xFF, 0xFF, 0xFF, 0xFF, 0xFF, 0xFF] else if 0x50 ≤ u ∧ u < 0x98 then defaultQueueCfg else [])
  else if i = 0x3400 ∧ 0x10 ≤ u ∧ u < 0x20 then defaultProfile
  else if 0x6000 ≤ i ∧ i < 0x6018 ∧ u = 0x0D then le 2 11000 ++ le 2 13200 ++ le 2 3000 ++ le 2 3600
  else if i = 0x7800 ∧ 0x40 ≤ u ∧ u < 0x50 then defaultCfg (u - 0x40)
  else []

/-- Default value of an object (R439). -/
def ObjDesc.dfltBytes (d : ObjDesc) (k : Nat) : Bytes :=
  if d.ty = 10 then []
  else if 0x780010 ≤ k ∧ k ≤ 0x780014 then le 4 (defaultActions (k - 0x780010))
  else match d.dflt with
    | some v => le d.size v
    | none => padTo d.size (octetsDefault k)

/-- What a writable object reads: the last value written, or its default. -/
def ObjDesc.stored (d : ObjDesc) (k : Nat) (s : State) : Bytes := s.obj k (d.dfltBytes k)

/-! ### Chapter by chapter -/

/-- A PTP time as seconds and nanoseconds (R40, R547). -/
def ptpBytes (t : Nat) : Bytes := le 8 (t / 10 ^ 9) ++ le 4 (t % 10 ^ 9)

/-- RO objects of spec 01 and the pins' objects at 0x1200 (R40, R556). -/
def viewBell (u : Nat) (s : State) : Bytes :=
  let b := s.bell
  if u = 0x01 then le 8 b.number
  else if u = 0x02 then le 4 (flagWord [(0, b.aligned), (1, b.lock), (2, b.rebaseNeeded), (3, b.fallback), (4, b.request.isSome)])
  else if u = 0x04 then le 8 b.number ++ ptpBytes b.ptp ++ le 4 (b2n b.alignedAtStart)
  else if u = 0x0F then le 4 b.era
  else if u = 0x10 then le 8 b.stretched
  else if u = 0x11 then le 2 1000
  else if 0x20 ≤ u ∧ u < 0x26 then
    let c := tgetD b.captures (u - 0x20) {}
    le 8 c.firstBell ++ le 2 c.unit ++ le 1 c.region ++ le 1 (flagWord [(0, c.stuck), (1, c.empty)]) ++ le 4 c.count
  else if u = 0x30 then s.ppsBytes
  else []

/-- RO objects of spec 02 and the temperatures (R58, R556). -/
def viewHier (u : Nat) (s : State) : Bytes :=
  if u = 0x01 then le 4 (bitmap 20 s.domOn)
  else if u = 0x03 then le 4 (bitmap 6 (fun i => s.hier.clockGood.getD i false && !s.hier.heldOut.contains i))
  else if u = 0x04 then (List.range' 0 6).flatMap (fun d => le 2 (bitmap (regionCount d) (s.fenced d)))
  else if u = 0x20 then tempBytes s.pins.temps
  else if u = 0x21 then tempBytes s.pins.peaks
  else []

/-- RO objects of a port (R93). -/
def viewPort (p u : Nat) (s : State) : Bytes :=
  let x := s.port p
  let m := s.portMode p
  if u = 0x04 then
    le 4 (flagWord [(0, x.up), (1, m ≠ 0 && x.lanes = s.allLanes p), (2, x.localFault), (3, x.remoteFault), (4, x.trained), (5, s.fecDegraded p),
      (6, s.portEnabled p && s.stby.fenceIn), (7, Config.portConfigError p s.bell.edges)] + 256 * x.lanes)
  else if u = 0x0C then (x.tsFifo ++ List.replicate (16 - x.tsFifo.length) (zeros 16)).flatten
  else if u = 0x16 then
    le 4 (bitmap 8 (fun c => (x.cls c).pause.isSome) + 256 * bitmap 8 (fun c => (x.cls c).xoff.isSome)
      + 65536 * bitmap 8 (fun c => (x.cls c).stormRx) + 2 ^ 24 * bitmap 8 (fun c => (x.cls c).stormTx))
  else []

/-- RO objects of the switch (R94). -/
def viewSwitch (u : Nat) (s : State) : Bytes :=
  if u = 0x04 then le 4 s.sw.fdb.length
  else if 0x24 ≤ u ∧ u < 0x28 then
    let n := u - 0x24
    le 4 (s.freeShared n) ++ le 4 (s.headroomUsed n) ++ le 4 (s.receptionUsed n) ++ le 4 (s.cellsUsed n + s.receptionUsed n)
  else []

/-- `engine_state` of an engine (R153). -/
def engineState (e : Nat) (s : State) : Bytes :=
  let qs := s.xp.qps.filter (fun q => engOf q.1 = e)
  let cs := (List.range' 0 4).map (fun c => s.cache (e * 4 + c))
  le 2 (qs.filter (fun q => q.2.state ≠ 0)).length ++ le 2 (cs.map (·.cached.length)).sum ++ le 2 (cs.map (·.missQ.length)).sum
    ++ le 2 (cs.map (·.writeBack.length)).sum ++ le 4 ((qs.map (·.2.refs.length)).sum + ((s.cc.chains.filter (fun c => c.1 / 256 = e)).map (·.2.held.length)).sum) ++ le 4 (cs.map (fun c => (c.fetching.filter (fun f => f.2.isSome)).length)).sum

/-- RO objects of the transport and the chains (R153, R181). -/
def viewTransport (u : Nat) (s : State) : Bytes :=
  if u = 0x01 then le 4 (s.xp.qps.filter (fun q => q.2.state ≠ 0)).length
  else if u = 0x02 then le 4 s.xp.domains.length
  else if u = 0x03 then le 4 (s.xp.regions.filter (fun r => r.2.state ≠ 0)).length
  else if u = 0x0C then le 4 s.xp.eventProd
  else if u = 0x0E then le 8 s.xp.eventLost
  else if 0x30 ≤ u ∧ u < 0x38 then engineState (u - 0x30) s
  else if u = 0x41 then le 4 (s.cc.chains.filter (fun c => c.2.state = 1 ∨ c.2.state = 2)).length
  else []

/-- K of R215. -/
def reservationKey : Nat := let k := ofBe ((Config.sha512 signPub).take 8); if k = 0 then 1 else k

/-- The drive host identifier of R215: firmware sets it in every drive (R216). -/
def driveHostId : Bytes := sub (Config.sha512 signPub) 8 16

/-- RO objects of the fabric target (R222). -/
def viewTarget (u : Nat) (s : State) : Bytes :=
  if u = 0x01 then le 4 (s.tgt.assocs.filter (fun a => a.2.state ≠ 0)).length
  else if u = 0x02 then le 4 (s.tgt.namespaces.filter (fun n => n.2.state ≠ 0)).length
  else if u = 0x03 then le 4 s.tgt.cmds.length
  else if u = 0x04 then le 4 s.entriesBound
  else if u = 0x08 then le 4 s.tgt.inboxProd
  else if u = 0x0D then le 4 s.tgt.outboxCons
  else if u = 0x10 then le 4 s.tgt.integProd
  else if u = 0x12 then le 8 s.tgt.integLost
  else if u = 0x13 then le 1 (b2n s.tgt.pwrfail.isSome)
  else if u = 0x14 then le 8 reservationKey
  else []

/-- RO objects of the volumes (R262). -/
def viewVolumes (u : Nat) (s : State) : Bytes :=
  if u = 0x01 then le 4 s.vol.groups.length
  else if u = 0x02 then le 4 s.vol.volumes.length
  else if 0x40 ≤ u ∧ u < 0x60 then s.groupState (u - 0x40)
  else []

/-- RO objects of the ledger and the granary (R295). -/
def viewLedger (u : Nat) (s : State) : Bytes :=
  let l := s.led
  if u = 0x01 then
    le 4 (s.liveSlots.length + flagWord [(2, l.paused), (3, l.copies.any (fun c => c.st = 2)), (4, l.isOpen), (5, l.replaying.isSome)])
  else if u = 0x02 then le 8 l.id
  else if u = 0x03 then le 8 l.nextLseq
  else if u = 0x04 then le 8 l.nextPlace
  else if u = 0x05 then le 8 s.tailPlace
  else if u = 0x06 then le 4 s.liveBlocks
  else if u = 0x08 then padTo 64 l.desc
  else if u = 0x15 then
    let newest (r : Rec) (i : Nat) : Bool := (s.stagedFor r.vol r.group (r.lba + i)).any (fun x => x.1.place = r.place)
    let indexed := ((l.recs.filter (fun r => (r.kind = 1 || r.kind = 2) && r.settled && !r.retired)).map (fun r => (List.range' 0 r.count).countP (newest r))).sum
    le 4 s.granarySlots ++ le 4 l.stagingUsed ++ le 4 l.operandUsed ++ le 4 l.cacheUsed ++ le 4 indexed
  else if u = 0x16 then le 8 l.pwrfailBell
  else []

/-- RO objects of the cipher (R331). -/
def viewCipher (u : Nat) (s : State) : Bytes :=
  let c := s.ciph
  if u = 0x01 then
    le 4 (flagWord [(0, c.root.isSome), (1, c.root.isSome && c.wseqNext = c.wseqLimit), (2, c.identityOk), (3, !c.randomFailed),
      (4, (List.range' 0 16).any (fun i => !(s.lane i).inService))])
  else if u = 0x02 then le 8 c.shelfId
  else if u = 0x03 then (match c.root with | some r => rootCheck r c.shelfId | none => zeros 8)
  else if u = 0x04 then signPub
  else if u = 0x05 then agreePub
  else if u = 0x06 then le 8 Config.serial.toNat ++ Config.identityCert
  else if u = 0x07 then le 8 c.wseqNext
  else if u = 0x08 then le 8 c.wseqLimit
  else if u = 0x0A then le 4 c.epochNext
  else if u = 0x0C then le 4 (bitmap 16 (fun i => (s.lane i).inService))
  else if u = 0x18 then (List.range' 0 8).flatMap (fun i => le 8 (tgetD c.opCounters i 0))
  else if u = 0x33 then le 4 c.svcCons
  else []

/-- RO objects of firmware and attestation (R333). -/
def viewFw (u : Nat) (s : State) : Bytes :=
  let c := s.ciph
  if u = 0x01 then le 1 c.bootSlot
  else if u = 0x02 then le 4 (b2n c.fallback)
  else if u = 0x03 then le 4 c.runningSvn
  else if u = 0x04 then le 1 c.rollback
  else if u = 0x05 then (List.range' 0 4).flatMap (fun i => padTo 32 (Config.oemHash i)) ++ le 1 c.revoked
  else if u = 0x06 then (List.range' 0 8).flatMap s.measure
  else []

/-- RO objects of a bay (R359). -/
def viewBay (n u : Nat) (s : State) : Bytes :=
  let b := s.bayOf n
  let m := b.measure
  if u = 0x02 then le 1 (if s.supervised then b.state else 6)
  else if u = 0x03 then
    le 4 (flagWord [(0, b.pinA), (1, b.pinB), (2, b.gate), (3, b.pgEdge.isSome), (4, b.perst), (5, b.fuse12 ≠ 0 || b.fuseAux ≠ 0), (6, b.fenced),
      (7, b.state = 5), (24, b.adcFault)] + b.cause * 256 + min 255 (s.recentFaults n) * 65536)
  else if u = 0x04 then le 8 m.bell ++ leI 4 m.i12 ++ le 4 m.v12 ++ leI 4 m.iAux ++ le 4 m.vAux ++ le 4 m.power ++ le 2 m.gate
  else if u = 0x05 then le 8 (b.energy / 10 ^ 12)
  else []

/-- `drive_info` (R361). -/
def driveInfo (n : Nat) (s : State) : Bytes :=
  let d := (s.bayOf n).drive
  le 1 d.state ++ le 1 d.speed ++ le 1 d.width ++ le 1 (flagWord [(0, d.ams), (1, d.ext), (2, d.sgl), (3, d.warning ≠ 0)]) ++ le 4 d.queues ++ le 8 d.nsBlocks
    ++ padTo 20 d.serial ++ padTo 40 d.model ++ padTo 8 d.fwRev ++ le 2 d.temp ++ le 1 d.warning ++ le 1 d.mdts ++ le 4 d.out.length
    ++ le 8 d.stateBell ++ le 4 d.stateEra

/-- RO objects of the drives (R360). -/
def viewDrives (u : Nat) (s : State) : Bytes :=
  if u = 0x01 then le 4 (bitmap 24 (fun n => (s.bayOf n).drive.state = 5))
  else if 0x10 ≤ u ∧ u < 0x28 then driveInfo (u - 0x10) s
  else []

/-- RO objects of the standby chapter (R388). -/
def viewStandby (u : Nat) (s : State) : Bytes :=
  let t := s.stby
  if u = 0x01 then le 1 t.role
  else if u = 0x02 then
    le 4 (flagWord [(0, t.beatSeen), (1, t.peerFail), (2, t.fenceIn), (3, t.fenceOut), (4, t.beat.isSome), (5, t.take.any (fun x => x.waitEnd.isNone))] + t.cause * 64)
  else if u = 0x08 then le 8 t.deadline
  else if u = 0x0B then le 8 t.inBell
  else if u = 0x20 then (match t.confirm with | some g => if t.role = 3 then Config.shelfRecord g else [] | none => [])
  else []

/-- RO objects of the endpoint and of Corolo (R412, R434). -/
def viewEndpoint (u : Nat) (s : State) : Bytes :=
  let e := s.ep
  if u = 0x01 then
    le 4 (flagWord [(0, e.link), (9, e.flit), (10, s.msiOn), (11, s.msixOn), (12, s.busMaster), (13, s.d3), (14, s.objN 0x700005 0 = 1)] + e.speed * 2 + e.width * 16)
  else if u = 0x0B then le 2 e.tags.length ++ le 2 e.quarantine.length ++ le 2 s.tagLimit
  else if u = 0x0C then le 4 e.fundamental ++ le 4 e.hot ++ le 4 e.flrs
  else if u = 0x23 then
    let rs := s.cor.rings.filter (fun r => r.2.state ≠ 0)
    le 4 rs.length ++ le 4 (rs.filter (fun r => r.2.state = 2)).length ++ le 4 (rs.map (fun r => r.2.jobs.length)).sum
  else []

/-- RO identity objects (R459). -/
def viewIdentity (u : Nat) : Bytes :=
  if u = 0x01 then le 2 0x1F3B
  else if u = 0x02 then le 2 0x7224
  else if u = 0x03 then le 1 Config.siliconRev.toNat
  else if u = 0x04 then le 8 Config.serial.toNat
  else if u = 0x05 then ascii "Keljor Silicon"
  else if u = 0x06 then ascii "DN-7224"
  else if u = 0x07 then le 4 Config.erralVersion.toNat
  else if u = 0x09 then le 2 1
  else []

/-- `t1s_status` (R460); the segment's part is a free value while the PHY is out of reset. -/
def t1sStatus (s : State) : Nat :=
  if s.bell.edges = 0 ∨ s.objN 0x110003 1 = 0 then 0
  else (Config.t1sLink s.bell.edges).toNat + (if s.objN 0x110007 255 = 0 then 8 else 0)

/-- RO communication objects (R460). -/
def viewComm (u : Nat) (s : State) : Bytes :=
  if u = 0x04 then le 6 Config.t1sMac.toNat
  else if u = 0x0C then le 4 (t1sStatus s)
  else if u = 0x0F then le 8 s.dict.persistGen
  else if u = 0x10 then le 2 s.dict.requesters.length
  else []

/-- `source_status` of a source (R489). -/
def sourceStatus (i : Nat) (s : State) : Bytes :=
  let x := s.source i
  le 4 x.count ++ le 4 x.recoveries ++ le 8 x.lastBell ++ le 4 x.lastEra ++ le 1 x.active ++ le 1 x.worst ++ le 1 x.actions ++ le 1 0 ++ le 8 x.activeBell

/-- An empty first-fault capture (R473). -/
def emptyFirst : Bytes := zeros 12 ++ [0xFF, 0xFF] ++ zeros 18

/-- RO fault objects (R488). -/
def viewFaults (u : Nat) (s : State) : Bytes :=
  if u = 0x01 then le 4 s.faultState
  else if u = 0x05 then le 4 s.flt.logProd
  else if u = 0x07 then s.flt.firstFault.getD emptyFirst
  else if u = 0x09 then le 8 s.flt.irqBell
  else if u = 0x0A then le 64 (bitmap 512 (fun i => (s.source i).active ≠ 0))
  else if 0x50 ≤ u ∧ u < 0x58 then (List.range' 0 32).flatMap (fun i => padTo 32 (tgetD s.flt.log ((u - 0x50) * 32 + i) []))
  else if 0x80 ≤ u ∧ u < 0xC0 then (List.range' 0 8).flatMap (fun i => sourceStatus ((u - 0x80) * 8 + i) s)
  else []

/-- `mp_die_summary` of a die (R490). -/
def dieSummary (d : Nat) (s : State) : Bytes :=
  let xs := s.mp.insts.filter (fun x => x.1 / 256 = d)
  let l := tgetD s.mp.lastUnc d (0, 0)
  le 8 (xs.map (·.2.corrected)).sum ++ le 8 (xs.map (·.2.uncorrectable)).sum ++ le 2 l.1 ++ le 6 l.2

/-- RO objects of reset, self-test and dump (R514); `dump_image` is empty until the dump is closed (R511). -/
def viewReset (u : Nat) (s : State) : Bytes :=
  let d := s.rst.dump
  if u = 0x01 then le 1 s.rst.cause
  else if u = 0x02 then le 4 s.rst.warm
  else if u = 0x03 then le 4 s.rst.fuseStatus
  else if u = 0x04 then le 4 idcode
  else if u = 0x07 then le 4 (flagWord [(0, d.captured), (1, d.closed), (2, d.retained), (3, d.truncated)])
  else if u = 0x08 then le 4 d.length
  else if u = 0x09 then le 8 d.retBase ++ le 4 d.retLen
  else if u = 0x0A then (if d.closed && s.hbmOn then s.mem.read s.dumpBase d.length else [])
  else []

/-- RO objects of the counters (R530). -/
def viewCounters (u : Nat) (s : State) : Bytes :=
  if u = 0x01 then le 4 (flagWord [(0, s.ctr.snapCount ≠ 0), (1, s.objN 0x800002 0 ≠ 0)])
  else if u = 0x04 then le 8 s.ctr.snapTaken
  else if u = 0x05 then le 4 s.ctr.snapEra
  else if u = 0x06 then le 4 s.ctr.snapCount
  else if u = 0x07 then le 8 s.ctr.clearBell
  else []

/-- RO objects of a chapter as they stand now. -/
def viewOf (k : Nat) (s : State) : Bytes :=
  let i := k / 256
  let u := k % 256
  if i = 0x1000 then viewIdentity u
  else if i = 0x1100 then viewComm u s
  else if i = 0x1200 then viewBell u s
  else if i = 0x1400 then viewHier u s
  else if i < 0x2090 then viewPort (i - 0x2000) u s
  else if i = 0x2400 then viewSwitch u s
  else if i = 0x3000 then viewTransport u s
  else if i = 0x4000 then viewTarget u s
  else if i = 0x4400 then viewVolumes u s
  else if i = 0x4800 then viewLedger u s
  else if i = 0x5000 then viewCipher u s
  else if i = 0x5400 then viewStandby u s
  else if i < 0x6018 then viewBay (i - 0x6000) u s
  else if i = 0x6100 then viewDrives u s
  else if i = 0x7000 then viewEndpoint u s
  else if i = 0x7800 then viewFaults u s
  else if i = 0x7900 then dieSummary (u - 3) s
  else if i = 0x7A00 then viewReset u s
  else if i = 0x8000 then viewCounters u s
  else viewFw u s

/-- The companion an address is, if any: results' key and field (R12). -/
def companionOf (k : Nat) : Option (Nat × Nat) :=
  let k0 := if 0x600000 ≤ k ∧ k < 0x601800 then 0x600000 + k % 256 else k
  (companions.find? (fun c => c.1 = k0)).map (fun c => (c.2.1 + (k - k0), c.2.2))

/-- One companion of a command's results (R12). -/
def companion (set f : Nat) (s : State) : Bytes :=
  let r := s.res set
  if f = 0 then le 4 r.seq
  else if f = 1 then le 1 (b2n r.ready)
  else if f = 2 then le 1 r.outcome
  else if f = 3 then r.result
  else le 8 r.doneBell

/-! ### Objects that read as at the last edge (R9) -/

/-- Objects sampled at each edge: those whose table says so, and state words whose conditions arise between edges. -/
def edgeObjects : List Nat :=
  [0x11000C, 0x120002, 0x140001, 0x140003, 0x140004, 0x400003, 0x480001, 0x480015, 0x500001, 0x50000C, 0x540002, 0x610001, 0x700001, 0x70000B, 0x700023,
   0x780001, 0x78000A, 0x7A0007, 0x800001]
    ++ (List.range' 0 6).map (0x790003 + ·) ++ (List.range' 0 8).map (0x300030 + ·) ++ (List.range' 0 4).map (0x240024 + ·) ++ (List.range' 0 32).map (0x440040 + ·)
    ++ (List.range' 0 144).flatMap (fun p => [portKey p 0x04, portKey p 0x16]) ++ (List.range' 0 24).map (fun n => bayKey n 0x03)
    ++ (List.range' 0 24).map (0x610010 + ·)

/-- What an RO object reads before the first edge: as State.reset shows it, and `ep_tag_state` its default (R412). -/
def defaultView (k : Nat) : Bytes := if k = 0x70000B then zeros 6 else viewOf k State.reset

/-- The objects of R9 take the values they show until the next edge; one that reads as it did at release is not listed. -/
def sampleObjects (s : State) : State :=
  { s with dict.atEdge := edgeObjects.foldl (fun t k =>
      let v := viewOf k s
      if v = defaultView k then terase t k else tset t k v) s.dict.atEdge }

/-- What an RO object reads. -/
def State.roValue (s : State) (k : Nat) : Bytes :=
  match companionOf k with
  | some (set, f) => companion set f s
  | none => if edgeObjects.contains k then tgetD s.dict.atEdge k (defaultView k) else viewOf k s

/-! ### Reading an object (R436, R438, R446) -/

/-- Value of an object of the table; none where its access does not let it be read (R438). -/
def ObjDesc.value (d : ObjDesc) (k : Nat) (s : State) : Option Bytes :=
  if d.acc = 5 then none
  else if d.acc = 6 then some (padTo d.size (tgetD s.dict.params k []))
  else
    let v := if d.acc = 1 then s.roValue k
             else if 0x2000 ≤ k / 256 ∧ k / 256 < 0x2090 ∧ k % 256 = 1 ∧ s.isMember (k / 256 - 0x2000) then [6]
             else d.stored k s
    if d.ty = 10 ∨ k = 0x540020 ∨ k = 0x7A000A then some (v.take d.size) else some (padTo d.size v)

/-- What a read of `n` bytes from `off` answers: the value, or a status (R446, R448). -/
def ObjDesc.read (d : ObjDesc) (k off n : Nat) (s : State) : Bytes ⊕ Nat :=
  match d.value k s with
  | none => .inr 2
  | some v =>
    if d.ty < 10 then (if off ≠ 0 ∨ (n ≠ 0 ∧ n ≠ d.size) then .inr 3 else .inl v)
    else if v.length < off then .inr 3
    else .inl (if n = 0 then v.drop off else (v.drop off).take n)

/-- The descriptor of an object (R446); a field the spec does not state is a free value. -/
def ObjDesc.describe (d : ObjDesc) (k : Nat) : Bytes :=
  let w (i : Int) : Bytes := leI 8 i
  le 1 d.ty ++ le 1 d.acc ++ zeros 2 ++ le 4 d.size
    ++ (if 10 ≤ d.ty then zeros 24
        else (if 0x780010 ≤ k ∧ k ≤ 0x780014 then le 8 (defaultActions (k - 0x780010)) else le 8 (d.dflt.getD (Config.unstated k 0))) ++ w d.lo ++ w d.hi)
    ++ padTo 8 (ascii d.unit) ++ padTo 32 (ascii d.name)

/-- The object at a sub-index 0 (R436): a U8 that reads the highest sub-index; its name and its unit are not stated. -/
def describeTop (k top : Nat) : Bytes :=
  le 1 2 ++ le 1 1 ++ zeros 2 ++ le 4 1 ++ le 8 top ++ zeros 8 ++ le 8 255 ++ le 8 (Config.unstated k 3) ++ le 32 (Config.unstated k 4)

end Sys2Proof.Machine
end

