-- ==== Sys2Proof/Machine/RegRead.lean ====
section
/-! DEFINITION. Reads of BAR0 and BAR2 (R4, R6, R8, R11, R396, R403, R422, R427, R429, R433, R454, R521). A read changes nothing but the count of accesses. -/

namespace Sys2Proof.Machine

/-- The half of a 64-bit register that a doubleword holds. -/
def halfOf (w : Nat) (hi : Bool) : Nat := if hi then w / 2 ^ 32 % 2 ^ 32 else w % 2 ^ 32

/-- One doubleword of the endpoint registers (R403). -/
def endpointDword (off : Nat) (s : State) : Nat :=
  if off = 0 then 0x00017224
  else if off = 8 ∨ off = 0xC then halfOf s.bell.number (off = 0xC)
  else if off = 0x10 then s.ep.ev % 32
  else if off = 0x18 then s.ep.evEnable % 32
  else if off = 0x1C then s.ep.evVector % 4096
  else if off = 0x20 then ofLe (s.roValue 0x700001)
  else 0

/-- What the status blocks show of state and stop cause until the next edge (R9). -/
def sampleRings (s : State) : State := { s with cor.rings := tmap s.cor.rings (fun _ r => { r with shown := (r.state, r.cause) }) }

/-- A ring's status block (R427); its state and stop cause are those of the last edge (R9). -/
def ringDword (q i : Nat) (s : State) : Nat :=
  let r := s.ring q
  if i = 0 then r.shown.1 + r.shown.2 * 16 + r.entries.length % 65536 * 65536
  else if i = 1 then r.head % 2 ^ 32
  else if i = 2 then r.tail % 2 ^ 32
  else r.excProd % 2 ^ 32

/-- One doubleword of the setup registers of ring 0 (R429); `rr_clear` is write-only. -/
def adminDword (o : Nat) (s : State) : Nat :=
  let c := s.cor
  if o = 0 ∨ o = 4 then halfOf c.base (o = 4)
  else if o = 8 then c.size
  else if o = 0x10 ∨ o = 0x14 then halfOf c.headAddr (o = 0x14)
  else if o = 0x18 ∨ o = 0x1C then halfOf c.excBase (o = 0x1C)
  else if o = 0x20 then c.excSize
  else if o = 0x24 then c.vector
  else if o = 0x28 then b2n c.enable
  else if o = 0x2C then c.start
  else if o = 0x30 then c.modCount
  else if o = 0x34 then c.modTime
  else 0

/-- The 16 bytes of a failure record (R433). -/
def FailRec.octets (r : FailRec) : Bytes := le 2 r.ring ++ le 1 r.cls ++ le 1 r.op ++ le 4 r.idx ++ le 4 r.tag ++ le 2 r.status ++ zeros 2

/-- One doubleword of the reset record, at an offset from 0x018_0000 (R433). -/
def resetRecordDword (o : Nat) (s : State) : Nat :=
  let c := s.cor
  if o = 0 ∨ o = 4 then halfOf c.rrBell (o = 4)
  else if o = 8 then c.rrEra
  else if o = 0xC then c.rrList.length
  else if o = 0x10 then b2n c.rrOverflow
  else if o = 0x14 then c.rrSeq
  else if 0x1000 ≤ o ∧ o < 0x5000 then tgetD c.finals ((o - 0x1000) / 4) 0 % 2 ^ 32
  else if 0x10000 ≤ o then
    (match (c.rrList.drop ((o - 0x10000) / 16)).head? with
     | some r => fld r.octets (o % 16) 4
     | none => 0)
  else 0

/-- One doubleword of the dictionary window, at an offset from 0x100_0000 (R454); `dw_go` is write-only. -/
def windowDword (o : Nat) (s : State) : Nat :=
  if o < 0x1000 then fld s.dict.dwRequest o 4
  else if o < 0x2000 then fld s.dict.dwResponse (o - 0x1000) 4
  else if o = 0x2008 then b2n s.dict.dwBusy + s.dict.dwSeq % 65536 * 65536
  else if o = 0x200C then s.dict.dwVector
  else 0

/-- One doubleword of BAR0 as it reads (R4, R6, R396): an offset that nothing is assigned to reads 0. -/
def bar0Read (off : Nat) (s : State) : Nat :=
  if off < 0x1000 then endpointDword off s
  else if off < 0x10000 then 0
  else if off < 0x20000 then fld (s.msixEntry ((off - 0x10000) / 16)) (off % 16) 4
  else if off < 0x20200 then bitmap 32 (fun i => s.ep.vectors.contains ((off - 0x20000) * 8 + i))
  else if off < 0x100000 then 0
  else if off < 0x110000 then adminDword (off - 0x100000) s
  else if off < 0x120000 then ringDword ((off - 0x110000) / 16) (off % 16 / 4) s
  else if off < 0x180000 then 0
  else if off < 0x1B0000 then resetRecordDword (off - 0x180000) s
  else if off < 0x1000000 then 0
  else if off < 0x2000000 then windowDword (off - 0x1000000) s
  else if off < 0x3000000 then halfOf (s.ctr.live.word ((off - 0x2000000) / 8 * 8)) (off % 8 = 4)
  else if off < 0x4000000 then halfOf (s.ctr.snap.word ((off - 0x3000000) / 8 * 8)) (off % 8 = 4)
  else 0

/-- A read of a BAR that decodes 4 or 8 bytes (R396, R407): counted (R8), and completed with the value, or as an Unsupported Request of another size. -/
def barRead (ev size : Nat) (v : Nat → State → Nat) (off : Nat) (ro : Bool) (s : State) : State :=
  s.when (s.epRuns && s.ep.link) (fun s =>
    let s := s.count ev 0
    if !s.barOpen ∨ (size ≠ 4 ∧ size ≠ 8) then (unsupported false s).emit (.barCpl 1 false ro [])
    else s.emit (.barCpl 0 false ro (le 4 (v off s) ++ (if size = 8 then le 4 (v (off + 4) s) else []))))

/-- A read of BAR0: one 64-bit access gives both halves of one bell (R11). -/
def readBar0 (off size : Nat) (ro : Bool) (s : State) : State := barRead Ev.bar0 size bar0Read off ro s

/-- A read of the expansion ROM (R398): 1 MiB at `ep_rom_base`, or 0xFF in every byte while `ep_rom_valid` is 0. -/
def readRom (off len : Nat) (ro : Bool) (s : State) : State :=
  s.when (s.epRuns && s.ep.link) (fun s =>
    if !s.barOpen ∨ !s.ep.rom ∨ !(s.cfgVal 0x30).testBit 0 ∨ 0x100000 < off + len then (unsupported false s).emit (.barCpl 1 false ro [])
    else if s.objN 0x700008 0 = 0 then s.emit (.barCpl 0 false ro (List.replicate len 0xFF))
    else
      let x := s.objN 0x700007 0 + off
      let (s, b, bad) := s.hbmGet (212 + b2n (inStackB x)) 0 x len
      s.emit (.barCpl 0 bad ro b))

/-- A read of BAR2 returns 0 (R422). -/
def readBar2 (off size : Nat) (ro : Bool) (s : State) : State := barRead Ev.bar2 size (fun _ _ => 0) off ro s

end Sys2Proof.Machine
end

