-- ==== Sys2Proof/Machine/DictWrite.lean ====
section
/-! DEFINITION. Writes of the dictionary's objects (spec 15, R437, R438, R443): the command that each opcode names, the checks of each writable object, and REGISTER_WRITE. -/

namespace Sys2Proof.Machine

/-! ### What an opcode of a command object does (R443) -/

/-- An action of a command object on its parameters. -/
abbrev CmdAct := Bytes → State → State

/-- Opcodes of `hier_command` (R58). -/
def hierOps : Nat → Option CmdAct
  | 0 => some domainOff
  | 1 => some domainOn
  | 2 => some clusterQuiesce
  | 3 => some clusterResume
  | 4 => some regionCommandFence
  | 5 => some regionCommandUnfence
  | 6 => some domainForcedOff
  | _ => none

/-- Opcodes of `switch_command` (R95). -/
def switchOps : Nat → Option CmdAct
  | 1 => some fdbAddStatic
  | 2 => some fdbDelete
  | 3 => some fdbFlush
  | 4 => some fdbLookup
  | 5 => some groupWrite
  | 6 => some groupRead
  | 7 => some vlanWrite
  | 8 => some vlanRead
  | _ => none

/-- Opcodes of `sched_command` (R118). -/
def schedOps : Nat → Option CmdAct
  | 1 => some queueWrite
  | 2 => some queueRead
  | 3 => some instanceShaperWrite
  | 4 => some instanceShaperRead
  | 5 => some policerWrite
  | 6 => some policerRead
  | 7 => some policeMapWrite
  | 8 => some policeMapRead
  | 9 => some gateAdminWrite
  | 10 => some gateCommit
  | 11 => some gateRead
  | 12 => some sampleFetch
  | _ => none

/-- Opcodes of `qp_command` (R154). -/
def qpOps : Nat → Option CmdAct
  | 1 => some qpCreate
  | 2 => some qpConnect
  | 3 => some qpToError
  | 4 => some qpDestroy
  | 5 => some qpQuery
  | 6 => some domainAllocate
  | 7 => some domainFree
  | _ => none

/-- Opcodes of `mr_command` (R155). -/
def mrOps : Nat → Option CmdAct
  | 1 => some mrRegister
  | 2 => some mrRevoke
  | 3 => some mrQuery
  | _ => none

/-- Opcodes of `cc_command` (R170). -/
def ccOps : Nat → Option CmdAct
  | 1 => some ccSetProfileMode
  | 2 => some ccQueryRate
  | _ => none

/-- Opcodes of `chain_command` (R182). -/
def chainOps : Nat → Option CmdAct
  | 1 => some chainArm
  | 2 => some chainDisarm
  | 3 => some chainQuery
  | 4 => some mirrorBind
  | 5 => some mirrorUnbind
  | _ => none

/-- Opcodes of `target_command` (R223). -/
def targetOps : Nat → Option CmdAct
  | 1 => some namespaceWrite
  | 2 => some namespaceRead
  | 3 => some accessWrite
  | 4 => some associationBind
  | 5 => some associationRelease
  | 6 => some queueBind
  | 7 => some queueEnable
  | 8 => some queueUnbind
  | 9 => some reservationViewWrite
  | 10 => some associationQuery
  | 11 => some hostGroupWrite
  | _ => none

/-- Opcodes of `layout_command` (R263). -/
def layoutOps : Nat → Option CmdAct
  | 1 => some groupCreate
  | 2 => some groupDelete
  | 3 => some groupQuery
  | 4 => some volumeCreate
  | 5 => some volumeDelete
  | 6 => some volumeQuery
  | 7 => some reshapeStart
  | 8 => some reshapePauseResume
  | 9 => some rebuildStart
  | 10 => some scrubControl
  | 11 => some memberFailCommand
  | 12 => some lostListFetch
  | _ => none

/-- Opcodes of `ledger_command` (R296). -/
def ledgerOps : Nat → Option CmdAct
  | 1 => some ledgerCreate
  | 2 => some copyReplace
  | 3 => some replay
  | 4 => some drain
  | _ => none

/-- Opcodes of `cipher_command` (R332). -/
def cipherOps (signed : Bool) : Nat → Option CmdAct
  | 1 => some (rootCreate signed)
  | 2 => some unwrap
  | 3 => some (enroll signed)
  | 4 => some (escrowExport signed)
  | 5 => some rootUnload
  | 6 => some volumeRekey
  | 7 => some restore
  | 8 => some volumeEpochQuery
  | _ => none

/-- Opcodes of `fw_command` (R333). -/
def fwOps (signed : Bool) : Nat → Option CmdAct
  | 1 => some measurementExtend
  | 2 => some attest
  | 3 => some (rollbackAdvance signed)
  | 4 => some (oemRevoke signed)
  | _ => none

/-- Opcodes of `standby_command` (R389). -/
def standbyOps (signed : Bool) : Nat → Option CmdAct
  | 1 => some enterStandby
  | 2 => some takeOver
  | 3 => some fenceRelease
  | 4 => some (resign signed)
  | _ => none

/-- The end of a sideband transfer that a dictionary write starts (R362): the drive answers as an open number says. -/
def openEnd (k : Nat) : SidebandEnd := if k % 3 = 0 then .ack else if k % 3 = 1 then .nak else .clockLow

/-- Opcodes of `drive_command` (R362). -/
def driveOps (how : SidebandEnd) (rd : Bytes) : Nat → Option CmdAct
  | 1 => some adminPassthrough
  | 2 => some controllerReset
  | 3 => some (sidebandTransfer how rd)
  | 4 => some linkRetrain
  | _ => none

/-- Opcodes of `mp_command` (R491). -/
def mpOps : Nat → Option CmdAct
  | 1 => some regionFill
  | 2 => some hbmFill
  | 3 => some testWrite
  | 4 => some testRead
  | 5 => some instanceQuery
  | _ => none

/-- Opcodes of `bist_command` (R515). -/
def bistOps : Nat → Option CmdAct
  | 1 => some (bistStart 1)
  | 2 => some (bistStart 2)
  | 3 => some (bistStart 3)
  | _ => none

/-- Opcodes of `dump_command` (R516). -/
def dumpOps : Nat → Option CmdAct
  | 1 => some dumpCapture
  | 2 => some dumpClose
  | 3 => some dumpClear
  | _ => none

/-- Opcodes of `ctr_command` (R532). -/
def ctrOps : Nat → Option CmdAct
  | 1 => some clearAll
  | 2 => some clearStage
  | 3 => some clearSelectable
  | 4 => some snapshotNow
  | 5 => some counterRead
  | 6 => some directoryQuery
  | _ => none


/-- Opcodes of `bay_command` of a bay (R349). -/
def bayOps (bay : Nat) : Nat → Option CmdAct
  | 1 => some (bayRelease bay)
  | 2 => some (bayEnergyClear bay)
  | 3 => some (bayPowerCycle bay)
  | 4 => some (bayHistoryClear bay)
  | _ => none

/-- A write of a command object whose opcodes are `ops`: an undefined opcode is accepted and ends with the range-error outcome `err` (R443). -/
def commandWrite (key set size err op : Nat) (ops : Nat → Option CmdAct) (v : Bytes) (s : State) : State :=
  s.command key set size v (fun p s => match ops (fld p op 1) with
    | some act => act p s
    | none => s.done set err)

/-- A write of a CMD object by its address (R443). `dict` gives the opcodes of `dict_command`. A sideband transfer's answer is the drive's: a free value here. -/
def cmdWrite (dict : Nat → Option CmdAct) (k : Nat) (signed : Bool) (v : Bytes) (s : State) : State :=
  if k = 0x110020 then commandWrite k k 32 1 0 dict v s
  else if k = 0x120008 then timeStep v s
  else if k = 0x120009 then timeSet v s
  else if k = 0x12000A then rebase v s
  else if k = hierSet then
    (if s.rst.bringUpPend || s.hier.run.any (·.bringUp) then s.status 6 else commandWrite k k 8 5 4 hierOps v s)
  else if k = switchSet then commandWrite k k 48 3 0 switchOps v s
  else if k = schedSet then commandWrite k k 64 1 0 schedOps v s
  else if k = qpSet then commandWrite k k 96 1 0 qpOps v s
  else if k = mrSet then commandWrite k k 48 1 0 mrOps v s
  else if k = ccSet then commandWrite k k 16 1 0 ccOps v s
  else if k = chainSet then commandWrite k k 32 1 0 chainOps v s
  else if k = targetSet then commandWrite k k 64 1 0 targetOps v s
  else if k = layoutSet then commandWrite k k 64 1 0 layoutOps v s
  else if k = ledgerSet then commandWrite k k 80 1 0 ledgerOps v s
  else if k = cipherSet then commandWrite k k 160 1 0 (cipherOps signed) v s
  else if k = standbySet then commandWrite k k 8 1 0 (standbyOps signed) v s
  else if 0x600000 ≤ k ∧ k < 0x601800 then commandWrite k k 8 1 0 (bayOps ((k - 0x600000) / 256)) v s
  else if k = driveSet then
    let i := s.freeIdx
    commandWrite k k 96 1 0 (driveOps (openEnd s.free) ((List.range' 0 64).map (Config.freeByte i))) v s.took
  else if k = mpSet then commandWrite k k 40 1 0 mpOps v s
  else if k = bistSet then commandWrite k k 16 1 0 bistOps v s
  else if k = 0x7A0020 then commandWrite k resetSet 4 1 0 (fun o => if o = 1 then some domainBringUp else none) v s
  else if k = 0x7A0021 then commandWrite k resetSet 32 1 0 dumpOps v s
  else if k = ctrSet then commandWrite k k 16 1 0 ctrOps v s
  else if k = fwSet then commandWrite k k 80 1 0 (fwOps signed) v s
  else s.status 1

/-! ### Checks of the writable objects (R437) -/

/-- Position in a UTF-8 string: continuation bytes still due, and the range of the next one. -/
abbrev Utf8At := Nat × Nat × Nat

/-- One byte of UTF-8; none where it cannot stand there. -/
def utf8Step (x : Utf8At) (b : Byte) : Option Utf8At :=
  let n := b.toNat
  if x.1 ≠ 0 then (if x.2.1 ≤ n ∧ n ≤ x.2.2 then some (x.1 - 1, 0x80, 0xBF) else none)
  else if n < 0x80 then some (0, 0, 0)
  else if 0xC2 ≤ n ∧ n ≤ 0xDF then some (1, 0x80, 0xBF)
  else if n = 0xE0 then some (2, 0xA0, 0xBF)
  else if n = 0xED then some (2, 0x80, 0x9F)
  else if 0xE1 ≤ n ∧ n ≤ 0xEF then some (2, 0x80, 0xBF)
  else if n = 0xF0 then some (3, 0x90, 0xBF)
  else if 0xF1 ≤ n ∧ n ≤ 0xF3 then some (3, 0x80, 0xBF)
  else if n = 0xF4 then some (3, 0x80, 0x8F)
  else none

/-- Whether bytes are valid UTF-8 (R437). -/
def utf8Ok (b : Bytes) : Bool :=
  match b.foldl (fun x c => x.bind (fun y => utf8Step y c)) (some (0, 0, 0)) with
  | some (0, _, _) => true
  | _ => false

/-- Whether a value has a length and form its type takes (R437). -/
def ObjDesc.sizeOk (d : ObjDesc) (v : Bytes) : Bool :=
  if d.ty < 10 then v.length = d.size
  else v.length ≤ d.size && (d.ty ≠ 10 || utf8Ok v)

/-- Whether a scalar lies in its object's range (R437); bits of a BITS32 that the object does not assign are ignored (R4). -/
def ObjDesc.inRange (d : ObjDesc) (v : Bytes) : Bool :=
  if 10 ≤ d.ty ∨ d.ty = 8 then true
  else
    let i : Int := if d.ty = 6 ∨ d.ty = 7 then ofLeI v else ofLe v
    d.lo ≤ i && i ≤ d.hi

/-- Every byte of a value masked by the bytes of `m`. -/
def maskBytes (m v : Bytes) : Bytes := List.zipWith (fun a b => a &&& b) m v

/-- The value an accepted write stores: padded with zeros (R437), reserved bits 0 (R4), bit 0 of `write_paths` 1 (R455). -/
def ObjDesc.storedOf (d : ObjDesc) (k : Nat) (v : Bytes) : Bytes :=
  let i := k / 256
  let u := k % 256
  if d.ty = 10 then v
  else
    let v := padTo d.size v
    if k = 0x110002 then le 4 ((ofLe v ||| 1) % 32)
    else if d.ty = 8 then le 4 (ofLe v &&& d.hi.toNat)
    else if 0x2000 ≤ i ∧ i < 0x2090 ∧ (u = 0x14 ∨ u = 0x15) then v.map (fun b => b &&& 0x37)
    else if (0x2000 ≤ i ∧ i < 0x2090 ∧ 0x20 ≤ u) ∨ (i = 0x2400 ∧ 0x50 ≤ u) then maskBytes [0xFF, 0xFF, 0xFF, 0xFF, 0xFF, 0xFF, 1, 0] v
    else if i = 0x2400 ∧ 0x20 ≤ u ∧ u < 0x24 then v.take 4 ++ zeros 4
    else if i = 0x3400 ∧ 0x10 ≤ u ∧ u < 0x20 then v.take 31 ++ [v.getD 31 0 &&& 1] ++ (v.drop 32).take 3 ++ [0] ++ v.drop 36
    else if k = 0x700010 then (List.range' 0 16).flatMap (fun w => (v.drop (16 * w)).take 12 ++ [v.getD (16 * w + 12) 0 &&& 3, 0, 0, 0])
    else if i = 0x8000 ∧ 0x10 ≤ u ∧ u < 0x50 then v.take 5 ++ [v.getD 5 0 &&& 3, 0, 0]
    else v

/-- Whether a `cc_profile` keeps to R169. -/
def profileOk (v : Bytes) : Bool :=
  let f := fld v
  f 4 4 ≤ f 0 4 && f 0 4 ≤ f 8 4 && f 16 4 < f 20 4
    && 1 ≤ f 4 4 && f 4 4 ≤ 800000 && 1 ≤ f 8 4 && f 8 4 ≤ 800000
    && 1 ≤ f 27 1 && f 28 1 ≤ 7 && 1 ≤ f 29 1 && 1 ≤ f 30 1
    && 1 ≤ f 32 2 && f 32 2 ≤ 1024 && 4096 ≤ f 44 4 && f 44 4 ≤ 1048576

/-- Whether a `queue_cfg` names an alpha code and RED profiles that exist (R79, R93, R94). -/
def queueCfgOk (v : Bytes) : Bool := fld v 2 1 ≤ 10 && fld v 3 1 < 32 && fld v 4 1 < 32 && fld v 5 1 < 32

/-- Whether every window of an `ep_aperture` is aligned and ends within HBM (R412). -/
def apertureWriteOk (v : Bytes) : Bool :=
  (List.range' 0 16).all (fun i => let b := fld v (16 * i) 8; let n := fld v (16 * i + 8) 4; b % 4096 = 0 && n % 4096 = 0 && b + n ≤ hbmSize)

/-- HBM base objects, each aligned to 1 MiB (R153, R181, R222, R262, R295, R331, R360, R514), and sizes that are a multiple of it (R153, R262, R295). -/
def mibObjects : List Nat :=
  [0x300005, 0x300006, 0x300007, 0x300008, 0x300009, 0x30000A, 0x300040, 0x400005, 0x400006, 0x40000A, 0x40000E, 0x440003, 0x440004, 0x480010, 0x480011,
   0x500030, 0x610002, 0x700007, 0x7A0005]

/-- Ring sizes, each a power of two (R150, R192, R193, R211, R314). -/
def pow2Objects : List Nat := [0x30000B, 0x400007, 0x40000B, 0x40000F, 0x500031]

/-- `bay_enable`'s neighbours: the product of R343 in nanovolts. -/
def State.tripProduct (s : State) (n : Nat) : Nat := s.bayObj n 0x06 12000 * s.bayObj n 0x0F 2000

/-- Checks beyond the range column, on the state `t` that the write of `v` would leave: false is a range error. -/
def writeOk (k : Nat) (v : Bytes) (t : State) : Bool :=
  let i := k / 256
  let u := k % 256
  let n := ofLe v
  if mibObjects.contains k && n % 1048576 ≠ 0 then false
  else if pow2Objects.contains k then (List.range' 0 17).any (fun j => n = 2 ^ j)
  else if k = 0x110001 ∨ k = 0x54000C then t.objN 0x110001 50417 ≠ t.objN 0x54000C 50418
  else if k = 0x110007 then n ≤ 7 || n = 255
  else if k = 0x540005 ∨ k = 0x540006 then t.objN 0x540006 97657 + 9766 ≤ t.objN 0x540005 488282
  else if k = 0x610003 ∨ k = 0x610004 then t.objN 0x610003 16 * t.objN 0x610004 64 ≤ 1024
  else if 0x480010 ≤ k ∧ k ≤ 0x480013 then t.objN 0x480011 0 = 0 || t.stagingBlocks + t.operandBlocks + 65536 ≤ t.granarySlots
  else if 0x6000 ≤ i ∧ i < 0x6018 ∧ (u = 0x06 ∨ u = 0x0F) then 5000000 ≤ t.tripProduct (i - 0x6000) && t.tripProduct (i - 0x6000) ≤ 60000000
  else if 0x6000 ≤ i ∧ i < 0x6018 ∧ u = 0x07 then n < t.bayObj (i - 0x6000) 0x06 12000
  else if 0x2000 ≤ i ∧ i < 0x2090 ∧ (u = 0x14 ∨ u = 0x15) then v.all (fun b => bits b.toNat 5 4 ≤ 2)
  else if (0x2000 ≤ i ∧ i < 0x2090 ∧ 0x20 ≤ u) ∨ (i = 0x2400 ∧ 0x50 ≤ u) then queueCfgOk v && t.poolsFit
  else if (0x2000 ≤ i ∧ i < 0x2090 ∧ u = 0x13) ∨ (i = 0x2400 ∧ (u = 0x05 ∨ (0x20 ≤ u ∧ u < 0x24))) then t.poolsFit
  else if i = 0x3400 ∧ 0x10 ≤ u ∧ u < 0x20 then profileOk v
  else if k = 0x700003 then widthOk n
  else if k = 0x700010 then apertureWriteOk v
  else if k = 0x800003 then n = 0 || 1024 ≤ n
  else if i = 0x8000 ∧ 0x10 ≤ u ∧ u < 0x50 then selectOk v
  else true

/-- Saddle regions that must be command-fenced or off for a write (R222, R262, R295, R331, R360); for the transport's bases every engine region (R153). -/
def writeFences (k : Nat) : List (Nat × Nat) :=
  if [0x300005, 0x300006, 0x300007, 0x300008, 0x30000A, 0x300040].contains k then (List.range' 0 4).flatMap (fun d => [(d, 3), (d, 4)])
  else if [0x400005, 0x400006, 0x40000A, 0x40000E].contains k then [(4, 4)]
  else if k = 0x440003 ∨ k = 0x440004 ∨ (0x480010 ≤ k ∧ k ≤ 0x480013) then [(4, 4), (4, 5), (4, 6)]
  else if k = 0x500030 ∨ k = 0x500031 then [(4, 3)]
  else if 0x610002 ≤ k ∧ k ≤ 0x610004 then [(4, 0), (4, 1)]
  else []

/-- Whether the state lets an object be written; otherwise a state error. -/
def State.writable (s : State) (k : Nat) : Bool :=
  (writeFences k).all (fun r => s.cmdFenced r.1 r.2) && (k ≠ 0x7A0005 || !s.rst.dump.closed) && (k ≠ 0x700007 || s.objN 0x700008 0 = 0)
    && !(0x200000 ≤ k && k < 0x209000 && s.isMember (k / 256 - 0x2000))

/-- A write of an object without a row of its own: range, then state; an accepted write of an RWP or RWS object advances `persist_gen` (R440).
A write of `snap_bell` arms it from the next edge (R523). -/
def plainWrite (d : ObjDesc) (k : Nat) (v : Bytes) (s : State) : State :=
  let w := d.storedOf k v
  let t := s.setObj k w
  if !d.inRange v || !writeOk k w t then s.status 4
  else if !s.writable k then s.status 5
  else
    let t := if d.acc = 3 ∨ d.acc = 4 then t.persist else t
    let t := if k = 0x800002 then { t with ctr.armEdge := s.bell.edges } else t
    t.status 0

/-- A write of an object that has a row of its own, by that row (R438). -/
def ownWrite (k : Nat) (signed : Bool) (v : Bytes) : Option (State → State) :=
  let i := k / 256
  let u := k % 256
  let n := ofLe v
  if k = 0x120003 then some (bellPhaseWrite n)
  else if k = 0x120006 then some (ptpLockWrite n)
  else if k = 0x120026 then some (overrunRearm (n % 64))
  else if 0x2000 ≤ i ∧ i < 0x2090 ∧ (u = 1 ∨ u = 2) then some (portModeWrite (i - 0x2000) u n)
  else if 0x2000 ≤ i ∧ i < 0x2090 ∧ u = 3 then some (portEnableWrite (i - 0x2000) n)
  else if k = 0x480009 then some (checkpointPersisted n)
  else if k = 0x500009 then some (wseqGrant n)
  else if 0x500010 ≤ k ∧ k ≤ 0x500017 then some (operatorKeyWrite (u - 0x10) signed v)
  else if k = 0x540003 then some (hbRefresh n)
  else if k = 0x540007 then some (leaseConfirm n)
  else if 0x6000 ≤ i ∧ i < 0x6018 ∧ u = 1 then some (bayEnableWrite (i - 0x6000) n)
  else if k = 0x700005 then some (epConfigReadyWrite n)
  else if k = 0x780003 then some (faultNHoldWrite n)
  else if k = 0x780004 then some (faultInject v)
  else if k = 0x780008 then some (firstFaultRearm n)
  else if 0x780010 ≤ k ∧ k ≤ 0x780014 then some (severityActionsWrite (u - 0x10) (n % 32))
  else if 0x780040 ≤ k ∧ k ≤ 0x78004F then some (sourceCfgWrite (u - 0x40) v)
  else none

/-- A write of an object, signed or not, answered in `lastStatus` (R438, R448): unknown object, access, type and length, then what the object checks. -/
def dictWrite (dict : Nat → Option CmdAct) (k : Nat) (signed : Bool) (v : Bytes) (s : State) : State :=
  if k % 256 = 0 then s.status (if (topSub (k / 256)).isSome then 2 else 1)
  else match objDesc k with
    | none => s.status 1
    | some d =>
      if d.acc = 1 then s.status 2
      else if !d.sizeOk v then s.status 3
      else if d.acc = 6 then cmdWrite dict k signed v s
      else match ownWrite k signed v with
        | some f => f s
        | none => plainWrite d k v s

end Sys2Proof.Machine
end

