-- ==== Sys2Proof/Machine/Snapshot.lean ====
section
/-! DEFINITION. The snapshot of persisted values (R441, R442) and `dict_command` (R461). The layout of a kind 2 entry is the device's own: words of 24 bytes, the first of which names a section. -/

namespace Sys2Proof.Machine

/-- Key of `dict_command` and of its results. -/
abbrev dictSet : Nat := 0x110020

/-! ### Entries of a snapshot (R441) -/

/-- One entry at an 8-byte boundary: kind, sub-index, index, value length, reserved, value. -/
def snapEntry (kind k : Nat) (v : Bytes) : Bytes :=
  let e := le 1 kind ++ le 1 (k % 256) ++ le 2 (k / 256) ++ le 2 v.length ++ zeros 2 ++ v
  padTo ((e.length + 7) / 8 * 8) e

/-- A kind 2 value: a section number and its words. -/
def words (sec : Nat) (ws : List Nat) : Bytes := (sec :: ws).flatMap (le 24)

/-- The words of a kind 2 value. -/
def unwords (v : Bytes) : List Nat := (List.range' 0 (v.length / 24)).map (fun i => fld v (24 * i) 24)

/-- Kind 1 entries: every RWP and RWS object whose value differs from its default, in ascending address order. -/
def objectEntries (s : State) : List Bytes :=
  s.dict.objs.filterMap (fun o => match objDesc o.1 with
    | some d => if (d.acc = 3 ∨ d.acc = 4) ∧ o.2 ≠ d.dfltBytes o.1 then some (snapEntry 1 o.1 o.2) else none
    | none => none)

/-- What `switch_command` keeps (R374): static forwarding entries, groups, VLANs. -/
def switchState (s : State) : List Bytes :=
  ((s.sw.fdb.filter (·.static)).map (fun e => words 0 [e.vid, e.mac, e.target, e.num]))
    ++ s.sw.groups.map (fun g => words 1 [g.1, g.2.members, b2n g.2.rewrite, g.2.mac, g.2.vid])
    ++ s.sw.vlans.map (fun v => words 2 [v.1, v.2.member, v.2.untagged])

/-- What `sched_command` keeps (R118). -/
def schedState (s : State) : List Bytes :=
  s.sched.cfg.map (fun q => words 0 [q.1, q.2.weight, b2n q.2.strict, q.2.cls, q.2.rate, q.2.burst])
    ++ s.sched.insts.map (fun i => words 1 [i.1, i.2.cfgRate, i.2.cfgBurst])
    ++ s.sched.policers.map (fun p => words 2 [p.1, b2n p.2.aware, b2n p.2.dropRed, p.2.cir, p.2.cbs, p.2.pir, p.2.pbs])
    ++ s.sched.policeMap.map (fun m => words 3 [m.1, m.2])
    ++ s.sched.gates.flatMap (fun g => g.2.admin.map (fun e => words 4 [g.1, e.1, e.2.1, e.2.2]))
    ++ s.sched.gates.filterMap (fun g => g.2.oper.map (fun p => words 5 ([g.1, p.base, p.fallback, b2n p.align] ++ p.entries.flatMap (fun e => [e.1, e.2]))))
    ++ s.sched.gates.filterMap (fun g => g.2.pend.map (fun p => words 6 ([g.1, p.base, p.fallback, b2n p.align] ++ p.entries.flatMap (fun e => [e.1, e.2]))))

/-- A set of associations in words of 192 bits, and the set that such words name. -/
def assocWords (l : List Nat) : List Nat := (List.range' 0 11).map (fun w => bitmap 192 (fun i => l.contains (192 * w + i)))
def wordsAssoc (ws : List Nat) : List Nat := (List.range' 0 2048).filter (fun a => (ws.getD (a / 192) 0).testBit (a % 192))

/-- What `target_command` keeps (R223). -/
def targetState (s : State) : List Bytes :=
  s.tgt.namespaces.map (fun n => words 0 ([n.1, n.2.state, n.2.subsys, n.2.nsid, n.2.vol, n.2.tenant] ++ n.2.access.flatMap (fun a => [a.1, a.2])))
    ++ s.tgt.namespaces.map (fun n => words 1 ([n.1, n.2.rtype] ++ assocWords n.2.registrants ++ assocWords n.2.holders))

/-- A cursor as its last checkpoint (R249). -/
def checkpointOf (cursor : Nat) : Nat := cursor / 65536 * 65536

/-- What `layout_command` keeps (R263): groups as they stand, with their cursors as checkpointed (R249) and without their maps (R286), and volumes. -/
def layoutState (s : State) : List Bytes :=
  s.vol.groups.map (fun g => words 0 ([g.1, g.2.k, g.2.u, g.2.start, g.2.count, g.2.f, checkpointOf g.2.cur1, checkpointOf g.2.cur2, g.2.c0, b2n g.2.pass2,
        checkpointOf g.2.scrubCur, g.2.mapOff, g.2.state, g.2.bays.length] ++ g.2.bays.map (·.getD 255) ++ [g.2.missing.length] ++ g.2.missing
      ++ g.2.missing.map (fun p => (tgetD g.2.lostAt p (0, 0)).2) ++ g.2.rebuilding))
    ++ s.vol.volumes.map (fun v => words 1 ([v.1, v.2.group, v.2.f, v.2.size] ++ (match v.2.reshape with
        | some r => [r.target, r.ft, r.c, b2n r.paused]
        | none => [])))

/-- What `cipher_command` keeps (R312): the next epoch and each volume's window. -/
def epochState (s : State) : List Bytes :=
  words 0 [s.ciph.epochNext] :: s.vol.volumes.map (fun v => words 1 [v.1, v.2.epochBase, v.2.pendCur.getD v.2.epochCur])

/-- Every entry of a snapshot, kind 1 then kind 2. -/
def snapEntries (s : State) : List Bytes :=
  objectEntries s ++ (switchState s).map (snapEntry 2 switchSet) ++ (schedState s).map (snapEntry 2 schedSet) ++ (targetState s).map (snapEntry 2 targetSet)
    ++ (layoutState s).map (snapEntry 2 layoutSet) ++ (epochState s).map (snapEntry 2 cipherSet)

/-- The snapshot (R441). -/
def snapshot (s : State) : Bytes :=
  let es := snapEntries s
  let body := es.flatten
  let head (crc : Nat) : Bytes := le 4 0x44505845 ++ le 2 1 ++ zeros 2 ++ le 8 s.dict.persistGen ++ le 4 es.length ++ le 4 (32 + body.length) ++ le 8 crc
  head (crc64 (head 0 ++ body)) ++ body

/-- A range of HBM that a command names: aligned to 4 KiB and within HBM (R461). -/
def snapRange (p : Bytes) : Bool := fld p 8 8 % 4096 = 0 && fld p 8 8 + fld p 16 4 ≤ hbmSize

/-- DICT_EXPORT (R441, R461): one edge's snapshot; one that does not fit is not written. Without both stacks it ends with outcome 2 (R266, log 139). -/
def dictExport (p : Bytes) (s : State) : State :=
  if !snapRange p then s.done dictSet 1
  else if !s.hbmOn then s.done dictSet 2
  else
    let b := snapshot s
    if fld p 16 4 < b.length then s.done dictSet 3
    else ((s.hbmPut (fld p 8 8) b).count Ev.exports 0).done dictSet 0 (le 8 s.dict.persistGen ++ le 4 b.length ++ le 4 (snapEntries s).length)

def execDictExport (par : Bytes) (s : State) := up s (fun s => s.command dictSet dictSet 32 par dictExport)

/-! ### Import (R442) -/

/-- Pairs of consecutive words. -/
def pairsOf : List Nat → List (Nat × Nat)
  | a :: b :: r => (a, b) :: pairsOf r
  | _ => []

/-- `switch_command`'s configuration restored. -/
def restoreSwitch (ws : List Nat) (s : State) : Option State :=
  match ws with
  | [0, vid, mac, target, num] =>
    some (s.fdbPut { vid := vid, mac := mac, target := target, num := num, static := true, lastSeen := s.bell.number, lastEdge := s.bell.edges })
  | [1, n, members, rewrite, mac, vid] =>
    some { s with sw.groups := tset s.sw.groups n { members := members, rewrite := rewrite = 1, mac := mac, vid := vid } }
  | [2, v, member, untagged] => some { s with sw.vlans := tset s.sw.vlans v { member := member, untagged := untagged } }
  | _ => none

/-- `sched_command`'s configuration restored, as it stood: what it names takes effect at the next edge like a write (R105, R108), and each gate list has its admin, pending and oper part (R115). -/
def restoreSched (ws : List Nat) (s : State) : Option State :=
  match ws with
  | [0, q, weight, strict, cls, rate, burst] =>
    some { s with sched.cfg := tset s.sched.cfg q { weight := weight, strict := strict = 1, cls := cls, rate := rate, burst := burst }
                  sched.queues := tmod s.sched.queues q {} id }
  | [1, i, rate, burst] => some { s with sched.insts := tmod s.sched.insts i {} (fun x => { x with cfgRate := rate, cfgBurst := burst }) }
  | [2, n, aware, dropRed, cir, cbs, pir, pbs] =>
    let put (x : Policer) : Policer :=
      { x with aware := aware = 1, dropRed := dropRed = 1, cir := cir, cbs := cbs, pir := pir, pbs := pbs, fill := true }
    some { s with sched.policers := tmod s.sched.policers n {} put }
  | [3, m, n] => some { s with sched.policeMap := tset s.sched.policeMap m n }
  | [4, g, i, mask, dur] => some { s with sched.gates := tmod s.sched.gates g {} (fun x => { x with admin := tset x.admin i (mask, dur) }) }
  | 5 :: g :: base :: fallback :: align :: es =>
    let prog : GateProg := { base := base, entries := pairsOf es, fallback := fallback, align := align = 1 }
    some { s with sched.gates := tmod s.sched.gates g {} (fun x => { x with oper := some prog }) }
  | 6 :: g :: base :: fallback :: align :: es =>
    let prog : GateProg := { base := base, entries := pairsOf es, fallback := fallback, align := align = 1 }
    some { s with sched.gates := tmod s.sched.gates g {} (fun x => { x with pend := some prog }) }
  | _ => none

/-- `target_command`'s configuration restored. A namespace that was ready is not ready until firmware sets it to state 1 (R365, R381). -/
def restoreTarget (ws : List Nat) (s : State) : Option State :=
  match ws with
  | 0 :: i :: state :: subsys :: nsid :: vol :: tenant :: acc =>
    let put (n : Namespace) : Namespace :=
      { n with state := if state = 1 then 2 else state, subsys := subsys, nsid := nsid, vol := vol, tenant := tenant,
               access := (pairsOf acc).foldl (fun t a => tset t a.1 a.2) [] }
    some { s with tgt.namespaces := tmod s.tgt.namespaces i {} put }
  | 1 :: i :: rtype :: as =>
    some { s with tgt.namespaces := tmod s.tgt.namespaces i {} (fun x => { x with rtype := rtype, registrants := wordsAssoc as, holders := wordsAssoc (as.drop 11) }) }
  | _ => none

/-- `layout_command`'s configuration restored: a group with the map it has at creation, until replay reads its map zone (R286). -/
def restoreLayout (ws : List Nat) (s : State) : Option State :=
  match ws with
  | 0 :: i :: k :: u :: start :: count :: f :: cur1 :: cur2 :: c0 :: pass2 :: scrub :: off :: state :: w :: r =>
    let bays := (r.take w).map (fun b => if b = 255 then none else some b)
    let m := r.getD w 0
    let missing := (r.drop (w + 1)).take m
    let g : LGroup := { k := k, u := u, start := start, count := count, f := f, bays := bays, float := [], cur1 := cur1, cur2 := cur2, c0 := c0, pass2 := pass2 = 1,
                        missing := missing, rebuilding := r.drop (w + 1 + 2 * m), state := if state = 4 then 4 else groupStateOf missing.length, scrubCur := scrub, mapOff := off,
                        lostAt := (missing.zip (r.drop (w + 1 + m))).map (fun x => (x.1, (0, x.2))) }
    some (layMap i { s with vol.groups := tset s.vol.groups i { g with float := [(g.nP - g.f, g.nP)] } })
  | [1, v, group, f, size] =>
    some { s with vol.volumes := tset s.vol.volumes v { group := group, f := f, size := size, epochBase := 0, epochCur := 0 } }
  | [1, v, group, f, size, target, ft, c, paused] =>
    let x : Volume := { group := group, f := f, size := size, epochBase := 0, epochCur := 0,
                        reshape := some { target := target, ft := ft, c := c, paused := paused = 1 } }
    some { s with vol.volumes := tset s.vol.volumes v x }
  | _ => none

/-- `cipher_command`'s configuration restored. -/
def restoreEpochs (ws : List Nat) (s : State) : Option State :=
  match ws with
  | [0, e] => some { s with ciph.epochNext := e }
  | [1, v, base, cur] => (s.volume v).map (fun _ => s.onVolume v (fun x => { x with epochBase := base, epochCur := cur, pendCur := none }))
  | _ => none

/-- Apply a kind 2 entry directly (R442). -/
def restoreState (k : Nat) (v : Bytes) (s : State) : Option State :=
  let ws := unwords v
  if k = switchSet then restoreSwitch ws s
  else if k = schedSet then restoreSched ws s
  else if k = targetSet then restoreTarget ws s
  else if k = layoutSet then restoreLayout ws s
  else if k = cipherSet then restoreEpochs ws s
  else none

/-- Apply a kind 1 entry as an unsigned write (R442); `free` says that every operator key slot was empty when the import began. -/
def restoreObject (free : Bool) (k : Nat) (v : Bytes) (s : State) : Option State :=
  match objDesc k with
  | none => none
  | some d =>
    if d.acc = 4 then (if free ∧ v.length ≤ 32 then some (s.setObj k (padTo 32 v)) else none)
    else if d.acc = 1 ∨ d.acc = 6 then none
    else
      let t := dictWrite (fun _ => none) k false v s
      if t.dict.lastStatus = 0 then some t else none

/-- Entries of a snapshot from an offset: kind, address, value. -/
def parseEntries (b : Bytes) : Nat → Nat → List (Nat × Nat × Bytes)
  | 0, _ => []
  | n + 1, off =>
    let len := fld b (off + 4) 2
    (fld b off 1, fld b (off + 2) 2 * 256 + fld b (off + 1) 1, sub b (off + 8) len) :: parseEntries b n (off + (8 + len + 7) / 8 * 8)

/-- What an import has done: entries applied and skipped, and the first skipped address. -/
structure ImportCount where
  applied : Nat := 0
  skipped : Nat := 0
  first : Nat := 0
deriving DecidableEq, Repr

/-- One entry of an import (R442): one that cannot be applied is skipped, counted and raises FS194. -/
def importEntry (free : Bool) (x : State × ImportCount) (e : Nat × Nat × Bytes) : State × ImportCount :=
  let (s, n) := x
  let r := if e.1 = 1 then restoreObject free e.2.1 e.2.2 s else if e.1 = 2 then restoreState e.2.1 e.2.2 s else none
  match r with
  | some t => (t, { n with applied := n.applied + 1 })
  | none => ((s.faultAt 194 4 10 0).count Ev.impSkip 0, { n with skipped := n.skipped + 1, first := if n.skipped = 0 then e.2.1 else n.first })

/-- Whether a snapshot read from HBM is whole (R441, R442). -/
def snapshotOk (b : Bytes) (len : Nat) : Bool :=
  let n := fld b 20 4
  fld b 0 4 = 0x44505845 && fld b 4 2 = 1 && 32 ≤ n && n ≤ len && fld b 24 8 = crc64 (b.take 24 ++ zeros 8 ++ (b.take n).drop 32)

/-- DICT_IMPORT (R442, R461): from the local path while no namespace is in state 1; the import does not advance `persist_gen`. -/
def dictImport (local' : Bool) (p : Bytes) (s : State) : State :=
  if !snapRange p then s.done dictSet 1
  else if !local' ∨ s.anyReady ∨ !s.hbmOn then s.done dictSet 2
  else
    let a := fld p 8 8
    let len := fld p 16 4
    let (s, b, bad) := s.hbmGet (if inStackB a then 213 else 212) 0 a len
    if bad ∨ !snapshotOk b len then s.done dictSet 1
    else
      let gen := s.dict.persistGen
      let (s, n) := (parseEntries b (fld b 16 4) 32).foldl (importEntry s.opKeysSet.isEmpty) (s, {})
      (({ s with dict.persistGen := gen }).count Ev.imports 0).done dictSet 0 (le 4 n.applied ++ le 4 n.skipped ++ le 2 (n.first / 256) ++ le 1 (n.first % 256))

/-! ### The requester table (R461) -/

/-- REQUESTER_TABLE_CLEAR (R461). -/
def requesterTableClear (_ : Bytes) (s : State) : State :=
  ({ s with dict.requesters := [] }).done dictSet 0 (le 4 s.dict.requesters.length)

def execRequesterTableClear (par : Bytes) (s : State) := up s (fun s => s.command dictSet dictSet 32 par requesterTableClear)

/-- Opcodes of `dict_command` (R461) on the local path or another. -/
def dictOps (local' : Bool) : Nat → Option CmdAct
  | 1 => some dictExport
  | 2 => some (dictImport local')
  | 3 => some requesterTableClear
  | _ => none

end Sys2Proof.Machine
end

