-- ==== Sys2Proof/Machine/Brodlet.lean ====
section
/-! DEFINITION. Brodlet: messages, operations, the duplicate cache, signed writes, paths and order (R445-R457), the BAR0 window, and register writes without a row of their own. -/

namespace Sys2Proof.Machine

/-! ### Messages (R445, R446) -/

/-- Path code and address of a requester (R449): 0 local core, 1 window, 2 Corolo ring, 3 T1S, 4 management VLAN. -/
def Requester.ident : Requester → Nat × Nat × Nat
  | .core n => (0, n, 0)
  | .window => (1, 0, 0)
  | .corolo r => (2, r, 0)
  | .t1s ip port => (3, ip, port)
  | .vlan ip port => (4, ip, port)

/-- Greatest message of a path (R446). -/
def pathLimit (path : Nat) : Nat := if path < 3 then 4096 else 1472

/-- One operation record: op, address of the object, n, offset, value (R446). -/
structure OpRec where
  op : Nat
  key : Nat
  n : Nat
  off : Nat
  value : Bytes
deriving DecidableEq, Repr

/-- A length rounded up to a multiple of 4 (R446). -/
abbrev pad4 (n : Nat) : Nat := (n + 3) / 4 * 4

/-- The records of a message from an offset; none where an op is not 1-5, a value runs past the message, or bytes are left over (R447). -/
def parseOps (b : Bytes) : Nat → Nat → Option (List OpRec)
  | 0, pos => if pos = b.length then some [] else none
  | k + 1, pos =>
    let op := nfld b pos 1
    let n := nfld b (pos + 6) 2
    let room := if op = 2 ∨ op = 5 then pad4 n else 0
    if b.length < pos + 12 + room ∨ op < 1 ∨ 5 < op then none
    else (parseOps b k (pos + 12 + room)).map (fun r =>
      { op := op, key := nfld b (pos + 2) 2 * 256 + nfld b (pos + 4) 1, n := n, off := nfld b (pos + 8) 4,
        value := if room = 0 then [] else sub b (pos + 12) n } :: r)

/-- `msg_crc` over a message, with its field taken as 0 (R445). -/
def msgCrc (b : Bytes) : Nat := crc32 (b.take 12 ++ zeros 4 ++ b.drop 16)

/-- A message with its length and CRC set (R445). -/
def sealMsg (b : Bytes) : Bytes :=
  let b := b.take 8 ++ be 2 b.length ++ b.drop 10
  b.take 12 ++ be 4 (msgCrc b) ++ b.drop 16

/-- A response: type bit 7 set for one from the cache, request ID, op count, `msg_status`, records (R445, R447). -/
def response (id count status : Nat) (recs : Bytes) : Bytes :=
  sealMsg (be 2 0x424C ++ [1, 2] ++ be 4 id ++ zeros 2 ++ be 1 count ++ be 1 status ++ zeros 4 ++ recs)

/-- A stored response repeated whole, with `type` bit 7 set (R449). -/
def repeated (b : Bytes) : Bytes := sealMsg (b.take 3 ++ [b.getD 3 0 ||| 0x80] ++ (b.drop 4).take 8 ++ zeros 4 ++ b.drop 16)

/-- A response record (R446). -/
def respRec (r : OpRec) (key status : Nat) (v : Bytes) : Bytes :=
  be 1 r.op ++ be 1 status ++ be 2 (key / 256) ++ be 1 (key % 256) ++ [0] ++ be 2 v.length ++ be 4 r.off ++ padTo (pad4 v.length) v

/-! ### Operations (R446, R451, R455) -/

/-- Whether unsigned writes are permitted on a path (R455). -/
def State.pathWrites (s : State) (path : Nat) : Bool := (s.objN 0x110002 15).testBit path

/-- What a read of `n` bytes from `off` of an address answers (R436, R446). -/
def readObj (k off n : Nat) (s : State) : Bytes ⊕ Nat :=
  if k % 256 = 0 then
    match topSub (k / 256) with
    | some u => if off ≠ 0 ∨ 1 < n then .inr 3 else .inl (le 1 u)
    | none => .inr 1
  else match objDesc k with
    | some d => d.read k off n s
    | none => .inr 1

/-- What a describe of an address answers. -/
def describeObj (k : Nat) : Bytes ⊕ Nat :=
  if k % 256 = 0 then (match topSub (k / 256) with | some u => .inl (describeTop k u) | none => .inr 1)
  else match objDesc k with
    | some d => .inl (d.describe k)
    | none => .inr 1

/-- An unsigned write (R438, R446, R455): unknown object, path, access, offset, then the object's own checks. -/
def writeObj (path : Nat) (r : OpRec) (s : State) : State :=
  if r.key % 256 = 0 ∧ (topSub (r.key / 256)).isNone ∨ r.key % 256 ≠ 0 ∧ (objDesc r.key).isNone then s.status 1
  else if !s.pathWrites path then s.status 9
  else if r.off ≠ 0 ∧ (objDesc r.key).any (fun d => d.acc ≠ 1) then s.status 3
  else dictWrite (dictOps (path = 0)) r.key false r.value s

/-- Whether the device accepts a statement (R325). -/
def State.statementOk (s : State) (m sig : Bytes) : Bool :=
  let slot := nfld m 44 1
  nfld m 0 4 = 0x57535242 && sub m 4 32 = padTo 32 signPub && nfld m 36 8 = s.ciph.shelfId && slot < 8 && s.opKey slot ≠ zeros 32
    && Config.edVerify (s.opKey slot) m sig && tgetD s.ciph.opCounters slot 0 < nfld m 45 8

/-- A signed write (R325, R451): one that passes advances its slot's counter and is applied on every path; one that fails is status 8 and FS131. -/
def signedWrite (path : Nat) (r : OpRec) (s : State) : State :=
  let m := r.value.take (r.n - 64)
  if r.n < 122 ∨ nfld m 53 3 ≠ r.key ∨ nfld m 56 2 + 122 ≠ r.n then s.status 3
  else if !s.statementOk m (r.value.drop (r.n - 64)) then ((s.faultAt 131 4 10 0).count Ev.sigRej 0).status 8
  else
    let s := { s with ciph.opCounters := tset s.ciph.opCounters (nfld m 44 1) (nfld m 45 8) }.count Ev.sigAcc 0
    dictWrite (dictOps (path = 0)) r.key true (m.drop 58) s

/-- One operation: the state, the address its record gives, its status and its value (R446). -/
def runOp (path : Nat) (r : OpRec) (s : State) : State × Nat × Nat × Bytes :=
  let answer (x : Bytes ⊕ Nat) : State × Nat × Nat × Bytes := match x with
    | .inl v => (s, r.key, 0, v)
    | .inr st => (s, r.key, st, [])
  if r.op = 1 then answer (readObj r.key r.off r.n s)
  else if r.op = 2 then let t := writeObj path r s; (t, r.key, t.dict.lastStatus, [])
  else if r.op = 3 then answer (describeObj r.key)
  else if r.op = 4 then (match nextObj r.key with | some k => (s, k, 0, []) | none => (s, r.key, 1, []))
  else let t := signedWrite path r s; (t, r.key, t.dict.lastStatus, [])

/-- One operation of a request and its response record; a value that does not fit is status 10 (R448), and what the engine counts (R462). -/
def stepOp (path : Nat) (x : State × Bytes) (r : OpRec) : State × Bytes :=
  let (s, k, st, v) := runOp path r x.1
  let tooLong := v ≠ [] ∧ pathLimit path < 16 + x.2.length + 12 + pad4 v.length
  let st := if tooLong then 10 else st
  let v := if tooLong then [] else v
  let s := if r.op = 1 ∧ k = 0x7A000A then s.count Ev.dumpRd 0 v.length else s
  (((s.count (Ev.op1 + (r.op - 1)) path).count (Ev.opSt0 + st) path), x.2 ++ respRec r k st v)

/-- Run a request whole, in record order (R457). -/
def runRequest (path id : Nat) (rs : List OpRec) (s : State) : State × Bytes :=
  let (s, b) := rs.foldl (stepOp path) (s, [])
  (s.count Ev.rqExec path, response id rs.length 0 b)

/-! ### The duplicate cache (R449, R450) -/

/-- Whether an entry is a requester's. -/
def RequesterEntry.is (e : RequesterEntry) (q : Nat × Nat × Nat) : Bool := e.path = q.1 && e.addr = q.2.1 && e.port = q.2.2

/-- The entry of a requester becomes the most recently used; a new requester takes a free entry, or the least recently used with FS193 (R449). -/
def useEntry (q : Nat × Nat × Nat) (s : State) : State :=
  match s.dict.requesters.find? (·.is q) with
  | some e => { s with dict.requesters := s.dict.requesters.filter (fun x => !x.is q) ++ [e] }
  | none =>
    let e : RequesterEntry := { path := q.1, addr := q.2.1, port := q.2.2 }
    if s.dict.requesters.length < 64 then ({ s with dict.requesters := s.dict.requesters ++ [e] }).count Ev.rqTaken 0
    else
      let lost := s.dict.requesters.head?.any (fun x => x.reqs ≠ [])
      let s := (({ s with dict.requesters := s.dict.requesters.drop 1 ++ [e] }).count Ev.rqTaken 0).count Ev.rqEvict 0
      if lost then s.faultAt 193 4 10 0 else s

/-- A requester's executed request is stored in place of the oldest of 16 (R449). -/
def storeResponse (q : Nat × Nat × Nat) (c : CachedReq) (s : State) : State :=
  { s with dict.requesters := s.dict.requesters.map (fun e =>
      if e.is q then { e with reqs := (if e.reqs.length < 16 then e.reqs else e.reqs.drop 1) ++ [c] } else e) }

/-- A request that is not executed: a header with its `msg_status` (R447), counted as refused and as a wasted slot (R462). -/
def refuse (path id st : Nat) (s : State) : State × Option Bytes :=
  (((s.count (Ev.rqRef1 + (st - 1)) path).slot 111 true), some (response id 0 st []))

/-- A message is checked, answered from the cache or executed whole (R447, R449, R450); none is returned where it gets no response. -/
def handle (q : Nat × Nat × Nat) (b : Bytes) (s : State) : State × Option Bytes :=
  let path := q.1
  let s := { s with dict.execCount := s.dict.execCount + 1 }
  if b.length < 16 ∨ msgCrc b ≠ nfld b 12 4 ∨ nfld b 3 1 % 16 ≠ 1 then ((s.count Ev.rqCrc path).slot 111 true, none)
  else
    let id := nfld b 4 4
    let bad := nfld b 0 2 ≠ 0x424C ∨ nfld b 2 1 ≠ 1 ∨ nfld b 8 2 ≠ b.length ∨ pathLimit path < b.length ∨ 16 < nfld b 10 1
    match (if bad then none else parseOps b (nfld b 10 1) 16) with
    | none => refuse path id 2 s
    | some rs =>
      if rs.all (fun r => r.op = 1 || r.op = 3 || r.op = 4) then
        let (s, a) := runRequest path id rs (s.slot 111)
        (s, some a)
      else if id = 0 then refuse path id 3 s
      else
        let s := useEntry q s
        let held := (s.dict.requesters.find? (·.is q)).bind (fun e => e.reqs.find? (fun c => c.id = id))
        match held with
        | some c =>
          if c.crc = nfld b 12 4 then ((s.slot 111).count Ev.rqCache path, some (repeated c.response))
          else refuse path id 1 s
        | none =>
          let (s, a) := runRequest path id rs (s.slot 111)
          (storeResponse q { id := id, crc := nfld b 12 4, response := a } s, some a)

/-! ### Paths and order (R452-R457) -/

/-- A response goes back on its path: to the window while it is busy (R454), to the buffer of a Corolo job (R421), or to firmware, which relays it (R452).
A job whose request gets no response ends with nothing written; a window's request from before an endpoint reset (`job` 1) writes no register (R454). -/
def respond (q : Nat × Nat × Nat) (job : Nat) (a : Option Bytes) (s : State) : State :=
  if q.1 = 2 then
    (match a with
     | some b => exchangeDone q.2.1 job b s
     | none => endJob q.2.1 job none s)
  else match a with
    | none => s
    | some b =>
      if q.1 = 1 then
        (if s.dict.dwBusy ∧ job = 0 then
          let s := { s with dict.dwResponse := padTo 4096 b, dict.dwBusy := false, dict.dwSeq := (s.dict.dwSeq + 1) % 65536 }
          if s.dict.dwVector.testBit 15 then trigger (s.dict.dwVector % 4096) s else s
        else s)
      else s.emit (.brodlet q.1 q.2.1 q.2.2 b)

/-- Execute a request and answer it. -/
def execute (q : Nat × Nat × Nat) (job : Nat) (b : Bytes) (s : State) : State :=
  let (s, a) := handle q b s
  respond q job a s

/-- A relayed request that found the queue full is answered `msg_status` 4; one that would be discarded is (R447, R457). -/
def answerBusy (w : WaitReq) (s : State) : State :=
  let b := w.msg
  if b.length < 16 ∨ msgCrc b ≠ nfld b 12 4 ∨ nfld b 3 1 % 16 ≠ 1 then (s.count Ev.rqCrc w.path).slot 111 true
  else
    let (s, a) := refuse w.path (nfld b 4 4) 4 s
    respond (w.path, w.addr, w.port) w.job a s

/-- The engine at the start of a bell (R457): the refused are answered, and up to 32 that wait are executed; paths with requests still waiting are counted. -/
def dictEdge (s : State) : State :=
  let refused := s.dict.refused
  let now := s.dict.waiting.take 32
  let s := { s with dict.execCount := 0, dict.refused := [], dict.waiting := s.dict.waiting.drop 32 }
  let s := refused.foldl (fun s w => answerBusy w s) s
  let s := now.foldl (fun s w => execute (w.path, w.addr, w.port) w.job w.msg s) s
  (List.range' 0 5).foldl (fun s p => if s.dict.waiting.any (fun w => w.path = p) then s.count Ev.rqWait p else s) s

/-- BRODLET_REQUEST (R447, R449, R452, R453, R457): a core has one of eight mailboxes, which holds one request, and a T1S PHY held in reset takes nothing.
The engine executes the request in the next bell. -/
def brodletRequest (src : Requester) (b : Bytes) (s : State) : State :=
  let q := Requester.ident src
  s.when ((q.1 ≠ 0 || (q.2.1 < 8 && !s.dict.waiting.any (fun w => w.path = 0 && w.addr = q.2.1))) && (q.1 ≠ 2 || q.2.1 < 4096) && (q.1 ≠ 3 || (!s.rst.stretch && s.objN 0x110003 1 = 1)))
    (submit q 0 b)

/-- DW_GO (R454): `dw_request` is submitted and waits for the next bell under `dw_busy`; a write while busy is ignored and counted. -/
def windowGo (s : State) : State :=
  if s.dict.dwBusy then s.count Ev.rqRef4 1
  else
    let m := padTo 4096 s.dict.dwRequest
    let n := nfld m 8 2
    let w : WaitReq := { path := 1, addr := 0, port := 0, edge := s.bell.edges, msg := if n ≤ 4096 then m.take n else m }
    { s with dict.dwBusy := true, dict.waiting := insertWait w s.dict.waiting }

def dwGo (s : State) : State := barWrite Ev.bar0 4 windowGo s

def execDwGo (s : State) := up s dwGo

/-- DICTIONARY_EXCHANGE (R408, R421): a Corolo job carries one request in its segment 0, which the endpoint reads as master; the engine has it once its reads have
ended. `msg`, what host memory holds there, comes with their completions (log 138). -/
def dictionaryExchange (q : Nat) (_msg : Bytes) (s : State) : State :=
  startJob q 0x20 (fun idx es s =>
    let f := segFails 6 es
    if f ≠ 0 then endJob q idx (some (1, f, 0)) s else jobReads q idx ((segsOf es).take 1) s) s

/-! ### Register writes (R396, R422, R438, R454) -/

/-- One doubleword written to BAR0, the dictionary window included (R454). -/
def bar0Any (off v : Nat) (s : State) : State :=
  if 0x1000000 ≤ off ∧ off < 0x1001000 then
    { s with dict.dwRequest := padTo 4096 (putAt (padTo 4096 s.dict.dwRequest) (off - 0x1000000) (le 4 v)) }
  else if off = 0x1002000 then (if v.testBit 0 then windowGo s else s)
  else if off = 0x100200C then { s with dict.dwVector := v % 4096 + (if v.testBit 15 then 32768 else 0) }
  else bar0Dword off v s

/-- One write to a ring's BAR2 page (R422). -/
def bar2Any (off size v : Nat) (s : State) : State :=
  let q := off / 4096
  let o := off % 4096
  if 0x1000000 ≤ off then s
  else if size ≠ 4 ∧ size ≠ 8 then barWrite Ev.bar2 size (fun s => s) s
  else if o = 0x100 then tailDoorbell q (v % 2 ^ 32) s
  else if o = 0x108 then pushDoorbell q (v % 2 ^ 32) s
  else if o = 0x110 then excConsDoorbell q (v % 2 ^ 32) s
  else if o < 0x100 then barWrite Ev.bar2 size (pushSlotWrite q o size v) s
  else barWrite Ev.bar2 size (fun s => s) s

/-- REGISTER_WRITE (R396, R422, R438). An object's write is firmware's own, on the local path. DESIGN CHOICE (log 103): reads of BAR0, BAR2 and the expansion ROM, and poisoned writes, which have no row, come by this one. -/
def registerWrite (w : RegWrite) (s : State) : State :=
  match w with
  | .obj i u v => dictWrite (dictOps true) (i * 256 + u % 256) false v s
  | .bar0 off size v =>
    barWrite Ev.bar0 size (fun s => if size = 4 then bar0Any off v s else bar0Any (off + 4) (v / 2 ^ 32) (bar0Any off (v % 2 ^ 32) s)) s
  | .bar2 off size v => bar2Any off size v s
  | .readBar0 off size ro => readBar0 off size ro s
  | .readBar2 off size ro => readBar2 off size ro s
  | .readRom off len ro => readRom off len ro s
  | .poisoned bar2 => s.when (s.epRuns && s.ep.link) (fun s => poisonedWrite (s.count (if bar2 then Ev.bar2 else Ev.bar0) 0))

end Sys2Proof.Machine
end

