-- ==== Sys2Proof/Machine/Settle.lean ====
section
/-! DEFINITION. What the transport and the target hand to each other at the end of a command, and the commands that can cause it. -/

namespace Sys2Proof.Machine

/-! ### Handing on -/

/-- One notice of the transport: a capsule arrives at the target (R189), data of an RDMA READ lands in a command entry (R197), all of it has, or a QP has entered Error (R208). -/
def takeNotice (n : Notice) (s : State) : State :=
  match n with
  | .capsule key data => capsuleIn key data s
  | .data u off b => dataArrives u off b s
  | .done (.dataRead u) true => dataComplete u s
  | .done (.firmware qpn) ok => s.emit (.workEnd qpn ok)
  | .done _ _ => s
  | .qpError key => dropQueue key s

/-- Everything that has been handed on so far is taken, in order: the transport's notices, then the target's notes for the Corolo rings. -/
def settleRound (s : State) : State :=
  let ns := s.xp.notices
  let s := ns.foldl (fun s n => takeNotice n s) { s with xp.notices := [] }
  let rs := s.tgt.ring
  rs.foldl (fun s n => ringNote n s) { s with tgt.ring := [] }

/-- Rounds until nothing is left, at most as many as the first argument. -/
def settleGo : Nat → State → State
  | 0, s => s
  | f + 1, s => if s.xp.notices.isEmpty && s.tgt.ring.isEmpty then s else settleGo f (settleRound s)

/-- What a command has handed on is taken. What is left after 64 rounds is taken by the next command. -/
def settle (s : State) : State := settleGo 64 s

/-- Run a command that can hand something on. -/
def act (s : State) (f : State → State) : Host.Outcome State Fault Refusal := up s (fun s => settle (f s))

/-! ### Release (R499) -/

/-- SADDLE_RELEASE (R499 step 4): its edge begins bell 0, and the objects of R9 show what stands at it. -/
def saddleReleaseEdge (s : State) : State :=
  let t := saddleRelease s
  if s.rst.phase ≠ .up ∧ t.rst.phase = .up then sampleObjects t else t

def execSaddleRelease (s : State) : Host.Outcome State Fault Refusal := effect s (saddleReleaseEdge s)

/-! ### Transport (R124-R151, R171-R175) -/

/-- PACKET_RECEIVE (R132). -/
def execPacketReceive (engine : Nat) (p : Packet) (s : State) := act s (receivePacket engine p)

/-- CONTEXT_FETCH_COMPLETE (R128). -/
def execContextFetchComplete (qpn : Nat) (bad : Bool) (s : State) := act s (fetchComplete qpn bad)

/-- WORK_REQUEST_POST (R130): firmware's request joins the send queue of the QP that the number names; one for a QP that is not Ready ends at once. -/
def workRequestPost (qpn : Nat) (wr : WorkRequest) (s : State) : State :=
  s.when (s.genOk qpn) (postWork (keyOf qpn) (.firmware qpn) wr)

/-- WORK_REQUEST_POST (R130). -/
def execWorkRequestPost (qpn : Nat) (wr : WorkRequest) (s : State) := act s (workRequestPost qpn wr)

/-- QP_TO_ERROR (R123). -/
def execQpToError (par : Bytes) (s : State) := act s (qpCommand par qpToError)

/-- RETRANSMIT_TIMEOUT (R139). -/
def execRetransmitTimeout (qpn : Nat) (s : State) := act s (retransmitTimeout qpn)

/-- REVOKE_TIMEOUT (R149). -/
def execRevokeTimeout (idx : Nat) (s : State) := act s (revokeTimeout idx)

/-- CHAIN_WR_START (R175). -/
def execChainWrStart (engine chain : Nat) (s : State) := act s (chainWrStart engine chain)

/-! ### Fabric target (R191-R207) -/

/-- NVME_FLUSH (R204). -/
def execNvmeFlush (h : Nat) (s : State) := act s (nvmeFlush h)

/-- NVME_WRITE (R198). -/
def execNvmeWrite (h : Nat) (s : State) := act s (nvmeWrite h)

/-- NVME_READ (R203). -/
def execNvmeRead (h : Nat) (s : State) := act s (nvmeRead h)

/-- NVME_COMPARE (R204). -/
def execNvmeCompare (h : Nat) (s : State) := act s (nvmeCompare h)

/-- NVME_WRITE_ZEROES (R204). -/
def execNvmeWriteZeroes (h : Nat) (s : State) := act s (nvmeWriteZeroes h)

/-- NVME_DATASET_MANAGEMENT (R204). -/
def execNvmeDatasetManagement (h : Nat) (s : State) := act s (nvmeDatasetManagement h)

/-- NVME_ABORT (R206). -/
def execNvmeAbort (h : Nat) (s : State) := act s (nvmeAbort h)

/-- NVME_KEEP_ALIVE (R207). -/
def execNvmeKeepAlive (h : Nat) (s : State) := act s (nvmeKeepAlive h)

/-- INBOX_ROUTE (R191). -/
def execInboxRoute (h : Nat) (s : State) := act s (inboxRoute h)

/-- INBOX_HELD_DELIVER (R192). -/
def execInboxHeldDeliver (s : State) := act s inboxHeldDeliver

/-- OUTBOX_RECORD (R193). -/
def execOutboxRecord (s : State) := act s outboxRecord

/-- KEEP_ALIVE_EXPIRED (R207). -/
def execKeepAliveExpired (assoc : Nat) (s : State) := act s (keepAliveExpired assoc)

/-- CHUNK_STAGE (R273). -/
def execChunkStage (h : Nat) (chunk : Nat) (s : State) := act s (chunkStage h chunk)

/-! ### Volumes and the ledger (R234-R287) -/

/-- MERGE_START (R234). -/
def execMergeStart (group : Nat) (stripe : Nat) (s : State) := act s (mergeStart group stripe)

/-- MERGE_COMMIT_SUBMIT (R236). -/
def execMergeCommitSubmit (group : Nat) (stripe : Nat) (s : State) := act s (mergeCommitSubmit group stripe)

/-- CLAIM_GRANT (R237). -/
def execClaimGrant (group : Nat) (stripe : Nat) (s : State) := act s (claimGrant group stripe)

/-- FLOAT_RETURN (R239). -/
def execFloatReturn (group : Nat) (phys : Nat) (s : State) := act s (floatReturn group phys)

/-- REBUILD_ITEM_COMPLETE (R249). -/
def execRebuildItemComplete (group stripe : Nat) (s : State) := act s (rebuildItemComplete group stripe)

/-- SCRUB_ITEM_COMPLETE (R257). -/
def execScrubItemComplete (group stripe : Nat) (s : State) := act s (scrubItemComplete group stripe)

/-- RESHAPE_COPY_COMMIT (R259). -/
def execReshapeCopyCommit (vol : Nat) (s : State) := act s (reshapeCopyCommit vol)

/-- MEMBER_FAIL_COMMAND (R245). -/
def execMemberFailCommand (par : Bytes) (s : State) := act s (layoutCommand par memberFailCommand)

/-- LEDGER_WRITE_COMPLETE (R275). -/
def execLedgerWriteComplete (copy : Nat) (place : Nat) (count : Nat) (ok : Bool) (s : State) := act s (ledgerWriteComplete copy place count ok)

/-- LEDGER_COPY_TIMEOUT (R280). -/
def execLedgerCopyTimeout (copy : Nat) (s : State) := act s (ledgerCopyTimeout copy)

/-- SEEDING_COMPLETE (R282). -/
def execSeedingComplete (copy : Nat) (s : State) := act s (seedingComplete copy)

/-! ### Drives and bays (R245, R343-R357) -/

/-- DRIVE_COMPLETION (R356). -/
def execDriveCompletion (bay : Nat) (cid : Nat) (r : DriveResult) (s : State) := act s (driveCompletion bay cid r)

/-- MEMBER_TIMEOUT (R245). -/
def execMemberTimeout (bay : Nat) (cid : Nat) (s : State) := act s (memberTimeout bay cid)

/-- CFS_POLL (R356). -/
def execCfsPoll (bay : Nat) (cfs : Bool) (s : State) := act s (cfsPoll bay cfs)

/-- DRIVE_LINK_DOWN (R356). -/
def execDriveLinkDown (bay : Nat) (s : State) := act s (driveLinkDown bay)

/-- DRIVE_AER_ERROR (R356). -/
def execDriveAerError (bay : Nat) (s : State) := act s (driveAerError bay)

/-- EFUSE_TRIP (R344). -/
def execEfuseTrip (bay : Nat) (aux : Bool) (s : State) := act s (ofEndedBell (efuseTrip bay aux))

/-- GATE_STUCK (R345). -/
def execGateStuck (bay : Nat) (s : State) := act s (ofEndedBell (gateStuck bay))

/-- PASS_ELEMENT_SHORT (R346). -/
def execPassElementShort (bay : Nat) (s : State) := up s (ofEndedBell (passElementShort bay))

/-- OUTPUT_OUT_OF_WINDOW (R347). -/
def execOutputOutOfWindow (bay : Nat) (s : State) := act s (ofEndedBell (outputOutOfWindow bay))

/-- PG_TIMEOUT (R347). -/
def execPgTimeout (bay : Nat) (s : State) := act s (ofEndedBell (pgTimeout bay))

/-- SHUTDOWN_GATE_OFF (R342). -/
def execShutdownGateOff (bay : Nat) (s : State) := act s (shutdownGateOff bay)

/-- BAY_POWER_CYCLE (R349). -/
def execBayPowerCycle (bay : Nat) (par : Bytes) (s : State) := act s (bayCommand bay par (bayPowerCycle bay))

/-! ### Host endpoint and Corolo queues (R409, R419-R424) -/

/-- EP_COMPLETION_RECEIVE (R409). -/
def execEpCompletionReceive (tag : Nat) (c : Completion) (s : State) := act s (epCompletionReceive tag c)

/-- ENTRY_FETCH_COMPLETE (R424). -/
def execEntryFetchComplete (q : Nat) (entries : List Bytes) (status : Nat) (s : State) := act s (entryFetchComplete q entries status)

/-- COROLO_READ (R419). -/
def execCoroloRead (q : Nat) (s : State) := act s (coroloRead q)

/-- COROLO_WRITE (R420). -/
def execCoroloWrite (q : Nat) (s : State) := act s (coroloWrite q)

/-- COROLO_FLUSH (R419). -/
def execCoroloFlush (q : Nat) (s : State) := act s (coroloFlush q)

/-- COROLO_DEALLOCATE (R419). -/
def execCoroloDeallocate (q : Nat) (s : State) := act s (coroloDeallocate q)

/-- DICTIONARY_EXCHANGE (R421). -/
def execDictionaryExchange (q : Nat) (msg : Bytes) (s : State) := act s (dictionaryExchange q msg)

/-! ### Dictionary (R438, R447-R457, R444) -/

/-- BRODLET_REQUEST (R447). -/
def execBrodletRequest (src : Requester) (msg : Bytes) (s : State) := act s (brodletRequest src msg)

/-- REGISTER_WRITE (R438). -/
def execRegisterWrite (w : RegWrite) (s : State) := act s (registerWrite w)

/-- DICT_IMPORT (R442). -/
def execDictImport (par : Bytes) (s : State) := act s (fun s => s.command dictSet dictSet 32 par (dictImport true))

end Sys2Proof.Machine
end

