-- ==== Sys2Proof/Machine/BellEdge.lean ====
section
/-! DEFINITION. BELL_EDGE: the fixed sequence of every bell (R29). Each row of the table that has a trigger of its own is a command of its own; what an edge itself does is here. -/

namespace Sys2Proof.Machine

/-! ### The bell that ends -/

/-- What was met in the bell that ends reaches its consumers: port reports and memory errors (R63, R70, R77, R363, R411, R479, R486); the target executes what it has parsed. -/
def edgeInputs (x : EdgeInput) (s : State) : State :=
  settle (runParsed (settle (x.memory.foldl (fun s e => memError e s) (x.epErr.foldl (fun s e => linkError e s) (x.aer.foldl (fun s b => s.count Ev.aerC b) (takePortInputs x (x.arrive.foldl takeArrival s)))))))

/-- The guard interval: service items take the lanes' budget left, event records and doorbells are written, the stages publish their credit and the counters close their interval (R29, R30, R150, R356, R519). -/
def edgeGuard (x : EdgeInput) (s : State) : State := guardCounters (noteJobs <| noteCells <| noteIneligible <| countKeyWaits (countStaging (publishCells x (publishCredit x.late x.share (ringDoorbells (flushEvents (serviceItems s)))))))

/-! ### The edge -/

/-- A discontinuity, a time step or a time set leaves the outstanding timed packets void (R160). -/
def voidTimed (s : State) : State :=
  { s with cc.rates := tmap s.cc.rates (fun _ r => { r with timed := r.timed.map (fun t => { t with void := true }) }) }

/-- The clock and the number advance, and each repeater checks what it received (R14, R26). -/
def edgeClock (x : EdgeInput) (stretch : Option Stretch) (change : Option ClockChange) (s : State) : State :=
  let s := advanceBell stretch change s
  let s := if change.isSome || s.bell.discontinuity then voidTimed s else s
  (List.range' 0 6).foldl (repeaterCheck x.repeater) s

/-- Results and step 1 of R29: outcomes are set, a realignment that waits is computed, snapshots are taken, the pulse output is held off while it may not run (R12, R21, R523). -/
def edgeResults (s : State) : State := pinsEdge (snapshotTarget (countersEdge (realignment s.commitResults)))

/-- Step 3 of R29: gate lists switch; shapers, policers, pacing allowances and lane budgets refill; virtual times advance and heads are tagged again; the samplers and averages take the bell (R80, R102, R104, R108, R111, R113, R157, R305). -/
def edgeRefill (s : State) : State :=
  let s := gateListsEdge (portsEdge s.bell.lastLen s)
  let s := refillLanes (refillRates (refillPolicers (refillShapers s)))
  countPause (updateAverages (countIneligible (sampleAll s.bell.prev (updateVirtuals s))))

/-- Writes and commands of the bell before that take effect at the edge, and the counts of one bell start anew (R125, R128, R148, R175, R177, R190, R213, R280, R312, R330). -/
def edgeTake (s : State) : State :=
  cipherEdge (issueFetches (startDrains (takeDisarms (parseCapsules (takeViews (settleDurable (dropTargets { s with cc.started := [] })))))))

/-- Roles and the lease at the edge; the deadline moves with a jump of the number (R378, R557). -/
def edgeRole (s : State) : State := standbyEdge ((s.bell.number : Int) - ((s.bell.prev : Int) + 1)) s

/-- PWRFAIL_N is sampled (R293). -/
def samplePwrfail (low : Bool) (s : State) : State := { s with led.pwrLow := if low then min 2 (s.led.pwrLow + 1) else 0 }

/-- Step 5 of R29: the events `old` of the bell that has ended are evaluated, sources and regions recover, and the buckets take the bell's corrected errors (R470, R474, R475, R487); what arises at the edge belongs to the bell that begins (R469). -/
def edgeFaults (old : List FaultEvent) (s : State) : State :=
  let now := s.flt.events
  let s := ownCountEnds old (bucketsLeak (bucketsEdge (recoverAll (evaluateFaults { faultNPulseEnd s with flt.events := old }))))
  { s with flt.events := now ++ s.flt.events }

/-- Units whose item has not completed at the edge (R36, R37). -/
def edgeOverruns (x : EdgeInput) (s : State) : State := x.late.foldl (fun s u => unitOverrun u.1 u.2.1 u.2.2 s) s

/-! ### The budget window -/

/-- A data block waits at the cipher for a root key, or as it does without one where no lane is in service (R307, R313). -/
def State.blockWaits (s : State) : Bool :=
  (s.ciph.root.isNone || (List.range' 0 16).all (fun i => !(s.lane i).inService)) && s.cipherRuns && (!s.ciph.waiting.isEmpty || s.tgt.cmds.any (fun c => c.2.phase = .staging && c.2.bufReady && (c.2.kind = 2 || (c.2.kind = 3 && !c.2.deallocates))))

/-- FS129 once for each bell in which a block waits (R313). -/
def rootWait (s : State) : State := if s.blockWaits then s.faultAt 129 4 3 0 else s

/-- The stages start work that fits the bell (R29, R33): waiting frames are written, visible writes complete, the cipher takes waiting blocks, the engines send, the volumes begin their items, the drives are served. -/
def edgeWork (s : State) : State :=
  let s := settle (imagesEdge (finishWrites (stageWaiting s.led.unstaged.length (drainAll s))))
  let s := rootWait (drainCipher s.ciph.waiting.length s)
  let s := settle (startTransport (sendDueAcks (takeHeld s)))
  startUnits (serveDrives (settle (layoutEdge s)))

/-- The ledger's descriptor follows its fields (R279), and the objects of R9 take the values they show until the next edge. -/
def edgeShow (s : State) : State := sampleRings (sampleObjects (updateDescriptor (settle s)))

/-- The dictionary engine serves its waiting requests (R457), and what was handed on is taken. -/
def edgeServe (s : State) : State := settle (dictEdge s)

/-- The edge up to the evaluation of the faults of the bell that has ended (R29, steps 1 to 5); the bays' events at the edge are that bell's (R338). -/
def edgeSteps (x : EdgeInput) (stretch : Option Stretch) (change : Option ClockChange) (s : State) : State :=
  let old := s.flt.events
  let s := readCredit x.late (edgeResults (endpointEvents (edgeClock x stretch change { s with flt.events := [] })))
  let s := edgeRole (edgeTake (edgeRefill s))
  let now := s.flt.events
  let s := evalBays x.adc { s with flt.events := [] }
  edgeFaults (old ++ s.flt.events) (samplePwrfail x.pwrfail { s with flt.events := now })

/-- BELL_EDGE (R29): the guard interval of the bell that ends, the steps of the edge, what the objects of R9 show from it on, and the starts of the bell that begins. -/
def bellEdge (x : EdgeInput) (s : State) : State :=
  let s := edgeSteps x s.bell.stretch s.bell.clock (edgeGuard x (edgeInputs x s))
  let s := edgeOverruns x (haltFence (hierEdge (takeOverEdge (rateUpdate s))))
  edgeServe (edgeWork (edgeShow (moderationEdge (coroloEdge (endpointEdge (endpointTimers s))))))

def execBellEdge (x : EdgeInput) (s : State) := up s (bellEdge x)

end Sys2Proof.Machine
end

