-- ==== Sys2Proof/Machine/Dispatch.lean ====
section
/-! DEFINITION. One arm for each command: its meaning, or its refusal by name. -/

namespace Sys2Proof.Machine

def exec (i : Instr) (s : State) : Host.Outcome State Fault Refusal :=
  match i with
  | .bellEdge x => Sys2Proof.Machine.execBellEdge x s
  | .lateItemComplete die region unit => Sys2Proof.Machine.execLateItemComplete die region unit s
  | .edgeTimeout die => Sys2Proof.Machine.execEdgeTimeout die s
  | .ptpLockWrite v => Sys2Proof.Machine.execPtpLockWrite v s
  | .lockHoldoverExpired => Sys2Proof.Machine.execLockHoldoverExpired s
  | .bellPhaseWrite v => Sys2Proof.Machine.execBellPhaseWrite v s
  | .timeStep par => Sys2Proof.Machine.execTimeStep par s
  | .timeSet par => Sys2Proof.Machine.execTimeSet par s
  | .rebase par => Sys2Proof.Machine.execRebase par s
  | .realignment => Sys2Proof.Machine.execRealignment s
  | .referenceFail => Sys2Proof.Machine.execReferenceFail s
  | .overrunRearm v => Sys2Proof.Machine.execOverrunRearm v s
  | .domainOff par => Sys2Proof.Machine.execDomainOff par s
  | .domainOn par => Sys2Proof.Machine.execDomainOn par s
  | .clusterQuiesce par => Sys2Proof.Machine.execClusterQuiesce par s
  | .clusterResume par => Sys2Proof.Machine.execClusterResume par s
  | .regionCommandFence par => Sys2Proof.Machine.execRegionCommandFence par s
  | .regionCommandUnfence par => Sys2Proof.Machine.execRegionCommandUnfence par s
  | .domainForcedOff par => Sys2Proof.Machine.execDomainForcedOff par s
  | .quiesceComplete => Sys2Proof.Machine.execQuiesceComplete s
  | .domainSwitchStart d => Sys2Proof.Machine.execDomainSwitchStart d s
  | .domainPowerGood d => Sys2Proof.Machine.execDomainPowerGood d s
  | .domainPgTimeout d => Sys2Proof.Machine.execDomainPgTimeout d s
  | .domainRelease d => Sys2Proof.Machine.execDomainRelease d s
  | .domainTrained d failedLanes => Sys2Proof.Machine.execDomainTrained d failedLanes s
  | .domainRetentionLost d => Sys2Proof.Machine.execDomainRetentionLost d s
  | .clockGoodLost die => Sys2Proof.Machine.execClockGoodLost die s
  | .ucieRetry link => Sys2Proof.Machine.execUcieRetry link s
  | .ucieLinkFail link => Sys2Proof.Machine.execUcieLinkFail link s
  | .portModeWrite port sub v => Sys2Proof.Machine.execPortModeWrite port sub v s
  | .portEnableWrite port v => Sys2Proof.Machine.execPortEnableWrite port v s
  | .portUp port => Sys2Proof.Machine.execPortUp port s
  | .portDown port localFault => Sys2Proof.Machine.execPortDown port localFault s
  | .fecWindowEnd lane => Sys2Proof.Machine.execFecWindowEnd lane s
  | .frameReceive port f => Sys2Proof.Machine.execFrameReceive port f s
  | .pfcRefresh port cls => Sys2Proof.Machine.execPfcRefresh port cls s
  | .pfcReceive port mask quanta => Sys2Proof.Machine.execPfcReceive port mask quanta s
  | .pauseExpiry port cls => Sys2Proof.Machine.execPauseExpiry port cls s
  | .pfcStormDetect port cls => Sys2Proof.Machine.execPfcStormDetect port cls s
  | .pfcStormRestore port cls => Sys2Proof.Machine.execPfcStormRestore port cls s
  | .xoffStormDetect port cls => Sys2Proof.Machine.execXoffStormDetect port cls s
  | .fdbAgeExpiry vid mac => Sys2Proof.Machine.execFdbAgeExpiry vid mac s
  | .frameTransmit inst ts => Sys2Proof.Machine.execFrameTransmit inst ts s
  | .mgmtFrameSend dir f => Sys2Proof.Machine.execMgmtFrameSend dir f s
  | .fdbAddStatic par => Sys2Proof.Machine.execFdbAddStatic par s
  | .fdbDelete par => Sys2Proof.Machine.execFdbDelete par s
  | .fdbFlush par => Sys2Proof.Machine.execFdbFlush par s
  | .fdbLookup par => Sys2Proof.Machine.execFdbLookup par s
  | .groupWrite par => Sys2Proof.Machine.execGroupWrite par s
  | .groupRead par => Sys2Proof.Machine.execGroupRead par s
  | .vlanWrite par => Sys2Proof.Machine.execVlanWrite par s
  | .vlanRead par => Sys2Proof.Machine.execVlanRead par s
  | .sampleWindowEnd kind => Sys2Proof.Machine.execSampleWindowEnd kind s
  | .gateListSwitch kind inst => Sys2Proof.Machine.execGateListSwitch kind inst s
  | .queueWrite par => Sys2Proof.Machine.execQueueWrite par s
  | .queueRead par => Sys2Proof.Machine.execQueueRead par s
  | .instanceShaperWrite par => Sys2Proof.Machine.execInstanceShaperWrite par s
  | .instanceShaperRead par => Sys2Proof.Machine.execInstanceShaperRead par s
  | .policerWrite par => Sys2Proof.Machine.execPolicerWrite par s
  | .policerRead par => Sys2Proof.Machine.execPolicerRead par s
  | .policeMapWrite par => Sys2Proof.Machine.execPoliceMapWrite par s
  | .policeMapRead par => Sys2Proof.Machine.execPoliceMapRead par s
  | .gateAdminWrite par => Sys2Proof.Machine.execGateAdminWrite par s
  | .gateCommit par => Sys2Proof.Machine.execGateCommit par s
  | .gateRead par => Sys2Proof.Machine.execGateRead par s
  | .sampleFetch par => Sys2Proof.Machine.execSampleFetch par s
  | .packetReceive engine p => Sys2Proof.Machine.execPacketReceive engine p s
  | .contextFetchComplete qpn bad => Sys2Proof.Machine.execContextFetchComplete qpn bad s
  | .contextWritebackComplete qpn => Sys2Proof.Machine.execContextWritebackComplete qpn s
  | .retransmitTimeout qpn => Sys2Proof.Machine.execRetransmitTimeout qpn s
  | .rnrWaitExpiry qpn => Sys2Proof.Machine.execRnrWaitExpiry qpn s
  | .qpCreate par => Sys2Proof.Machine.execQpCreate par s
  | .qpConnect par => Sys2Proof.Machine.execQpConnect par s
  | .qpToError par => Sys2Proof.Machine.execQpToError par s
  | .qpDestroy par => Sys2Proof.Machine.execQpDestroy par s
  | .qpDestroyComplete qpn => Sys2Proof.Machine.execQpDestroyComplete qpn s
  | .qpQuery par => Sys2Proof.Machine.execQpQuery par s
  | .domainAllocate par => Sys2Proof.Machine.execDomainAllocate par s
  | .domainFree par => Sys2Proof.Machine.execDomainFree par s
  | .mrRegister par => Sys2Proof.Machine.execMrRegister par s
  | .mrRevoke par => Sys2Proof.Machine.execMrRevoke par s
  | .mrQuery par => Sys2Proof.Machine.execMrQuery par s
  | .mrDrainComplete idx => Sys2Proof.Machine.execMrDrainComplete idx s
  | .revokeTimeout idx => Sys2Proof.Machine.execRevokeTimeout idx s
  | .rateUpdate => Sys2Proof.Machine.execRateUpdate s
  | .idleReset qpn => Sys2Proof.Machine.execIdleReset qpn s
  | .ccSetProfileMode par => Sys2Proof.Machine.execCcSetProfileMode par s
  | .ccQueryRate par => Sys2Proof.Machine.execCcQueryRate par s
  | .chainArm par => Sys2Proof.Machine.execChainArm par s
  | .chainDisarm par => Sys2Proof.Machine.execChainDisarm par s
  | .chainDisarmComplete engine chain => Sys2Proof.Machine.execChainDisarmComplete engine chain s
  | .chainQuery par => Sys2Proof.Machine.execChainQuery par s
  | .mirrorBind par => Sys2Proof.Machine.execMirrorBind par s
  | .mirrorUnbind par => Sys2Proof.Machine.execMirrorUnbind par s
  | .chainWrStart engine chain => Sys2Proof.Machine.execChainWrStart engine chain s
  | .chainWrComplete engine chain wr => Sys2Proof.Machine.execChainWrComplete engine chain wr s
  | .nvmeFlush h => Sys2Proof.Machine.execNvmeFlush h s
  | .nvmeWrite h => Sys2Proof.Machine.execNvmeWrite h s
  | .nvmeRead h => Sys2Proof.Machine.execNvmeRead h s
  | .nvmeCompare h => Sys2Proof.Machine.execNvmeCompare h s
  | .nvmeWriteZeroes h => Sys2Proof.Machine.execNvmeWriteZeroes h s
  | .nvmeDatasetManagement h => Sys2Proof.Machine.execNvmeDatasetManagement h s
  | .nvmeAbort h => Sys2Proof.Machine.execNvmeAbort h s
  | .nvmeKeepAlive h => Sys2Proof.Machine.execNvmeKeepAlive h s
  | .inboxRoute h => Sys2Proof.Machine.execInboxRoute h s
  | .inboxHeldDeliver => Sys2Proof.Machine.execInboxHeldDeliver s
  | .outboxRecord => Sys2Proof.Machine.execOutboxRecord s
  | .keepAliveExpired assoc => Sys2Proof.Machine.execKeepAliveExpired assoc s
  | .namespaceWrite par => Sys2Proof.Machine.execNamespaceWrite par s
  | .namespaceRead par => Sys2Proof.Machine.execNamespaceRead par s
  | .accessWrite par => Sys2Proof.Machine.execAccessWrite par s
  | .associationBind par => Sys2Proof.Machine.execAssociationBind par s
  | .associationRelease par => Sys2Proof.Machine.execAssociationRelease par s
  | .queueBind par => Sys2Proof.Machine.execQueueBind par s
  | .queueEnable par => Sys2Proof.Machine.execQueueEnable par s
  | .queueUnbind par => Sys2Proof.Machine.execQueueUnbind par s
  | .reservationViewWrite par => Sys2Proof.Machine.execReservationViewWrite par s
  | .associationQuery par => Sys2Proof.Machine.execAssociationQuery par s
  | .hostGroupWrite par => Sys2Proof.Machine.execHostGroupWrite par s
  | .chunkStage h chunk => Sys2Proof.Machine.execChunkStage h chunk s
  | .recordSubmit => Sys2Proof.Machine.execRecordSubmit s
  | .ledgerWriteComplete copy place count ok => Sys2Proof.Machine.execLedgerWriteComplete copy place count ok s
  | .ledgerCopyTimeout copy => Sys2Proof.Machine.execLedgerCopyTimeout copy s
  | .replicationBufferRelease place => Sys2Proof.Machine.execReplicationBufferRelease place s
  | .checkpointPersisted v => Sys2Proof.Machine.execCheckpointPersisted v s
  | .seedingComplete copy => Sys2Proof.Machine.execSeedingComplete copy s
  | .ledgerCreate par => Sys2Proof.Machine.execLedgerCreate par s
  | .copyReplace par => Sys2Proof.Machine.execCopyReplace par s
  | .replay par => Sys2Proof.Machine.execReplay par s
  | .replayComplete scan => Sys2Proof.Machine.execReplayComplete scan s
  | .drain par => Sys2Proof.Machine.execDrain par s
  | .drainComplete => Sys2Proof.Machine.execDrainComplete s
  | .pwrfailWarning => Sys2Proof.Machine.execPwrfailWarning s
  | .mergeStart group stripe => Sys2Proof.Machine.execMergeStart group stripe s
  | .mergeCommitSubmit group stripe => Sys2Proof.Machine.execMergeCommitSubmit group stripe s
  | .claimGrant group stripe => Sys2Proof.Machine.execClaimGrant group stripe s
  | .floatReturn group phys => Sys2Proof.Machine.execFloatReturn group phys s
  | .driveCompletion bay cid r => Sys2Proof.Machine.execDriveCompletion bay cid r s
  | .memberTimeout bay cid => Sys2Proof.Machine.execMemberTimeout bay cid s
  | .spareTake group => Sys2Proof.Machine.execSpareTake group s
  | .rebuildItemComplete group stripe => Sys2Proof.Machine.execRebuildItemComplete group stripe s
  | .scrubItemComplete group stripe => Sys2Proof.Machine.execScrubItemComplete group stripe s
  | .reshapeCopyCommit vol => Sys2Proof.Machine.execReshapeCopyCommit vol s
  | .groupCreate par => Sys2Proof.Machine.execGroupCreate par s
  | .groupDelete par => Sys2Proof.Machine.execGroupDelete par s
  | .groupQuery par => Sys2Proof.Machine.execGroupQuery par s
  | .volumeCreate par => Sys2Proof.Machine.execVolumeCreate par s
  | .volumeDelete par => Sys2Proof.Machine.execVolumeDelete par s
  | .volumeQuery par => Sys2Proof.Machine.execVolumeQuery par s
  | .reshapeStart par => Sys2Proof.Machine.execReshapeStart par s
  | .reshapePauseResume par => Sys2Proof.Machine.execReshapePauseResume par s
  | .rebuildStart par => Sys2Proof.Machine.execRebuildStart par s
  | .scrubControl par => Sys2Proof.Machine.execScrubControl par s
  | .memberFailCommand par => Sys2Proof.Machine.execMemberFailCommand par s
  | .lostListFetch par => Sys2Proof.Machine.execLostListFetch par s
  | .keyHoldExpiry lane vol epoch => Sys2Proof.Machine.execKeyHoldExpiry lane vol epoch s
  | .wseqGrant v => Sys2Proof.Machine.execWseqGrant v s
  | .serviceDescriptor => Sys2Proof.Machine.execServiceDescriptor s
  | .serviceDescriptorComplete => Sys2Proof.Machine.execServiceDescriptorComplete s
  | .randomHealthFail => Sys2Proof.Machine.execRandomHealthFail s
  | .rootCreate signed par => Sys2Proof.Machine.execRootCreate signed par s
  | .unwrap par => Sys2Proof.Machine.execUnwrap par s
  | .enroll signed par => Sys2Proof.Machine.execEnroll signed par s
  | .escrowExport signed par => Sys2Proof.Machine.execEscrowExport signed par s
  | .rootUnload par => Sys2Proof.Machine.execRootUnload par s
  | .volumeRekey par => Sys2Proof.Machine.execVolumeRekey par s
  | .restore par => Sys2Proof.Machine.execRestore par s
  | .volumeEpochQuery par => Sys2Proof.Machine.execVolumeEpochQuery par s
  | .operatorKeyWrite slot signed key => Sys2Proof.Machine.execOperatorKeyWrite slot signed key s
  | .measurementExtend par => Sys2Proof.Machine.execMeasurementExtend par s
  | .attest par => Sys2Proof.Machine.execAttest par s
  | .rollbackAdvance signed par => Sys2Proof.Machine.execRollbackAdvance signed par s
  | .oemRevoke signed par => Sys2Proof.Machine.execOemRevoke signed par s
  | .presenceChange bay a b => Sys2Proof.Machine.execPresenceChange bay a b s
  | .seatingComplete bay => Sys2Proof.Machine.execSeatingComplete bay s
  | .perstRelease bay => Sys2Proof.Machine.execPerstRelease bay s
  | .fastTrip bay => Sys2Proof.Machine.execFastTrip bay s
  | .efuseTrip bay aux => Sys2Proof.Machine.execEfuseTrip bay aux s
  | .gateStuck bay => Sys2Proof.Machine.execGateStuck bay s
  | .pgTimeout bay => Sys2Proof.Machine.execPgTimeout bay s
  | .outputOutOfWindow bay => Sys2Proof.Machine.execOutputOutOfWindow bay s
  | .passElementShort bay => Sys2Proof.Machine.execPassElementShort bay s
  | .retryTimerExpiry bay => Sys2Proof.Machine.execRetryTimerExpiry bay s
  | .adcFault bay channel stopped => Sys2Proof.Machine.execAdcFault bay channel stopped s
  | .driveShutdownComplete bay => Sys2Proof.Machine.execDriveShutdownComplete bay s
  | .shutdownTimeout bay => Sys2Proof.Machine.execShutdownTimeout bay s
  | .shutdownGateOff bay => Sys2Proof.Machine.execShutdownGateOff bay s
  | .bayEnableWrite bay v => Sys2Proof.Machine.execBayEnableWrite bay v s
  | .bayRelease bay par => Sys2Proof.Machine.execBayRelease bay par s
  | .bayEnergyClear bay par => Sys2Proof.Machine.execBayEnergyClear bay par s
  | .bayPowerCycle bay par => Sys2Proof.Machine.execBayPowerCycle bay par s
  | .bayHistoryClear bay par => Sys2Proof.Machine.execBayHistoryClear bay par s
  | .driveLinkUp bay link cap => Sys2Proof.Machine.execDriveLinkUp bay link cap s
  | .driveLinkTimeout bay => Sys2Proof.Machine.execDriveLinkTimeout bay s
  | .driveControllerReady bay ams bar0 => Sys2Proof.Machine.execDriveControllerReady bay ams bar0 s
  | .driveEnableTimeout bay => Sys2Proof.Machine.execDriveEnableTimeout bay s
  | .driveIdentifyComplete bay info => Sys2Proof.Machine.execDriveIdentifyComplete bay info s
  | .driveQueuesCreated bay ok => Sys2Proof.Machine.execDriveQueuesCreated bay ok s
  | .cfsPoll bay cfs => Sys2Proof.Machine.execCfsPoll bay cfs s
  | .driveLinkDown bay => Sys2Proof.Machine.execDriveLinkDown bay s
  | .driveAerError bay => Sys2Proof.Machine.execDriveAerError bay s
  | .sidebandPoll bay how temp warning => Sys2Proof.Machine.execSidebandPoll bay how temp warning s
  | .ledShift => Sys2Proof.Machine.execLedShift s
  | .adminPassthrough par => Sys2Proof.Machine.execAdminPassthrough par s
  | .adminTimeout bay => Sys2Proof.Machine.execAdminTimeout bay s
  | .controllerReset par => Sys2Proof.Machine.execControllerReset par s
  | .sidebandTransfer par how rd => Sys2Proof.Machine.execSidebandTransfer par how rd s
  | .linkRetrain par => Sys2Proof.Machine.execLinkRetrain par s
  | .enterStandby par => Sys2Proof.Machine.execEnterStandby par s
  | .takeOver par => Sys2Proof.Machine.execTakeOver par s
  | .handoverWaitEnd => Sys2Proof.Machine.execHandoverWaitEnd s
  | .fenceStaggerExpiry => Sys2Proof.Machine.execFenceStaggerExpiry s
  | .fenceRelease par => Sys2Proof.Machine.execFenceRelease par s
  | .resign signed par => Sys2Proof.Machine.execResign signed par s
  | .fenceInAssert => Sys2Proof.Machine.execFenceInAssert s
  | .fenceInRelease => Sys2Proof.Machine.execFenceInRelease s
  | .withdraw => Sys2Proof.Machine.execWithdraw s
  | .hbRefresh v => Sys2Proof.Machine.execHbRefresh v s
  | .hbHoldExpiry => Sys2Proof.Machine.execHbHoldExpiry s
  | .beatToggle => Sys2Proof.Machine.execBeatToggle s
  | .activeInEdge level => Sys2Proof.Machine.execActiveInEdge level s
  | .beatWindowEnd => Sys2Proof.Machine.execBeatWindowEnd s
  | .peerFailDetect => Sys2Proof.Machine.execPeerFailDetect s
  | .activeInSilence => Sys2Proof.Machine.execActiveInSilence s
  | .leaseConfirm v => Sys2Proof.Machine.execLeaseConfirm v s
  | .leaseDeadline => Sys2Proof.Machine.execLeaseDeadline s
  | .epLinkUp speed width flit => Sys2Proof.Machine.execEpLinkUp speed width flit s
  | .epConfigRequest wr off be data => Sys2Proof.Machine.execEpConfigRequest wr off be data s
  | .epConfigReadyWrite v => Sys2Proof.Machine.execEpConfigReadyWrite v s
  | .bar4Access a => Sys2Proof.Machine.execBar4Access a s
  | .epFundamentalReset p => Sys2Proof.Machine.execEpFundamentalReset p s
  | .epHotReset => Sys2Proof.Machine.execEpHotReset s
  | .epFlr => Sys2Proof.Machine.execEpFlr s
  | .epFlrComplete => Sys2Proof.Machine.execEpFlrComplete s
  | .resetRecordWrite => Sys2Proof.Machine.execResetRecordWrite s
  | .interruptPendingSend vec => Sys2Proof.Machine.execInterruptPendingSend vec s
  | .epCompletionReceive tag c => Sys2Proof.Machine.execEpCompletionReceive tag c s
  | .epCompletionTimeout tag => Sys2Proof.Machine.execEpCompletionTimeout tag s
  | .tagQuarantineEnd tag => Sys2Proof.Machine.execTagQuarantineEnd tag s
  | .tailDoorbell q t => Sys2Proof.Machine.execTailDoorbell q t s
  | .pushDoorbell q t => Sys2Proof.Machine.execPushDoorbell q t s
  | .excConsDoorbell q t => Sys2Proof.Machine.execExcConsDoorbell q t s
  | .entryFetchComplete q entries status => Sys2Proof.Machine.execEntryFetchComplete q entries status s
  | .coroloRead q => Sys2Proof.Machine.execCoroloRead q s
  | .coroloWrite q => Sys2Proof.Machine.execCoroloWrite q s
  | .coroloFlush q => Sys2Proof.Machine.execCoroloFlush q s
  | .coroloDeallocate q => Sys2Proof.Machine.execCoroloDeallocate q s
  | .dictionaryExchange q msg => Sys2Proof.Machine.execDictionaryExchange q msg s
  | .headPublish q => Sys2Proof.Machine.execHeadPublish q s
  | .modTimeExpiry q => Sys2Proof.Machine.execModTimeExpiry q s
  | .adminRingEnable => Sys2Proof.Machine.execAdminRingEnable s
  | .adminRingDisable => Sys2Proof.Machine.execAdminRingDisable s
  | .resetRecordClear => Sys2Proof.Machine.execResetRecordClear s
  | .ringCreate => Sys2Proof.Machine.execRingCreate s
  | .ringDisable => Sys2Proof.Machine.execRingDisable s
  | .ringDestroy => Sys2Proof.Machine.execRingDestroy s
  | .ringSetModeration => Sys2Proof.Machine.execRingSetModeration s
  | .ringEnable => Sys2Proof.Machine.execRingEnable s
  | .ringDrainComplete q => Sys2Proof.Machine.execRingDrainComplete q s
  | .brodletRequest src msg => Sys2Proof.Machine.execBrodletRequest src msg s
  | .dwGo => Sys2Proof.Machine.execDwGo s
  | .registerWrite w => Sys2Proof.Machine.execRegisterWrite w s
  | .dictExport par => Sys2Proof.Machine.execDictExport par s
  | .dictImport par => Sys2Proof.Machine.execDictImport par s
  | .requesterTableClear par => Sys2Proof.Machine.execRequesterTableClear par s
  | .haltFence => Sys2Proof.Machine.execHaltFence s
  | .faultNPulseEnd => Sys2Proof.Machine.execFaultNPulseEnd s
  | .faultNHoldWrite v => Sys2Proof.Machine.execFaultNHoldWrite v s
  | .faultInject par => Sys2Proof.Machine.execFaultInject par s
  | .firstFaultRearm v => Sys2Proof.Machine.execFirstFaultRearm v s
  | .sourceCfgWrite j v => Sys2Proof.Machine.execSourceCfgWrite j v s
  | .severityActionsWrite sev v => Sys2Proof.Machine.execSeverityActionsWrite sev v s
  | .sourceRecovery src => Sys2Proof.Machine.execSourceRecovery src s
  | .faultFenceRelease die region => Sys2Proof.Machine.execFaultFenceRelease die region s
  | .correctedWriteback inst addr => Sys2Proof.Machine.execCorrectedWriteback inst addr s
  | .bucketLeak inst => Sys2Proof.Machine.execBucketLeak inst s
  | .regionFill par => Sys2Proof.Machine.execRegionFill par s
  | .hbmFill par => Sys2Proof.Machine.execHbmFill par s
  | .fillComplete => Sys2Proof.Machine.execFillComplete s
  | .testWrite par => Sys2Proof.Machine.execTestWrite par s
  | .testRead par => Sys2Proof.Machine.execTestRead par s
  | .instanceQuery par => Sys2Proof.Machine.execInstanceQuery par s
  | .powerOnDetect => Sys2Proof.Machine.execPowerOnDetect s
  | .porstNAssert => Sys2Proof.Machine.execPorstNAssert s
  | .resetNAssert => Sys2Proof.Machine.execResetNAssert s
  | .resetCauseEnd drvClkmode epClkmode fenceInLow => Sys2Proof.Machine.execResetCauseEnd drvClkmode epClkmode fenceInLow s
  | .resetStretchEnd => Sys2Proof.Machine.execResetStretchEnd s
  | .fuseLoadComplete die r => Sys2Proof.Machine.execFuseLoadComplete die r s
  | .clockGoodReached die => Sys2Proof.Machine.execClockGoodReached die s
  | .clockGoodTimeout die => Sys2Proof.Machine.execClockGoodTimeout die s
  | .saddleRelease => Sys2Proof.Machine.execSaddleRelease s
  | .erralVerifyComplete a b => Sys2Proof.Machine.execErralVerifyComplete a b s
  | .domainBringUp par => Sys2Proof.Machine.execDomainBringUp par s
  | .logicBist par => Sys2Proof.Machine.execLogicBist par s
  | .memoryBist par => Sys2Proof.Machine.execMemoryBist par s
  | .logicAndMemoryBist par => Sys2Proof.Machine.execLogicAndMemoryBist par s
  | .bistRegionComplete die region mismatches => Sys2Proof.Machine.execBistRegionComplete die region mismatches s
  | .dumpCapture par => Sys2Proof.Machine.execDumpCapture par s
  | .dumpCaptureComplete lens => Sys2Proof.Machine.execDumpCaptureComplete lens s
  | .dumpClose par => Sys2Proof.Machine.execDumpClose par s
  | .dumpClear par => Sys2Proof.Machine.execDumpClear par s
  | .trstNAssert => Sys2Proof.Machine.execTrstNAssert s
  | .jtagBypass => Sys2Proof.Machine.execJtagBypass s
  | .jtagIdcode => Sys2Proof.Machine.execJtagIdcode s
  | .jtagSamplePreload preload => Sys2Proof.Machine.execJtagSamplePreload preload s
  | .jtagExtest => Sys2Proof.Machine.execJtagExtest s
  | .jtagClamp => Sys2Proof.Machine.execJtagClamp s
  | .jtagHighz => Sys2Proof.Machine.execJtagHighz s
  | .snapshotTarget => Sys2Proof.Machine.execSnapshotTarget s
  | .clearAll par => Sys2Proof.Machine.execClearAll par s
  | .clearStage par => Sys2Proof.Machine.execClearStage par s
  | .clearSelectable par => Sys2Proof.Machine.execClearSelectable par s
  | .snapshotNow par => Sys2Proof.Machine.execSnapshotNow par s
  | .counterRead par => Sys2Proof.Machine.execCounterRead par s
  | .directoryQuery par => Sys2Proof.Machine.execDirectoryQuery par s
  | .ppsInEdge t => Sys2Proof.Machine.execPpsInEdge t s
  | .ppsOutRise => Sys2Proof.Machine.execPpsOutRise s
  | .ppsOutFall => Sys2Proof.Machine.execPpsOutFall s
  | .tempSensorUpdate temps => Sys2Proof.Machine.execTempSensorUpdate temps s
  | .firmwareDriveIo bay queue io => Sys2Proof.Machine.execFirmwareDriveIo bay queue io s
  | .workRequestPost qpn wr => Sys2Proof.Machine.execWorkRequestPost qpn wr s

end Sys2Proof.Machine
end

