-- ==== Sys2Proof/Safety.lean ====
section
/-! DEFINITION. The notions in which the statements about the machine are written. -/

namespace Sys2Proof

/-- The rows that reach a device that is held in reset or not yet released (R493, R499, R513, R561): a reset cause, bring-up, a loss of the reference, and test access. -/
def Instr.duringReset : Instr → Bool
  | .powerOnDetect | .porstNAssert | .resetNAssert | .resetCauseEnd _ _ _ | .resetStretchEnd | .fuseLoadComplete _ _ | .clockGoodReached _
  | .clockGoodTimeout _ | .saddleRelease | .referenceFail | .trstNAssert | .jtagBypass | .jtagIdcode | .jtagSamplePreload _ | .jtagExtest | .jtagClamp | .jtagHighz => true
  | .presenceChange _ _ _ | .epFundamentalReset _ | .fenceInAssert | .fenceInRelease | .activeInEdge _ => true
  | _ => false

/-- The rows that move the bell or the reset phase (R14, R494-R502). -/
def Instr.movesTime : Instr → Bool
  | .bellEdge _ | .powerOnDetect | .porstNAssert | .resetNAssert | .resetCauseEnd _ _ _ | .fuseLoadComplete _ _ | .clockGoodTimeout _ | .clockGoodReached _ | .saddleRelease => true
  | _ => false

end Sys2Proof

namespace Sys2Proof.Machine

/-- The Saddle has been released, so that commands take effect (R561). -/
abbrev State.isUp (s : State) : Prop := s.rst.phase = .up

/-- The HBM of a state is in canonical form: addresses strictly rise, and no listed byte repeats what an unlisted address reads as. -/
abbrev State.memWf (s : State) : Prop := s.mem.wf = true

/-- The canonical form of memory. -/
abbrev Memory.wf (m : Hbm) : Prop := m.wf = true

/-- The command answers a next state, and `P` holds of it. -/
def Gives (c : Instr) (s : State) (P : State → Prop) : Prop := ∃ t, exec c s = .next t ∧ P t

/-- A write of a CMD object of the set is accepted (R12, R437, R561): the set is not busy and the value is no longer than the object. -/
abbrev State.takes (s : State) (set size : Nat) (par : Bytes) : Prop := s.rst.phase = .up ∧ s.busy set = false ∧ par.length ≤ size

/-- What the acceptance of a command itself leaves (R12): its parameters, filled up with zeros, `ready` clear in its set, and status 0 for the write. -/
def State.accepted (s : State) (key set size : Nat) (par : Bytes) : State :=
  (({ s with dict.params := tset s.dict.params key (padTo size par) }).onRes set (fun r => { r with ready := false })).status 0

/-- A released device in which nothing that one unit handed to another is left untaken. -/
abbrev State.calm (s : State) : Prop := s.rst.phase = .up ∧ s.xp.notices = [] ∧ s.tgt.ring = []

/-- `hier_command` is accepted (R12, R559): domain bring-up does not run and the set is not busy. -/
abbrev State.hierTakes (s : State) (par : Bytes) : Prop :=
  s.takes hierSet 8 par ∧ s.rst.bringUpPend = false ∧ s.hier.run.any (·.bringUp) = false

end Sys2Proof.Machine
end

