-- ==== Sys2Proof/Certificates/Slice0/Obligations.lean ====
section
/-! DEFINITION. The statements about the machine, each for the provers. A command's statement says, under hypotheses on the state and the operands alone, that it answers a next state and which. -/

open Sys2Proof Sys2Proof.Machine

/-- A write of ptp_lock asserts, refreshes or drops lock. It rests on 01_bell.md: Aligned and unaligned; 01_bell.md: Realignment, steps and rebase. -/
def Obligations.PtpLockWriteAssertsOrDropsLock : Prop :=
  (∀ s : State, s.isUp → (s.bell.aligned = true ∨ s.bell.rebaseNeeded = true) →
    exec (.ptpLockWrite 1) s = .next ((({ s with bell.lock := true, bell.lockEdge := s.bell.edges }).setObj 0x120006 [1]).status 0)) ∧
  (∀ s : State, s.isUp → s.bell.aligned = false → s.bell.rebaseNeeded = false →
    exec (.ptpLockWrite 1) s = .next
      (({ ((({ s with bell.lock := true, bell.lockEdge := s.bell.edges }).setObj 0x120006 [1]).status 0) with bell.request := some { edge := s.bell.edges, rebase := s.bell.request.any Realign.rebase } }).onRes 0x120008 (fun r => { r with ready := false }))) ∧
  (∀ s : State, s.isUp → s.bell.aligned = true →
    exec (.ptpLockWrite 0) s = .next (((({ s with bell.lock := false }).setObj 0x120006 [0]).status 0 |> fun t =>
      { t with bell.aligned := false, flt.events := s.flt.events ++ [{ source := 0, die := 4, region := 10 }] }))) ∧
  (∀ s : State, s.isUp → s.bell.aligned = false →
    exec (.ptpLockWrite 0) s = .next ((({ s with bell.lock := false }).setObj 0x120006 [0]).status 0)) ∧
  (∀ (s : State) (v : Nat), s.isUp → 1 < v → exec (.ptpLockWrite v) s = .next (s.status 4))

/-- bell_phase, time_step, time_set and rebase take effect. It rests on 01_bell.md: Realignment, steps and rebase; 01_bell.md: Objects. -/
def Obligations.PhaseAndClockCommandsTakeEffect : Prop :=
  (∀ (s : State) (v : Nat), s.isUp → v < 1024 → s.bell.lock = false →
    exec (.bellPhaseWrite v) s = .next ((s.setObj 0x120003 (le 2 v)).persist.status 0)) ∧
  (∀ (s : State) (v : Nat), s.isUp → v < 1024 → s.bell.lock = true → s.bell.aligned = false →
    exec (.bellPhaseWrite v) s = .next
      (({ (s.setObj 0x120003 (le 2 v)).persist.status 0 with bell.request := some { edge := s.bell.edges, rebase := s.bell.request.any Realign.rebase } }).onRes
        0x120008 (fun r => { r with ready := false }))) ∧
  (∀ (s : State) (v : Nat), s.isUp → v < 1024 → s.bell.lock = true → s.bell.aligned = true →
    exec (.bellPhaseWrite v) s = .next
      (((({ (s.setObj 0x120003 (le 2 v)).persist.status 0 with bell.aligned := false }).faultAt 0 4 10 0).requestRealign false))) ∧
  (∀ (s : State) (v : Nat), s.isUp → 1024 ≤ v → exec (.bellPhaseWrite v) s = .next (s.status 4)) ∧
  (∀ (s : State) (par : Bytes), s.takes 0x120008 8 par → par.length = 8 → -(2 ^ 62) ≤ ofLeI par → ofLeI par ≤ 2 ^ 62 → s.bell.lock = false →
    exec (.timeStep par) s = .next (({ s.accepted 0x120008 0x120008 8 par with bell.clock := some (.step (ofLeI par)) }).done 0x120008 2)) ∧
  (∀ (s : State) (par : Bytes), s.takes 0x120008 8 par → par.length = 8 → -(2 ^ 62) ≤ ofLeI par → ofLeI par ≤ 2 ^ 62 → s.bell.lock = true → s.bell.aligned = false →
    exec (.timeStep par) s = .next (({ s.accepted 0x120008 0x120008 8 par with bell.clock := some (.step (ofLeI par)), bell.request := some { edge := s.bell.edges, rebase := s.bell.request.any Realign.rebase } }).onRes
        0x120008 (fun r => { r with ready := false }))) ∧
  (∀ (s : State) (par : Bytes), s.takes 0x120008 8 par → par.length = 8 → (ofLeI par < -(2 ^ 62) ∨ 2 ^ 62 < ofLeI par) →
    exec (.timeStep par) s = .next ((s.accepted 0x120008 0x120008 8 par).done 0x120008 4)) ∧
  (∀ (s : State) (par : Bytes), s.takes 0x120008 12 par → ¬ (fld (padTo 12 par) 0 8 < 2 ^ 48 ∧ fld (padTo 12 par) 8 4 < 1000000000) →
    exec (.timeSet par) s = .next ((s.accepted 0x120009 0x120008 12 par).done 0x120008 4)) ∧
  (∀ (s : State) (par : Bytes), s.takes 0x120008 12 par → fld (padTo 12 par) 0 8 < 2 ^ 48 → fld (padTo 12 par) 8 4 < 1000000000 → s.bell.lock = true →
    exec (.timeSet par) s = .next (({ s.accepted 0x120009 0x120008 12 par with bell.clock := some (.set (fld (padTo 12 par) 0 8 * 1000000000 + fld (padTo 12 par) 8 4)) }).unalign.requestRealign false)) ∧
  (∀ s : State, s.takes 0x120008 1 [1] → (s.bell.rebaseNeeded = false ∨ s.bell.lock = false) →
    exec (.rebase [1]) s = .next ((s.accepted 0x12000A 0x120008 1 [1]).done 0x120008 3)) ∧
  (∀ (s : State) (b : Byte), s.takes 0x120008 1 [b] → b ≠ 1 → exec (.rebase [b]) s = .next ((s.accepted 0x12000A 0x120008 1 [b]).done 0x120008 4)) ∧
  (∀ (s : State) (par : Bytes), s.takes 0x120008 12 par → fld (padTo 12 par) 0 8 < 2 ^ 48 → fld (padTo 12 par) 8 4 < 1000000000 → s.bell.lock = false →
    exec (.timeSet par) s = .next (({ s.accepted 0x120009 0x120008 12 par with bell.clock := some (.set (fld (padTo 12 par) 0 8 * 1000000000 + fld (padTo 12 par) 8 4)) }).done 0x120008 2)) ∧
  (∀ s : State, s.takes 0x120008 1 [1] → s.bell.rebaseNeeded = true → s.bell.lock = true →
    exec (.rebase [1]) s = .next (({ s.accepted 0x12000A 0x120008 1 [1] with bell.request := some { edge := s.bell.edges, rebase := true } }).onRes
        0x120008 (fun r => { r with ready := false })))

/-- Holdover expiry, realignment, reference fail, edge timeout, overrun re-arm and late items take effect. It rests on 01_bell.md: Aligned and unaligned; 01_bell.md: Realignment, steps and rebase; 01_bell.md: Distribution; 01_bell.md: Bell overrun. -/
def Obligations.BellEventsTakeEffect : Prop :=
  (∀ s : State, s.isUp → s.bell.aligned = true → s.lockHoldover < s.bell.edges - s.bell.lockEdge →
    exec .lockHoldoverExpired s = .next (({ s with bell.aligned := false }).faultAt 0 4 10 0)) ∧
  (∀ (s : State) (q : Realign), s.isUp → s.bell.request = some q → q.edge < s.bell.edges →
    (s.bell.number + 1 < (nextEdgeTime s.bell.ptp s.phase - s.phase) / 1024 ∨ q.rebase = true) →
    exec .realignment s = .next ((({ s with bell.request := none, bell.stretch := some { tStar := nextEdgeTime s.bell.ptp s.phase, nStar := (nextEdgeTime s.bell.ptp s.phase - s.phase) / 1024, rebase := q.rebase } }).onRes 0x120008 (fun r => { r with ready := false })).faultAt 1 4 10 0)) ∧
  (∀ (s : State) (q : Realign), s.isUp → s.bell.request = some q → q.edge < s.bell.edges → q.rebase = false →
    s.bell.number + 1 = (nextEdgeTime s.bell.ptp s.phase - s.phase) / 1024 →
    exec .realignment s = .next (({ s with bell.request := none, bell.stretch := some { tStar := nextEdgeTime s.bell.ptp s.phase, nStar := s.bell.number + 1, rebase := false } }).onRes 0x120008 (fun r => { r with ready := false }))) ∧
  (∀ (s : State) (q : Realign), s.isUp → s.bell.request = some q → q.edge < s.bell.edges → q.rebase = false →
    (nextEdgeTime s.bell.ptp s.phase - s.phase) / 1024 ≤ s.bell.number →
    exec .realignment s = .next (({ s with bell.request := none, bell.rebaseNeeded := true }).doneNow 0x120008 1)) ∧
  (∀ s : State, s.isUp → s.bell.fallback = false → exec .referenceFail s = .next (({ s with bell.fallback := true }).faultAt 3 4 10 0)) ∧
  (∀ (s : State) (die : Nat), s.isUp → die < 6 →
    exec (.edgeTimeout die) s = .next (({ s with bell.ownCount := tset s.bell.ownCount die ((s.dieBell die + 1) % 2 ^ 64) }).faultAt 2 die (houseRegion die) 0)) ∧
  (∀ (s : State) (v : Nat), s.isUp →
    exec (.overrunRearm v) s = .next (({ s with bell.captures := (bitsOf 6 v).foldl (fun t d => tmod t d {} (fun c => c.rearm s.bell.edges (s.dieBell d))) s.bell.captures }).status 0)) ∧
  (∀ (c : OverrunCapture) (edge bell : Nat), (c.lastEdge ≠ some edge → c.rearm edge bell = {}) ∧
    (c.lastEdge = some edge → c.rearm edge bell = { c with firstBell := bell, unit := c.lastUnit, region := c.lastRegion, stuck := c.lastStuck, count := c.lastCount })) ∧
  (∀ (s : State) (die region unit : Nat), s.isUp → 0 < (s.unit (unitCode die region unit)).late →
    ((s.unit (unitCode die region unit)).busy.bind WorkItem.dest = none →
      exec (.lateItemComplete die region unit) s = .next (s.onUnit (unitCode die region unit) (fun u => { u with late := 0, busy := none }))) ∧
    (∀ (i : WorkItem) (d : Nat), (s.unit (unitCode die region unit)).busy = some i → i.dest = some d →
      exec (.lateItemComplete die region unit) s = .next ((s.onUnit (unitCode die region unit) (fun u => { u with late := 0, busy := none })).onUnit d
        (fun u => { u with grants := tmod u.grants (unitCode die region unit) 0 (· + Config.itemOutput i.kind) }))))

/-- hier_command actions 0, 1 and 6 start to switch the named domains. It rests on 02_levels_dies_domains.md: Power domains. -/
def Obligations.DomainCommandsAreQueued : Prop :=
  (∀ (s : State) (par : Bytes), s.hierTakes par → fld (padTo 8 par) 0 4 < 2 ^ 20 →
    depsMet s.domOn (rankOrder (fld (padTo 8 par) 0 4)) = true → (rankOrder (fld (padTo 8 par) 0 4)).filter (fun d => !s.domOn d) ≠ [] →
    exec (.domainOn par) s = .next { s.accepted hierSet hierSet 8 par with hier.run := some { on := true, forced := false, bringUp := false, queue := (rankOrder (fld (padTo 8 par) 0 4)).filter (fun d => !s.domOn d) } }) ∧
  (∀ (s : State) (par : Bytes) (ds : List Nat), s.hierTakes par → fld (padTo 8 par) 0 4 < 2 ^ 20 →
    ds = (rankOrder (fld (padTo 8 par) 0 4)).reverse.filter s.domOn → ds ≠ [] →
    (∀ q < 20, s.domOn q = true → (∃ d ∈ domDeps q, d ∈ ds) → q ∈ ds) →
    (∀ d ∈ ds, ∀ r ∈ domRegions d, s.liveWork (domDie d) r = false) →
    exec (.domainOff par) s = .next { s.accepted hierSet hierSet 8 par with hier.run := some { on := false, forced := false, bringUp := false, queue := ds } }) ∧
  (∀ (s : State) (par : Bytes) (ds : List Nat), s.hierTakes par → fld (padTo 8 par) 0 4 < 2 ^ 20 →
    ds = (rankOrder (fld (padTo 8 par) 0 4)).reverse.filter s.domOn → ds ≠ [] →
    (∀ q < 20, s.domOn q = true → (∃ d ∈ domDeps q, d ∈ ds) → q ∈ ds) →
    exec (.domainForcedOff par) s = .next { s.accepted hierSet hierSet 8 par with hier.run := some { on := false, forced := true, bringUp := false, queue := ds } })

/-- hier_command actions 2 to 5 quiesce or resume clusters and fence or unfence regions. It rests on 02_levels_dies_domains.md: Units and clusters; 02_levels_dies_domains.md: Regions and fencing; 02_levels_dies_domains.md: Objects and fault sources. -/
def Obligations.ClusterAndFenceCommandsTakeEffect : Prop :=
  (∀ (s : State) (par : Bytes) (cs : List Nat), s.hierTakes par → clustersNamed (padTo 8 par) = some cs →
    exec (.clusterQuiesce par) s = .next { s.accepted hierSet hierSet 8 par with hier.quietPend := s.hier.quietPend ++ cs.map (fun c => (c, true)), hier.quiesce := some { die := fld (padTo 8 par) 5 1, region := fld (padTo 8 par) 6 1, clusters := cs, edge := s.bell.edges } }) ∧
  (∀ (s : State) (par : Bytes) (cs : List Nat), s.hierTakes par → clustersNamed (padTo 8 par) = some cs →
    exec (.clusterResume par) s = .next (({ s.accepted hierSet hierSet 8 par with hier.quietPend := s.hier.quietPend ++ cs.map (fun c => (c, false)) }).done hierSet 0)) ∧
  (∀ (s : State) (par : Bytes), s.hierTakes par → regionNamed (fld (padTo 8 par) 5 1) (fld (padTo 8 par) 6 1) = true →
    exec (.regionCommandFence par) s = .next { s.accepted hierSet hierSet 8 par with hier.fencePend := s.hier.fencePend ++ [(regionKey (fld (padTo 8 par) 5 1) (fld (padTo 8 par) 6 1), true)] }) ∧
  (∀ (s : State) (par : Bytes), s.hierTakes par → regionNamed (fld (padTo 8 par) 5 1) (fld (padTo 8 par) 6 1) = true →
    exec (.regionCommandUnfence par) s = .next { s.accepted hierSet hierSet 8 par with hier.fencePend := s.hier.fencePend ++ [(regionKey (fld (padTo 8 par) 5 1) (fld (padTo 8 par) 6 1), false)] }) ∧
  (∀ (s : State) (par : Bytes), s.hierTakes par → regionNamed (fld (padTo 8 par) 5 1) (fld (padTo 8 par) 6 1) = false →
    exec (.clusterQuiesce par) s = .next ((s.accepted hierSet hierSet 8 par).done hierSet 5) ∧
    exec (.clusterResume par) s = .next ((s.accepted hierSet hierSet 8 par).done hierSet 5) ∧
    exec (.regionCommandFence par) s = .next ((s.accepted hierSet hierSet 8 par).done hierSet 5) ∧
    exec (.regionCommandUnfence par) s = .next ((s.accepted hierSet hierSet 8 par).done hierSet 5)) ∧
  (∀ (s : State) (q : QuiesceRun), s.isUp → s.hier.quiesce = some q → q.edge + 2 ≤ s.bell.edges →
    (∀ u ∈ s.bell.units, 0 < u.2.late → u.1 / 65536 = regionKey q.die q.region → clusterKey q.die q.region (u.1 % 65536 / unitsPerCluster q.die q.region) ∉ q.clusters) →
    exec .quiesceComplete s = .next (({ s with hier.quiesce := none }).doneNow hierSet 0))

/-- A domain that is switched on passes from its switch start to power-good, release and training. It rests on 02_levels_dies_domains.md: Power domains. -/
def Obligations.DomainSwitchOnProceeds : Prop :=
  (∀ (s : State) (d : Nat) (r : HierRun) (q : List Nat), s.isUp → s.hier.run = some r → r.on = true → r.failed = false → r.queue = d :: q →
    (domDeps d).all s.domOn = true → s.hier.heldOut.contains (domDie d) = false → s.hier.lastSwitch.all (fun e => decide (49 ≤ s.bell.edges - e)) = true →
    exec (.domainSwitchStart d) s = .next { s with hier.doms := tset s.hier.doms d { phase := .switching, edge := s.bell.edges }, hier.lastSwitch := some s.bell.edges, hier.run := some { r with queue := q } }) ∧
  (∀ (s : State) (d : Nat) (r : HierRun) (q : List Nat), s.isUp → s.hier.run = some r → r.on = true → r.failed = false → r.queue = d :: q →
    (domDeps d).all s.domOn = true → s.hier.heldOut.contains (domDie d) = true →
    exec (.domainSwitchStart d) s = .next { s with hier.doms := tset s.hier.doms d { phase := .off, edge := s.bell.edges }, hier.run := some { r with failed := true, queue := [] }, flt.events := s.flt.events ++ [{ source := 22, detail := d }] }) ∧
  (∀ (s : State) (d : Nat), s.isUp → d < 20 → s.domPhase d = .switching → s.bell.edges - (tgetD s.hier.doms d {}).edge ≤ 195 →
    exec (.domainPowerGood d) s = .next { s with hier.doms := tset s.hier.doms d { tgetD s.hier.doms d {} with phase := .good } }) ∧
  (∀ (s : State) (d : Nat), s.isUp → d < 20 → (s.domPhase d = .switching ∨ s.domPhase d = .good) → 196 ≤ s.bell.edges - (tgetD s.hier.doms d {}).edge →
    exec (.domainPgTimeout d) s = .next { s with hier.doms := tset s.hier.doms d { phase := .off, edge := s.bell.edges }, hier.run := s.hier.run.map (fun r => { r with failed := true, queue := [] }), flt.events := s.flt.events ++ [{ source := 22, detail := d }] }) ∧
  (∀ (s : State) (d : Nat), s.isUp → d < 20 → s.domPhase d = .good → s.hier.clockGood.getD (domDie d) false = true →
    s.bell.edges - (tgetD s.hier.doms d {}).edge ≤ 195 →
    exec (.domainRelease d) s = effect s (releaseHook d ((domRegions d).foldl
      (fun u r => clearMems (domDie d) r { u with hier.cmdFence := putIn (regionKey (domDie d) r) u.hier.cmdFence })
      { s with hier.doms := tset s.hier.doms d { tgetD s.hier.doms d {} with phase := .released } }))) ∧
  (∀ (s : State) (d lanes : Nat), s.isUp → d < 20 → d ≠ 15 → (12 ≤ d ∨ d % 3 ≠ 2) → s.domPhase d = .released →
    exec (.domainTrained d lanes) s = .next { s with hier.doms := tset s.hier.doms d { tgetD s.hier.doms d {} with phase := .on } }) ∧
  (∀ (s : State) (d lanes : Nat), s.isUp → d < 12 → d % 3 = 2 → s.domPhase d = .released →
    Gives (.domainTrained d lanes) s (fun t => t.hier.doms = tset s.hier.doms d { tgetD s.hier.doms d {} with phase := .on } ∧
      (∀ l ∈ t.hier.linkDown, l ≠ d / 3) ∧ t = { s with hier := { s.hier with doms := t.hier.doms, linkDown := t.hier.linkDown } })) ∧
  (∀ (s : State) (d : Nat), s.isUp → d < 20 → s.domPhase d = .clamped →
    exec (.domainRetentionLost d) s = .next { s with hier.doms := tset s.hier.doms d { phase := .off, edge := s.bell.edges } })

/-- CLOCK_GOOD_LOST, UCIE_RETRY and UCIE_LINK_FAIL take effect. It rests on 02_levels_dies_domains.md: Clocks and clock-good; 02_levels_dies_domains.md: Links between dies. -/
def Obligations.ClockLossAndLinkEventsTakeEffect : Prop :=
  (∀ (s : State) (die : Nat), s.isUp → die < 6 → die ≠ 4 → s.hier.clockGood.getD die false = true →
    (∀ r d, domainOf die r = some d → s.domReleased d = false) →
    exec (.clockGoodLost die) s = .next { s with hier.clockGood := s.hier.clockGood.set die false }) ∧
  (∀ (s : State) (die : Nat), s.isUp → die < 6 → s.hier.clockGood.getD die false = true →
    (die = 4 ∨ ∃ r d, r < regionCount die ∧ domainOf die r = some d ∧ s.domReleased d = true) →
    Gives (.clockGoodLost die) s (fun t => ∃ u, u = ((List.range' 0 (regionCount die)).filter (regionNamed die)).foldl
        (fun u r => faultFence die r u.bell.edges true u) { s with hier.clockGood := s.hier.clockGood.set die false } ∧
      t = { u with pending := s.pending, hier.heldOut := putIn die u.hier.heldOut, hier.clamped := putIn die u.hier.clamped, hier.oscillator := putIn die u.hier.oscillator, flt.events := u.flt.events ++ [{ source := 16 + die, die := die, region := houseRegion die }] })) ∧
  (∀ (s : State) (l : Nat), s.isUp → l < 10 →
    exec (.ucieRetry l) s = .next (s.raise { source := 23, die := (linkEnds l).1, detail := (linkEnds l).1 + 256 * (linkEnds l).2 })) ∧
  (∀ (s : State) (l : Nat), s.isUp → l < 10 → s.hier.linkDown.contains l = false →
    exec (.ucieLinkFail l) s = .next ({ s with hier.linkDown := s.hier.linkDown ++ [l] }.raise
      { source := 24 + l, die := (linkEnds l).1, detail := (linkEnds l).1 + 256 * (linkEnds l).2 }))

/-- sched_command opcodes that write take effect, or end with their range or state error. It rests on 04_scheduling_policing_gates.md: Objects; 04_scheduling_policing_gates.md: Time gates; 04_scheduling_policing_gates.md: The ingress policer. -/
def Obligations.SchedCommandsConfigure : Prop :=
  (∀ (s : State) (par p : Bytes), s.takes schedSet 64 par → p = padTo 64 par → fld p 2 2 < instCount (fld p 1 1) → fld p 4 2 < queueCount (fld p 1 1) →
    (fld p 1 1 = 2 ∧ fld p 4 2 = 0 ∨ 1 ≤ fld p 6 2 ∧ fld p 6 2 ≤ 4096) → (fld p 1 1 = 2 → 116 ≤ fld p 4 2 → fld p 9 1 = 6 ∨ fld p 9 1 = 7) →
    exec (.queueWrite par) s = .next ((({ s.accepted schedSet schedSet 64 par with sched.cfg := tset s.sched.cfg (qKey (fld p 1 1) (fld p 2 2) (fld p 4 2)) { weight := if fld p 1 1 = 2 ∧ fld p 4 2 = 0 then driveWeight 0 else fld p 6 2, strict := if fld p 1 1 = 2 ∧ fld p 4 2 = 0 then true else (fld p 8 1).testBit 0, cls := if fld p 1 1 = 2 ∧ 116 ≤ fld p 4 2 then fld p 9 1 else (defaultQCfg (fld p 1 1) (fld p 4 2)).cls, rate := fld p 12 4, burst := fld p 16 4 } }).onQueue (fld p 1 1) (fld p 2 2) (fld p 4 2) id).persist.done schedSet 0)) ∧
  (∀ (s : State) (par p : Bytes), s.takes schedSet 64 par → p = padTo 64 par → (instCount (fld p 1 1) ≤ fld p 2 2 ∨ queueCount (fld p 1 1) ≤ fld p 4 2 ∨
      ¬ (fld p 1 1 = 2 ∧ fld p 4 2 = 0) ∧ (fld p 6 2 < 1 ∨ 4096 < fld p 6 2) ∨ fld p 1 1 = 2 ∧ 116 ≤ fld p 4 2 ∧ fld p 9 1 ≠ 6 ∧ fld p 9 1 ≠ 7) →
    exec (.queueWrite par) s = .next ((s.accepted schedSet schedSet 64 par).done schedSet 1)) ∧
  (∀ (s : State) (par p : Bytes), s.takes schedSet 64 par → p = padTo 64 par →
    exec (.instanceShaperWrite par) s = .next (if fld p 2 2 < instCount (fld p 1 1)
      then ((s.accepted schedSet schedSet 64 par).onInst (fld p 1 1) (fld p 2 2) (fun i => { i with cfgRate := fld p 12 4, cfgBurst := fld p 16 4 })).persist.done schedSet 0
      else (s.accepted schedSet schedSet 64 par).done schedSet 1)) ∧
  (∀ (s : State) (par p : Bytes), s.takes schedSet 64 par → p = padTo 64 par →
    exec (.policerWrite par) s = .next (if fld p 2 2 < 1024 ∧ fld p 8 4 ≤ fld p 16 4 ∧ 64 ≤ fld p 12 4 ∧ 64 ≤ fld p 20 4
      then ({ s.accepted schedSet schedSet 64 par with sched.policers := tmod s.sched.policers (fld p 2 2) {} (fun x => { x with aware := (fld p 4 1).testBit 0, dropRed := (fld p 4 1).testBit 1, cir := fld p 8 4, cbs := fld p 12 4, pir := fld p 16 4, pbs := fld p 20 4, fill := true }) }).persist.done schedSet 0
      else (s.accepted schedSet schedSet 64 par).done schedSet 1)) ∧
  (∀ (s : State) (par p : Bytes), s.takes schedSet 64 par → p = padTo 64 par →
    exec (.policeMapWrite par) s = .next (if fld p 2 2 < 144 ∧ fld p 4 1 < 8 ∧ (fld p 6 2 = 0 ∨ fld p 6 2 ≤ 1024 ∧ (fld p 6 2 - 1) / 256 = fld p 2 2 / 36)
      then ({ s.accepted schedSet schedSet 64 par with sched.policeMap := tset s.sched.policeMap (fld p 2 2 * 8 + fld p 4 1) (fld p 6 2) }).persist.done schedSet 0
      else (s.accepted schedSet schedSet 64 par).done schedSet 1)) ∧
  (∀ (s : State) (par p : Bytes), s.takes schedSet 64 par → p = padTo 64 par → gateTarget (fld p 1 1) (fld p 2 2) = none →
    1 ≤ fld p 7 1 → fld p 7 1 ≤ 16 → fld p 6 1 + fld p 7 1 ≤ 256 →
    exec (.gateAdminWrite par) s = .next (({ s.accepted schedSet schedSet 64 par with sched.gates := tmod s.sched.gates (fld p 1 1 * 256 + fld p 2 2) {} (fun g => { g with admin := (List.range' 0 (fld p 7 1)).foldl (fun a i => tset a (fld p 6 1 + i) (fld p (8 + 3 * i) 1, fld p (9 + 3 * i) 2)) g.admin }) }).persist.done schedSet 0)) ∧
  (∀ (s : State) (par p : Bytes) (es : List (Nat × Nat)) (b : Nat), s.takes schedSet 64 par → p = padTo 64 par → gateTarget (fld p 1 1) (fld p 2 2) = none →
    1 ≤ fld p 16 2 → fld p 16 2 ≤ 256 → es = (List.range' 0 (fld p 16 2)).map (fun i => tgetD (s.gate (fld p 1 1) (fld p 2 2)).admin i (0, 0)) →
    (∀ e ∈ es, e.2 ≠ 0) → (fld p 1 1 = 0 → (fld p 19 1).testBit 0 = true) →
    b = (if fld p 8 8 < s.bell.number + 2
      then fld p 8 8 + ceilDiv (s.bell.number + 2 - fld p 8 8) (es.foldl (fun a e => a + e.2) 0) * es.foldl (fun a e => a + e.2) 0 else fld p 8 8) →
    exec (.gateCommit par) s = .next (({ s.accepted schedSet schedSet 64 par with sched.gates := tset s.sched.gates (fld p 1 1 * 256 + fld p 2 2) { (s.gate (fld p 1 1) (fld p 2 2)) with pend := some { base := b, entries := es, fallback := fld p 18 1, align := (fld p 19 1).testBit 0 } } }).persist.done schedSet 0 (le 8 b))) ∧
  (∀ (s : State) (par p : Bytes), s.takes schedSet 64 par → p = padTo 64 par → gateTarget (fld p 1 1) (fld p 2 2) = none →
    (fld p 7 1 < 1 ∨ 16 < fld p 7 1 ∨ 256 < fld p 6 1 + fld p 7 1) →
    exec (.gateAdminWrite par) s = .next ((s.accepted schedSet schedSet 64 par).done schedSet 1)) ∧
  (∀ (s : State) (par p : Bytes) (es : List (Nat × Nat)), s.takes schedSet 64 par → p = padTo 64 par → gateTarget (fld p 1 1) (fld p 2 2) = none →
    es = (List.range' 0 (fld p 16 2)).map (fun i => tgetD (s.gate (fld p 1 1) (fld p 2 2)).admin i (0, 0)) →
    (fld p 16 2 < 1 ∨ 256 < fld p 16 2 ∨ ∃ e ∈ es, e.2 = 0) →
    exec (.gateCommit par) s = .next ((s.accepted schedSet schedSet 64 par).done schedSet 1)) ∧
  (∀ (s : State) (par p : Bytes) (es : List (Nat × Nat)), s.takes schedSet 64 par → p = padTo 64 par → gateTarget (fld p 1 1) (fld p 2 2) = none →
    es = (List.range' 0 (fld p 16 2)).map (fun i => tgetD (s.gate (fld p 1 1) (fld p 2 2)).admin i (0, 0)) →
    1 ≤ fld p 16 2 → fld p 16 2 ≤ 256 → (∀ e ∈ es, e.2 ≠ 0) → fld p 1 1 = 0 → (fld p 19 1).testBit 0 = false →
    exec (.gateCommit par) s = .next ((s.accepted schedSet schedSet 64 par).done schedSet 2)) ∧
  (∀ (s : State) (par p : Bytes) (o : Nat), s.takes schedSet 64 par → p = padTo 64 par → gateTarget (fld p 1 1) (fld p 2 2) = some o →
    exec (.gateAdminWrite par) s = .next ((s.accepted schedSet schedSet 64 par).done schedSet o) ∧
    exec (.gateCommit par) s = .next ((s.accepted schedSet schedSet 64 par).done schedSet o))

/-- sched_command opcodes that read answer their result; sampling windows and gate lists switch. It rests on 04_scheduling_policing_gates.md: Objects; 04_scheduling_policing_gates.md: Depth and delay sampling; 04_scheduling_policing_gates.md: Time gates. -/
def Obligations.SchedReadsAnswerTheirResult : Prop :=
  (∀ (s : State) (par p : Bytes), s.takes schedSet 64 par → p = padTo 64 par →
    exec (.queueRead par) s = .next (if fld p 2 2 < instCount (fld p 1 1) ∧ fld p 4 2 < queueCount (fld p 1 1)
      then (s.accepted schedSet schedSet 64 par).done schedSet 0 (p.take 6 ++ le 2 (s.qcfg (fld p 1 1) (fld p 2 2) (fld p 4 2)).weight
        ++ le 1 (b2n (s.qcfg (fld p 1 1) (fld p 2 2) (fld p 4 2)).strict) ++ le 1 (if fld p 1 1 = 2 ∧ 116 ≤ fld p 4 2 then (s.qcfg (fld p 1 1) (fld p 2 2) (fld p 4 2)).cls else 0)
        ++ zeros 2 ++ le 4 (s.qcfg (fld p 1 1) (fld p 2 2) (fld p 4 2)).rate ++ le 4 (s.qcfg (fld p 1 1) (fld p 2 2) (fld p 4 2)).burst)
      else (s.accepted schedSet schedSet 64 par).done schedSet 1)) ∧
  (∀ (s : State) (par p : Bytes), s.takes schedSet 64 par → p = padTo 64 par →
    exec (.instanceShaperRead par) s = .next (if fld p 2 2 < instCount (fld p 1 1)
      then (s.accepted schedSet schedSet 64 par).done schedSet 0
        (p.take 4 ++ zeros 8 ++ le 4 (s.sinst (fld p 1 1) (fld p 2 2)).cfgRate ++ le 4 (s.sinst (fld p 1 1) (fld p 2 2)).cfgBurst)
      else (s.accepted schedSet schedSet 64 par).done schedSet 1)) ∧
  (∀ (s : State) (par p : Bytes) (x : Policer), s.takes schedSet 64 par → p = padTo 64 par → x = tgetD s.sched.policers (fld p 2 2) {} →
    exec (.policerRead par) s = .next (if fld p 2 2 < 1024
      then (s.accepted schedSet schedSet 64 par).done schedSet 0
        (p.take 4 ++ le 1 (flagWord [(0, x.aware), (1, x.dropRed)]) ++ zeros 3 ++ le 4 x.cir ++ le 4 x.cbs ++ le 4 x.pir ++ le 4 x.pbs)
      else (s.accepted schedSet schedSet 64 par).done schedSet 1)) ∧
  (∀ (s : State) (par p : Bytes), s.takes schedSet 64 par → p = padTo 64 par →
    exec (.policeMapRead par) s = .next (if fld p 2 2 < 144 ∧ fld p 4 1 < 8
      then (s.accepted schedSet schedSet 64 par).done schedSet 0 (p.take 6 ++ le 2 (tgetD s.sched.policeMap (fld p 2 2 * 8 + fld p 4 1) 0))
      else (s.accepted schedSet schedSet 64 par).done schedSet 1)) ∧
  (∀ (s : State) (par p : Bytes) (o q : GateProg), s.takes schedSet 64 par → p = padTo 64 par → gateTarget (fld p 1 1) (fld p 2 2) = none →
    o = (s.gate (fld p 1 1) (fld p 2 2)).oper.getD { base := 0, entries := [], fallback := 0xFF, align := fld p 1 1 = 0 } →
    q = (s.gate (fld p 1 1) (fld p 2 2)).pend.getD { base := 0, entries := [], fallback := 0xFF, align := fld p 1 1 = 0 } →
    exec (.gateRead par) s = .next ((s.accepted schedSet schedSet 64 par).done schedSet 0
      (le 8 o.base ++ le 2 o.entries.length ++ le 4 o.cycle ++ le 2 ((o.entryIn s.bell.number).getD 0) ++ le 1 o.fallback
        ++ le 1 (flagWord [(0, o.align), (1, (s.gate (fld p 1 1) (fld p 2 2)).pend.isSome), (2, s.gateFallback (fld p 1 1) (fld p 2 2))])
        ++ le 8 q.base ++ le 2 q.entries.length ++ zeros 4 ++ o.entries.flatMap (fun e => le 1 e.1 ++ le 2 e.2)))) ∧
  (∀ (s : State) (par p : Bytes) (o : Nat), s.takes schedSet 64 par → p = padTo 64 par → gateTarget (fld p 1 1) (fld p 2 2) = some o →
    exec (.gateRead par) s = .next ((s.accepted schedSet schedSet 64 par).done schedSet o)) ∧
  (∀ (s : State) (par p : Bytes), s.takes schedSet 64 par → p = padTo 64 par →
    exec (.sampleFetch par) s = .next (if fld p 2 2 < instCount (fld p 1 1) ∧ 1 ≤ fld p 6 1 ∧ fld p 6 1 ≤ 31 ∧ fld p 4 2 + fld p 6 1 ≤ queueCount (fld p 1 1)
      then (s.accepted schedSet schedSet 64 par).done schedSet 0 (le 8 (s.window (fld p 1 1)).pubBell ++ zeros 8 ++
        (List.range' 0 (fld p 6 1)).flatMap (fun i => sampleBytes (s.queue (fld p 1 1) (fld p 2 2) (fld p 4 2 + i)).published ((s.window (fld p 1 1)).pubN - tgetD (s.window (fld p 1 1)).pubOff (s.instDomain (fld p 1 1) (fld p 2 2)) 0)))
      else (s.accepted schedSet schedSet 64 par).done schedSet 1)) ∧
  (∀ (s : State) (kind : Nat), s.isUp → kind < 3 → (s.window kind).closeN ≠ 0 →
    exec (.sampleWindowEnd kind) s = .next { s with sched.queues := tmap s.sched.queues (fun key x => if key / 1048576 = kind then { x with published := x.closing } else x), sched.windows := tset s.sched.windows kind { (s.window kind) with closeN := 0, closeOff := [], pubN := (s.window kind).closeN, pubOff := (s.window kind).closeOff, pubBell := (s.window kind).closeBell } }) ∧
  (∀ (s : State) (kind inst : Nat), s.isUp → (s.gate kind inst).switchesAt s.bell.aligned s.bell.number = true →
    exec (.gateListSwitch kind inst) s = .next (({ s with sched.gates := tset s.sched.gates (kind * 256 + inst) { (s.gate kind inst) with oper := (s.gate kind inst).pend, pend := none } }).count
        Ev.listSwitch (if kind = 0 then inst else 144 + inst)))

/-- Port mode and enable writes, link state and FEC windows take effect. It rests on 03_ports_and_switch.md: Lanes and ports; 03_ports_and_switch.md: Objects. -/
def Obligations.PortCommandsTakeEffect : Prop :=
  (∀ (s : State) (port v : Nat), s.isUp → port < 144 → v ≤ 2 → s.isMember port = false → s.portEnabled port = false →
    exec (.portModeWrite port 2 v) s = .next ((s.setObj (portKey port 2) (le 1 v)).persist.status 0)) ∧
  (∀ (s t u : State) (port v : Nat), s.isUp → port < 144 → v ≤ 5 → s.isMember port = false → s.portEnabled port = false → modeValid port v = true →
    (∀ l ∈ otherLanes port v, s.portEnabled l = false) →
    t = ((List.range' 0 144).filter (fun l => (s.port l).member = some port && !(otherLanes port v).contains l)).foldl
      (fun s l => (s.onPort l (fun p => { p with member := none })).setObj (portKey l 1) [0]) s →
    u = ((((otherLanes port v).foldl (fun s l => (s.onPort l (fun p => { p with member := some port })).setObj (portKey l 1) [0]) t).setObj (portKey port 1) (le 1 v)).persist).status 0 →
    (u.poolsFit = true → exec (.portModeWrite port 1 v) s = .next { u with pending := s.pending }) ∧
    (u.poolsFit = false → exec (.portModeWrite port 1 v) s = .next (s.status 4))) ∧
  (∀ (s : State) (port sub v : Nat), s.isUp → port < 144 → (sub = 1 ∧ v ≤ 5 ∨ sub = 2 ∧ v ≤ 2) → (s.isMember port = true ∨ s.portEnabled port = true) →
    exec (.portModeWrite port sub v) s = .next (s.status 5)) ∧
  (∀ (s : State) (port : Nat), s.isUp → port < 144 → s.isMember port = false → s.portEnabled port = false →
    exec (.portEnableWrite port 1) s = .next (((s.setObj (portKey port 3) [1]).persist.status 0).onPort port (fun p => { p with cleanSince := s.bell.edges }))) ∧
  (∀ (s : State) (port : Nat), s.isUp → port < 144 → s.isMember port = false → s.portEnabled port = true →
    exec (.portEnableWrite port 1) s = .next ((s.setObj (portKey port 3) [1]).persist.status 0)) ∧
  (∀ (s : State) (port : Nat), s.isUp → port < 144 → s.isMember port = false →
    exec (.portEnableWrite port 0) s = .next { portSilent port (portGoesDown port ((s.setObj (portKey port 3) [0]).persist.status 0)) with pending := s.pending }) ∧
  (∀ (s : State) (port : Nat), (s.port port).up = true →
    portGoesDown port s = evalXoff ((dropCopies Ev.flushed (fun c => c.inst = port)
      { (if s.portEnabled port && !s.stby.fenceIn then s.portFault 34 port else s).onPort port (fun p => { p with up := false, cleanSince := s.bell.edges, classes := [] }) with sw.fdb := s.sw.fdb.filter (fun e => e.static || e.target ≠ 0 || e.num ≠ port) }).postEvent 2 8 0 port 0 0 0)) ∧
  (∀ (s : State) (port v : Nat), s.isUp → port < 144 → v ≤ 1 → s.isMember port = true → exec (.portEnableWrite port v) s = .next (s.status 5)) ∧
  (∀ (s : State) (port : Nat), s.isUp → port < 144 → (s.port port).up = false → s.isMember port = false → s.portMode port ≠ 0 → s.portEnabled port = true →
    s.stby.fenceIn = false → s.domOn ((domainOf (port / 36) (laneRegion port)).getD 0) = true → 9766 ≤ s.bell.edges - (s.port port).cleanSince →
    (s.port port).lanes = 2 ^ modeLanes (s.portMode port) - 1 → (s.port port).localFault = false → (s.port port).remoteFault = false → ((s.port port).trained = true ∨ s.negotiates port = false) →
    exec (.portUp port) s = .next ((s.onPort port (fun p => { p with up := true })).postEvent 1 8 0 port 0 0 0)) ∧
  (∀ (s : State) (port : Nat) (lf : Bool), s.isUp → (s.port port).up = true → (lf = true ∨ (s.port port).lanes ≠ 2 ^ modeLanes (s.portMode port) - 1) →
    exec (.portDown port lf) s = .next { portGoesDown port (s.onPort port (fun p => { p with localFault := lf })) with pending := s.pending }) ∧
  (∀ (s : State) (port : Nat), s.isUp → (s.port port).up = true → (s.port port).lanes = 2 ^ modeLanes (s.portMode port) - 1 →
    exec (.portDown port false) s = .next { portGoesDown port (s.took.onPort port (fun p => { p with lanes := s.free % (2 ^ modeLanes (s.portMode port) - 1) })) with pending := s.pending }) ∧
  (∀ (s : State) (lane : Nat) (l : LaneFec), s.isUp → lane < 144 → l = tgetD s.sw.lanes lane {} → 1048576 ≤ s.bell.edges - l.start →
    exec (.fecWindowEnd lane) s = .next (if s.objN (portKey (s.portOf lane) 0xD) 1000000 < l.symbols
      then { s with sw.lanes := tset s.sw.lanes lane { symbols := 0, start := s.bell.edges, degraded := true } }.portFault 38 (s.portOf lane)
      else { s with sw.lanes := tset s.sw.lanes lane { symbols := 0, start := s.bell.edges, degraded := l.degraded && l.symbols = s.objN (portKey (s.portOf lane) 0xD) 1000000 } }))

/-- switch_command opcodes edit and read the forwarding, group and VLAN tables; entries age out. It rests on 03_ports_and_switch.md: Objects; 03_ports_and_switch.md: Forwarding. -/
def Obligations.SwitchTableCommandsTakeEffect : Prop :=
  (∀ (s : State) (par p : Bytes), s.takes switchSet 48 par → p = padTo 48 par → vidOk (fld p 2 2) = true → fld p 10 1 ≤ 3 →
    (fld p 10 1 = 0 → fld p 11 2 < 144) → (fld p 10 1 = 2 → fld p 11 2 < 4096) →
    exec (.fdbAddStatic par) s = .next (if s.fdbFind (fld p 2 2) (fld p 4 6) = none ∧ s.fdbFull (fld p 2 2) (fld p 4 6) = true
      then (s.accepted switchSet switchSet 48 par).done switchSet 2
      else ((s.accepted switchSet switchSet 48 par).fdbPut
        { vid := fld p 2 2, mac := fld p 4 6, target := fld p 10 1, num := fld p 11 2, static := true, lastSeen := s.bell.number, lastEdge := s.bell.edges }).done switchSet 0)) ∧
  (∀ (s : State) (par p : Bytes), s.takes switchSet 48 par → p = padTo 48 par → vidOk (fld p 2 2) = true →
    exec (.fdbDelete par) s = .next (if s.fdbFind (fld p 2 2) (fld p 4 6) = none
      then (s.accepted switchSet switchSet 48 par).done switchSet 1
      else { (s.accepted switchSet switchSet 48 par) with sw.fdb := s.sw.fdb.filter (fun e => !(e.vid = fld p 2 2 && e.mac = fld p 4 6)) }.done switchSet 0)) ∧
  (∀ (s : State) (par p : Bytes), s.takes switchSet 48 par → p = padTo 48 par → fld p 2 2 ≤ 4094 → (fld p 4 2 < 144 ∨ fld p 4 2 = 0xFFFF) →
    exec (.fdbFlush par) s = .next ({ (s.accepted switchSet switchSet 48 par) with sw.fdb := s.sw.fdb.filter (fun e => !((fld p 2 2 = 0 || e.vid = fld p 2 2) && (fld p 4 2 = 0xFFFF || (e.target = 0 && e.num = fld p 4 2)) && ((fld p 6 1).testBit 0 || !e.static))) }.done switchSet 0)) ∧
  (∀ (s : State) (par p : Bytes) (e : FdbEntry), s.takes switchSet 48 par → p = padTo 48 par → vidOk (fld p 2 2) = true → s.fdbFind (fld p 2 2) (fld p 4 6) = some e →
    exec (.fdbLookup par) s = .next ((s.accepted switchSet switchSet 48 par).done switchSet 0
      (p.take 10 ++ le 1 e.target ++ le 2 e.num ++ le 1 (b2n e.static) ++ le 8 e.lastSeen))) ∧
  (∀ (s : State) (par p : Bytes), s.takes switchSet 48 par → p = padTo 48 par →
    exec (.groupWrite par) s = .next (if fld p 2 2 < 4096 ∧ fld p 31 2 ≤ 4094
      then { (s.accepted switchSet switchSet 48 par) with sw.groups := tset s.sw.groups (fld p 2 2) { members := fld p 4 20 % 2 ^ 154, rewrite := (fld p 24 1).testBit 0, mac := fld p 25 6, vid := fld p 31 2 } }.done switchSet 0
      else (s.accepted switchSet switchSet 48 par).done switchSet 3)) ∧
  (∀ (s : State) (par p : Bytes) (g : Group), s.takes switchSet 48 par → p = padTo 48 par → g = tgetD s.sw.groups (fld p 2 2) {} →
    exec (.groupRead par) s = .next (if fld p 2 2 < 4096
      then (s.accepted switchSet switchSet 48 par).done switchSet 0 (p.take 4 ++ le 20 g.members ++ le 1 (b2n g.rewrite) ++ le 6 g.mac ++ le 2 g.vid)
      else (s.accepted switchSet switchSet 48 par).done switchSet 3)) ∧
  (∀ (s : State) (par p : Bytes), s.takes switchSet 48 par → p = padTo 48 par →
    exec (.vlanWrite par) s = .next (if 1 ≤ fld p 2 2 ∧ fld p 2 2 ≤ 4094
      then { (s.accepted switchSet switchSet 48 par) with sw.vlans := tset s.sw.vlans (fld p 2 2) { member := fld p 4 20 % 2 ^ 144, untagged := fld p 24 18 } }.done switchSet 0
      else (s.accepted switchSet switchSet 48 par).done switchSet 3)) ∧
  (∀ (s : State) (par p : Bytes) (v : Vlan), s.takes switchSet 48 par → p = padTo 48 par → v = tgetD s.sw.vlans (fld p 2 2) {} →
    exec (.vlanRead par) s = .next (if 1 ≤ fld p 2 2 ∧ fld p 2 2 ≤ 4094
      then (s.accepted switchSet switchSet 48 par).done switchSet 0 (p.take 4 ++ le 20 v.member ++ le 18 v.untagged)
      else (s.accepted switchSet switchSet 48 par).done switchSet 3)) ∧
  (∀ (s : State) (par : Bytes), s.takes switchSet 48 par → vidOk (fld (padTo 48 par) 2 2) = false →
    exec (.fdbAddStatic par) s = .next ((s.accepted switchSet switchSet 48 par).done switchSet 3) ∧
    exec (.fdbDelete par) s = .next ((s.accepted switchSet switchSet 48 par).done switchSet 3) ∧
    exec (.fdbLookup par) s = .next ((s.accepted switchSet switchSet 48 par).done switchSet 3)) ∧
  (∀ (s : State) (vid mac : Nat) (e : FdbEntry), s.isUp → s.fdbFind vid mac = some e → e.static = false → s.objN 0x240003 292968750 ≠ 0 →
    s.objN 0x240003 292968750 ≤ s.bell.edges - e.lastEdge →
    exec (.fdbAgeExpiry vid mac) s = .next { s with sw.fdb := s.sw.fdb.filter (fun x => !(x.vid = vid && x.mac = mac)) })

/-- Frames are received, sent and transmitted; pauses begin, end, repeat and storm. It rests on 03_ports_and_switch.md: Ingress; 03_ports_and_switch.md: Egress; 03_ports_and_switch.md: Priority flow control and lossless classes; 03_ports_and_switch.md: Timestamps. -/
def Obligations.FrameAndPauseCommandsTakeEffect : Prop :=
  (∀ (s t : State) (port vid len : Nat) (f : Frame), s.isUp → port < 144 → s.portRuns port = true → len = f.data.length + 4 →
    t = ((s.onPort port (fun p => { p with fifo := 0 })).count Ev.frRx port).count Ev.byRx port len →
    vid = (match tagOf f.data with | some g => if g % 4096 = 0 then s.objN (portKey port 8) 1 else g % 4096 | none => s.objN (portKey port 8) 1) →
    (32768 * modeLanes (s.portMode port) < s.fifoWaits port + len → exec (.frameReceive port f) s = .next (t.count Ev.fifoOvf port)) ∧
    (s.fifoWaits port + len ≤ 32768 * modeLanes (s.portMode port) →
      (f.fcsOk = false → exec (.frameReceive port f) s = .next (t.count Ev.fcs port)) ∧
      (f.fcsOk = true → len < 64 → exec (.frameReceive port f) s = .next (t.count Ev.runt port)) ∧
      (f.fcsOk = true → 64 ≤ len → s.objN (portKey port 9) 9216 < len → exec (.frameReceive port f) s = .next (t.count Ev.oversize port)) ∧
      (f.fcsOk = true → 64 ≤ len → len ≤ s.objN (portKey port 9) 9216 →
        (tagGood f.data = false → exec (.frameReceive port f) s = .next (t.count Ev.badTag port)) ∧
        (tagGood f.data = true → etherType f.data = 0x8808 → exec (.frameReceive port f) s = .next t) ∧
        (tagGood f.data = true → etherType f.data ≠ 0x8808 → (tgetD s.sw.vlans vid {}).member.testBit port = false →
          exec (.frameReceive port f) s = .next (t.count Ev.vlanViol port)) ∧
        (∀ (u v : State) (cls pre : Nat), tagGood f.data = true → etherType f.data ≠ 0x8808 → (tgetD s.sw.vlans vid {}).member.testBit port = true →
          u = learn port vid (nfld f.data 6 6) t → u.classify port f.data = (cls, pre) →
          (police port cls pre len u = (v, none) → exec (.frameReceive port f) s = .next { v with pending := s.pending }) ∧
          (∀ col, police port cls pre len u = (v, some col) → nfld f.data 0 6 = 0x0180C200000E →
            exec (.frameReceive port f) s = .next { deliver (copyOf f.data port vid cls col len (v.stamp f.ts (- v.boardDelay port 0xA))) [(152, none, none)] v with pending := s.pending }) ∧
          (∀ col, police port cls pre len u = (v, some col) → nfld f.data 0 6 / 16 = 0x0180C200000 → nfld f.data 0 6 ≠ 0x0180C200000E →
            exec (.frameReceive port f) s = .next { v.count Ev.mgmtDrop 0 with pending := s.pending }) ∧
          (∀ (w : State) (col : Nat) (ds : List Dest), police port cls pre len u = (v, some col) → nfld f.data 0 6 / 16 ≠ 0x0180C200000 →
            forward port vid (nfld f.data 0 6) (roceQp f.data) v = (w, ds) →
            exec (.frameReceive port f) s = .next
              { deliver (copyOf f.data port vid cls col len (v.stamp f.ts (- v.boardDelay port 0xA))) ds w with pending := s.pending }))))) ∧
  (∀ (s u v : State) (inst ts start q : Nat) (h : SItem) (r : List SItem), s.isUp → inst < 153 → ts < budgetWindow * 65536 → s.egressRuns inst = true → (s.sinst 0 inst).stopped = false →
    start = (if inst < 144 then max (ts / 65536) (s.port inst).txBusy else ts / 65536) → u = (if inst < 144 then countFits inst start s else s) →
    u.selectQueue 0 inst start = some q → (u.queue 0 inst q).items = h :: r → v = useEgress inst h.size start (u.startHead 0 inst q) →
    (u.egressCovered inst h.size start = false →
      exec (.frameTransmit inst ts) s = .next { (u.onInst 0 inst (fun i => { i with stopped := true })).count Ev.creditStop (qCtr 0 inst q) with pending := s.pending }) ∧
    (∀ c, u.egressCovered inst h.size start = true → tget v.sw.copies h.ref = some c →
      exec (.frameTransmit inst ts) s = .next { evalXoff (sendCopy c (s.stamp (max ts (start * 65536)) (if inst < 144 then s.boardDelay inst 0xB else 0)) { v with sw.copies := terase v.sw.copies h.ref }) with pending := s.pending })) ∧
  (∀ (s : State) (inst ts : Nat), s.isUp → budgetWindow * 65536 ≤ ts → exec (.frameTransmit inst ts) s = .next s) ∧
  (∀ (s : State) (dir : MgmtDirective) (f : Frame) (c : FrameCopy), s.isUp →
    c = { copyOf f.data 152 (match tagOf f.data with | some t => (if t % 4096 = 0 then 1 else t % 4096) | none => 1) (match tagOf f.data with | some t => t / 8192 | none => 0) 0 (f.data.length + 4) f.ts with tsMode := dir.tsMode, tsTag := dir.tag } →
    (∀ port, dir.port = some port → port < 144 → exec (.mgmtFrameSend dir f) s = .next { deliver c [(port, none, none)] s with pending := s.pending }) ∧
    (∀ (w : State) (ds : List Dest), dir.port = none → forward 152 c.vid (nfld f.data 0 6) (roceQp f.data) s = (w, ds) →
      exec (.mgmtFrameSend dir f) s = .next { deliver c ds w with pending := s.pending })) ∧
  (∀ (s u : State) (port c : Nat) (quanta : List Nat), s.isUp → u = noteQueue 0 port c (((s.count Ev.frRx port).count Ev.byRx port 64).count Ev.pfcRx (port * 8 + c)) → port < 144 → s.portRuns port = true → modeRate (s.portMode port) ≠ 0 → c < 8 → quanta.getD c 0 ≠ 0 →
    exec (.pfcReceive port (2 ^ c) quanta) s = .next ((u.onClass port c (fun k =>
      { k with lastPause := s.bell.edges, pause := some { ns := quanta.getD c 0 * 512 / modeRate (s.portMode port), edge := s.bell.edges, since := (k.pause.map (·.since)).getD s.bell.edges } })).count Ev.bellsPaused (port * 8 + c))) ∧
  (∀ (s u : State) (port c : Nat) (quanta : List Nat), s.isUp → u = noteQueue 0 port c (((s.count Ev.frRx port).count Ev.byRx port 64).count Ev.pfcRx (port * 8 + c)) → port < 144 → s.portRuns port = true → modeRate (s.portMode port) ≠ 0 → c < 8 → quanta.getD c 0 = 0 →
    exec (.pfcReceive port (2 ^ c) quanta) s = .next (u.onClass port c (fun k => { k with pause := none, stormRx := k.stormDrop }))) ∧
  (∀ (s : State) (port c : Nat) (p : Pause), s.isUp → ((s.port port).cls c).pause = some p → p.ns ≤ (s.bell.edges - p.edge + 1) * 1024 →
    exec (.pauseExpiry port c) s = .next ((noteQueue 0 port c s).onClass port c (fun k => { k with pause := none, stormRx := k.stormDrop }))) ∧
  (∀ (s : State) (port c : Nat), s.isUp → ((s.port port).cls c).xoff.isSome = true →
    exec (.pfcRefresh port c) s = .next (((((s.onClass port c (fun k => { k with lastPfc := s.bell.edges })).emit (.pfc port (2 ^ c) 0xFFFF)).count Ev.pfcTx (port * 8 + c)).count Ev.frTx port).count Ev.byTx port 64)) ∧
  (∀ (s : State) (port c : Nat) (p : Pause), s.isUp → ((s.port port).cls c).pause = some p → ((s.port port).cls c).stormRx = false →
    s.objN (portKey port 0xE) 97657 ≤ s.bell.edges - p.since → s.objN (portKey port 0x10) 1 ≠ 1 →
    exec (.pfcStormDetect port c) s = .next (((s.onClass port c (fun k => { k with stormRx := true, stormDrop := false })).portFault 42 port).postEvent 7 8 0 port c 0 0)) ∧
  (∀ (s : State) (port c : Nat) (p : Pause), s.isUp → ((s.port port).cls c).pause = some p → ((s.port port).cls c).stormRx = false →
    s.objN (portKey port 0xE) 97657 ≤ s.bell.edges - p.since → s.objN (portKey port 0x10) 1 = 1 →
    exec (.pfcStormDetect port c) s = .next { evalXoff (dropCopies Ev.stormDrop (fun x => x.inst = port ∧ x.cls = c) (((s.onClass port c (fun k => { k with stormRx := true, stormDrop := true })).portFault 42 port).postEvent 7 8 0 port c 0 0)) with pending := s.pending }) ∧
  (∀ (s : State) (port c : Nat), s.isUp → ((s.port port).cls c).stormDrop = true → s.objN (portKey port 0xF) 195313 ≤ s.bell.edges - ((s.port port).cls c).lastPause →
    exec (.pfcStormRestore port c) s = .next (s.onClass port c (fun k => { k with stormRx := false, stormDrop := false }))) ∧
  (∀ (s : State) (port c e : Nat), s.isUp → ((s.port port).cls c).xoff = some e → ((s.port port).cls c).stormTx = false → s.objN (portKey port 0xE) 97657 ≤ s.bell.edges - e →
    exec (.xoffStormDetect port c) s = .next ((s.onClass port c (fun k => { k with stormTx := true })).portFault 46 port))

/-- qp_command opcodes create, connect, fail, destroy and query queue pairs and allocate and free domains. It rests on 05_transport.md: QP states; 05_transport.md: Capacities and QP numbers; 05_transport.md: Protection; 05_transport.md: Objects. -/
def Obligations.QueuePairCommandsTakeEffect : Prop :=
  (∀ (s : State) (par p : Bytes) (key : Nat), s.takes qpSet 96 par → p = padTo 96 par → fld p 2 2 < 4096 → (fld p 4 2 < 144 ∨ fld p 4 2 = 0xFFFF) → fld p 6 2 < 2048 →
    1 ≤ fld p 9 1 → fld p 9 1 ≤ 3 → (fld p 9 1 = 3 → fld p 10 1 < 8) → s.xp.domains.contains (fld p 2 2) = true → s.place (fld p 9 1) (fld p 4 2) (fld p 10 1) = some (some key) →
    Gives (.qpCreate par) s (fun t => ∃ u, u = ((s.accepted qpSet qpSet 96 par).onQp key (fun q =>
        { gen := q.gen, state := 1, conn := { pd := fld p 2 2, assoc := fld p 6 2, respGroup := fld p 8 1 } })).onRate key (fun _ => {}) ∧
      t = { (storeContext key { u with xp.created := (s.xp.created + 1) % 2 ^ 32 }).done qpSet 0 (le 4 (qpnOf key (s.qp key).gen)) with pending := s.pending })) ∧
  (∀ (s : State) (par p : Bytes), s.takes qpSet 96 par → p = padTo 96 par → fld p 2 2 < 4096 → (fld p 4 2 < 144 ∨ fld p 4 2 = 0xFFFF) → fld p 6 2 < 2048 →
    1 ≤ fld p 9 1 → fld p 9 1 ≤ 3 → (fld p 9 1 = 3 → fld p 10 1 < 8) →
    (s.xp.domains.contains (fld p 2 2) = false → exec (.qpCreate par) s = .next ((s.accepted qpSet qpSet 96 par).done qpSet 4)) ∧
    (s.xp.domains.contains (fld p 2 2) = true → s.place (fld p 9 1) (fld p 4 2) (fld p 10 1) = none → exec (.qpCreate par) s = .next ((s.accepted qpSet qpSet 96 par).done qpSet 5)) ∧
    (s.xp.domains.contains (fld p 2 2) = true → s.place (fld p 9 1) (fld p 4 2) (fld p 10 1) = some none → exec (.qpCreate par) s = .next ((s.accepted qpSet qpSet 96 par).done qpSet 3))) ∧
  (∀ (s : State) (par p : Bytes) (key : Nat) (c : QpConn), s.takes qpSet 96 par → p = padTo 96 par → s.genOk (fld p 4 4) = true → key = keyOf (fld p 4 4) →
    (s.qp key).state = 1 → (s.qp key).destroying = none → c = connOf key (s.qp key) p → s.connOk c = true →
    exec (.qpConnect par) s = .next { (storeContext key (connectRate key ((s.accepted qpSet qpSet 96 par).onQp key (fun q => { q with conn := c, state := 2, sqPsn := fld p 12 3, unaPsn := fld p 12 3, ePsn := fld p 16 3, msn := 0, ackPsn := fld p 16 3, retryLeft := c.retryCnt, rnrLeft := c.rnrRetry })))).done qpSet 0 with pending := s.pending }) ∧
  (∀ (s : State) (par p : Bytes), s.takes qpSet 96 par → p = padTo 96 par → s.genOk (fld p 4 4) = true → ((s.qp (keyOf (fld p 4 4))).state = 1 ∨ (s.qp (keyOf (fld p 4 4))).state = 2) →
    (s.qp (keyOf (fld p 4 4))).destroying = none →
    exec (.qpToError par) s = .next { settle ((enterError (keyOf (fld p 4 4)) 10 (s.accepted qpSet qpSet 96 par)).done qpSet 0) with pending := s.pending }) ∧
  (∀ (s : State) (par p : Bytes), s.takes qpSet 96 par → p = padTo 96 par → s.genOk (fld p 4 4) = true → ((s.qp (keyOf (fld p 4 4))).state = 1 ∨ (s.qp (keyOf (fld p 4 4))).state = 3) →
    (s.qp (keyOf (fld p 4 4))).destroying = none →
    exec (.qpDestroy par) s = .next ((s.accepted qpSet qpSet 96 par).onQp (keyOf (fld p 4 4)) (fun q => { q with destroying := some s.bell.edges }))) ∧
  (∀ (s : State) (qpn e : Nat), s.isUp → s.genOk qpn = true → (s.qp (keyOf qpn)).destroying = some e → e < s.bell.edges →
    (s.cache (clOf (keyOf qpn))).missQ.any (fun m => m.1 = keyOf qpn) = false →
    Gives (.qpDestroyComplete qpn) s (fun t => (t.qp (keyOf qpn)).gen = nextGen (s.qp (keyOf qpn)).gen ∧ (t.qp (keyOf qpn)).state = 0 ∧
      t.mem = s.mem.write (s.objN 0x300005 0 + keyOf qpn * 1024) (zeros 1024) ∧ (t.res qpSet).ready = true ∧ (t.res qpSet).outcome = 0 ∧
      t = { s with xp := t.xp, cc := t.cc, mem := t.mem, dict := t.dict })) ∧
  (∀ (s : State) (par p : Bytes), s.takes qpSet 96 par → p = padTo 96 par →
    (s.genOk (fld p 4 4) = true →
      exec (.qpQuery par) s = .next ((s.accepted qpSet qpSet 96 par).done qpSet 0 (publicContext (keyOf (fld p 4 4)) (s.qp (keyOf (fld p 4 4)))))) ∧
    (s.genOk (fld p 4 4) = false → ∀ c ∈ [Instr.qpQuery par, .qpConnect par, .qpDestroy par], exec c s = .next ((s.accepted qpSet qpSet 96 par).done qpSet 1))) ∧
  (∀ (s : State) (par : Bytes), s.takes qpSet 96 par → exec (.domainAllocate par) s = .next (match leastFree s.xp.domains 4096 0 with
    | some d => { (s.accepted qpSet qpSet 96 par) with xp.domains := s.xp.domains ++ [d] }.done qpSet 0 (le 2 d)
    | none => (s.accepted qpSet qpSet 96 par).done qpSet 3)) ∧
  (∀ (s : State) (par p : Bytes), s.takes qpSet 96 par → p = padTo 96 par → fld p 2 2 < 4096 →
    exec (.domainFree par) s = .next (if s.xp.domains.contains (fld p 2 2) = false then (s.accepted qpSet qpSet 96 par).done qpSet 4
      else if s.domainUsed (fld p 2 2) then (s.accepted qpSet qpSet 96 par).done qpSet 2
      else { (s.accepted qpSet qpSet 96 par) with xp.domains := s.xp.domains.erase (fld p 2 2) }.done qpSet 0))

/-- Memory regions are registered, revoked and drained; packets, fetches, posts and timers of queue pairs take effect. It rests on 05_transport.md: Protection; 05_transport.md: Contexts, the cluster cache and misses; 05_transport.md: Receive checks; 05_transport.md: Sequence, acknowledgement and retransmission; 05_transport.md: Objects. -/
def Obligations.RegionAndPacketCommandsTakeEffect : Prop :=
  (∀ (s : State) (par p : Bytes) (i : Nat), s.takes mrSet 48 par → p = padTo 48 par → s.registerOk (fld p 2 2) (fld p 8 8) (fld p 24 8) = true → s.xp.domains.contains (fld p 2 2) = true →
    s.freeRegion 65536 ((s.xp.lastRegion.map (fun i => (i + 1) % 65536)).getD 0) = some i →
    exec (.mrRegister par) s = .next (({ ((s.accepted mrSet mrSet 48 par).onRegion i (fun r => { state := 1, pd := fld p 2 2, access := fld p 4 1 % 4, tag := r.tag, hbm := fld p 8 8, va := fld p 16 8, len := fld p 24 8 })) with xp.lastRegion := some i, mem := s.mem.lay (s.objN 0x300006 0 + i * 32) 32 (.free s.freeIdx), freeIdx := s.freeIdx + 1 }).done mrSet 0 (le 4 (i * 256 + (s.region i).tag)))) ∧
  (∀ (s : State) (par p : Bytes), s.takes mrSet 48 par → p = padTo 48 par →
    exec (.mrRevoke par) s = .next { (if fld p 4 4 / 256 < 65536 ∧ (s.region (fld p 4 4 / 256)).state = 1 ∧ (s.region (fld p 4 4 / 256)).tag = fld p 4 4 % 256 ∧ (s.region (fld p 4 4 / 256)).revoke = false then (s.enginesOn.foldl (fun s e => s.count Ev.revoke e) ((s.accepted mrSet mrSet 48 par).onRegion (fld p 4 4 / 256) (fun r => { r with revoke := true }))).done mrSet 0 else (s.accepted mrSet mrSet 48 par).done mrSet 2) with pending := s.pending }) ∧
  (∀ (s : State) (par p : Bytes) (r : Region), s.takes mrSet 48 par → p = padTo 48 par → fld p 4 4 / 256 < 65536 → r = s.region (fld p 4 4 / 256) →
    exec (.mrQuery par) s = .next ((s.accepted mrSet mrSet 48 par).done mrSet 0
      (le 1 r.state ++ le 1 r.access ++ le 2 r.pd ++ le 4 r.refs ++ le 8 r.hbm ++ le 8 r.va ++ le 8 r.len ++ le 8 r.drainBell ++ le 1 r.tag))) ∧
  (∀ (s : State) (i : Nat), s.isUp → (s.region i).state = 2 → (s.region i).refs = 0 → (s.region i).drainEdge < s.bell.edges →
    exec (.mrDrainComplete i) s = .next (s.onRegion i (fun r => { tag := if r.tag = 255 then 1 else r.tag + 1 }))) ∧
  (∀ (s : State) (i : Nat), s.isUp → (s.region i).state = 2 → 0 < (s.region i).refs → s.objN 0x300011 97657 ≤ s.bell.edges - (s.region i).drainEdge →
    exec (.revokeTimeout i) s = .next { settle ((((((s.xp.qps.map (·.1)).filter (fun k => s.holdsRef k i)).map engOf).eraseDups).foldl (fun s e => s.count Ev.forceRev e) ((((s.xp.qps.map (·.1)).filter (fun k => s.holdsRef k i)).foldl (fun s k => enterError k 7 s) s).fault 75 i))) with pending := s.pending }) ∧
  (∀ (s u : State) (e : Nat) (p : Packet), s.isUp → e < 8 → s.domReleased (3 * (e / 2) + 2) = true → s.holdsBack e p = false →
    u = (s.count (Ev.rxPk0 + opGroup p.opcode) e).count (Ev.rxBy0 + opGroup p.opcode) e (rxSize p) →
    s.cc.mirrors.find? (fun m => m.1 / 64 = e ∧ m.2.intake = p.destQp) = none →
    (s.genOk p.destQp = false → exec (.packetReceive e p) s = .next { settle (u.count Ev.unkQp e) with pending := s.pending }) ∧
    (s.genOk p.destQp = true → (s.qp (keyOf p.destQp)).state ≠ 0 → engOf (keyOf p.destQp) = e → (s.cache (clOf (keyOf p.destQp))).missQ = [] →
      (s.cache (clOf (keyOf p.destQp))).cached.contains (keyOf p.destQp % 512) = true →
      exec (.packetReceive e p) s = .next { settle (processPacket (keyOf p.destQp) p ((touch (keyOf p.destQp) u).count Ev.ctxHit (clOf (keyOf p.destQp)))) with pending := s.pending })) ∧
  (∀ (s u v : State) (qpn key slot edge : Nat) (b : Bytes) (lost : Bool), s.isUp → key = keyOf qpn → slot = key % 512 → s.qpRuns key = true →
    (s.cache (clOf key)).fetching.find? (fun f => f.1 = slot ∧ f.2.any (fun e => e < s.bell.edges)) = some (slot, some edge) →
    u = s.onCache (clOf key) (fun c => { c with fetching := c.fetching.filter (fun x => x.1 ≠ slot) }) →
    u.hbmGet (64 + engOf key) (u.qpn key) (u.objN 0x300005 0 + key * 1024) 1024 = (v, b, lost) →
    (lost = false → exec (.contextFetchComplete qpn false) s = .next { settle (takePosted key ((((s.cache (clOf key)).missQ.filter (fun m => m.1 = key)).map (·.2)).foldl (fun s p => processPacket key p s) (v.onCache (clOf key) (fun c => { c with cached := c.cached ++ [slot], missQ := c.missQ.filter (fun m => m.1 ≠ key) })))) with pending := s.pending }) ∧
    (∀ (bad : Bool) (w : State), (bad = true ∨ lost = true) → w = (if lost then v else v.engineFault (64 + engOf key) (engOf key) (v.qpn key)).count Ev.ctxErr (clOf key) →
      exec (.contextFetchComplete qpn bad) s = .next { settle (if (w.qp key).state = 3 then dropWaiting key (w.postEvent 5 (engOf key) 8 (w.qpn key) (w.qp key).ePsn 0 0) else enterError key 8 w) with pending := s.pending })) ∧
  (∀ (s : State) (qpn : Nat) (b : Bytes), s.isUp → tget (s.cache (clOf (keyOf qpn))).writing (keyOf qpn % 512) = some b →
    exec (.contextWritebackComplete qpn) s = .next { storeBytes (keyOf qpn) b (s.onCache (clOf (keyOf qpn)) (fun c => { c with writeBack := c.writeBack.erase (keyOf qpn % 512), writing := terase c.writing (keyOf qpn % 512) })) with pending := s.pending }) ∧
  (∀ (s : State) (qpn : Nat) (wr : WorkRequest), s.isUp → s.genOk qpn = true →
    ((s.qp (keyOf qpn)).state = 2 →
      exec (.workRequestPost qpn wr) s = .next { settle (takePosted (keyOf qpn) (lookup (keyOf qpn) (s.onCache (clOf (keyOf qpn)) (fun c => { c with posted := c.posted ++ [(keyOf qpn, { poster := .firmware qpn, req := wr })] }))).1) with pending := s.pending }) ∧
    ((s.qp (keyOf qpn)).state ≠ 2 → exec (.workRequestPost qpn wr) s = .next { settle (workDone (.firmware qpn) false s) with pending := s.pending })) ∧
  (∀ (s : State) (qpn e : Nat), s.isUp → s.genOk qpn = true → (s.qp (keyOf qpn)).state = 2 → (s.qp (keyOf qpn)).timer = some e →
    (s.qp (keyOf qpn)).conn.ackTimeout ≤ s.bell.edges - e →
    exec (.retransmitTimeout qpn) s = .next { settle (match (s.qp (keyOf qpn)).flight with | x :: _ => retry (keyOf qpn) (if x.pkt.opcode = 0x0C then psnAdd x.psn (x.got / mtuBytes (s.qp (keyOf qpn)).conn.mtu) else x.psn) (s.count Ev.timerExp (engOf (keyOf qpn))) | [] => (s.count Ev.timerExp (engOf (keyOf qpn))).onQp (keyOf qpn) (fun q => { q with timer := none })) with pending := s.pending }) ∧
  (∀ (s : State) (qpn e n psn : Nat), s.isUp → s.genOk qpn = true → (s.qp (keyOf qpn)).state = 2 → (s.qp (keyOf qpn)).rnrWait = some (e, n, psn) → n ≤ s.bell.edges - e →
    exec (.rnrWaitExpiry qpn) s = .next { goBack (keyOf qpn) psn (s.onQp (keyOf qpn) (fun q => { q with rnrWait := none })) with pending := s.pending })

/-- Rates, congestion profiles, triggered chains and mirror bindings take effect. It rests on 06_congestion_and_chains.md: Congestion objects; 06_congestion_and_chains.md: Triggered chains; 06_congestion_and_chains.md: Mirror intake; 06_congestion_and_chains.md: Chain objects and faults. -/
def Obligations.RateAndChainCommandsTakeEffect : Prop :=
  (∀ s : State, s.isUp → (s.bell.number % 16 = 0 ∨ s.bell.discontinuity = true) → s.cc.lastUpdate < s.bell.edges →
    exec .rateUpdate s = .next { s.xp.qps.foldl (fun s q => if q.2.state = 2 then updateRate q.1 s else s) (loadProfiles { s with cc.lastUpdate := s.bell.edges }) with pending := s.pending }) ∧
  (∀ (s : State) (par p : Bytes) (key : Nat), s.takes ccSet 16 par → p = padTo 16 par → s.genOk (fld p 4 4) = true → key = keyOf (fld p 4 4) → fld p 8 1 ≤ 15 → fld p 9 1 ≤ 2 → (s.qp key).state ≠ 0 →
    exec (.ccSetProfileMode par) s = .next (((s.accepted ccSet ccSet 16 par).onRate key (fun r => { r with profile := some (fld p 8 1), ccMode := if (s.qp key).state = 2 then r.ccMode else some (fld p 9 1), pendMode := if (s.qp key).state = 2 ∧ s.ccMode key ≠ fld p 9 1 then some (fld p 9 1) else none })).done ccSet 0)) ∧
  (∀ (s : State) (par p : Bytes) (key : Nat) (r : Rate), s.takes ccSet 16 par → p = padTo 16 par → s.genOk (fld p 4 4) = true → key = keyOf (fld p 4 4) → r = s.rate key →
    exec (.ccQueryRate par) s = .next ((s.accepted ccSet ccSet 16 par).done ccSet 0 (le 4 r.r ++ le 4 r.rT ++ leI 4 r.a ++ le 4 (r.srtt.getD 0xFFFFFFFF) ++ le 2 (min r.alpha 65535)
      ++ le 1 (if s.ccMode key = 2 then 2 else b2n r.ecn) ++ le 1 (min r.stage 255) ++ le 1 r.miss ++ le 1 r.good ++ le 2 (r.profile.getD (s.objN 0x340004 0)) ++ le 8 r.cnpRx ++ le 8 r.cnpTx))) ∧
  (∀ (s : State) (par p : Bytes), s.takes ccSet 16 par → p = padTo 16 par → s.genOk (fld p 4 4) = false →
    exec (.ccSetProfileMode par) s = .next ((s.accepted ccSet ccSet 16 par).done ccSet 1) ∧ exec (.ccQueryRate par) s = .next ((s.accepted ccSet ccSet 16 par).done ccSet 1)) ∧
  (∀ (s : State) (par p : Bytes) (ck : Nat), s.takes chainSet 32 par → p = padTo 32 par → fld p 1 1 < 8 → ck = fld p 1 1 * 256 + fld p 2 1 → 1 ≤ fld p 8 1 → fld p 8 1 ≤ 64 →
    s.genOk (fld p 4 4) = true → ((s.chain ck).state = 0 ∨ (s.chain ck).state = 3) → (s.chain ck).disarm = none → (s.qp (keyOf (fld p 4 4))).state = 2 →
    engOf (keyOf (fld p 4 4)) = fld p 1 1 → (s.cc.chains.filter (fun x => (x.2.state = 1 ∨ x.2.state = 2) ∧ x.2.trig = fld p 4 4)).length < 16 →
    (List.range' 0 (fld p 8 1)).all (s.wrOk ck (fld p 4 4)) = true → (fld p 2 1 < 192 ∨ s.hostChain (fld p 1 1) = some (fld p 2 1)) →
    exec (.chainArm par) s = .next ({ ((s.accepted chainSet chainSet 32 par).onChain ck (fun c => { c with state := 1, len := fld p 8 1, persistent := (fld p 9 1).testBit 0, trig := fld p 4 4, value := fld p 12 4, mask := fld p 16 4, cur := 0, failed := 0, cause := 0, crc := crc32 (s.chainBytes ck (fld p 8 1)), order := s.cc.armSeq })) with cc.armSeq := s.cc.armSeq + 1 }.done chainSet 0)) ∧
  (∀ (s : State) (par p : Bytes), s.takes chainSet 32 par → p = padTo 32 par → fld p 1 1 < 8 → 1 ≤ fld p 8 1 → fld p 8 1 ≤ 64 → s.genOk (fld p 4 4) = true →
    192 ≤ fld p 2 1 → s.hostChain (fld p 1 1) ≠ some (fld p 2 1) → exec (.chainArm par) s = .next ((s.accepted chainSet chainSet 32 par).done chainSet 2)) ∧
  (∀ (s : State) (par p : Bytes) (ck : Nat), s.takes chainSet 32 par → p = padTo 32 par → fld p 1 1 < 8 → ck = fld p 1 1 * 256 + fld p 2 1 →
    exec (.chainDisarm par) s = .next (if (s.chain ck).state = 1 ∨ (s.chain ck).state = 2
      then (s.accepted chainSet chainSet 32 par).onChain ck (fun c => { c with disarm := some s.bell.edges })
      else (s.accepted chainSet chainSet 32 par).done chainSet 2)) ∧
  (∀ (s : State) (e c d : Nat), s.isUp → (s.chain (e * 256 + c)).disarm = some d → d < s.bell.edges → (s.chain (e * 256 + c)).posted = [] →
    exec (.chainDisarmComplete e c) s = .next ((s.onChain (e * 256 + c) (fun c => { c with disarm := none })).doneNow chainSet 0)) ∧
  (∀ (s : State) (par p : Bytes) (c : Chain), s.takes chainSet 32 par → p = padTo 32 par → fld p 1 1 < 8 → c = s.chain (fld p 1 1 * 256 + fld p 2 1) →
    exec (.chainQuery par) s = .next ((s.accepted chainSet chainSet 32 par).done chainSet 0 (le 1 c.state ++ le 1 c.len ++ le 1 (b2n c.persistent) ++ zeros 1 ++ le 4 c.trig ++ le 4 c.value
      ++ le 4 c.mask ++ le 1 c.cur ++ le 1 c.failed ++ le 1 c.cause ++ zeros 5 ++ le 8 c.runs ++ le 8 c.lastBell ++ le 8 c.missed))) ∧
  (∀ (s : State) (e n ck : Nat) (c : Chain) (w : Bytes), s.isUp → ck = e * 256 + n → c = s.chain ck → w = s.wrBytes ck c.cur → s.engineRuns e = true → c.state = 2 → c.matchEdge < s.bell.edges →
    c.cur < c.len → tgetD s.cc.started e 0 < 8 → ((fld w 1 1).testBit 0 = true → c.cur = 0 ∨ c.posted.contains (c.base + c.cur - 1) = false) → (s.qp (keyOf (fld w 4 4))).workCount < 128 →
    ∀ u, u = { s with cc.started := tmod s.cc.started e 0 (· + 1) } →
    (crc32 (s.chainBytes ck c.len) ≠ c.crc → exec (.chainWrStart e n) s = .next { settle (failChain ck c.cur 4 u) with pending := s.pending }) ∧
    (crc32 (s.chainBytes ck c.len) = c.crc → (s.genOk (fld w 4 4) = false ∨ (s.qp (keyOf (fld w 4 4))).state ≠ 2) →
      exec (.chainWrStart e n) s = .next { settle (failChain ck c.cur 1 u) with pending := s.pending }) ∧
    (crc32 (s.chainBytes ck c.len) = c.crc → s.genOk (fld w 4 4) = true → (s.qp (keyOf (fld w 4 4))).state = 2 → s.wrLocal c ck (s.qp (keyOf (fld w 4 4))).conn.pd w = none →
      exec (.chainWrStart e n) s = .next { settle (failChain ck c.cur 2 u) with pending := s.pending }) ∧
    (∀ a reg, crc32 (s.chainBytes ck c.len) = c.crc → s.genOk (fld w 4 4) = true → (s.qp (keyOf (fld w 4 4))).state = 2 → s.wrLocal c ck (s.qp (keyOf (fld w 4 4))).conn.pd w = some (a, reg) →
      exec (.chainWrStart e n) s = .next { settle (postWork (keyOf (fld w 4 4)) (.chain e n (c.base + c.cur)) { op := fld w 0 1, remoteVa := fld w 24 8, remoteKey := fld w 32 4, len := fld w 12 4, data := if fld w 0 1 = 5 then [] else s.mem.read a (fld w 12 4), dest := a, imm := if fld w 1 1 / 4 % 4 = 0 then fld w 36 4 else if fld w 1 1 / 4 % 4 = 1 then c.imm else Nat.xor c.imm (fld w 36 4) } ((match reg with | some i => (u.onChain ck (fun c => { c with cur := c.cur + 1, posted := c.posted ++ [c.base + c.cur], held := c.held ++ [(c.base + c.cur, i)] })).onRegion i (fun r => { r with refs := r.refs + 1 }) | none => u.onChain ck (fun c => { c with cur := c.cur + 1, posted := c.posted ++ [c.base + c.cur] })).count Ev.chWr e)) with pending := s.pending })) ∧
  (∀ (s : State) (e n i w ck : Nat), s.isUp → ck = e * 256 + n → (s.chain ck).acked.find? (fun n : Nat => n % 64 = i) = some w →
    exec (.chainWrComplete e n i) s = .next { chainRunEnd e ck ((match (s.chain ck).held.find? (fun h : Nat × Nat => h.1 = w) with | some h => s.onRegion h.2 (fun r => { r with refs := r.refs - 1 }) | none => s).onChain ck (fun c => { c with posted := c.posted.erase w, acked := c.acked.erase w, held := c.held.filter (fun h => h.1 ≠ w) })) with pending := s.pending }) ∧
  (∀ (s : State) (par p : Bytes) (i : Nat), s.takes chainSet 32 par → p = padTo 32 par → fld p 1 1 < 8 → fld p 4 4 % 8 = fld p 1 1 → fld p 4 4 < 2 ^ 24 →
    (fld p 16 4 = 0xFFFFFFFF ∨ fld p 16 4 < 2 ^ 24) → s.genOk (fld p 8 4) = true → (s.qp (keyOf (fld p 8 4))).state = 2 → engOf (keyOf (fld p 8 4)) = fld p 1 1 →
    s.cc.mirrors.any (fun m => m.1 / 64 = fld p 1 1 ∧ m.2.intake = fld p 4 4) = false →
    (List.range' 0 64).find? (fun i => (tget s.cc.mirrors (fld p 1 1 * 64 + i)).isNone) = some i →
    exec (.mirrorBind par) s = .next ((if fld p 16 4 = 0xFFFFFFFF
      then { (s.accepted chainSet chainSet 32 par) with cc.mirrors := tset s.cc.mirrors (fld p 1 1 * 64 + i) { intake := fld p 4 4, qpn := fld p 8 4, key := fld p 12 4, sync := true } }
      else { (s.accepted chainSet chainSet 32 par) with cc.mirrors := tset s.cc.mirrors (fld p 1 1 * 64 + i) { intake := fld p 4 4, qpn := fld p 8 4, key := fld p 12 4, sync := false } }.onQp
        (keyOf (fld p 8 4)) (fun q => { q with ePsn := fld p 16 4 })).done chainSet 0 (le 1 i))) ∧
  (∀ (s : State) (qpn : Nat) (f : Bytes), s.isUp → s.genOk qpn = true → (s.qp (keyOf qpn)).state = 2 → f = s.rateProfile (keyOf qpn) → fld f 40 4 ≠ 0 → fld f 40 4 ≤ (s.rate (keyOf qpn)).idle →
    exec (.idleReset qpn) s = .next ((s.onRate (keyOf qpn) (fun r => { r with r := fld f 0 4 * 1024, rT := fld f 0 4 * 1024, a := ((fld f 44 4 * 65536 : Nat) : Int), alpha := 65536, srtt := none, idle := 0 })).count Ev.idleRst (engOf (keyOf qpn)))) ∧
  (∀ (s : State) (par p : Bytes), s.takes chainSet 32 par → p = padTo 32 par →
    exec (.mirrorUnbind par) s = .next (match s.cc.mirrors.find? (fun m => m.1 / 64 = fld p 1 1 ∧ m.2.intake = fld p 4 4) with
      | some m => { (s.accepted chainSet chainSet 32 par) with cc.mirrors := terase s.cc.mirrors m.1 }.done chainSet 0
      | none => (s.accepted chainSet chainSet 32 par).done chainSet 1))

/-- target_command opcodes write namespaces, access codes, views and tenants, and bind associations and queues. It rests on 07_fabric_target.md: Objects; 07_fabric_target.md: Subsystems, namespaces, associations and queues; 07_fabric_target.md: Reservations toward hosts. -/
def Obligations.TargetCommandsTakeEffect : Prop :=
  (∀ (s : State) (par p : Bytes) (i st vol : Nat), s.takes targetSet 64 par → p = padTo 64 par → i = fld p 2 2 → st = fld p 4 1 → vol = fld p 12 2 → i < 1024 →
    (st ≤ 2 → fld p 8 4 ≠ 0 → fld p 8 4 ≠ 0xFFFFFFFF → 1 ≤ fld p 14 1 → fld p 14 1 ≤ 111 → (st = 0 ∨ (s.volume vol).isSome = true) →
      (¬ (st = 1 ∧ s.outOfService = true) → ((st ≠ 0 ∧ (s.ns i).vol = vol ∧ (s.ns i).nsid = fld p 8 4) ∨ s.nsBusy i = 0) →
        exec (.namespaceWrite par) s = .next ({ (s.accepted targetSet targetSet 64 par) with tgt.namespaces := tmod s.tgt.namespaces i {} (fun n => { n with state := st, subsys := fld p 5 1, nsid := fld p 8 4, vol := vol, tenant := fld p 14 1 }) }.persist.done targetSet 0)) ∧
      ((st = 1 ∧ s.outOfService = true ∨ (st = 0 ∨ (s.ns i).vol ≠ vol ∨ (s.ns i).nsid ≠ fld p 8 4) ∧ 0 < s.nsBusy i) →
        exec (.namespaceWrite par) s = .next ((s.accepted targetSet targetSet 64 par).done targetSet 2))) ∧
    ((2 < st ∨ fld p 8 4 = 0 ∨ fld p 8 4 = 0xFFFFFFFF ∨ fld p 14 1 = 0 ∨ 111 < fld p 14 1 ∨ st ≠ 0 ∧ (s.volume vol).isNone = true) →
      exec (.namespaceWrite par) s = .next ((s.accepted targetSet targetSet 64 par).done targetSet 1))) ∧
  (∀ (s : State) (par p : Bytes) (i : Nat) (n : Namespace), s.takes targetSet 64 par → p = padTo 64 par → i = fld p 2 2 → n = s.ns i → i < 1024 →
    exec (.namespaceRead par) s = .next ((s.accepted targetSet targetSet 64 par).done targetSet 0 (zeros 2 ++ le 2 i ++ le 1 n.state ++ le 1 n.subsys ++ zeros 2 ++ le 4 n.nsid
      ++ le 2 n.vol ++ le 1 n.tenant ++ zeros 1 ++ le 8 (s.nsSize n) ++ le 4 (s.nsBusy i) ++ le 1 n.rtype))) ∧
  (∀ (s : State) (par p : Bytes) (i g n : Nat) (codes : Bytes), s.takes targetSet 64 par → p = padTo 64 par → i = fld p 2 2 → g = fld p 4 1 → n = fld p 5 1 → codes = (p.drop 8).take n →
    i < 1024 → 1 ≤ n → n ≤ 32 → g + n ≤ 256 →
    ((∀ c ∈ codes, c.toNat ≤ 2) → exec (.accessWrite par) s = .next ({ (s.accepted targetSet targetSet 64 par) with tgt.namespaces := tmod s.tgt.namespaces i {} (fun x => { x with access := (List.range' 0 n).foldl (fun t j => tset t (g + j) (codes.getD j 0).toNat) x.access }) }.persist.done targetSet 0)) ∧
    ((∃ c ∈ codes, c.toNat = 3) → exec (.accessWrite par) s = .next ((s.accepted targetSet targetSet 64 par).done targetSet 1))) ∧
  (∀ (s : State) (par p : Bytes) (a : Nat), s.takes targetSet 64 par → p = padTo 64 par → a = fld p 2 2 → a < 2048 →
    (fld p 8 4 ≤ 3600000 → (s.assoc a).state = 0 →
      exec (.associationBind par) s = .next (({ (s.accepted targetSet targetSet 64 par) with tgt.assocs := tset s.tgt.assocs a { state := 1, subsys := fld p 4 1, group := fld p 5 1, kato := fld p 8 4, window := fld p 12 4, lastEdge := s.bell.edges, lastBell := s.bell.number } }.count Ev.binds 0).done targetSet 0)) ∧
    ((s.assoc a).state ≠ 0 → s.tgt.binds.any (fun b => b.2.assoc = a) = false →
      exec (.associationRelease par) s = .next (({ (s.accepted targetSet targetSet 64 par) with tgt.assocs := terase s.tgt.assocs a }.count Ev.releases 0).done targetSet 0)) ∧
    (s.tgt.binds.any (fun b => b.2.assoc = a) = true → exec (.associationRelease par) s = .next ((s.accepted targetSet targetSet 64 par).done targetSet 2)) ∧
    exec (.associationQuery par) s = .next ((s.accepted targetSet targetSet 64 par).done targetSet 0 (le 1 (s.assoc a).state ++ le 1 (s.assoc a).subsys ++ le 1 (s.assoc a).group ++ zeros 1
      ++ le 2 (a + 1) ++ zeros 2 ++ le 2 (s.tgt.binds.filter (fun b => b.2.assoc = a)).length ++ le 4 (s.tgt.cmds.filter (fun c => c.2.assoc = a)).length ++ zeros 2 ++ le 8 (s.assoc a).lastBell))) ∧
  (∀ (s : State) (par p : Bytes) (key : Nat), s.takes targetSet 64 par → p = padTo 64 par → s.genOk (fld p 4 4) = true → key = keyOf (fld p 4 4) → fld p 8 2 < 2048 → fld p 10 2 ≤ 64 →
    2 ≤ fld p 12 2 → fld p 12 2 ≤ (if fld p 10 2 = 0 then 32 else 1024) →
    (((s.qp key).state = 1 ∨ (s.qp key).state = 2) → tget s.tgt.binds key = none → s.tgt.binds.any (fun b => b.2.assoc = fld p 8 2 ∧ b.2.qid = fld p 10 2) = false →
      s.entriesBound + fld p 12 2 ≤ 262144 →
      exec (.queueBind par) s = .next ({ (s.accepted targetSet targetSet 64 par) with tgt.binds := tset s.tgt.binds key { assoc := fld p 8 2, qid := fld p 10 2, size := fld p 12 2, noFlow := (fld p 14 1).testBit 0 } }.done targetSet 0)) ∧
    (((s.qp key).state ≠ 1 ∧ (s.qp key).state ≠ 2 ∨ tget s.tgt.binds key ≠ none ∨ s.tgt.binds.any (fun b => b.2.assoc = fld p 8 2 ∧ b.2.qid = fld p 10 2) = true) →
      exec (.queueBind par) s = .next ((s.accepted targetSet targetSet 64 par).done targetSet 2))) ∧
  (∀ (s : State) (par p : Bytes) (key : Nat) (b : QBind), s.takes targetSet 64 par → p = padTo 64 par → s.genOk (fld p 4 4) = true → key = keyOf (fld p 4 4) → tget s.tgt.binds key = some b →
    ((s.assoc b.assoc).state = 1 → exec (.queueEnable par) s = .next ({ (s.accepted targetSet targetSet 64 par) with tgt.binds := tset s.tgt.binds key { b with live := true } }.done targetSet 0)) ∧
    ((s.assoc b.assoc).state ≠ 1 → exec (.queueEnable par) s = .next ((s.accepted targetSet targetSet 64 par).done targetSet 2)) ∧
    (s.tgt.cmds.any (fun c => c.2.key = key ∧ c.2.ring.isNone) = false →
      exec (.queueUnbind par) s = .next ({ (s.accepted targetSet targetSet 64 par) with tgt.binds := terase s.tgt.binds key }.done targetSet 0)) ∧
    (s.tgt.cmds.any (fun c => c.2.key = key ∧ c.2.ring.isNone) = true → exec (.queueUnbind par) s = .next ((s.accepted targetSet targetSet 64 par).done targetSet 4))) ∧
  (∀ (s : State) (par p : Bytes) (n : Nat), s.takes targetSet 64 par → p = padTo 64 par → n = fld p 8 2 → fld p 2 2 < 1024 → fld p 4 1 ≤ 6 → 1 ≤ n → n ≤ 128 → fld p 6 2 + n ≤ 2048 →
    exec (.reservationViewWrite par) s = .next (({ (s.accepted targetSet targetSet 64 par) with tgt.views := s.tgt.views ++ [({ ns := fld p 2 2, rtype := fld p 4 1, bits := (List.range' 0 n).map (fun j => (fld p 6 2 + j, fld p (16 + j / 4) 1 / 4 ^ (j % 4) % 4)) } : ViewWrite)] }.persist.count Ev.viewWr 0).done targetSet 0)) ∧
  (∀ (s : State) (par p : Bytes), s.takes targetSet 64 par → p = padTo 64 par → fld p 3 1 ≤ 111 →
    exec (.hostGroupWrite par) s = .next ({ (s.accepted targetSet targetSet 64 par) with tgt.groupTenant := tset s.tgt.groupTenant (fld p 2 1) (fld p 3 1) }.done targetSet 0))

/-- Host I/O commands that pass their checks execute, and one that fails a check completes with its status. It rests on 07_fabric_target.md: Checks and status; 07_fabric_target.md: Writes and atomicity; 07_fabric_target.md: Visibility and order; 07_fabric_target.md: Completion, duplicates and abort. -/
def Obligations.HostCommandsExecute : Prop :=
  (∀ (s : State) (h st : Nat) (c : Cmd) (dnr : Bool), s.isUp → s.cmd h = some c → st ≠ 0x83 →
    (s.awaitsNext h 0x00 = true → s.checkFails c 5 = some (st, dnr) → exec (.nvmeFlush h) s = .next { settle (complete h st dnr 0 s) with pending := s.pending }) ∧
    (s.awaits h 0x02 = true → s.checkFails c 0 = some (st, dnr) → exec (.nvmeRead h) s = .next { settle (complete h st dnr 0 s) with pending := s.pending }) ∧
    (s.awaits h 0x05 = true → s.checkFails c 1 = some (st, dnr) → exec (.nvmeCompare h) s = .next { settle (complete h st dnr 0 s) with pending := s.pending }) ∧
    (s.awaits h 0x01 = true → s.checkFails c 2 = some (st, dnr) → exec (.nvmeWrite h) s = .next { settle (complete h st dnr 0 s) with pending := s.pending }) ∧
    (s.awaits h 0x08 = true → s.checkFails c 3 = some (st, dnr) → exec (.nvmeWriteZeroes h) s = .next { settle (complete h st dnr 0 s) with pending := s.pending }) ∧
    (s.awaits h 0x09 = true → s.checkFails c 4 = some (st, dnr) → exec (.nvmeDatasetManagement h) s = .next { settle (complete h st dnr 0 s) with pending := s.pending })) ∧
  (∀ (s : State) (h : Nat) (c : Cmd), s.isUp → s.cmd h = some c → s.awaits h 0x01 = true → s.checkFails c 2 = some (0x83, true) →
    exec (.nvmeWrite h) s = .next { settle (complete h 0x83 true 0 (s.count Ev.hostConf 0)) with pending := s.pending }) ∧
  (∀ (s : State) (h : Nat) (c : Cmd), s.isUp → s.cmd h = some c → s.awaitsNext h 0x00 = true → s.checkFails c 5 = none →
    exec (.nvmeFlush h) s = .next { settle (complete h 0 false 0 s) with pending := s.pending }) ∧
  (∀ (s t : State) (h : Nat) (c d : Cmd), s.isUp → s.cmd h = some c → s.awaits h 0x02 = true → s.checkFails c 0 = none → t = setAddress h 0 c s → t.cmd h = some d →
    exec (.nvmeRead h) s = .next { settle (serveBlocks h c.blocks (t.count Ev.nsRead d.ns)) with pending := s.pending }) ∧
  (∀ (s t : State) (h : Nat) (c d : Cmd), s.isUp → s.cmd h = some c → s.awaits h 0x05 = true → s.checkFails c 1 = none → t = fetchData h (setAddress h 1 c s) → t.cmd h = some d →
    exec (.nvmeCompare h) s = .next { settle (serveBlocks h d.nlb (readWindow h t)) with pending := s.pending }) ∧
  (∀ (s t : State) (h : Nat) (c d : Cmd), s.isUp → s.cmd h = some c → s.awaits h 0x01 = true → s.checkFails c 2 = none → t = fetchData h (setAddress h 2 c s) → t.cmd h = some d →
    exec (.nvmeWrite h) s = .next { settle ((makeChunks h [(d.lba, d.nlb)] (t.count Ev.nsWrCmd d.ns)).count Ev.nsWrBytes d.ns (d.nlb * 4096)) with pending := s.pending }) ∧
  (∀ (s t : State) (h : Nat) (c d : Cmd), s.isUp → s.cmd h = some c → s.awaits h 0x08 = true → s.checkFails c 3 = none → t = fetchData h (setAddress h 3 c s) → t.cmd h = some d →
    exec (.nvmeWriteZeroes h) s = .next { settle (makeChunks h [(d.lba, d.nlb)] (t.count Ev.nsWrCmd d.ns)) with pending := s.pending }) ∧
  (∀ (s t : State) (h : Nat) (c d : Cmd), s.isUp → s.cmd h = some c → s.awaits h 0x09 = true → s.checkFails c 4 = none →
    t = (fetchData h (setAddress h 4 c s)).onCmd h (fun x => { x with resvBad := !resvOk ((s.nsFor c.assoc c.nsid).elim {} (·.2)) c.assoc true }) → t.cmd h = some d →
    (d.bufReady = true → exec (.nvmeDatasetManagement h) s = .next { settle (dsmGo h t) with pending := s.pending }) ∧
    (d.bufReady = false → exec (.nvmeDatasetManagement h) s = .next { settle (reserveSeqs h t) with pending := s.pending })) ∧
  (∀ (s : State) (h : Nat) (c : Cmd), s.isUp → s.cmd h = some c →
    (s.awaitsNext h 0x08 true = true → exec (.nvmeAbort h) s = .next
      { settle (if c.conflict then complete h 3 true 0 s else if s.pwrStopped c then complete h 5 false 0 s else complete h 0 false 1 s) with pending := s.pending }) ∧
    (s.awaitsNext h 0x18 true = true → exec (.nvmeKeepAlive h) s = .next
      { settle (if c.conflict then complete h 3 true 0 s else if s.pwrStopped c then complete h 5 false 0 s else complete h 0 false 0 s) with pending := s.pending }))

/-- Routing to the inbox, outbox records, the keep-alive timer and the staging of chunks take effect. It rests on 07_fabric_target.md: Intake and routing; 07_fabric_target.md: Completion, duplicates and abort; 07_fabric_target.md: Writes and atomicity; 09_ledger_and_granary.md: Writing a record. -/
def Obligations.RoutingAndStagingCommandsTakeEffect : Prop :=
  (∀ (s : State) (h : Nat) (c : Cmd), s.isUp → s.cmd h = some c → c.phase = .parsed → c.ring = none → 1 ≤ c.route → c.route ≤ 4 → s.targetRuns = true → (∀ x ∈ s.tgt.cmds, c.order ≤ x.2.order ∨ x.2.toInbox = false) →
    (c.conflict = true → exec (.inboxRoute h) s = .next { settle (complete h 3 true 0 s) with pending := s.pending }) ∧
    (c.conflict = false → s.pwrStopped c = true → exec (.inboxRoute h) s = .next { settle (complete h 5 false 0 s) with pending := s.pending }) ∧
    (c.conflict = false → s.pwrStopped c = false → (s.inboxFull = true ∨ s.tgt.inboxHeld ≠ []) → exec (.inboxRoute h) s = .next
      { settle (({ (s.onCmd h (fun c => { c with phase := .held })) with tgt.inboxHeld := s.tgt.inboxHeld ++ [h] }).count Ev.inboxHeld 0) with pending := s.pending }) ∧
    (c.conflict = false → s.pwrStopped c = false → s.inboxFull = false → s.tgt.inboxHeld = [] → exec (.inboxRoute h) s = .next { settle (inboxWrite h s) with pending := s.pending })) ∧
  (∀ (s : State) (h : Nat) (r : List Nat), s.isUp → s.tgt.inboxHeld = h :: r → s.inboxFull = false → s.targetRuns = true →
    exec .inboxHeldDeliver s = .next { settle (inboxWrite h { s with tgt.inboxHeld := r }) with pending := s.pending }) ∧
  (∀ (s : State) (x : State × Bytes × Bool), s.isUp → s.objN 0x40000C 0 ≠ s.tgt.outboxCons → s.targetRuns = true →
    x = s.hbmGet (212 + b2n (inStackB (s.objN 0x40000A 0))) s.tgt.outboxCons (s.objN 0x40000A 0 + s.tgt.outboxCons % s.objN 0x40000B 1024 * 64) 64 →
    (x.2.2 = false → exec .outboxRecord s = .next { settle (takeOutbox x.2.1 { x.1 with tgt.outboxCons := (s.tgt.outboxCons + 1) % 2 ^ 32 }) with pending := s.pending }) ∧
    (x.2.2 = true → exec .outboxRecord s = .next { settle ({ x.1 with tgt.outboxCons := (s.tgt.outboxCons + 1) % 2 ^ 32 }.count Ev.outDisc 0) with pending := s.pending })) ∧
  (∀ (s : State) (a : Nat), s.isUp → (s.assoc a).state = 1 → (s.assoc a).kato ≠ 0 → katoBells (s.assoc a).kato ≤ s.bell.edges - (s.assoc a).lastEdge →
    exec (.keepAliveExpired a) s = .next { settle ((((s.tgt.binds.filter (fun b => b.2.assoc = a)).foldl (fun s b => enterError b.1 10 s) { s with tgt.assocs := tmod s.tgt.assocs a {} (fun x => { x with state := 2 }) }).faultAt 92 4 4 a).count Ev.katoExp 0) with pending := s.pending }) ∧
  (∀ (s b t : State) (h i : Nat) (c d : Cmd) (k j : Chunk), s.isUp → b = readWindow h s → s.cmd h = some c → c.chunks[i]? = some k → c.phase = .staging → c.bufReady = true → k.staged = false →
    s.led.isOpen = true → s.led.unstaged = [] → s.objN 0x480011 0 ≠ 0 → s.targetRuns = true → (if k.full then s.stagingRoom 3 else s.stagingRoom (1 + (if c.deallocates then 0 else k.n))) = true →
    (c.deallocates = true → exec (.chunkStage h i) s = .next { settle (onChunk c.order i (fun k => { k with staged := true }) (stageRec { kind := 2, lseq := k.seq, vol := c.vol, group := (b.volume c.vol).elim 0 (fun v => v.group), lba := k.lba, count := k.n, n := 0, extra := recTag c ++ le 4 (flagWord (k.gaps.map (fun g => (g, true)))), merged := k.gaps, owner := .chunk c.order i } [] b)) with pending := s.pending }) ∧
    (c.deallocates = false → k.full = false → t = encryptChunk c.order i b → t.chunkOf c.order i = some (d, j) → j.enc.length = j.n →
      exec (.chunkStage h i) s = .next { settle (onChunk c.order i (fun k => { k with staged := true, enc := [] }) (stageRec { kind := 1, lseq := j.seq, vol := c.vol, group := (t.volume c.vol).elim 0 (fun v => v.group), lba := j.lba, count := j.n, n := j.n, extra := recTag c, owner := .chunk c.order i } j.enc t)) with pending := s.pending }) ∧
    (c.deallocates = false → k.full = true →
      t = (if k.claimed then b else match b.locate c.vol 0 k.lba with
        | some l => requestClaim (stripeKey l.group l.stripe) (.full c.order i) (onChunk c.order i (fun k => { k with key := stripeKey l.group l.stripe, claimed := true }) b)
        | none => b) →
      t.chunkOf c.order i = some (d, j) → (j.granted && j.full) = false →
      exec (.chunkStage h i) s = .next { settle t with pending := s.pending }) ∧
    (∀ (u : State) (e : Cmd) (l : Chunk), c.deallocates = false → k.full = true → k.claimed = true → b.chunkOf c.order i = some (d, j) → (j.granted && j.full) = true →
      u = encryptChunk c.order i b → u.chunkOf c.order i = some (e, l) → l.enc.length = l.n →
      exec (.chunkStage h i) s = .next { settle (fullCommit c.order i (fullWrites c.order i u)) with pending := s.pending }))

/-- ledger_command opcodes and ledger time create, replace, drain, submit, checkpoint and warn. It rests on 09_ledger_and_granary.md: Objects; 09_ledger_and_granary.md: Writing a record; 09_ledger_and_granary.md: Settling, merging and retirement; 09_ledger_and_granary.md: Power-fail warning. -/
def Obligations.LedgerCommandsTakeEffect : Prop :=
  (∀ (s : State) (par p : Bytes) (b : List Nat), s.takes ledgerSet 80 par → p = padTo 80 par → b = [fld p 1 1, fld p 2 1, fld p 3 1] →
    (s.led.isOpen = false → s.objN 0x480011 0 ≠ 0 → (fld p 1 1 ≠ fld p 2 1 ∧ fld p 1 1 ≠ fld p 3 1 ∧ fld p 2 1 ≠ fld p 3 1) → (∀ x ∈ b, s.bayLinked x = true) → s.ciph.randomFailed = false →
      Gives (.ledgerCreate par) s (fun t => t.led.isOpen = true ∧ t.led.nextPlace = 1 ∧ t.led.nextLseq = 1 ∧ t.led.epoch = 1 ∧ t.led.epochFirst = 1 ∧ t.led.nextBlock = 0 ∧
        t.led.copies = b.map (fun x => { st := 1, bay := x }) ∧ t.led.recs = [] ∧ t.led.ready = [] ∧ t.led.unstaged = [] ∧ t.led.failing = [] ∧ t.led.id = Config.freeNat s.freeIdx % 2 ^ 64 ∧
        t = { ((s.accepted ledgerSet ledgerSet 80 par).done ledgerSet 0 (le 8 t.led.id)) with led := t.led, freeIdx := s.freeIdx + 1 })) ∧
    (s.led.isOpen = true → exec (.ledgerCreate par) s = .next ((s.accepted ledgerSet ledgerSet 80 par).done ledgerSet 2)) ∧
    (s.led.isOpen = false → s.objN 0x480011 0 ≠ 0 → ¬ (fld p 1 1 ≠ fld p 2 1 ∧ fld p 1 1 ≠ fld p 3 1 ∧ fld p 2 1 ≠ fld p 3 1) → exec (.ledgerCreate par) s = .next ((s.accepted ledgerSet ledgerSet 80 par).done ledgerSet 1)) ∧
    (s.led.isOpen = false → s.objN 0x480011 0 ≠ 0 → (fld p 1 1 ≠ fld p 2 1 ∧ fld p 1 1 ≠ fld p 3 1 ∧ fld p 2 1 ≠ fld p 3 1) → (∀ x ∈ b, s.bayLinked x = true) → s.ciph.randomFailed = true →
      exec (.ledgerCreate par) s = .next ((s.accepted ledgerSet ledgerSet 80 par).done ledgerSet 4))) ∧
  (∀ (s : State) (par p : Bytes) (slot bay n : Nat) (c : Copy), s.takes ledgerSet 80 par → p = padTo 80 par → slot = fld p 1 1 → bay = fld p 2 1 → c = s.copyOf slot →
    n = (s.led.nextBlock + 4194304 - s.tailBlock) % 4194304 → slot ≤ 2 → bay < 24 → s.led.isOpen = true → s.bayReady bay = true → s.holdsCopy bay = false →
    (c.st = 0 ∨ c.st = 3 ∨ c.st = 1 ∧ ∀ i ∈ [0, 1, 2], (s.copyOf i).old = none) →
    exec (.copyReplace par) s = .next { ((seedWrites slot bay s.tailBlock n ((s.accepted ledgerSet ledgerSet 80 par).onCopy slot (fun c => { st := 2, bay := bay, seedPlace := s.led.nextPlace, seedLeft := n, old := if c.st = 1 then some c.bay else none }))).done ledgerSet 0) with pending := s.pending }) ∧
  (∀ (s : State) (par : Bytes), s.takes ledgerSet 80 par →
    exec (.drain par) s = .next (if s.led.isOpen then { (s.accepted ledgerSet ledgerSet 80 par) with led.drain := some s.led.nextPlace } else (s.accepted ledgerSet ledgerSet 80 par).done ledgerSet 2)) ∧
  (∀ (s : State) (p : Nat), s.isUp → s.led.drain = some p → (∀ r ∈ s.led.recs, r.retired = true ∨ p ≤ r.place) →
    exec .drainComplete s = .next ({ s with led.drain := none }.done ledgerSet 0)) ∧
  (∀ (s : State) (x : State × List Rec), s.isUp → s.maySubmit = true → x = placeAll (64 - s.slotsUsed 69) (504 - s.bufferUsed) [] s →
    exec .recordSubmit s = .next { (runsOf x.2).foldl (fun s r => writeRun r s) x.1 with pending := s.pending }) ∧
  (∀ (s : State) (place : Nat), s.isUp → (∃ e ∈ s.led.buffer, e.1 = place ∧ e.2.1 + 64 ≤ s.bell.edges) →
    exec (.replicationBufferRelease place) s = .next { s with led.buffer := s.led.buffer.filter (fun e => e.1 ≠ place) }) ∧
  (∀ (s : State) (v i : Nat) (d : Descriptor), s.isUp → s.descIdx v = some i → s.led.descs[i]? = some d → (∀ j, s.descIdx s.led.persisted = some j → j ≤ i) →
    exec (.checkpointPersisted v) s = .next { retireAll ((({ s with led.persisted := v, led.persistedTail := d.tailPlace, led.persistedBlock := d.tailBlock }).setObj 0x480009 (le 4 v)).status 0) with pending := s.pending }) ∧
  (∀ (s : State) (v : Nat), s.isUp → (s.descIdx v = none ∨ ∃ i j, s.descIdx v = some i ∧ s.descIdx s.led.persisted = some j ∧ i < j) →
    exec (.checkpointPersisted v) s = .next (s.status 4)) ∧
  (∀ s : State, s.isUp → s.led.pwrLow = 2 → s.tgt.pwrfail = none →
    exec .pwrfailWarning s = .next ({ s with led.pwrfailBell := s.bell.number, tgt.pwrfail := some s.bell.edges }.faultAt 119 4 6 0))

/-- Ledger writes, copy failures, seeding and replay take effect. It rests on 09_ledger_and_granary.md: Writing a record; 09_ledger_and_granary.md: Losing copies; 09_ledger_and_granary.md: Replay. -/
def Obligations.LedgerCopiesAndReplayTakeEffect : Prop :=
  (∀ (s : State) (copy place count bay : Nat) (ok : Bool) (c : Nat × DriveCmd), s.isUp → s.targetBay copy = some bay →
    (s.bayOf bay).drive.out.find? (fun c => c.2.consumer = .ledger copy place count) = some c →
    exec (.ledgerWriteComplete copy place count ok) s = .next { settle (driveCompletion bay c.1 { sct := if ok then 0 else 2, sc := if ok then 0 else 0x80, dw0 := 0, data := [] } s) with pending := s.pending }) ∧
  (∀ (s : State) (copy bay place n : Nat) (c : Nat × DriveCmd), s.isUp → s.targetBay copy = some bay → c ∈ (s.bayOf bay).drive.out →
    (c.2.consumer = .ledger copy place n ∨ c.2.consumer = .seed copy n) → c.2.edge + s.objN 0x440007 7812500 ≤ s.bell.edges →
    exec (.ledgerCopyTimeout copy) s = .next { settle (failTarget copy s) with pending := s.pending }) ∧
  (∀ (s u t : State) (copy : Nat) (c : Copy), s.isUp → c = s.copyOf copy → c.st = 2 → c.seedLeft = 0 → s.led.failing.contains (copy + 3) = false →
    u = (match c.old with
      | some o => (takeCommands o (fun x => match x.consumer with
          | .ledger k _ _ => k = copy
          | _ => false) s).1
      | none => s) →
    t = u.onDrive c.bay (fun d => { d with out := tmap d.out (fun _ x => { x with consumer := x.consumer.live copy }) }) →
    exec (.seedingComplete copy) s = .next { settle (settleDurable (resumeWrites ({ t with bay.waiting := tmap t.bay.waiting (fun _ x => { x with consumer := x.consumer.live copy }), led.recs := t.led.recs.map (fun (r : Rec) => { r with acked := (if r.place < c.seedPlace ∨ (r.acked.filter (fun a => a ≠ copy)).contains (copy + 3) then r.acked.filter (fun a => a ≠ copy) ++ [copy] else r.acked.filter (fun a => a ≠ copy)).filter (fun a => a ≠ copy + 3) }) }.onCopy copy (fun c => { c with st := 1, old := none })))) with pending := s.pending }) ∧
  (∀ (s : State) (par p : Bytes), s.takes ledgerSet 80 par → p = padTo 80 par →
    (s.led.isOpen = false → s.objN 0x480011 0 ≠ 0 → s.domOn 16 = true → s.domOn 17 = true → s.domOn 18 = true → (∀ c ∈ descCopies (sub p 16 64), s.domOn (portDomain c.2) = true) →
      exec (.replay par) s = .next { (s.accepted ledgerSet ledgerSet 80 par) with led.replaying := some (sub p 16 64) }) ∧
    ((s.led.isOpen = true ∨ s.objN 0x480011 0 = 0 ∨ s.domOn 16 = false ∨ s.domOn 17 = false ∨ s.domOn 18 = false ∨ ∃ c ∈ descCopies (sub p 16 64), s.domOn (portDomain c.2) = false) →
      exec (.replay par) s = .next ((s.accepted ledgerSet ledgerSet 80 par).done ledgerSet 2))) ∧
  (∀ (s : State) (x : ReplayScan) (d : Bytes) (read : List Nat) (y : List (Bytes × List Nat) × Bool) (found : List Bytes), s.isUp → s.led.replaying = some d →
    read = ((descCopies d).map (·.1)).filter (fun c => !x.failed.contains c) → y = scanCopies d x read → found = y.1.map (·.1) →
    ((y.2 = true ∨ read = [] ∨ s.stagingBlocks < ((y.1.filter (fun b => appliedRec found (found.foldl (fun a b => max a (fld b 56 8)) (fld d 8 8)) b.1 && hKind b.1 < 7)).map (fun b => 1 + hN b.1)).sum) →
      exec (.replayComplete x) s = .next (({ s with led.replaying := none }.faultAt 120 4 6 0).done ledgerSet 3)) ∧
    (y.2 = false → read ≠ [] → ((y.1.filter (fun b => appliedRec found (found.foldl (fun a b => max a (fld b 56 8)) (fld d 8 8)) b.1 && hKind b.1 < 7)).map (fun b => 1 + hN b.1)).sum ≤ s.stagingBlocks →
      Gives (.replayComplete x) s (fun t => t.led.isOpen = true ∧ t.led.epoch = fld d 40 4 + 1 ∧ t.led.epochFirst = t.led.nextPlace ∧
        t.led.nextLseq = replaySeq d found ∧
        (t.led.nextPlace, t.led.nextBlock) = replayNext d found ∧ t.pending = s.pending)) ∧
    (y.2 = false → read ≠ [] → found = [] → x.zones = [] → x.zonesLost = [] → s.vol.groups = [] →
      Gives (.replayComplete x) s (fun t => t.led.isOpen = true ∧ t.led.replaying = none ∧ t.led.id = fld d 0 8 ∧ t.led.nextPlace = fld d 8 8 ∧ t.led.nextBlock = fld d 16 4 ∧
        t.led.nextLseq = fld d 24 8 ∧ t.led.epoch = fld d 40 4 + 1 ∧ t.led.epochFirst = fld d 8 8 ∧
        t.led.copies = replayCopies d (replayBad d x) ∧ t.led.recs = [] ∧ t.led.ready = [] ∧ t.pending = s.pending)))

/-- layout_command opcodes create, delete and query groups and volumes and start, pause and resume reshapes. It rests on 08_volumes_and_parity.md: Objects; 08_volumes_and_parity.md: Layout groups; 08_volumes_and_parity.md: Reshape. -/
def Obligations.LayoutCommandsTakeEffect : Prop :=
  (∀ (s : State) (par p : Bytes) (i : Nat) (g : LGroup), s.takes layoutSet 64 par → p = padTo 64 par → i = fld p 1 1 → g = newGroup p → i < 32 → 2 ≤ g.k → g.k ≤ 22 → fld p 4 2 ∈ unitSizes → 8388608 ≤ g.start →
    g.count % g.u = 0 → 16 ≤ g.f → g.f ≤ 65536 → (∀ b ∈ g.bays.filterMap id, b < 24) → (g.bays.filterMap id).eraseDups.length = (g.bays.filterMap id).length → g.nP ≤ 2 ^ 31 → g.m + g.f < g.nP →
    ((s.group i).isSome = true → exec (.groupCreate par) s = .next ((s.accepted layoutSet layoutSet 64 par).done layoutSet 2)) ∧
    (s.group i = none → (∃ b ∈ g.bays.filterMap id, s.isSpare b = true) → exec (.groupCreate par) s = .next ((s.accepted layoutSet layoutSet 64 par).done layoutSet 3)) ∧
    (s.group i = none → (∀ b ∈ g.bays.filterMap id, s.isSpare b = false) →
      (∀ x ∈ s.vol.groups, rangesMeet g.start g.count x.2.start x.2.count = true → ∀ b, some b ∈ x.2.bays → b ∉ g.bays.filterMap id) →
      (s.mapRoom g.mapBytes = none → exec (.groupCreate par) s = .next ((s.accepted layoutSet layoutSet 64 par).done layoutSet 4)) ∧
      (∀ off, s.mapRoom g.mapBytes = some off →
        exec (.groupCreate par) s = .next { (((layMap i { (s.accepted layoutSet layoutSet 64 par) with vol.groups := tset s.vol.groups i { g with mapOff := off } }).persist).done layoutSet 0) with pending := s.pending }))) ∧
  (∀ (s t : State) (par p : Bytes) (i : Nat), s.takes layoutSet 64 par → p = padTo 64 par → i = fld p 1 1 → i < 32 → (s.group i).isSome = true → t = endItem i (endItem (scrubId i) (s.accepted layoutSet layoutSet 64 par)) →
    (s.volumesOf i ≠ [] → exec (.groupDelete par) s = .next ((s.accepted layoutSet layoutSet 64 par).done layoutSet 2)) ∧
    (s.volumesOf i = [] → exec (.groupDelete par) s = .next { ({ t with vol.groups := terase t.vol.groups i, led.recs := t.led.recs.map (fun (r : Rec) => if r.vol = 0xFFFF ∧ r.group = i ∧ r.durable = true then { r with retired := true } else r) }.persist.done layoutSet 0) with pending := s.pending })) ∧
  (∀ (s : State) (par p : Bytes) (i : Nat), s.takes layoutSet 64 par → p = padTo 64 par → i = fld p 1 1 → i < 32 →
    (s.group i = none → exec (.groupQuery par) s = .next ((s.accepted layoutSet layoutSet 64 par).done layoutSet 0 (s.groupState i ++ List.replicate 24 0xFF ++ zeros 40))) ∧
    (∀ g, s.group i = some g → exec (.groupQuery par) s = .next ((s.accepted layoutSet layoutSet 64 par).done layoutSet 0 (s.groupState i
      ++ (List.range' 0 24).map (fun j => BitVec.ofNat 8 (if g.w ≤ j ∨ g.unspared.contains j then 0xFF else (g.bays.getD j none).getD 0xFF))
      ++ (List.range' 0 24).map (fun j => BitVec.ofNat 8 (if g.rebuilding.contains j then 2 else if g.missing.contains j then 1 else 0)) ++ zeros 16)))) ∧
  (∀ (s : State) (par p : Bytes) (i v f z : Nat) (g : LGroup), s.takes layoutSet 64 par → p = padTo 64 par → i = fld p 1 1 → v = fld p 2 2 → f = fld p 8 4 → z = fld p 16 8 → i < 32 → s.group i = some g →
    1 ≤ v → v ≠ 0xFFFF → 1 ≤ z → f + ceilDiv z g.d ≤ g.nL →
    ((s.volume v).isSome = true → exec (.volumeCreate par) s = .next ((s.accepted layoutSet layoutSet 64 par).done layoutSet 2)) ∧
    (s.volume v = none → g.state ≠ 4 → (s.taken i g v).any (fun r => rangesMeet f (ceilDiv z g.d) r.1 r.2) = true → exec (.volumeCreate par) s = .next ((s.accepted layoutSet layoutSet 64 par).done layoutSet 3)) ∧
    (s.volume v = none → g.state ≠ 4 → (s.taken i g v).any (fun r => rangesMeet f (ceilDiv z g.d) r.1 r.2) = false → s.ciph.epochNext ≠ 0xFFFFFFFF →
      exec (.volumeCreate par) s = .next ({ (s.accepted layoutSet layoutSet 64 par) with vol.volumes := tset s.vol.volumes v { group := i, f := f, size := z, epochBase := s.ciph.epochNext, epochCur := s.ciph.epochNext }, ciph.epochNext := s.ciph.epochNext + 1 }.persist.done layoutSet 0))) ∧
  (∀ (s t : State) (par p : Bytes) (v : Nat) (x : Volume), s.takes layoutSet 64 par → p = padTo 64 par → v = fld p 2 2 → s.volume v = some x →
    ((s.volumeMapped v = true ∨ x.reshape.isSome = true) → exec (.volumeDelete par) s = .next ((s.accepted layoutSet layoutSet 64 par).done layoutSet 2)) ∧
    (s.volumeMapped v = false → x.reshape = none →
      t = eraseKeys (fun k => k.vol = v) (cacheRemove (fun e => e.vol = v) (unwrite x.group x.f ((s.group x.group).elim 0 (fun g => ceilDiv x.size g.d)) (s.accepted layoutSet layoutSet 64 par))) →
      exec (.volumeDelete par) s = .next { ({ t with vol.volumes := terase t.vol.volumes v, led.recs := t.led.recs.map (fun (r : Rec) => if (r.kind = 1 ∨ r.kind = 2) ∧ r.vol = v ∧ r.durable = true then { r with retired := true } else r) }.persist.done layoutSet 0) with pending := s.pending })) ∧
  (∀ (s : State) (par p : Bytes) (v : Nat) (x : Volume) (n : Nat), s.takes layoutSet 64 par → p = padTo 64 par → v = fld p 2 2 → s.volume v = some x →
    n = (s.group x.group).elim 0 (fun g => (g.lost.filter (fun e => e.vol = v)).length) →
    (x.reshape = none → exec (.volumeQuery par) s = .next ((s.accepted layoutSet layoutSet 64 par).done layoutSet 0 (le 1 x.group ++ zeros 3 ++ le 4 x.f ++ le 8 x.size ++ zeros 4 ++ zeros 4 ++ zeros 8 ++ le 4 n))) ∧
    (∀ r, x.reshape = some r → exec (.volumeQuery par) s = .next ((s.accepted layoutSet layoutSet 64 par).done layoutSet 0 (le 1 x.group ++ zeros 3 ++ le 4 x.f ++ le 8 x.size ++
      le 1 (if r.paused then 2 else 1) ++ le 1 r.target ++ zeros 2 ++ le 4 r.ft ++ le 8 (min r.c x.size) ++ le 4 n)))) ∧
  (∀ (s : State) (par p : Bytes) (v ti ft : Nat) (x : Volume) (t : LGroup), s.takes layoutSet 64 par → p = padTo 64 par → v = fld p 2 2 → ti = fld p 4 1 → ft = fld p 8 4 → s.volume v = some x →
    ti < 32 → s.group ti = some t → ft + ceilDiv x.size t.d ≤ t.nL →
    (x.reshape.isSome = true → exec (.reshapeStart par) s = .next ((s.accepted layoutSet layoutSet 64 par).done layoutSet 2)) ∧
    (x.reshape = none → (∀ g, s.group x.group = some g → g.state ≠ 4) → t.state ≠ 4 → (∀ e ∈ t.map, ft ≤ e.1 → e.1 < ft + ceilDiv x.size t.d → e.2.2 = false) →
      (s.taken ti t v).any (fun r => rangesMeet ft (ceilDiv x.size t.d) r.1 r.2) = false →
      (8 ≤ s.reshapeCount → exec (.reshapeStart par) s = .next ((s.accepted layoutSet layoutSet 64 par).done layoutSet 5)) ∧
      (s.reshapeCount < 8 → exec (.reshapeStart par) s = .next (((s.accepted layoutSet layoutSet 64 par).onVolume v (fun x => { x with reshape := some { target := ti, ft := ft } })).persist.done layoutSet 0)))) ∧
  (∀ (s : State) (par p : Bytes) (v : Nat) (x : Volume) (r : Reshape), s.takes layoutSet 64 par → p = padTo 64 par → v = fld p 2 2 → s.volume v = some x →
    (x.reshape = none → exec (.reshapePauseResume par) s = .next ((s.accepted layoutSet layoutSet 64 par).done layoutSet 2)) ∧
    (x.reshape = some r → exec (.reshapePauseResume par) s = .next (((s.accepted layoutSet layoutSet 64 par).onVolume v (fun x => { x with reshape := x.reshape.map (fun r => { r with paused := (fld p 4 1).testBit 0 }) })).persist.done layoutSet 0)))

/-- Spares, rebuild and scrub items, reshape steps, and the commands that start them or fail a member take effect. It rests on 08_volumes_and_parity.md: Rebuild; 08_volumes_and_parity.md: Scrub; 08_volumes_and_parity.md: Reshape; 08_volumes_and_parity.md: Member failure; 08_volumes_and_parity.md: Objects. -/
def Obligations.MembersAndPassesTakeEffect : Prop :=
  (∀ (s : State) (i : Nat) (g : LGroup) (l : List (Nat × Nat × Nat)), s.isUp → s.group i = some g → g.unspared ≠ [] → s.objN 0x440006 1 = 1 → g.state ≠ 4 →
    l = ((s.waitingSpares.filter (fun x => x.1 < s.bell.edges)).reverse.dropWhile (fun x => x.2.1 ≠ i)).reverse →
    exec (.spareTake i) s = .next { l.foldl (fun s x => match s.group x.2.1 with | some g => if g.unspared.contains x.2.2 then takeFor x.2.1 x.2.2 g s else s | none => s) s with pending := s.pending } ∧
    (∀ e pos bay, l = [(e, i, pos)] → g.unspared.contains pos = true → bay = (g.bays.getD pos none).getD 0xFF →
      (∀ n, s.fitting bay = some n → exec (.spareTake i) s = .next { giveSpare bay n s with pending := s.pending }) ∧
      (s.fitting bay = none → exec (.spareTake i) s = .next (if g.waitingSpare then s else (s.onGroup i (fun g => { g with waitingSpare := true })).faultAt 99 4 5 i)))) ∧
  (∀ (s : State) (par p : Bytes) (i pos bay : Nat) (g : LGroup) (r : List Nat), s.takes layoutSet 64 par → p = padTo 64 par → i = fld p 1 1 → i < 32 → s.group i = some g →
    (g.unspared = [] → exec (.rebuildStart par) s = .next ((s.accepted layoutSet layoutSet 64 par).done layoutSet 2)) ∧
    (g.unspared = pos :: r → bay = (g.bays.getD pos none).getD 0xFF →
      (s.fitting bay = none → exec (.rebuildStart par) s = .next ((s.accepted layoutSet layoutSet 64 par).done layoutSet 2)) ∧
      (∀ n, s.fitting bay = some n → g.state ≠ 4 →
        exec (.rebuildStart par) s = .next { (((giveSpare bay n (s.accepted layoutSet layoutSet 64 par)).onGroup i (fun g => { g with byCommand := true })).done layoutSet 0) with pending := s.pending }))) ∧
  (∀ (s : State) (i : Nat) (g : LGroup), s.isUp → s.group i = some g → g.state ≠ 4 → s.parityRuns = true → s.driveStops 113 = false →
    (∀ x : StripeItem, s.item i = some x → x.phase = .written → x.cancelled = false →
      (g.rebuilding ≠ [] → (∃ a ∈ x.parts, a.phys = g.cursor) → x.targets = g.toRebuild g.cursor →
        exec (.rebuildItemComplete i g.cursor) s = .next { settle (endItem i (rebuildStep i (s.count Ev.rbStripe i))) with pending := s.pending }) ∧
      (¬ (g.rebuilding ≠ [] ∧ (∃ a ∈ x.parts, a.phys = g.cursor) ∧ x.targets = g.toRebuild g.cursor) →
        exec (.rebuildItemComplete i g.cursor) s = .next { settle (endItem i s) with pending := s.pending })) ∧
    (s.item i = none → g.rebuilding ≠ [] → s.needsClaim i g g.cursor = none →
      exec (.rebuildItemComplete i g.cursor) s = .next { settle (checkpoint (g.cursor + 1) ((s.count Ev.rbSkip i).onGroup i (fun g => (if g.pass2 then { g with cur2 := g.cur2 + 1 } else { g with cur1 := g.cur1 + 1 }).settleRebuild))) with pending := s.pending })) ∧
  (∀ (s : State) (i : Nat) (g : LGroup), s.isUp → s.group i = some g → g.state ≠ 4 → s.parityRuns = true → s.driveStops 114 = false →
    (∀ x : StripeItem, s.item (scrubId i) = some x → x.phase = .written → x.cancelled = false →
      exec (.scrubItemComplete i g.scrubCur) s = .next { settle (endItem (scrubId i) (checkpoint (g.scrubCur + 1) ((s.count Ev.scCheck i).onGroup i LGroup.scrubStep))) with pending := s.pending }) ∧
    (s.item (scrubId i) = none → g.scrub ≠ 0 → s.scrubTarget i g = none →
      exec (.scrubItemComplete i g.scrubCur) s = .next { settle (checkpoint (g.scrubCur + 1) (s.onGroup i LGroup.scrubStep)) with pending := s.pending })) ∧
  (∀ (s : State) (par p : Bytes) (i : Nat) (g : LGroup), s.takes layoutSet 64 par → p = padTo 64 par → i = fld p 1 1 → i < 32 → s.group i = some g →
    (fld p 2 1 ≤ 2 → g.state ≠ 4 → exec (.scrubControl par) s = .next (((s.accepted layoutSet layoutSet 64 par).onGroup i (fun g => { g with scrub := fld p 2 1 })).done layoutSet 0)) ∧
    (fld p 2 1 ≤ 2 → g.state = 4 → exec (.scrubControl par) s = .next ((s.accepted layoutSet layoutSet 64 par).done layoutSet 2)) ∧
    exec (.lostListFetch par) s = .next ((s.accepted layoutSet layoutSet 64 par).done layoutSet 0 (le 4 g.lost.length ++ zeros 28 ++ ((g.lost.drop (fld p 4 4)).take 3).flatMap LostEntry.bytes)) ∧
    (∀ b, fld p 2 1 < g.w → g.unspared.contains (fld p 2 1) = false → g.bays.getD (fld p 2 1) none = some b →
      exec (.memberFailCommand par) s = .next { settle ((bayLost b 6 (s.accepted layoutSet layoutSet 64 par)).done layoutSet 0) with pending := s.pending }) ∧
    (fld p 2 1 < g.w → g.unspared.contains (fld p 2 1) = true → exec (.memberFailCommand par) s = .next { settle ((s.accepted layoutSet layoutSet 64 par).done layoutSet 2) with pending := s.pending })) ∧
  (∀ (s : State) (v : Nat) (x : Volume) (r : Reshape) (g t : LGroup), s.isUp → s.volume v = some x → x.reshape = some r → s.group x.group = some g → s.group r.target = some t → r.paused = false →
    (∀ y ∈ s.unplaced ++ s.led.recs, y.kind = 7 ∨ y.kind = 8 → y.vol = v → y.durable = true) → g.state ≠ 4 → t.state ≠ 4 → s.led.isOpen = true → s.led.paused = false → s.parityRuns = true →
    s.driveStops 115 = false → s.stagingRoom 1 = true →
    (x.size ≤ r.c → exec (.reshapeCopyCommit v) s = .next { settle (deviceRec 8 v r.target 0 (zeros 16 ++ le 1 r.target ++ zeros 3 ++ le 4 r.ft) (.reshape v) [] s) with pending := s.pending }) ∧
    (∀ y, r.c < x.size → s.item (reshapeId v) = some y → y.phase = .written → y.cancelled = false →
      exec (.reshapeCopyCommit v) s = .next { settle ((deviceRec 7 v r.target 0 (reshapeExtra (r.c + t.d) r.target r.ft) (.reshape v) [] (s.setItem (reshapeId v) { y with phase := .committing })).count Ev.rsCopy v) with pending := s.pending }))

/-- Merges, claims, the float and the completions and timeouts of member drives take effect. It rests on 08_volumes_and_parity.md: Merges; 08_volumes_and_parity.md: Full-stripe writes; 08_volumes_and_parity.md: Member failure; 11_drive_bays.md: Root ports and drive bring-up. -/
def Obligations.MergesClaimsAndCompletionsTakeEffect : Prop :=
  (∀ (s : State) (i st : Nat) (g : LGroup) (r : Rec) (l : List Rec), s.isUp → s.group i = some g → s.mergeable (stripeKey i st) = r :: l → g.state ≠ 4 → s.led.isOpen = true → s.led.paused = false →
    s.runs 4 5 = true → s.driveStops 112 = false → (s.led.drain = none → r.durEdge + s.objN 0x440009 64 ≤ s.bell.edges) → (s.claimsOn (stripeKey i st)).contains .merge = false →
    ((∀ x ∈ r :: l, s.beingCopied x.vol x.lba x.count = false) →
      exec (.mergeStart i st) s = .next { settle (requestClaim (stripeKey i st) .merge s) with pending := s.pending }) ∧
    (∀ x, (r :: l).find? (fun x => s.beingCopied x.vol x.lba x.count) = some x → exec (.mergeStart i st) s = .next { settle (s.count Ev.rsHeld x.vol) with pending := s.pending })) ∧
  (∀ (s : State) (i st key : Nat) (x : Claimant) (l : List Claimant), s.isUp → key = stripeKey i st → s.vol.granted.contains key = false → s.claimsOn key = x :: l →
    (s.operandBlocks < s.led.operandUsed + s.claimSlots key → exec (.claimGrant i st) s = .next
      { settle (if s.vol.opWaited.contains key then s else { s with vol.opWaited := s.vol.opWaited ++ [key] }.count Ev.opWait 0) with pending := s.pending }) ∧
    (s.led.operandUsed + s.claimSlots key ≤ s.operandBlocks → exec (.claimGrant i st) s = .next
      { settle ((match x with | .merge => mergeBegin key | .full u j => fullBegin u j | .item id => itemGranted id key) { s with vol.opWaited := s.vol.opWaited.erase key, vol.granted := s.vol.granted ++ [key], led.operandUsed := s.led.operandUsed + s.claimSlots key }) with pending := s.pending })) ∧
  (∀ (s : State) (i st key : Nat) (m : Merge), s.isUp → key = stripeKey i st → tget s.vol.merges key = some m → m.phase = .written → s.led.isOpen = true → s.led.paused = false → s.stagingRoom 1 = true →
    exec (.mergeCommitSubmit i st) s = .next { settle (deviceRec 4 0xFFFF i 0 (le 4 m.phys ++ zeros 4 ++ le 8 m.through ++ le 2 m.intents) (.merge key) [] { s with vol.merges := tset s.vol.merges key { m with phase := .committing } }) with pending := s.pending }) ∧
  (∀ (s : State) (i phys : Nat) (g : LGroup), s.isUp → s.group i = some g → phys ∈ g.oldPhys → (∀ b ∈ s.bay.bays, ∀ c ∈ b.2.drive.out, c.2.op ≠ 0 → c.2.lba + c.2.n ≤ g.block phys 0 ∨ g.block phys 0 + g.u ≤ c.2.lba) →
    (∀ c ∈ s.bay.waiting, c.2.op ≠ 0 → c.2.lba + c.2.n ≤ g.block phys 0 ∨ g.block phys 0 + g.u ≤ c.2.lba) →
    exec (.floatReturn i phys) s = .next { settle (s.onGroup i (fun g => { g with oldPhys := g.oldPhys.erase phys, float := g.float ++ [(phys, phys + 1)] })) with pending := s.pending }) ∧
  (∀ (s t u : State) (bay cid : Nat) (c : DriveCmd) (r : DriveResult), s.isUp → cid ≠ adminCid → tget (s.bayOf bay).drive.out cid = some c → s.runs 4 (portRegion bay) = true →
    t = (takeEntry bay c.sq (s.objN 0x610004 64) (s.cqEntry bay c.sq cid r) s).onDrive bay (fun d => { d with out := terase d.out cid }) →
    u = (((t.count (Ev.drCpl0 + queueGroup c.queue) bay).count Ev.drRd bay (if c.op = 2 then c.n else 0)).count Ev.drWr bay (if c.op = 1 then c.n else 0)).count Ev.drErr bay (b2n (r.sct ≠ 0 || r.sc ≠ 0)) →
    exec (.driveCompletion bay cid r) s = .next { settle (consume bay c r u) with pending := s.pending }) ∧
  (∀ (s : State) (bay : Nat) (r : DriveResult), s.isUp → (s.bayOf bay).drive.admin.isSome = true →
    exec (.driveCompletion bay adminCid r) s = .next { settle (((takeEntry bay 0 32 (padTo 16 r.data) s).onDrive bay (fun d => { d with admin := none })).done 0x610030 0 (padTo 16 r.data)) with pending := s.pending }) ∧
  (∀ (s : State) (bay cid : Nat) (c : DriveCmd), s.isUp → tget (s.bayOf bay).drive.out cid = some c → c.edge + s.objN 0x440007 7812500 ≤ s.bell.edges →
    exec (.memberTimeout bay cid) s = .next { settle (bayLost bay 4 (driveState bay 7 (s.count Ev.drTo bay))) with pending := s.pending })

/-- Held keys, write-sequence grants, the service queue, the random source, operator keys and epochs take effect. It rests on 10_cipher_keys_trust.md: Cipher lanes; 10_cipher_keys_trust.md: The write sequence; 10_cipher_keys_trust.md: Firmware's cipher service queue; 10_cipher_keys_trust.md: Random source; 10_cipher_keys_trust.md: Operator keys and signed requests; 10_cipher_keys_trust.md: Objects. -/
def Obligations.KeysGrantsAndServicesTakeEffect : Prop :=
  (∀ (s : State) (lane vol e : Nat) (k : HeldKey), s.isUp → k ∈ (s.lane lane).keys → k.vol = vol → k.epoch = e → k.last + s.objN 0x50000B 4 ≤ s.bell.edges →
    exec (.keyHoldExpiry lane vol e) s = .next ({ s with ciph.lanes := tmod s.ciph.lanes lane {} (fun x => { x with keys := x.keys.filter (fun k => !(k.vol = vol && k.epoch = e && s.objN 0x50000B 4 ≤ s.bell.edges - k.last)) }) }.count Ev.holdErase lane)) ∧
  (∀ (s : State) (v : Nat), s.isUp →
    (s.ciph.wseqLimit < v → v ≤ s.ciph.wseqNext + 2 ^ 40 → exec (.wseqGrant v) s = .next (((({ s with ciph.wseqLimit := v, ciph.waitEdge := if s.ciph.wseqNext = s.ciph.wseqLimit then s.bell.edges + 1 else s.ciph.waitEdge }).setObj 0x500009 (le 8 v)).status 0).count Ev.grantAcc 0)) ∧
    ((v ≤ s.ciph.wseqLimit ∨ s.ciph.wseqNext + 2 ^ 40 < v) → exec (.wseqGrant v) s = .next ((s.status 4).count Ev.grantRef 0))) ∧
  (∀ (s : State) (x : State × Bytes × Bool), s.isUp → s.ciph.svc = none → s.objN 0x500032 0 ≠ s.ciph.svcCons → s.cipherRuns = true →
    x = s.hbmGet (212 + b2n (inStackB s.svcAddr)) s.ciph.svcCons s.svcAddr 64 →
    exec .serviceDescriptor s = .next { { x.1 with ciph.svc := some { desc := x.2.1, left := if x.2.2 = true ∨ svcBad x.2.1 ∨ x.1.ciph.root.isNone then 0 else ceilDiv (fld x.2.1 16 4) 4096, bad := x.2.2 } } with pending := s.pending }) ∧
  (∀ (s : State) (r : SvcRun) (x : State × Nat), s.isUp → s.ciph.svc = some r → r.left = 0 → x = (if r.bad then (s, 5) else svcRun r.desc s) →
    exec .serviceDescriptorComplete s = .next { ((({ (x.1.hbmPut (s.svcAddr + 3) (le 1 x.2)) with ciph.svc := none, ciph.svcCons := (x.1.ciph.svcCons + 1) % 2 ^ 32 }).count (Ev.svcSt1 + (x.2 - 1)) 0).emit .cipherIrq) with pending := s.pending }) ∧
  (∀ s : State, s.isUp → s.ciph.randomFailed = false → exec .randomHealthFail s = .next ({ s with ciph.randomFailed := true }.faultAt 137 4 10 0)) ∧
  (∀ (s : State) (slot : Nat) (signed : Bool) (key : Bytes), s.isUp → slot ≤ 7 → key.length ≤ 32 →
    (signed = false → s.opKeysSet ≠ [] → exec (.operatorKeyWrite slot signed key) s = .next (s.status 7)) ∧
    (padTo 32 key = zeros 32 → (∀ i ∈ s.opKeysSet, i = slot) → (signed = true ∨ s.opKeysSet = []) → exec (.operatorKeyWrite slot signed key) s = .next (s.status 4)) ∧
    (padTo 32 key ≠ zeros 32 → (signed = true ∨ s.opKeysSet = []) → exec (.operatorKeyWrite slot signed key) s = .next (((s.setObj (0x500010 + slot) (padTo 32 key)).persist).status 0))) ∧
  (∀ (s : State) (par p : Bytes) (v : Nat), s.takes cipherSet 160 par → p = padTo 160 par → v = fld p 2 2 → (s.volume v).isSome = true → s.ciph.epochNext ≠ 0xFFFFFFFF →
    exec (.volumeRekey par) s = .next (((({ (s.accepted cipherSet cipherSet 160 par) with ciph.epochNext := s.ciph.epochNext + 1 }.onVolume v (fun x => { x with pendCur := some s.ciph.epochNext })).persist).count Ev.rekeys 0).done cipherSet 0
      (le 4 s.ciph.epochNext))) ∧
  (∀ (s : State) (par p : Bytes), s.takes cipherSet 160 par → p = padTo 160 par →
    (s.anyReady = true → exec (.restore par) s = .next ((s.accepted cipherSet cipherSet 160 par).done cipherSet 2)) ∧
    (s.anyReady = false → exec (.restore par) s = .next ({ (s.accepted cipherSet cipherSet 160 par) with ciph.wseqNext := fld p 8 8, ciph.wseqLimit := fld p 8 8, ciph.epochNext := fld p 16 4, ciph.opCounters := (List.range' 0 8).foldl (fun t i => tset t i (fld p (32 + 8 * i) 8)) [] }.done cipherSet 0)) ∧
    (∀ v, s.volume (fld p 2 2) = some v → exec (.volumeEpochQuery par) s = .next ((s.accepted cipherSet cipherSet 160 par).done cipherSet 0 (le 4 v.epochBase ++ le 4 (v.pendCur.getD v.epochCur)))) ∧
    (s.volume (fld p 2 2) = none → exec (.volumeEpochQuery par) s = .next ((s.accepted cipherSet cipherSet 160 par).done cipherSet 1)))

/-- Root key, wrap, measurement, attestation, rollback and revocation commands take effect. It rests on 10_cipher_keys_trust.md: The shelf root key; 10_cipher_keys_trust.md: Boot verification; 10_cipher_keys_trust.md: Identity and attestation; 10_cipher_keys_trust.md: Objects. -/
def Obligations.RootKeyAndFirmwareCommandsTakeEffect : Prop :=
  (∀ (s : State) (par : Bytes), s.takes cipherSet 160 par →
    exec (.rootCreate false par) s = .next ((s.accepted cipherSet cipherSet 160 par).done cipherSet 5) ∧
    ((s.ciph.root.isSome = true ∨ s.ciph.identityOk = false) → exec (.rootCreate true par) s = .next ((s.accepted cipherSet cipherSet 160 par).done cipherSet 2)) ∧
    (s.ciph.root = none → s.ciph.identityOk = true → s.ciph.randomFailed = true → exec (.rootCreate true par) s = .next ((s.accepted cipherSet cipherSet 160 par).done cipherSet 6)) ∧
    (s.ciph.root = none → s.ciph.identityOk = true → s.ciph.randomFailed = false →
      Gives (.rootCreate true par) s (fun t => ∃ root shelf w, root = le 32 (Config.freeNat s.freeIdx) ∧ shelf = Config.freeNat (s.freeIdx + 1) % 2 ^ 64 ∧
        w = (wrapFor (padTo 32 signPub) agreePub root shelf { s with freeIdx := s.freeIdx + 2 }).2 ∧
        t = { (s.accepted cipherSet cipherSet 160 par) with ciph.root := some root, ciph.shelfId := shelf, ciph.wseqNext := 1, ciph.wseqLimit := 1, ciph.epochNext := 1, freeIdx := s.freeIdx + 3 }.done cipherSet 0
          (le 8 shelf ++ rootCheck root shelf ++ w)))) ∧
  (∀ (s : State) (par w wk : Bytes) (r : Bytes × Bool), s.takes cipherSet 160 par → w = sub (padTo 160 par) 16 128 → s.ciph.root = none → s.ciph.identityOk = true →
    wk = derive (Config.xShared agreePriv (sub w 32 32)) 0x42 (zeros 6) (be 8 (fld w 120 8)) →
    r = Config.gcmOpen wk (zeros 12) (w.take 32 ++ sub w 32 32 ++ be 8 (fld w 120 8)) (sub w 64 32) (sub w 96 16) →
    exec (.unwrap par) s = .next (if w.take 32 = padTo 32 signPub ∧ r.2 = true ∧ rootCheck r.1 (fld w 120 8) = sub w 112 8
      then { (s.accepted cipherSet cipherSet 160 par) with ciph.root := some r.1, ciph.shelfId := fld w 120 8 }.done cipherSet 0 else ((s.accepted cipherSet cipherSet 160 par).faultAt 130 4 10 0).done cipherSet 3)) ∧
  (∀ (s : State) (par : Bytes), s.takes cipherSet 160 par → (s.ciph.root.isSome = true ∨ s.ciph.identityOk = false) → exec (.unwrap par) s = .next ((s.accepted cipherSet cipherSet 160 par).done cipherSet 2)) ∧
  (∀ (s : State) (par p root : Bytes), s.takes cipherSet 160 par → p = padTo 160 par → s.ciph.root = some root → s.ciph.randomFailed = false →
    (identityBlockOk (sub p 16 136) = true → exec (.enroll true par) s = .next
      ({ (s.accepted cipherSet cipherSet 160 par) with freeIdx := s.freeIdx + 1 }.done cipherSet 0 (wrapFor ((sub p 16 136).take 32) (sub (sub p 16 136) 32 32) root s.ciph.shelfId s).2)) ∧
    (identityBlockOk (sub p 16 136) = false → exec (.enroll true par) s = .next ((s.accepted cipherSet cipherSet 160 par).done cipherSet 4)) ∧
    exec (.escrowExport true par) s = .next ({ (s.accepted cipherSet cipherSet 160 par) with freeIdx := s.freeIdx + 1 }.done cipherSet 0 (wrapFor (zeros 32) (sub p 16 32) root s.ciph.shelfId s).2)) ∧
  (∀ (s : State) (par : Bytes), s.takes cipherSet 160 par → exec (.enroll false par) s = .next ((s.accepted cipherSet cipherSet 160 par).done cipherSet 5) ∧ exec (.escrowExport false par) s = .next ((s.accepted cipherSet cipherSet 160 par).done cipherSet 5) ∧
    (s.ciph.root = none → exec (.enroll true par) s = .next ((s.accepted cipherSet cipherSet 160 par).done cipherSet 2) ∧ exec (.escrowExport true par) s = .next ((s.accepted cipherSet cipherSet 160 par).done cipherSet 2))) ∧
  (∀ (s : State) (par : Bytes), s.takes cipherSet 160 par →
    exec (.rootUnload par) s = .next (if s.tgt.namespaces.any (fun n => n.2.state = 1) then (s.accepted cipherSet cipherSet 160 par).done cipherSet 2 else { (s.accepted cipherSet cipherSet 160 par) with ciph.unload := true }.done cipherSet 0)) ∧
  (∀ (s : State) (par p : Bytes) (i : Nat), s.takes fwSet 80 par → p = padTo 80 par → i = fld p 1 1 →
    (2 ≤ i → i ≤ 7 → exec (.measurementExtend par) s = .next ({ (s.accepted fwSet fwSet 80 par) with ciph.measure := tset s.ciph.measure i (padTo 64 (Config.sha512 (s.measure i ++ sub p 16 64))) }.done fwSet 0)) ∧
    (s.ciph.identityOk = true → exec (.attest par) s = .next ((s.accepted fwSet fwSet 80 par).done fwSet 0 (s.attestBody (sub p 16 32) ++ padTo 64 (Config.edSign signSeed (s.attestBody (sub p 16 32)))))) ∧
    (s.ciph.identityOk = false → exec (.attest par) s = .next ((s.accepted fwSet fwSet 80 par).done fwSet 2)) ∧
    (s.ciph.rollback ≤ i → i ≤ s.ciph.runningSvn → exec (.rollbackAdvance true par) s = .next ({ (s.accepted fwSet fwSet 80 par) with ciph.rollback := i }.done fwSet 0)) ∧
    ((i < s.ciph.rollback ∨ s.ciph.runningSvn < i) → exec (.rollbackAdvance true par) s = .next ((s.accepted fwSet fwSet 80 par).done fwSet 1)) ∧
    (i ≤ 3 → i ≠ s.ciph.signer → s.ciph.revoked ||| 2 ^ i ≠ 15 → exec (.oemRevoke true par) s = .next ({ (s.accepted fwSet fwSet 80 par) with ciph.revoked := s.ciph.revoked ||| 2 ^ i }.done fwSet 0)) ∧
    (i = s.ciph.signer → exec (.oemRevoke true par) s = .next ((s.accepted fwSet fwSet 80 par).done fwSet 1)) ∧
    (∀ c ∈ [Instr.rollbackAdvance false par, .oemRevoke false par], exec c s = .next ((s.accepted fwSet fwSet 80 par).done fwSet 5)))

/-- Presence, trips, the bay faults that are due and measurement faults take effect. It rests on 11_drive_bays.md: Protection; 11_drive_bays.md: Seating, ramp and power-good; 11_drive_bays.md: The bay power path; 11_drive_bays.md: Bay states. -/
def Obligations.BayFaultsTakeEffect : Prop :=
  (∀ (s : State) (bay : Nat) (a b : Bool), s.isUp → bay < 24 →
    exec (.presenceChange bay a b) s = .next (((s.onBay bay (fun x => { x with pinA := a, pinB := b })).count Ev.insert bay (b2n (a && b && !(s.bayOf bay).seated))).count Ev.remove bay
      (b2n ((s.bayOf bay).seated && !(a && b))))) ∧
  (∀ (s : State) (bay : Nat) (a b : Bool), ¬ s.isUp → bay < 24 → exec (.presenceChange bay a b) s = .next (s.onBay bay (fun x => { x with pinA := a, pinB := b }))) ∧
  (∀ (s : State) (bay : Nat), s.isUp → bay < 24 → exec (.fastTrip bay) s = .next (s.onBay bay (fun b => { b with trip := true, gate := false }))) ∧
  (∀ (s : State) (bay : Nat), s.isUp → s.supervised = true →
    (s.dueFault bay = some 2 → exec (.efuseTrip bay false) s = .next { settle (ofEndedBell (bayFault bay 2) s) with pending := s.pending }) ∧
    (s.dueFault bay = some 3 → exec (.efuseTrip bay true) s = .next { settle (ofEndedBell (bayFault bay 3) s) with pending := s.pending }) ∧
    (s.dueFault bay = some 4 → exec (.gateStuck bay) s = .next { settle (ofEndedBell (bayFault bay 4) s) with pending := s.pending }) ∧
    (s.dueFault bay = some 6 → exec (.outputOutOfWindow bay) s = .next { settle (ofEndedBell (bayFault bay 6) s) with pending := s.pending }) ∧
    (s.dueFault bay = some 7 → exec (.pgTimeout bay) s = .next { settle (ofEndedBell (bayFault bay 7) s) with pending := s.pending }) ∧
    (s.dueFault bay = some 5 → ((s.bayOf bay).state = 5 → (s.bayOf bay).cause ≠ 5) → exec (.passElementShort bay) s = .next
      { ofEndedBell (fun s => ((bayEvent 147 bay s).count Ev.bayF5 bay).onBay bay (fun b => { b with state := 5, cause := 5, retry := none, evaluated := true })) s with pending := s.pending })) ∧
  (∀ (s : State) (bay cause : Nat), (s.bayOf bay).state ≠ 3 → (s.bayOf bay).drive.state = 0 →
    (((bayFault bay cause s).bayOf bay).history = (s.bayOf bay).history ++ [s.bell.edges] ∧ ((bayFault bay cause s).bayOf bay).cause = cause ∧ ((bayFault bay cause s).bayOf bay).gate = false ∧
      ((bayFault bay cause s).bayOf bay).state = (if s.objN 0x61000B 3 ≤ (((s.bayOf bay).history ++ [s.bell.edges]).filter (fun e => s.bell.edges - e < s.objN 0x61000C 585937500)).length then 5 else 4))) ∧
  (∀ (s : State) (bay ch : Nat) (stop : Bool), s.isUp → bay < 24 → ch < 5 → s.supervised = true → (stop = true ∨ 16 ≤ tgetD (s.bayOf bay).adcOut ch 0 ∧ (s.bayOf bay).adcFault = false) →
    exec (.adcFault bay ch stop) s = .next ((s.onBay bay (fun b => { b with adcFault := true, adcStopped := if stop then oncePer ch b.adcStopped else b.adcStopped })).raise
      { source := 156, die := 5, region := 0, unit := bay, detail := bay }))

/-- Seating, PERST, retries, shutdowns and the bay commands take effect. It rests on 11_drive_bays.md: Seating, ramp and power-good; 11_drive_bays.md: Bay states; 11_drive_bays.md: Protection; 11_drive_bays.md: Fence, domains and roles; 11_drive_bays.md: Objects. -/
def Obligations.BayCommandsTakeEffect : Prop :=
  (∀ (s : State) (bay : Nat), s.isUp → (s.bayOf bay).state = 1 → 97657 ≤ (s.bayOf bay).seat → s.bayObj bay 0x01 0 = 1 → s.stby.fenceIn = false → s.supervised = true → (s.bayOf bay).evaluated = false →
    exec (.seatingComplete bay) s = .next { startRamp bay s with pending := s.pending }) ∧
  (∀ (s : State) (bay e : Nat), s.isUp → s.supervised = true → (s.bayOf bay).state = 4 → (s.bayOf bay).retry = some e → e + s.bayObj bay 0x0E 976563 ≤ s.bell.edges → s.bayObj bay 0x01 0 = 1 →
    s.stby.fenceIn = false → (s.bayOf bay).evaluated = false →
    exec (.retryTimerExpiry bay) s = .next { startRamp bay (s.count Ev.retries bay (b2n (!(s.bayOf bay).cycle))) with pending := s.pending }) ∧
  (∀ (s : State) (bay : Nat), ((startRamp bay s).bayOf bay).state = 2 ∧ ((startRamp bay s).bayOf bay).gate = false ∧ ((startRamp bay s).bayOf bay).auxGate = true ∧ ((startRamp bay s).bayOf bay).rampEdge = s.bell.edges ∧
    ((s.bayOf bay).cycle = true → ((startRamp bay s).res (baySet bay)).ready = true ∧ ((startRamp bay s).res (baySet bay)).outcome = 0)) ∧
  (∀ (s : State) (bay e : Nat), s.isUp → (s.bayOf bay).state = 3 → (s.bayOf bay).perst = false → (s.bayOf bay).pgEdge = some e → e + 97657 ≤ s.bell.edges → s.domOn (portDomain bay) = true → s.stby.fenceIn = false → s.rst.stretch = false →
    exec (.perstRelease bay) s = .next (driveState bay 1 (s.onBay bay (fun b => { b with perst := true, drive := { admin := b.drive.admin, linkHeld := b.drive.linkHeld, lastSb := b.drive.lastSb, lastDone := b.drive.lastDone } })))) ∧
  (∀ (s : State) (bay : Nat), s.isUp → (s.bayOf bay).state = 7 → (s.bayOf bay).shutPerst = none →
    exec (.driveShutdownComplete bay) s = .next { driveGone bay (s.onBay bay (fun b => { b with perst := false, shutPerst := some s.bell.edges })) with pending := s.pending } ∧
    ((s.bayOf bay).shutEdge + s.objN 0x610008 9765625 ≤ s.bell.edges →
      exec (.shutdownTimeout bay) s = .next { driveGone bay ((s.count Ev.shutTo bay).onBay bay (fun b => { b with perst := false, shutPerst := some s.bell.edges })) with pending := s.pending })) ∧
  (∀ (s : State) (bay e : Nat), s.isUp → (s.bayOf bay).state = 7 → (s.bayOf bay).shutPerst = some e → e + 977 ≤ s.bell.edges →
    ((s.bayOf bay).cycle = true → exec (.shutdownGateOff bay) s = .next { settle ((leaveFor bay 4 s).onBay bay (fun b => { b with retry := some s.bell.edges })) with pending := s.pending }) ∧
    ((s.bayOf bay).cycle = false → exec (.shutdownGateOff bay) s = .next { settle (leaveFor bay 6 s) with pending := s.pending })) ∧
  (∀ (s : State) (bay v : Nat), s.isUp → bay < 24 → v ≤ 1 →
    exec (.bayEnableWrite bay v) s = .next (if v = 1 ∧ (s.stby.fenceIn = true ∨ s.stby.role = 0 ∨ s.stby.role = 1 ∨ s.stby.role = 4) then s.status 5 else (s.setObj (bayKey bay 1) (le 1 v)).status 0)) ∧
  (∀ (s : State) (bay : Nat) (par : Bytes), s.takes (baySet bay) 8 par → bay < 24 →
    ((s.bayOf bay).state = 5 → (s.bayOf bay).short < 98 → (s.bayOf bay).shortAux < 98 →
      exec (.bayRelease bay par) s = .next (((s.accepted (baySet bay) (baySet bay) 8 par).onBay bay (fun b => { b with state := if b.seated then 1 else 0, history := [] })).done (baySet bay) 0)) ∧
    (((s.bayOf bay).state ≠ 5 ∨ 98 ≤ (s.bayOf bay).short ∨ 98 ≤ (s.bayOf bay).shortAux) → exec (.bayRelease bay par) s = .next ((s.accepted (baySet bay) (baySet bay) 8 par).done (baySet bay) 2)) ∧
    exec (.bayEnergyClear bay par) s = .next (((s.accepted (baySet bay) (baySet bay) 8 par).onBay bay (fun b => { b with energy := 0 })).done (baySet bay) 0) ∧
    exec (.bayHistoryClear bay par) s = .next (((s.accepted (baySet bay) (baySet bay) 8 par).onBay bay (fun b => { b with history := [] })).done (baySet bay) 0) ∧
    ((s.bayOf bay).state = 3 → exec (.bayPowerCycle bay par) s = .next { settle ((startShutdown bay (s.accepted (baySet bay) (baySet bay) 8 par)).onBay bay (fun b => { b with cycle := true })) with pending := s.pending }) ∧
    ((s.bayOf bay).state ≠ 3 → exec (.bayPowerCycle bay par) s = .next { settle ((s.accepted (baySet bay) (baySet bay) 8 par).done (baySet bay) 2) with pending := s.pending }))

/-- The drive bring-up, its timeouts, the status poll, and the loss of a link or an error take effect. It rests on 11_drive_bays.md: Root ports and drive bring-up; 11_drive_bays.md: Objects. -/
def Obligations.DriveBringUpTakesEffect : Prop :=
  (∀ (s : State) (bay : Nat) (l : DriveLink) (c : DriveCap), s.isUp → s.driveIn bay 1 = true → (s.bayOf bay).drive.linkHeld = false →
    exec (.driveLinkUp bay l c) s = .next { driveState bay 2 (((linkTrained bay l.speed l.width (s.count Ev.train bay)).onDrive bay (fun d => { d with mps := min 512 c.mps, capTo := c.timeout })).emit (.driveSetup bay (bay + 1) 0x4000000 (min 512 c.mps) 4096)) with pending := s.pending }) ∧
  (∀ (s t : State) (bay : Nat) (l : DriveLink) (c : DriveCap), s.isUp → bay < 24 → (s.bayOf bay).drive.state ≠ 1 → s.runs 4 (portRegion bay) = true → (s.bayOf bay).drive.retrain = true →
    t = (s.count Ev.speedCh bay (b2n ((s.bayOf bay).drive.speed ≠ l.speed || (s.bayOf bay).drive.width ≠ l.width))).count Ev.train bay →
    exec (.driveLinkUp bay l c) s = .next { ((linkTrained bay l.speed l.width t).onDrive bay (fun d => { d with retrain := false })).done driveSet 0 (le 1 l.speed ++ le 1 l.width) with pending := s.pending }) ∧
  (∀ (s : State) (bay : Nat), s.isUp → s.driveIn bay 1 = true → (s.bayOf bay).drive.stateEdge + s.objN 0x610005 976563 ≤ s.bell.edges →
    exec (.driveLinkTimeout bay) s = .next (portEvent 150 bay (driveState bay 7 s))) ∧
  (∀ (s : State) (bay : Nat) (ams : Bool), s.isUp → s.driveIn bay 2 = true →
    (∀ n, (s.bayOf bay).drive.linkHeld = false → exec (.driveControllerReady bay ams n) s = .next (if n ≤ 0x4000000 then driveState bay 3 (s.onDrive bay (fun d => { d with ams := ams }))
      else portEvent 152 bay (driveState bay 7 s))) ∧
    ((s.bayOf bay).drive.stateEdge + min (ceilDiv ((s.bayOf bay).drive.capTo * 1953125) 4) (s.objN 0x610006 29296875) ≤ s.bell.edges →
      exec (.driveEnableTimeout bay) s = .next (portEvent 152 bay (driveState bay 7 s)))) ∧
  (∀ (s t : State) (bay : Nat) (i : DriveIdentify), s.isUp → s.driveIn bay 3 = true →
    t = s.onDrive bay (fun d => { d with ext := i.ext, sgl := i.sgls % 4 ≠ 0, nsBlocks := i.blocks, serial := padTo 20 i.serial, model := padTo 40 i.model, fwRev := padTo 8 i.fwRev, mdts := i.mdts }) →
    exec (.driveIdentifyComplete bay i) s = .next (if ¬ (i.sgls % 4 ≠ 0 ∧ (i.mdts = 0 ∨ 1064960 ≤ 2 ^ i.mdts * 2 ^ (12 + i.mpsMin)) ∧ i.oncs.testBit 5 = true) ∨ i.nsReady = false then portEvent 152 bay (driveState bay 7 t)
      else if i.ext = false ∨ i.lbaSize ≠ 4096 ∨ i.metaSize ≠ 64 then driveState bay 6 t else driveState bay 4 t)) ∧
  (∀ (s : State) (bay : Nat), s.isUp → s.driveIn bay 4 = true →
    exec (.driveQueuesCreated bay true) s = .next (driveState bay 5 (s.onDrive bay (fun d => { d with queues := s.objN 0x610003 16, sqTail := [], cqHead := [], cqTurned := [], sqRing := [], cqRing := [], lastCfs := s.bell.edges }))) ∧
    exec (.driveQueuesCreated bay false) s = .next (portEvent 152 bay (driveState bay 7 s))) ∧
  (∀ (s : State) (bay : Nat), s.isUp → s.driveIn bay 5 = true →
    ((s.bayOf bay).drive.lastCfs + s.objN 0x610009 977 ≤ s.bell.edges →
      exec (.cfsPoll bay false) s = .next { settle (s.onDrive bay (fun d => { d with lastCfs := s.bell.edges })) with pending := s.pending } ∧
      exec (.cfsPoll bay true) s = .next { settle (bayLost bay 1 (portEvent 153 bay (driveState bay 7 (s.onDrive bay (fun d => { d with lastCfs := s.bell.edges }))))) with pending := s.pending })) ∧
  (∀ (s t : State) (bay : Nat), s.isUp → bay < 24 → (s.bayOf bay).drive.speed ≠ 0 → s.runs 4 (portRegion bay) = true →
    t = ((cutRetrain bay s).count Ev.linkDn bay).onDrive bay (fun d => { d with speed := 0, width := 0 }) →
    exec (.driveLinkDown bay) s = .next { settle (if (s.bayOf bay).drive.state = 5 then bayLost bay 2 (driveState bay 7 t) else if (s.bayOf bay).drive.state = 3 ∨ (s.bayOf bay).drive.state = 4 then portEvent 152 bay (driveState bay 7 t) else t) with pending := s.pending }) ∧
  (∀ (s t : State) (bay : Nat), s.isUp → bay < 24 → (s.bayOf bay).drive.state ≠ 0 → s.runs 4 (portRegion bay) = true →
    t = portEvent 154 bay (((cutRetrain bay s).count Ev.aerU bay).onDrive bay (fun d => { d with linkHeld := true, speed := 0, width := 0 })) →
    exec (.driveAerError bay) s = .next { settle (bayLost bay 2 (if (t.bayOf bay).drive.state = 7 then t else driveState bay 7 t)) with pending := s.pending }) ∧
  (∀ (s : State) (bay st : Nat), ((driveState bay st s).bayOf bay).drive.state = st ∧ ((driveState bay st s).bayOf bay).drive.stateEdge = s.bell.edges ∧
    (∀ n, n ≠ bay → (driveState bay st s).bayOf n = s.bayOf n))

/-- The sideband, the indicators, drive_command opcodes and firmware drive I/O take effect. It rests on 11_drive_bays.md: Sideband and indicators; 11_drive_bays.md: Objects; 04_scheduling_policing_gates.md: Where the scheduler runs. -/
def Obligations.DriveCommandsTakeEffect : Prop :=
  (∀ (s t : State) (bay temp warn : Nat), s.isUp → bay < 24 → (s.bayOf bay).state = 3 → s.objN 0x61000A 976563 ≠ 0 → (s.bayOf bay).drive.lastSb + s.objN 0x61000A 976563 ≤ s.bell.edges →
    t = ((s.count Ev.sbPoll bay).onDrive bay (fun d => { d with lastSb := s.bell.edges })).emit (.sideband bay (s.bayObj bay 0x12 1) 0 0x6A [0] 8) →
    exec (.sidebandPoll bay .nak temp warn) s = .next { t.count Ev.sbNak bay with pending := s.pending } ∧
    exec (.sidebandPoll bay .clockLow temp warn) s = .next { t.count Ev.sbClk bay with pending := s.pending } ∧
    (warn % 256 = 0 → exec (.sidebandPoll bay .ack temp warn) s = .next { t.onDrive bay (fun d => { d with temp := temp % 65536, warning := 0 }) with pending := s.pending }) ∧
    (warn % 256 ≠ 0 → exec (.sidebandPoll bay .ack temp warn) s = .next { bayEvent 155 bay (t.onDrive bay (fun d => { d with temp := temp % 65536, warning := warn % 256 })) with pending := s.pending })) ∧
  (∀ s : State, s.isUp → s.bay.ledEdge + 1024 ≤ s.bell.edges →
    exec .ledShift s = .next ({ s with bay.ledEdge := s.bell.edges }.emit (.leds ((List.range' 0 24).foldl (fun a n => a + s.bayLeds n * 16 ^ n) 0)))) ∧
  (∀ (s : State) (par p : Bytes) (bay : Nat), s.takes driveSet 96 par → p = padTo 96 par → bay = fld p 1 1 → bay < 24 →
    (((s.bayOf bay).drive.state = 5 ∨ (s.bayOf bay).drive.state = 6) →
      ∀ e : Bytes, e = sub p 16 2 ++ le 2 65535 ++ sub p 20 60 → exec (.adminPassthrough par) s = .next (((((s.accepted driveSet driveSet 96 par).hbmPut (s.sqeAddr bay 0 (tgetD (s.bayOf bay).drive.sqTail 0 0)) e).onDrive bay
        (fun d => { d with admin := some s.bell.edges, sqTail := ringStep 32 0 d.sqTail, sqRing := oncePer 0 d.sqRing })).count Ev.drAdm bay).emit (.driveAdmin bay e))) ∧
    ((s.bayOf bay).drive.state ≠ 5 → (s.bayOf bay).drive.state ≠ 6 → exec (.adminPassthrough par) s = .next ((s.accepted driveSet driveSet 96 par).done driveSet 2)) ∧
    (5 ≤ (s.bayOf bay).drive.state → (s.bayOf bay).drive.state ≤ 7 →
      exec (.controllerReset par) s = .next ((driveState bay 2 ((s.accepted driveSet driveSet 96 par).onDrive bay (fun d => { d with failed := none, queues := 0 }))).done driveSet 0)) ∧
    ((s.bayOf bay).drive.state < 5 → exec (.controllerReset par) s = .next ((s.accepted driveSet driveSet 96 par).done driveSet 2)) ∧
    ((s.bayOf bay).drive.state = 5 → exec (.linkRetrain par) s = .next ((s.accepted driveSet driveSet 96 par).onDrive bay (fun d => { d with retrain := true }))) ∧
    ((s.bayOf bay).drive.state ≠ 5 → exec (.linkRetrain par) s = .next ((s.accepted driveSet driveSet 96 par).done driveSet 2))) ∧
  (∀ (s : State) (par p : Bytes), s.takes driveSet 96 par → p = padTo 96 par → 24 ≤ fld p 1 1 → ∀ c ∈ [Instr.adminPassthrough par, .controllerReset par, .linkRetrain par], exec c s = .next ((s.accepted driveSet driveSet 96 par).done driveSet 1)) ∧
  (∀ (s : State) (bay e : Nat), s.isUp → (s.bayOf bay).drive.admin = some e → e + s.objN 0x610007 9765625 ≤ s.bell.edges →
    exec (.adminTimeout bay) s = .next ((s.onDrive bay (fun d => { d with admin := none })).done driveSet 3)) ∧
  (∀ (s t : State) (par p rd : Bytes) (bay : Nat), s.takes driveSet 96 par → p = padTo 96 par → bay = fld p 1 1 → bay < 24 → fld p 2 1 ≤ 1 → fld p 4 1 ≤ 64 → fld p 5 1 ≤ 64 →
    t = ((s.accepted driveSet driveSet 96 par).count Ev.sbXfer bay).emit (.sideband bay (s.bayObj bay 0x12 1) (fld p 2 1) (fld p 3 1) (sub p 16 (fld p 4 1)) (fld p 5 1)) →
    ((s.bayOf bay).state = 3 → exec (.sidebandTransfer par .ack rd) s = .next (t.done driveSet 0 (padTo (fld p 5 1) rd)) ∧ exec (.sidebandTransfer par .nak rd) s = .next ((t.count Ev.sbNak bay).done driveSet 4) ∧
      exec (.sidebandTransfer par .clockLow rd) s = .next ((t.count Ev.sbClk bay).done driveSet 4)) ∧
    (∀ a, (s.bayOf bay).state ≠ 3 → exec (.sidebandTransfer par a rd) s = .next ((s.accepted driveSet driveSet 96 par).done driveSet 2))) ∧
  (∀ (s : State) (bay q : Nat) (io : FwDriveIo), s.isUp → bay < 24 → (q = 0 ∨ 116 ≤ q ∧ q ≤ 127) → (s.bayOf bay).drive.state = 5 →
    exec (.firmwareDriveIo bay q io) s = .next { driveEnqueue bay { op := io.op, lba := io.lba, n := io.nblocks, data := io.data, cdw := io.cdw, consumer := .firmware, queue := q } s with pending := s.pending })

/-- Roles, the taking over, the fence and the withdrawal take effect. It rests on 12_standby_takeover.md: Roles; 12_standby_takeover.md: Takeover; 12_standby_takeover.md: The fence and the role pins; 12_standby_takeover.md: Return of a repaired or replaced unit; 12_standby_takeover.md: Objects. -/
def Obligations.RolesAndTheFenceTakeEffect : Prop :=
  (∀ (s : State) (par : Bytes), s.takes standbySet 8 par →
    (s.stby.role = 0 → exec (.enterStandby par) s = .next ({ (s.accepted standbySet standbySet 8 par) with stby.role := 1 }.done standbySet 0)) ∧
    (s.stby.role ≠ 0 → exec (.enterStandby par) s = .next ((s.accepted standbySet standbySet 8 par).done standbySet 2)) ∧
    (s.stby.role = 1 → s.stby.fenceIn = false → exec (.takeOver par) s = .next { (s.accepted standbySet standbySet 8 par) with stby.pend := some 2 }) ∧
    ((s.stby.role ≠ 1 ∨ s.stby.fenceIn = true) → exec (.takeOver par) s = .next ((s.accepted standbySet standbySet 8 par).done standbySet 2)) ∧
    (s.stby.role = 3 → s.stby.peerFail = false → s.stby.beatSeen = false → exec (.fenceRelease par) s = .next ({ (s.accepted standbySet standbySet 8 par) with stby.fenceOut := false }.done standbySet 0)) ∧
    ((s.stby.role ≠ 3 ∨ s.stby.peerFail = true ∨ s.stby.beatSeen = true) → exec (.fenceRelease par) s = .next ((s.accepted standbySet standbySet 8 par).done standbySet 2)) ∧
    (s.stby.role = 3 → exec (.resign true par) s = .next ({ (s.accepted standbySet standbySet 8 par) with stby.pend := some 4 }.done standbySet 0) ∧ exec (.resign false par) s = .next ((s.accepted standbySet standbySet 8 par).done standbySet 4)) ∧
    (∀ g, s.stby.role ≠ 3 → exec (.resign g par) s = .next ((s.accepted standbySet standbySet 8 par).done standbySet 2))) ∧
  (∀ s : State, s.stby.pend = some 2 → (standbyPend s).stby.role = 2 ∧ (standbyPend s).stby.pend = none ∧
    (standbyPend s).stby.take = some { start := s.bell.edges, bays := (List.range' 0 24).filter (fun n => (s.bayOf n).seated) }) ∧
  (∀ s : State, s.stby.pend = some 4 → s.stby.role = 3 → (standbyPend s).stby.role = 1 ∧ (standbyPend s).stby.pend = none ∧ (standbyPend s).stby.stopped = true ∧ (standbyPend s).stby.activeOut = false) ∧
  (∀ (s : State) (t : TakeOver), s.isUp → s.stby.take = some t → t.waitEnd = none →
    ((∀ n ∈ t.bays, (s.bayOf n).state = 3) → exec .handoverWaitEnd s = .next { s with stby.take := some { t with waitEnd := some s.bell.edges } }) ∧
    ((∃ n ∈ t.bays, (s.bayOf n).state ≠ 3) → t.start + s.objN 0x540009 48829 ≤ s.bell.edges →
      exec .handoverWaitEnd s = .next ({ s with stby.take := some { t with waitEnd := some s.bell.edges } }.fault 165 0))) ∧
  (∀ (s : State) (t : TakeOver) (e : Nat), s.isUp → s.stby.take = some t → t.waitEnd = some e → e + s.objN 0x54000A 64 ≤ s.bell.edges → s.stby.fenceIn = false → s.stby.withdrawal = none → s.stby.role = 2 →
    exec .fenceStaggerExpiry s = .next ({ s with stby.take := none, stby.fenceOut := true, stby.role := 3 }.doneNow standbySet 0 (le 8 s.bell.number ++
      le 1 ((List.range' 0 24).filter (fun n => (s.bayOf n).state = 3)).length ++ le 1 ((List.range' 0 24).filter (fun n => (s.bayOf n).seated && (s.bayOf n).state ≠ 3)).length))) ∧
  (∀ (s u : State), s.isUp → s.stby.fenceIn = false →
    u = (List.range' 0 24).foldl (fun s n => (s.onBay n (fun b => { b with gate := false, auxGate := false, perst := false })).setObj (bayKey n 0x01) [0])
      ((List.range' 0 144).foldl (fun s p => portSilent p (portGoesDown p s)) { s with stby.fenceIn := true }) →
    exec .fenceInAssert s = .next { (withdrawFor 1 (if u.stby.role = 2 ∨ u.stby.pend = some 2 then u.fault 164 0 else if u.stby.role = 3 then u.fault 163 0 else u)) with pending := s.pending }) ∧
  (∀ (s : State) (c : Nat), (withdrawFor c s).stby.role = s.stby.role ∧ (s.stby.role = 2 ∨ s.stby.role = 3 ∨ s.stby.pend = some 2 → s.stby.withdrawal = none → (withdrawFor c s).stby.withdrawal = some (c, s.bell.edges)) ∧
    (s.stby.role ≠ 2 → s.stby.role ≠ 3 → s.stby.pend ≠ some 2 → withdrawFor c s = s)) ∧
  (∀ s : State, exec .fenceInRelease s = .next { s with stby.fenceIn := false }) ∧
  (∀ s : State, ¬ s.isUp → exec .fenceInAssert s = .next { s with stby.fenceIn := true }) ∧
  (∀ (s : State) (c e : Nat), s.isUp → s.stby.withdrawal = some (c, e) → e < s.bell.edges → Gives .withdraw s (fun t => t.stby.role = 4 ∧ t.stby.cause = c ∧ t.stby.stopped = true ∧ t.stby.withdrawal = none ∧
    t.stby.pend = none ∧ t.stby.take = none ∧ t.stby.activeOut = (c ≠ 1 : Bool) ∧
    (s.stby.take.isSome = true ∨ s.stby.pend = some 2 → (t.res standbySet).ready = true ∧ (t.res standbySet).outcome = (if c = 1 then 3 else 5))))

/-- The beat, the peer's beat, the refresh and the lease take effect. It rests on 12_standby_takeover.md: The fence and the role pins; 12_standby_takeover.md: The lease; 12_standby_takeover.md: Objects. -/
def Obligations.BeatAndLeaseTakeEffect : Prop :=
  (∀ (s : State) (v : Nat), s.isUp →
    exec (.hbRefresh 1) s = .next ({ s with stby.hb := some s.bell.edges }.status 0) ∧
    (v ≠ 1 → exec (.hbRefresh v) s = .next (s.status 4))) ∧
  (∀ (s : State) (b : Nat), s.isUp → s.stby.beat = some b → (∀ e, s.stby.hb = some e → e + s.objN 0x540004 195313 < s.bell.edges) →
    exec .hbHoldExpiry s = .next { s with stby.beat := none, stby.activeOut := false }) ∧
  (∀ (s : State) (b : Nat), s.isUp → s.stby.beat = some b → b + 488 ≤ s.bell.edges → exec .beatToggle s = .next { s with stby.beat := some s.bell.edges, stby.activeOut := !s.stby.activeOut }) ∧
  (∀ (s : State) (l : Bool), s.isUp →
    (l ≠ s.stby.activeIn → exec (.activeInEdge l) s = .next { s with stby.activeIn := l, stby.inEdge := s.bell.edges, stby.inBell := s.bell.number, stby.curHad := true, stby.peerFail := false, stby.silent := false }) ∧
    (l = s.stby.activeIn → exec (.activeInEdge l) s = .next s)) ∧
  (∀ (s : State) (l : Bool), ¬ s.isUp → exec (.activeInEdge l) s = .next { s with stby.activeIn := l }) ∧
  (∀ s : State, s.isUp → (s.stby.windows + 1) * 1024 ≤ s.bell.edges →
    exec .beatWindowEnd s = .next { s with stby.windows := s.stby.windows + 1, stby.beatSeen := s.stby.curHad && s.stby.lastHad, stby.lastHad := s.stby.curHad, stby.curHad := false }) ∧
  (∀ s : State, s.isUp → s.stby.activeIn = true → s.stby.peerFail = false → s.stby.inEdge + 2048 ≤ s.bell.edges → exec .peerFailDetect s = .next ({ s with stby.peerFail := true }.fault 161 0)) ∧
  (∀ s : State, s.isUp → s.stby.role = 1 → s.stby.silent = false → s.stby.peerFail = false → s.stby.inEdge + s.objN 0x540005 488282 ≤ s.bell.edges →
    exec .activeInSilence s = .next ({ s with stby.silent := true }.fault 160 0)) ∧
  (∀ (s : State) (v : Nat), s.isUp →
    (s.stby.role = 3 → (∀ c, s.stby.confirm = some c → c < v) →
      exec (.leaseConfirm v) s = .next ({ s with stby.confirm := some v, stby.deadline := s.bell.number + s.objN 0x540005 488282 - s.objN 0x540006 97657, stby.lapsed := false }.status 0)) ∧
    (s.stby.role ≠ 3 → exec (.leaseConfirm v) s = .next (s.status 5)) ∧ (∀ c, s.stby.role = 3 → s.stby.confirm = some c → v ≤ c → exec (.leaseConfirm v) s = .next (s.status 4))) ∧
  (∀ (s : State) (c : Nat), s.isUp → s.stby.role = 3 → s.stby.confirm = some c → s.stby.lapsed = false → s.stby.deadline ≤ s.bell.number →
    exec .leaseDeadline s = .next (withdrawFor 2 ({ s with stby.lapsed := true }.fault 162 0)))

/-- Link training, configuration requests, BAR4 accesses and the endpoint's resets take effect. It rests on 13_host_endpoint.md: Link; 13_host_endpoint.md: Configuration header; 13_host_endpoint.md: BARs; 13_host_endpoint.md: Resets; 13_host_endpoint.md: Objects. -/
def Obligations.EndpointLinkResetsAndConfigTakeEffect : Prop :=
  (∀ (s t u : State) (speed width : Nat) (flit : Bool), s.isUp → s.domOn 14 = true → s.runs 4 2 = true → s.ep.perst = false → 1 ≤ speed → speed ≤ s.objN 0x700002 6 → width ≤ s.objN 0x700003 16 → widthOk width = true → (speed = 6 → flit = true) →
    t = { s with ep.link := true, ep.speed := speed, ep.width := width, ep.flit := flit, ep.last := some (speed, width) }.count Ev.epTrain 0 →
    u = (if s.ep.last.any (fun l => l.1 != speed || l.2 != width) then (t.epEvent 0).count Ev.epSpeed 0 else t) →
    exec (.epLinkUp speed width flit) s = .next { (if speed < s.objN 0x700002 6 ∨ width < s.objN 0x700003 16 then u.epFault 176 (speed * 256 + width) else u) with pending := s.pending }) ∧
  (∀ (s : State) (v : Nat), s.isUp → exec (.epConfigReadyWrite v) s = .next (if v < 2 then (s.setObj 0x700005 (le 1 v)).status 0 else s.status 4)) ∧
  (∀ (s : State) (wr : Bool) (off o be data : Nat), s.isUp → s.runs 4 2 = true → s.ep.perst = false → s.ep.link = true → o = off % 4096 / 4 * 4 →
    ((s.objN 0x700005 0 = 0 ∨ s.ep.flr.isSome = true) → exec (.epConfigRequest wr off be data) s = .next (s.emit (.cfgCpl 2 0))) ∧
    (s.objN 0x700005 0 ≠ 0 → s.ep.flr = none → exec (.epConfigRequest false off be data) s = .next (s.emit (.cfgCpl 0 (s.cfgRead o))) ∧
      exec (.epConfigRequest true off be data) s = .next { (cfgWrite o be data s).emit (.cfgCpl 0 0) with pending := s.pending })) ∧
  (∀ (s : State) (o be data m : Nat), o ≠ 0x44 → o ≠ 0x88 → cfgClear o = 0 → s.cfgMask o ≠ 0 → m = s.cfgMask o &&& byteMask be →
    (cfgWrite o be data s).cfgVal o = s.cfgVal o - (s.cfgVal o &&& m) + (data &&& m) ∧ (∀ p, p ≠ o → (cfgWrite o be data s).cfgVal p = s.cfgVal p)) ∧
  (∀ (s : State) (x : Bar4Access), s.isUp → s.epRuns = true → s.ep.link = true →
    (x.wr = true → x.poisoned = true → exec (.bar4Access x) s = .next { poisonedWrite (s.count Ev.bar4 0) with pending := s.pending }) ∧
    ((x.wr = false ∨ x.poisoned = false) → (s.memSpace = false ∨ s.d3 = true ∨ s.domOn 17 = false ∨ s.domOn 18 = false) →
      exec (.bar4Access x) s = .next { (if x.wr then unsupported true (s.count Ev.bar4 0) else (unsupported false (s.count Ev.bar4 0)).emit (.barCpl 1 false x.ro [])) with pending := s.pending }) ∧
    ((x.wr = false ∨ x.poisoned = false) → s.memSpace = true → s.d3 = false → s.domOn 17 = true → s.domOn 18 = true →
      (s.apertureOk x.wr x.off x.len = false → exec (.bar4Access x) s = .next { (if x.wr then unsupported true ((s.count Ev.bar4 0).count Ev.apRef 0) else (unsupported false ((s.count Ev.bar4 0).count Ev.apRef 0)).emit (.barCpl 1 false x.ro [])) with pending := s.pending }) ∧
      (s.apertureOk x.wr x.off x.len = true → x.wr = true → exec (.bar4Access x) s = .next { bar4Write x.off (padTo x.len x.data) (s.count Ev.bar4 0) with pending := s.pending }) ∧
      (∀ y, s.apertureOk x.wr x.off x.len = true → x.wr = false → y = (s.count Ev.bar4 0).hbmGet (212 + b2n (inStackB x.off)) 0 x.off x.len →
        exec (.bar4Access x) s = .next { y.1.emit (.barCpl 0 y.2.2 x.ro y.2.1) with pending := s.pending }))) ∧
  (∀ (s : State) (k : Bool), s.isUp →
    (s.ep.perst = false → s.domReleased 14 = true → exec (.epFundamentalReset ⟨true, k⟩) s = .next { fundamentalReset { s with ep.perst := true, rst.epClkmode := k } with pending := s.pending }) ∧
    (s.ep.perst = false → s.domReleased 14 = false → exec (.epFundamentalReset ⟨true, k⟩) s = .next { s with ep.perst := true, rst.epClkmode := k }) ∧
    (s.ep.perst = true → exec (.epFundamentalReset ⟨true, k⟩) s = .next s) ∧
    exec (.epFundamentalReset ⟨false, k⟩) s = .next { s with ep.perst := false }) ∧
  (∀ (s : State) (p : PerstEp), ¬ s.isUp → exec (.epFundamentalReset p) s = .next { s with ep.perst := p.asserted }) ∧
  (∀ (s r : State), s.isUp → s.runs 4 2 = true → s.ep.perst = false → s.ep.link = true → r = resetFunction s →
    exec .epHotReset s = .next { ({ r with ep.link := false, ep.speed := 0, ep.width := 0, ep.flit := false, ep.hot := (r.ep.hot + 1) % 2 ^ 32, ep.flr := r.ep.flr.map (fun _ => r.bell.edges) }.epFault 180 1) with pending := s.pending } ∧
    exec .epFlr s = .next { ({ r with ep.flr := some r.bell.edges, ep.flrs := (r.ep.flrs + 1) % 2 ^ 32 }.epFault 180 2) with pending := s.pending }) ∧
  (∀ (s : State) (e : Nat), s.isUp → s.runs 4 2 = true → s.ep.perst = false → s.ep.flr = some e → exec .epFlrComplete s = .next { s with ep.flr := none }) ∧
  (∀ s : State, (abandonMaster s).ep.tags = [] ∧ (abandonMaster s).ep.reads = [] ∧ (abandonMaster s).ep.writes = [] ∧
    (abandonMaster s).ep.quarantine = s.ep.tags.foldl (fun t u => tset t u.1 (s.bell.edges + 2 * s.cplTimeout)) s.ep.quarantine ∧
    (resetRings s).cor.reset = some s.bell.edges ∧
    (resetFunction s).ep.cfg = (resetRings (abandonMaster s)).ep.cfg.filter (fun c => cfgSticky c.1) ∧ (resetFunction s).ep.vectors = [] ∧ (resetFunction s).ep.msix = [] ∧
    (resetFunction s).ep.ev = 8 ∧ (resetFunction s).ep.evEnable = 0 ∧ (resetFunction s).cor.enable = false ∧ (resetFunction s).dict.dwBusy = false)

/-- The reset record, pending interrupts and the completions, timeouts and tags of master reads take effect. It rests on 13_host_endpoint.md: Interrupts; 13_host_endpoint.md: Reads as master; 13_host_endpoint.md: Resets; 13_host_endpoint.md: Error reporting. -/
def Obligations.EndpointMessagesAndReadsTakeEffect : Prop :=
  (∀ (s r : State) (e : Nat), s.isUp → s.cor.reset = some e → e < s.bell.edges → (∀ q ∈ s.cor.rings, ∀ j ∈ q.2.jobs, ∃ n, j.ended = some n ∧ n < s.bell.edges) →
    r = (s.cor.rings.filter (fun r => r.2.state ≠ 0)).foldl (fun s r => rrRing r.1 s) s →
    exec .resetRecordWrite s = .next { (rrWrite { r with cor.rings := [], cor.reset := none }).epEvent 3 with pending := s.pending }) ∧
  (∀ (s : State) (v : Nat), s.isUp → s.ep.vectors.contains v = true → s.vectorOpen v = true →
    exec (.interruptPendingSend v) s = .next { sendVector v { s with ep.vectors := s.ep.vectors.filter (fun x => s.vectorAs x ≠ s.vectorAs v) } with pending := s.pending }) ∧
  (∀ (s : State) (tag : Nat) (t : TagUse), s.isUp → tget s.ep.tags tag = some t → t.edge + s.cplTimeout ≤ s.bell.edges →
    exec (.epCompletionTimeout tag) s = .next { readFailed t.use 1 ((aerUnc 13 14 false ({ s with ep.tags := terase s.ep.tags tag, ep.quarantine := tset s.ep.quarantine tag (s.bell.edges + 2 * s.cplTimeout) }.count Ev.epTo 0)).epFault 177 tag) with pending := s.pending }) ∧
  (∀ (s : State) (tag e : Nat), s.isUp → tget s.ep.quarantine tag = some e → e ≤ s.bell.edges → exec (.tagQuarantineEnd tag) s = .next { s with ep.quarantine := terase s.ep.quarantine tag }) ∧
  (∀ (s : State) (tag : Nat) (c : Completion), s.isUp → s.runs 4 2 = true → s.ep.perst = false → s.ep.link = true → tget s.ep.tags tag = none →
    exec (.epCompletionReceive tag c) s = .next { settle ((aerUnc 14 16 true (s.count Ev.epUnexp 0)).epFault 178 0) with pending := s.pending }) ∧
  (∀ (s : State) (tag : Nat) (c : Completion) (t : TagUse), s.isUp → s.runs 4 2 = true → s.ep.perst = false → s.ep.link = true → tget s.ep.tags tag = some t → s.bell.edges - t.edge < s.cplTimeout →
    (c.status ≠ 0 → c.poisoned = false → exec (.epCompletionReceive tag c) s = .next { settle (readFailed t.use 2 (if c.status = 1 then { s with ep.tags := terase s.ep.tags tag }.cfgSet 0x04 0x20000000 else if c.status = 4 then { s with ep.tags := terase s.ep.tags tag }.cfgSet 0x04 0x10000000 else { s with ep.tags := terase s.ep.tags tag })) with pending := s.pending }) ∧
    (c.status = 0 → c.poisoned = true → exec (.epCompletionReceive tag c) s = .next { settle (readFailed t.use 2 (poisonedTlp true { s with ep.tags := terase s.ep.tags tag })) with pending := s.pending }) ∧
    (c.status = 0 → c.poisoned = false → t.len ≤ t.data.length + c.data.length →
      exec (.epCompletionReceive tag c) s = .next { settle (readDone t.use ((t.data ++ c.data).take t.len) { s with ep.tags := terase s.ep.tags tag }) with pending := s.pending }) ∧
    (c.status = 0 → c.poisoned = false → t.data.length + c.data.length < t.len →
      exec (.epCompletionReceive tag c) s = .next { settle { s with ep.tags := tset s.ep.tags tag { t with data := t.data ++ c.data } } with pending := s.pending }))

/-- Volume jobs and dictionary exchanges of the Corolo rings take effect. It rests on 14_corolo_queues.md: Entries and jobs; 14_corolo_queues.md: Rings and indices; 14_corolo_queues.md: Doorbells and fetching. -/
def Obligations.VolumeJobsAndExchangesTakeEffect : Prop :=
  (∀ (s : State) (q op : Nat) (c : Instr) (msg : Bytes) (es : List Bytes) (f : Bool) (x : State × Nat), s.isUp →
    (c, op) ∈ [(Instr.coroloRead q, 1), (Instr.coroloWrite q, 2), (Instr.coroloFlush q, 3), (Instr.coroloDeallocate q, 4), (Instr.dictionaryExchange q msg, 0x20)] →
    s.nextJob q = some (es, f) → fld (es.getD 0 []) 0 1 = op → s.jobTurn q = true → x = takeJob q es s →
    (f = false → exec c s = .next { settle (failUnknown 64 q (endJob q x.2 (some (1, 2, 0)) x.1)) with pending := s.pending }) ∧
    (f = true → x.1.opAllowed q op = false → exec c s = .next { settle (failUnknown 64 q (endJob q x.2 (some (1, 6, 0)) x.1)) with pending := s.pending })) ∧
  (∀ (s : State) (q op kind : Nat) (c : Instr) (es : List Bytes) (x : State × Nat) (r : Nat × Nat × Nat), s.isUp →
    (c, op, kind) ∈ [(Instr.coroloRead q, 1, 0), (Instr.coroloWrite q, 2, 2), (Instr.coroloFlush q, 3, 5), (Instr.coroloDeallocate q, 4, 4)] →
    s.nextJob q = some (es, true) → fld (es.getD 0 []) 0 1 = op → s.jobTurn q = true → x = takeJob q es s → x.1.opAllowed q op = true → x.1.jobFails (x.1.ring q).assoc kind es = some r →
    exec c s = .next { settle (failUnknown 64 q (endJob q x.2 (some r) (if r.2.1 % 32768 = 0x83 then x.1.count Ev.hostConf 0 else x.1))) with pending := s.pending }) ∧
  (∀ (s : State) (q : Nat) (es : List Bytes) (e : Bytes) (x y : State × Nat), s.isUp → s.nextJob q = some (es, true) → e = es.getD 0 [] → s.jobTurn q = true → x = takeJob q es s →
    (fld e 0 1 = 1 → x.1.opAllowed q 1 = true → x.1.jobFails (x.1.ring q).assoc 0 es = none → y = jobCommand q x.2 0 e x.1 →
      exec (.coroloRead q) s = .next { settle (failUnknown 64 q (serveBlocks y.2 (jobNlb e) (countNs y.2 Ev.nsRead 1 y.1))) with pending := s.pending }) ∧
    (fld e 0 1 = 2 → x.1.opAllowed q 2 = true → x.1.jobFails (x.1.ring q).assoc 2 es = none → y = jobCommand q x.2 2 e x.1 →
      exec (.coroloWrite q) s = .next { settle (failUnknown 64 q (jobReads q x.2 (segsOf es) (makeChunks y.2 [(jobSlba e, jobNlb e)] (countNs y.2 Ev.nsWrBytes (jobNlb e * 4096) (countNs y.2 Ev.nsWrCmd 1 (y.1.onCmd y.2 (fun c => { c with phase := .fetching }))))))) with pending := s.pending }) ∧
    (fld e 0 1 = 3 → x.1.opAllowed q 3 = true → x.1.jobFails (x.1.ring q).assoc 5 es = none →
      exec (.coroloFlush q) s = .next { settle (failUnknown 64 q x.1) with pending := s.pending }) ∧
    (fld e 0 1 = 4 → x.1.opAllowed q 4 = true → x.1.jobFails (x.1.ring q).assoc 4 es = none → y = jobCommand q x.2 4 e x.1 →
      exec (.coroloDeallocate q) s = .next { settle (failUnknown 64 q (makeChunks y.2 [(jobSlba e, jobNlb e)] (countNs y.2 Ev.nsWrCmd 1 (y.1.onCmd y.2 (fun c => { c with bufReady := true }))))) with pending := s.pending }) ∧
    (∀ msg, fld e 0 1 = 0x20 → x.1.opAllowed q 0x20 = true →
      exec (.dictionaryExchange q msg) s = .next { settle (failUnknown 64 q (if segFails 6 es ≠ 0 then endJob q x.2 (some (1, segFails 6 es, 0)) x.1 else jobReads q x.2 ((segsOf es).take 1) x.1)) with pending := s.pending })) ∧
  (∀ (s : State) (q : Nat) (es : List Bytes), (takeJob q es s).2 = (s.ring q).started)

/-- The admin ring's jobs, its enable and disable, and the reset record's clear take effect. It rests on 14_corolo_queues.md: The admin ring; 14_corolo_queues.md: Disable, reset and replay. -/
def Obligations.AdminJobsTakeEffect : Prop :=
  (∀ (s : State) (op : Nat) (c : Instr) (es : List Bytes) (e : Bytes) (q : Nat) (x : State × Nat), s.isUp →
    (c, op) ∈ [(Instr.ringCreate, 0x10), (Instr.ringDisable, 0x11), (Instr.ringDestroy, 0x12), (Instr.ringSetModeration, 0x13), (Instr.ringEnable, 0x14)] →
    s.nextJob 0 = some (es, true) → e = es.getD 0 [] → fld e 0 1 = op → s.jobTurn 0 = true → x = takeJob 0 es s → q = fld e 8 2 → es.length = 1 →
    ((q = 0 ∨ 4096 ≤ q) → exec c s = .next { failUnknown 64 0 (endJob 0 x.2 (some (4, 1, 0)) x.1) with pending := s.pending }) ∧
    (q ≠ 0 → q < 4096 → ((x.1.ring q).change ≠ none ∨ op = 0x10 ∧ (x.1.ring q).state ≠ 0 ∨ op = 0x11 ∧ (x.1.ring q).state ≠ 1 ∧ (x.1.ring q).state ≠ 2 ∨
        (op = 0x12 ∨ op = 0x13) ∧ (x.1.ring q).state = 0 ∨ op = 0x14 ∧ (x.1.ring q).state ≠ 4) →
      exec c s = .next { failUnknown 64 0 (endJob 0 x.2 (some (4, 2, 0)) x.1) with pending := s.pending })) ∧
  (∀ (s : State) (es : List Bytes) (e : Bytes) (q : Nat) (x : State × Nat) (t : Ring → State), s.isUp → s.nextJob 0 = some (es, true) → e = es.getD 0 [] → s.jobTurn 0 = true → x = takeJob 0 es s →
    q = fld e 8 2 → es.length = 1 → q ≠ 0 → q < 4096 → (x.1.ring q).change = none → t = (fun r => x.1.onRing q (fun _ => r)) →
    (fld e 0 1 = 0x10 → (x.1.ring q).state = 0 → fld e 16 8 % 64 = 0 → pow2In 16 65536 (fld e 24 4) = true → fld e 32 8 % 32 = 0 → pow2In 16 65536 (fld e 28 4) = true → fld e 40 8 % 8 = 0 →
      x.1.coroloAssocOk (fld e 12 2) = true → fld e 14 2 < 4096 → ((fld e 10 1).testBit 0 = true → x.1.objN 0x700022 1 ≠ 0) →
      exec .ringCreate s = .next { failUnknown 64 0 { x.1.onRing q (fun _ => { mgmt := (fld e 10 1).testBit 0, assoc := fld e 12 2, vector := fld e 14 2, base := fld e 16 8, size := fld e 24 4, excBase := fld e 32 8, excSize := fld e 28 4, headAddr := fld e 40 8, modCount := fld e 52 2, modTime := fld e 56 4, push := (x.1.ring q).push, change := some (.run (fld e 48 4)) }) with dict.requesters := x.1.dict.requesters.filter (fun y => y.path ≠ 2 ∨ y.addr ≠ q) } with pending := s.pending }) ∧
    (fld e 0 1 = 0x11 → (x.1.ring q).state = 1 ∨ (x.1.ring q).state = 2 →
      exec .ringDisable s = .next { failUnknown 64 0 (x.1.onRing q (fun r => { r with change := some .drain })) with pending := s.pending }) ∧
    (fld e 0 1 = 0x12 → (x.1.ring q).state = 4 → exec .ringDestroy s = .next { failUnknown 64 0 (endJob 0 x.2 none { x.1 with cor.rings := terase x.1.cor.rings q }) with pending := s.pending }) ∧
    (fld e 0 1 = 0x12 → (x.1.ring q).state ≠ 0 → (x.1.ring q).state ≠ 4 →
      exec .ringDestroy s = .next { failUnknown 64 0 (x.1.onRing q (fun r => { r with change := if r.state = 3 then none else some .drain, destroy := true })) with pending := s.pending }) ∧
    (fld e 0 1 = 0x13 → (x.1.ring q).state ≠ 0 → exec .ringSetModeration s = .next { failUnknown 64 0 (x.1.onRing q (fun r => { r with change := some (.moderate (fld e 52 2) (fld e 56 4)) })) with pending := s.pending }) ∧
    (fld e 0 1 = 0x14 → (x.1.ring q).state = 4 → exec .ringEnable s = .next { failUnknown 64 0 (x.1.onRing q (fun r => { r with change := some (.run (fld e 48 4)) })) with pending := s.pending })) ∧
  (∀ (s t : State), s.isUp → s.barOpen = true → t = s.count Ev.bar0 0 →
    ((t.ring 0).state = 0 ∨ (t.ring 0).state = 4 → t.cor.setupOk = true → t.cor.reset = none →
      exec .adminRingEnable s = .next { ({ t with cor.enable := true }.onRing 0 (fun r => { r with base := t.cor.base, size := t.cor.size, headAddr := t.cor.headAddr, excBase := t.cor.excBase, excSize := t.cor.excSize, vector := t.cor.vector, modCount := t.cor.modCount, modTime := t.cor.modTime, mgmt := true, change := some (.run t.cor.start) })) with pending := s.pending }) ∧
    ((t.ring 0).state = 1 ∨ (t.ring 0).state = 2 → exec .adminRingDisable s = .next { ({ t with cor.enable := false }.onRing 0 (fun r => { r with change := some .drain })) with pending := s.pending }) ∧
    exec .resetRecordClear s = .next { rrWrite { t with cor.rrList := [], cor.rrOverflow := t.cor.rrNew } with pending := s.pending })

/-- Doorbells, entry fetches, head publications, moderation and the end of a drain take effect. It rests on 14_corolo_queues.md: Doorbells and fetching; 14_corolo_queues.md: Head, exceptions and interrupts; 14_corolo_queues.md: Disable, reset and replay. -/
def Obligations.DoorbellsAndHeadsTakeEffect : Prop :=
  (∀ (s t : State) (q v d : Nat) (r : Ring), s.isUp → q < 4096 → s.barOpen = true → t = (s.count Ev.bar2 0).count Ev.tailDb q → r = s.ring q → r.state = 1 → s.ep.dead = false → d = sub32 v r.tail →
    (d = 0 → exec (.tailDoorbell q v) s = .next { t with pending := s.pending }) ∧
    (2 ^ 31 ≤ d → exec (.tailDoorbell q v) s = .next { stopRing q 2 t with pending := s.pending }) ∧
    (0 < d → d < 2 ^ 31 → r.size < sub32 v r.head → exec (.tailDoorbell q v) s = .next { stopRing q 1 t with pending := s.pending }) ∧
    (0 < d → d < 2 ^ 31 → sub32 v r.head ≤ r.size → exec (.tailDoorbell q v) s = .next { t.onRing q (fun r => { r with tail := v % 2 ^ 32 }) with pending := s.pending })) ∧
  (∀ (s t : State) (q v d : Nat) (r : Ring), s.isUp → q < 4096 → s.barOpen = true → t = (s.count Ev.bar2 0).count Ev.pushDb q → r = s.ring q → r.state = 1 → s.ep.dead = false → d = sub32 v r.tail →
    (d = 0 → exec (.pushDoorbell q v) s = .next { t with pending := s.pending }) ∧
    (2 ^ 31 ≤ d → exec (.pushDoorbell q v) s = .next { stopRing q 2 t with pending := s.pending }) ∧
    (0 < d → d < 2 ^ 31 → r.size < sub32 v r.head → exec (.pushDoorbell q v) s = .next { stopRing q 1 t with pending := s.pending }) ∧
    (0 < d → d < 2 ^ 31 → sub32 v r.head ≤ r.size → exec (.pushDoorbell q v) s = .next { (t.onRing q (fun x => { x with tail := v % 2 ^ 32, pushed := (List.range' 0 (min 4 d)).foldl (fun p i => tset p (add32 r.tail i) (sub r.push (64 * i) 64)) x.pushed })).count Ev.pushed q (min 4 d) with pending := s.pending })) ∧
  (∀ (s : State) (q v : Nat), s.isUp → q < 4096 → s.barOpen = true →
    ((s.ring q).state = 1 → s.ep.dead = false → exec (.excConsDoorbell q v) s = .next { (s.count Ev.bar2 0).onRing q (fun r => { r with excCons := v % 2 ^ 32 }) with pending := s.pending }) ∧
    ((s.ring q).state ≠ 1 ∨ s.ep.dead = true → exec (.excConsDoorbell q v) s = .next { (s.count Ev.bar2 0).count Ev.dbIgn q with pending := s.pending } ∧
      exec (.tailDoorbell q v) s = .next { ((s.count Ev.bar2 0).count Ev.tailDb q).count Ev.dbIgn q with pending := s.pending } ∧
      exec (.pushDoorbell q v) s = .next { ((s.count Ev.bar2 0).count Ev.pushDb q).count Ev.dbIgn q with pending := s.pending })) ∧
  (∀ (s t : State) (q tag : Nat) (u : TagUse) (es : List Bytes) (b : Bytes), s.isUp → b = u.data ++ es.flatMap (padTo 64) →
    s.ep.tags.find? (fun t => t.2.use.entriesOf q) = some (tag, u) → tget s.ep.tags tag = some u → s.runs 4 2 = true → s.ep.perst = false → s.ep.link = true → s.bell.edges - u.edge < s.cplTimeout → t = { s with ep.tags := terase s.ep.tags tag } →
    (u.len ≤ b.length → exec (.entryFetchComplete q es 0) s = .next { settle (readDone u.use (b.take u.len) t) with pending := s.pending }) ∧
    (b.length < u.len → exec (.entryFetchComplete q es 0) s = .next { settle { s with ep.tags := tset s.ep.tags tag { u with data := b } } with pending := s.pending }) ∧
    exec (.entryFetchComplete q es 1) s = .next { settle (readFailed u.use 2 (t.cfgSet 0x04 0x20000000)) with pending := s.pending } ∧
    exec (.entryFetchComplete q es 4) s = .next { settle (readFailed u.use 2 (t.cfgSet 0x04 0x10000000)) with pending := s.pending } ∧
    exec (.entryFetchComplete q es 8) s = .next { settle (readFailed u.use 2 (poisonedTlp true t)) with pending := s.pending }) ∧
  (∀ (s : State) (q : Nat) (j : Job) (l : List Job), s.isUp → s.muted = false → s.epSends = true → s.ep.writes = [] → 1 ≤ (s.ring q).state → (s.ring q).state ≤ 3 → (s.ring q).jobs = j :: l → Job.passable s.bell.edges j = true →
    exec (.headPublish q) s = .next { publish q s with pending := s.pending }) ∧
  (∀ (s : State) (q : Nat), s.isUp → s.muted = false → (s.ring q).modTime ≠ 0 → (s.ring q).passed ≠ 0 → (s.ring q).passEdge + (s.ring q).modTime ≤ s.bell.edges →
    exec (.modTimeExpiry q) s = .next { ringMessage q s with pending := s.pending }) ∧
  (∀ (s a b d : State) (q : Nat) (r : Ring), s.isUp → r = s.ring q → r.state = 3 → s.muted = false → s.runs 4 2 = true → (∀ j ∈ r.jobs, ∃ n, j.ended = some n ∧ n < s.bell.edges) →
    a = publish q ((rrWrite (rrRing q s)).onRing q (fun r => { r with jobs := r.jobs.map (fun j => { j with recorded := true }) })) →
    b = (if r.jobs.any (fun j => j.fail.isSome && !j.recorded) then a.epEvent 3 else a).onRing q (fun r => { r with state := 4 }) →
    d = (if r.destroy then { b with cor.rings := terase b.cor.rings q } else b) →
    exec (.ringDrainComplete q) s = .next { (if q = 0 then d else endAdmin [0x11, 0x12] d) with pending := s.pending })

/-- The fault collector's objects, its halt fences, and recovery of sources and regions take effect. It rests on 16_faults_and_memory_protection.md: Sources and severities; 16_faults_and_memory_protection.md: Actions; 16_faults_and_memory_protection.md: Recovery; 16_faults_and_memory_protection.md: Injection. -/
def Obligations.FaultObjectsAndRecoveryTakeEffect : Prop :=
  (∀ (s : State) (j : Nat) (v : Bytes), s.isUp → j < 16 →
    (v.length ≤ 32 → (∀ i < 32, fld (padTo 32 v) i 1 % 8 < 5) → exec (.sourceCfgWrite j v) s = .next
      (((s.setObj (0x780040 + j) ((List.range' 0 32).map (fun i => if (defaultSeverity (32 * j + i)).isSome then (padTo 32 v).getD i 0 &&& 0x87#8 else 0#8))).persist).status 0)) ∧
    (v.length ≤ 32 → (∃ i < 32, 5 ≤ fld (padTo 32 v) i 1 % 8) → exec (.sourceCfgWrite j v) s = .next (s.status 4)) ∧
    (32 < v.length → exec (.sourceCfgWrite j v) s = .next (s.status 3))) ∧
  (∀ (s : State) (sev v w : Nat), s.isUp → sev < 5 → w = v % 32 / 2 * 2 + 1 →
    (2 ≤ sev ∨ w < 4 → exec (.severityActionsWrite sev v) s = .next (((s.setObj (0x780010 + sev) (le 4 w)).persist).status 0)) ∧
    (sev < 2 → 4 ≤ w → exec (.severityActionsWrite sev v) s = .next (s.status 4))) ∧
  (∀ (s : State) (par : Bytes), s.isUp → par.length ≤ 10 →
    ((defaultSeverity (fld par 0 2)).isSome = true → exec (.faultInject par) s = .next
      { (((s.raise { source := fld par 0 2, detail := fld par 2 8, injected := true }).count Ev.inject 0).status 0) with pending := s.pending }) ∧
    (defaultSeverity (fld par 0 2) = none → exec (.faultInject par) s = .next (s.status 4))) ∧
  (∀ (s : State) (v : Nat), s.isUp →
    (v < 2 → exec (.faultNHoldWrite v) s = .next ((s.setObj 0x780003 (le 1 v)).status 0)) ∧ (2 ≤ v → exec (.faultNHoldWrite v) s = .next (s.status 4)) ∧
    exec (.firstFaultRearm 1) s = .next ({ s with flt.firstFault := none }.status 0) ∧ (v ≠ 1 → exec (.firstFaultRearm v) s = .next (s.status 4))) ∧
  (∀ (s : State) (e : Nat), s.isUp → s.flt.haltEdge = some e → e < s.bell.edges →
    exec .haltFence s = .next { haltRegions.foldl (fun s r => faultFence r.1 r.2 s.bell.edges true s) { s with flt.haltEdge := none } with pending := s.pending }) ∧
  (∀ d r, (d, r) ∈ haltRegions ↔ d < 4 ∧ r < 5 ∨ d = 4 ∧ r < 7 ∧ r ≠ 2) ∧
  (∀ (s : State) (e : Nat), s.isUp → s.flt.pulseEdge = some e → e + 10 ≤ s.bell.edges → exec .faultNPulseEnd s = .next { s with flt.pulseEdge := none }) ∧
  (∀ (s : State) (src : Nat) (x : SourceStatus), s.isUp → x = s.source src → x.active = 1 → x.lastEdge + s.objN 0x780002 1048576 < s.bell.edges →
    exec (.sourceRecovery src) s = .next { s with flt.sources := tset s.flt.sources src { x with active := 0, recoveries := (x.recoveries + 1) % 2 ^ 32 } }) ∧
  (∀ (s t : State) (d r : Nat) (f : FaultFence), s.isUp → tget s.flt.fences (regionKey d r) = some f → f.permanent = false → f.lastEdge + s.objN 0x780002 1048576 < s.bell.edges →
    t = { s with flt.fences := terase s.flt.fences (regionKey d r) }.count Ev.fncRel 0 →
    exec (.faultFenceRelease d r) s = .next { (if t.fenced d r then t else runMems d r t) with pending := s.pending })

/-- mp_command opcodes, the end of a fill, write-backs of corrected words and bucket leaks take effect. It rests on 16_faults_and_memory_protection.md: Memory instances; 16_faults_and_memory_protection.md: Writing before reading; 16_faults_and_memory_protection.md: Checker test; 16_faults_and_memory_protection.md: Correctable and uncorrectable errors; 16_faults_and_memory_protection.md: Objects. -/
def Obligations.MemoryFillsTestsAndErrorsTakeEffect : Prop :=
  (∀ (s t : State) (par p : Bytes), s.takes mpSet 40 par → p = padTo 40 par → t = s.accepted mpSet mpSet 40 par →
    (fld p 2 1 < regionCount (fld p 1 1) → s.cmdFenced (fld p 1 1) (fld p 2 1) = true →
      exec (.regionFill par) s = .next { t with mp.fill := some { hbm := false, die := fld p 1 1, region := fld p 2 1, base := 0, len := 0, pattern := fld p 8 8, edge := s.bell.edges } }) ∧
    (regionCount (fld p 1 1) ≤ fld p 2 1 → exec (.regionFill par) s = .next (t.done mpSet 1)) ∧
    (fld p 2 1 < regionCount (fld p 1 1) → s.cmdFenced (fld p 1 1) (fld p 2 1) = false → exec (.regionFill par) s = .next (t.done mpSet 2)) ∧
    (fld p 16 8 % 4096 = 0 → fld p 24 8 % 4096 = 0 → fld p 16 8 + fld p 24 8 ≤ hbmSize →
      exec (.hbmFill par) s = .next { t with mp.fill := some { hbm := true, die := 4, region := 7, base := fld p 16 8, len := fld p 24 8, pattern := fld p 8 8, edge := s.bell.edges } }) ∧
    ((fld p 16 8 % 4096 ≠ 0 ∨ fld p 24 8 % 4096 ≠ 0 ∨ hbmSize < fld p 16 8 + fld p 24 8) → exec (.hbmFill par) s = .next (t.done mpSet 1)) ∧
    ((memOf (fld p 2 2)).isSome = true → exec (.instanceQuery par) s = .next (t.done mpSet 0 (s.instanceBytes (fld p 2 2)))) ∧
    (memOf (fld p 2 2) = none → exec (.instanceQuery par) s = .next (t.done mpSet 1) ∧ exec (.testWrite par) s = .next (t.done mpSet 1) ∧ exec (.testRead par) s = .next (t.done mpSet 1))) ∧
  (∀ (s t : State) (par p : Bytes) (i a : Nat) (m : MemDesc), s.takes mpSet 40 par → p = padTo 40 par → t = s.accepted mpSet mpSet 40 par → i = fld p 2 2 → a = fld p 8 8 → memOf i = some m →
    (m.bytes ≤ a * 8 → exec (.testWrite par) s = .next (t.done mpSet 1) ∧ exec (.testRead par) s = .next (t.done mpSet 1)) ∧
    (a * 8 < m.bytes → isStack i = false → s.cmdFenced (i / 256) m.region = false → exec (.testWrite par) s = .next (t.done mpSet 2) ∧ exec (.testRead par) s = .next (t.done mpSet 2)) ∧
    (a * 8 < m.bytes → isStack i = false → s.cmdFenced (i / 256) m.region = true →
      exec (.testWrite par) s = .next ((t.onMem i (fun x => { x with words := tset x.words a (fld p 16 8, fld p 24 5 % (if m.wide then 256 else 2 ^ 40)) })).done mpSet 0) ∧
      (∀ x d c v, storedWord i m a t = (x, d, c, v) →
        exec (.testRead par) s = .next { x.done mpSet 0 (le 8 d ++ le 5 c ++ le 5 (Config.eccCheck m.wide d c).1 ++ le 1 (if v then (Config.eccCheck m.wide d c).2 else 3)) with pending := s.pending })) ∧
    (a * 8 < m.bytes → isStack i = true →
      (∀ x, x = stackByte i a → exec (.testWrite par) s = .next
        ({ t with mem := ((t.mem.write x (sub p 16 8)).markPages (x / 4096) 1).setCheck (x / 8) (fld p 24 5 % (if m.wide then 256 else 2 ^ 40)) }.done mpSet 0)) ∧
      (∀ x d c, x = stackByte i a → d = ofLe (s.mem.read x 8) → c = (tget s.mem.checks (x / 8)).getD (Config.eccEncode true d) →
        exec (.testRead par) s = .next (t.done mpSet 0 (le 8 d ++ le 5 c ++ le 5 (Config.eccCheck m.wide d c).1 ++ le 1 (if s.mem.pageWritten x then (Config.eccCheck m.wide d c).2 else 3)))))) ∧
  (∀ (s t : State) (f : FillRun), s.isUp → s.mp.fill = some f → f.bells ≤ s.since f.edge + 1 → t = { s with mp.fill := none } →
    exec .fillComplete s = .next { (fillWords f t).1.doneNow mpSet 0 (le 8 (fillWords f t).2) with pending := s.pending } ∧
    (f.hbm = true → (fillWords f t).2 = f.len ∧ (s.domReleased 17 = true → s.domReleased 18 = true → (fillWords f t).1.mem = (s.mem.lay f.base f.len (.word f.pattern)).markPages (f.base / 4096) (f.len / 4096)))) ∧
  (∀ (s t : State) (i a : Nat), s.isUp → (s.memInst i).writeBack.contains a = true → t = (s.onMem i (fun m => { m with writeBack := m.writeBack.filter (· ≠ a) })).count Ev.mWb i →
    (isStack i = false → exec (.correctedWriteback i a) s = .next { t with pending := s.pending }) ∧
    (∀ c, isStack i = true → tget s.mem.checks (stackByte i a / 8) = some c →
      exec (.correctedWriteback i a) s = .next { t.hbmPut (stackByte i a) (le 8 (Config.eccFix (ofLe (s.mem.read (stackByte i a) 8)) c)) with pending := s.pending })) ∧
  (∀ (s : State) (i : Nat), s.isUp → 0 < s.bell.edges → (s.memInst i).leakEdge ≠ s.bell.edges → s.bell.prev % s.objN 0x790002 976563 = 0 →
    exec (.bucketLeak i) s = .next (s.onMem i (fun m => { m with bucket := m.bucket - 1, leakEdge := s.bell.edges })))

/-- The reset causes, the fuse load, the clocks, the Saddle's release, boot and domain bring-up take effect. It rests on 17_reset_test_dump.md: Reset causes; 17_reset_test_dump.md: Outward resets; 17_reset_test_dump.md: Bring-up; 17_reset_test_dump.md: Objects; 10_cipher_keys_trust.md: Boot verification. -/
def Obligations.ResetAndBringUpTakeEffect : Prop :=
  (∀ (s t : State) (c : Instr) (k : Nat), (c, k) ∈ [(Instr.powerOnDetect, 1), (Instr.porstNAssert, 2), (Instr.resetNAssert, 3)] →
    t = { (if s.rst.phase = .up then resetTaken k s else causeAgain k s) with pending := s.pending } → exec c s = .next t ∧ t.rst.phase = .cause ∧ k ∈ t.rst.holding ∧
      t.rst.deciding = (if s.rst.phase = .up then k else min k s.rst.deciding) ∧ (∀ d < 6, t.hier.clockGood.getD d true = false) ∧ t.rst.fuseStatus = 0) ∧
  (∀ (s : State) (a b f : Bool), s.rst.phase = .cause → exec (.resetCauseEnd a b f) s = .next { s with stby.fenceIn := f, rst := { s.rst with phase := .fuses, holding := [], valid := [], fuseStatus := 0, recorded := [], drvClkmode := a, epClkmode := b } }) ∧
  (∀ s : State, s.rst.phase ≠ .cause → s.rst.stretch = true → exec .resetStretchEnd s = .next { s with rst.stretch := false }) ∧
  (∀ (s t : State) (d : Nat) (r : FuseResult), s.rst.phase = .fuses → d < 6 → d ∉ s.rst.valid → exec (.fuseLoadComplete d r) s = .next t →
    t.rst.valid = putIn d s.rst.valid ∧ t.rst.fuseStatus = s.rst.fuseStatus ||| flagWord [(d, !r.mapOk), (6 + d, !r.trimsOk), (12, d = 4 && !r.identityOk), (13, r.retried)] ∧
    t.rst.phase = (if (putIn d s.rst.valid).length = 6 then .clocks else .fuses) ∧
    t.rst.recorded = s.rst.recorded ++ (([(r.retried, 232), (!r.mapOk, 233), (!r.trimsOk, 234), (d = 4 && !r.identityOk, 134)].filter (·.1)).map (fun x => { source := x.2, die := d, region := houseRegion d }))) ∧
  (∀ (s : State) (d : Nat) (r : FuseResult), ∃ t, exec (.fuseLoadComplete d r) s = .next t) ∧
  (∀ (s : State) (d : Nat), (s.rst.phase = .clocks ∨ s.rst.phase = .up) → d < 6 → d ∉ s.hier.heldOut → exec (.clockGoodReached d) s = .next { s with hier.clockGood := s.hier.clockGood.set d true }) ∧
  (∀ (s : State) (d : Nat), s.rst.phase = .clocks → s.hier.clockGood.getD d false = false → d ∉ s.hier.heldOut →
    (d = 4 → exec (.clockGoodTimeout d) s = .next { s with rst.phase := .stopped, rst.stopLow := true }) ∧
    (d < 4 → exec (.clockGoodTimeout d) s = .next { s with hier.heldOut := putIn d s.hier.heldOut, rst.recorded := s.rst.recorded ++ [{ source := 235, die := d, region := houseRegion d }] })) ∧
  (∀ s : State, s.rst.phase = .clocks → s.clocksSettled = true → ∃ t, exec .saddleRelease s = .next t ∧ t.rst.phase = .up ∧ t.rst.cause = (if s.rst.deciding = 3 ∧ s.rst.keep = true then 4 else s.rst.deciding) ∧
    t.rst.warm = (if s.rst.deciding = 3 then (s.rst.warm + 1) % 2 ^ 32 else 0) ∧ t.rst.booting = true ∧ t.bell.number = s.bell.number ∧
    t.flt.events.take s.rst.recorded.length = s.rst.recorded ∧ t.rst.dump.retained = s.rst.keep) ∧
  (∀ (s u v : State) (a b x y : BootSlot) (i : Nat), s.isUp → s.rst.booting = true → i = (if slotSvn a < slotSvn b then 1 else 0) → x = (if i = 1 then b else a) → y = (if i = 1 then a else b) →
    u = (s.emit (.norRead (slotBase (1 - i)) 256)).emit (.norRead (slotBase i) (256 + min (slotLen x) 3145728)) → v = u.emit (.norRead (slotBase (1 - i)) (256 + min (slotLen y) 3145728)) →
    exec (.erralVerifyComplete a b) s = .next { (if s.slotValid x then bootFrom i x false u else if s.slotValid y then bootFrom (1 - i) y true v else { v with rst.booting := false, ciph.bootHeld := true, flt.erralHold := true, ciph.measure := tset s.ciph.measure 0 Config.romDigest }.faultAt 135 4 9 0) with pending := s.pending }) ∧
  (∀ (s : State) (k : Nat) (b : BootSlot) (w : Bool), (bootFrom k b w s).rst.booting = false ∧ (bootFrom k b w s).ciph.entry = fld b.header 16 4 ∧ (bootFrom k b w s).ciph.image = padTo (slotLen b) b.body ∧
    (bootFrom k b w s).ciph.bootSlot = k ∧ (bootFrom k b w s).ciph.fallback = w ∧ (bootFrom k b w s).ciph.runningSvn = slotSvn b) ∧
  (∀ (s t : State) (par : Bytes), s.takes resetSet 4 par → t = s.accepted 0x7A0020 resetSet 4 par →
    (s.rst.bringUpIssued = false → exec (.domainBringUp par) s = .next { t with rst.bringUpIssued := true, rst.bringUpPend := true }) ∧
    (s.rst.bringUpIssued = true → exec (.domainBringUp par) s = .next (t.done resetSet 2)))

/-- The three self-tests, the end of a region's test, and the post-mortem dump take effect. It rests on 17_reset_test_dump.md: Built-in self-test; 17_reset_test_dump.md: Post-mortem dump; 17_reset_test_dump.md: Objects. -/
def Obligations.SelfTestAndDumpTakeEffect : Prop :=
  (∀ (s t : State) (par p : Bytes) (c : Instr) (k : Nat), s.takes bistSet 16 par → p = padTo 16 par → t = s.accepted bistSet bistSet 16 par →
    (c, k) ∈ [(Instr.logicBist par, 1), (Instr.memoryBist par, 2), (Instr.logicAndMemoryBist par, 3)] →
    (bistNamed p = none → exec c s = .next (t.done bistSet 1)) ∧
    (∀ r, bistNamed p = some [r] → fld p 1 1 ≠ 0xFF → fld p 2 1 ≠ 0xFF → (r ∉ testable ∨ s.bistSkip r ≠ 0) → exec c s = .next (t.done bistSet 2)) ∧
    (∀ ks, bistNamed p = some ks → ks ≠ [] → (∀ r ∈ ks, r ∈ testable ∧ s.bistSkip r = 0) →
      exec c s = .next { t with rst.bist := some { kind := k, patterns := if fld p 4 4 = 0 then 65536 else fld p 4 4, seed := if fld p 8 8 = 0 then 1 else fld p 8 8, todo := ks, results := ks.foldl (fun r j => tset r j { kind := k, status := 0 }) [] } })) ∧
  (∀ (s t : State) (d r m n : Nat) (b x : BistRun), s.isUp → s.rst.bist = some b → r < 256 → regionKey d r ∈ b.todo.take 4 → s.bistSkip (regionKey d r) = 0 → n = (if b.kind = 1 then 0 else m) →
    x = { b with todo := b.todo.filter (· ≠ regionKey d r), results := tset b.results (regionKey d r) { kind := b.kind, status := 1, mismatches := n, logic := if b.kind = 2 then 0 else (Config.misr false (regionKey d r) Config.siliconRev b.seed b.patterns).toNat, memory := if b.kind = 1 then 0 else (Config.misr true (regionKey d r) Config.siliconRev b.seed b.patterns).toNat } } →
    t = (if 0 < n then ((regionReset d r s).count (Ev.bistT1 + (b.kind - 1)) 0).faultAt 236 d r 0 else (regionReset d r s).count (Ev.bistT1 + (b.kind - 1)) 0) →
    exec (.bistRegionComplete d r m) s = .next { (if x.todo = [] then ({ t with rst.bist := none }).doneNow bistSet 0 (bistBytes x.results) else { t with rst.bist := some x }) with pending := s.pending }) ∧
  (∀ (s t : State) (par p : Bytes), s.takes resetSet 32 par → p = padTo 32 par → t = s.accepted 0x7A0021 resetSet 32 par →
    (s.dumpBase = 0 → exec (.dumpCapture par) s = .next (t.done resetSet 1) ∧ exec (.dumpClose par) s = .next (t.done resetSet 1)) ∧
    (s.dumpBase ≠ 0 → s.rst.dump.closed = true → exec (.dumpCapture par) s = .next (t.done resetSet 2)) ∧
    (s.dumpBase ≠ 0 → s.rst.dump.closed = false → exec (.dumpCapture par) s = .next { t with rst.dump := { s.rst.dump with captured := false, truncated := false, sections := [], run := some (fld p 4 4), bell := s.bell.number, era := s.bell.era, reason := s.firstSource, role := s.stby.role, faults := s.faultState } }) ∧
    exec (.dumpClear par) s = .next ({ t with rst.dump := {} }.done resetSet 0) ∧
    (∀ fs ss, s.dumpBase ≠ 0 → fld p 1 1 ≤ 8 → fs = fwSections p (fld p 1 1) 0 (sectionsEnd s.rst.dump.sections) → ss = s.rst.dump.sections ++ fs → (∀ e ∈ fs, 0x80 ≤ e.kind) → sectionsEnd ss ≤ dumpArea →
      ((s.rst.dump.captured = false ∨ s.rst.dump.closed = true ∨ s.hbmOn = false) → exec (.dumpClose par) s = .next (t.done resetSet 2)) ∧
      (s.rst.dump.captured = true → s.rst.dump.closed = false → s.hbmOn = true → exec (.dumpClose par) s = .next { ({ t.hbmPut s.dumpBase (putAt (dumpHeader ss (sectionsEnd ss) t) 120 (le 8 (crc64 (dumpHeader ss (sectionsEnd ss) t ++ s.mem.read (s.dumpBase + 4096) (sectionsEnd ss - 4096))))) with rst.dump := { s.rst.dump with closed := true, length := sectionsEnd ss, sections := ss } }.count Ev.dumpCl 0).done resetSet 0 with pending := s.pending }))) ∧
  (∀ (s : State) (lens : List Nat) (m : Nat) (kinds : List Nat), s.isUp → s.rst.dump.run = some m → kinds = (bitsOf 7 m).filter (1 ≤ ·) →
    exec (.dumpCaptureComplete lens) s = .next { (((((List.range' 0 kinds.length).map (fun i => (kinds.getD i 0, lens.getD i 0))).foldl captureSection ({ s with rst.dump.run := none, rst.dump.captured := true }, 4096)).1.count Ev.dumpCap 0).doneNow resetSet 0) with pending := s.pending })

/-- The TAP's instructions take effect, and TRST_N resets it in any phase. It rests on 17_reset_test_dump.md: JTAG. -/
def Obligations.TestAccessTakesEffect : Prop :=
  (∀ s : State, exec .trstNAssert s = .next { s with rst.jtag := .reset }) ∧
  (∀ (s : State) (b : Bits), 1 ∉ s.rst.holding → 2 ∉ s.rst.holding →
    exec .jtagBypass s = .next { s with rst.jtag := .bypass } ∧ exec .jtagExtest s = .next { s with rst.jtag := .extest } ∧ exec .jtagClamp s = .next { s with rst.jtag := .clamp } ∧ exec .jtagHighz s = .next { s with rst.jtag := .highz } ∧
    exec (.jtagSamplePreload b) s = .next { s with rst.jtag := .sample, rst.boundary := b } ∧
    exec .jtagIdcode s = .next ({ s with rst.jtag := .idcode }.emit (.jtag idcode 32))) ∧
  (∀ (s : State) (b : Bits), (1 ∈ s.rst.holding ∨ 2 ∈ s.rst.holding) → ∀ c ∈ [Instr.jtagBypass, .jtagExtest, .jtagClamp, .jtagHighz, .jtagSamplePreload b, .jtagIdcode], exec c s = .next s) ∧
  (∃ (rev : BitVec 4) (m : BitVec 11), idcode = ((rev ++ 0x7224#16) ++ (m ++ 1#1)).toNat)

/-- ctr_command opcodes and the snapshot at a target take effect. It rests on 18_counters.md: Reading the banks; 18_counters.md: Snapshot; 18_counters.md: Clear; 18_counters.md: Objects. -/
def Obligations.CounterCommandsAndSnapshotsTakeEffect : Prop :=
  (∀ (s t : State) (par p : Bytes), s.takes ctrSet 16 par → p = padTo 16 par → t = s.accepted ctrSet ctrSet 16 par →
    exec (.clearAll par) s = .next ({ t with ctr.live := {}, ctr.clearBell := s.bell.number, xp.eventLost := tgetD s.ctr.amounts (Ev.evLost * 65536) 0, tgt.integLost := s.tgt.integNew, flt.sources := tmap s.flt.sources (fun _ x => { x with count := 0, recoveries := 0 }) }.done ctrSet 0) ∧
    (1 ≤ fld p 1 1 → fld p 1 1 ≤ 13 → exec (.clearStage par) s = .next ({ t with ctr.live.events := s.ctr.live.events.filter (fun e => e.1 / 65536 / 256 ≠ fld p 1 1), ctr.live.slots := s.ctr.live.slots.filter (fun e => slotStage e.1 ≠ fld p 1 1) }.done ctrSet 0)) ∧
    (fld p 1 1 = 0 ∨ 13 < fld p 1 1 → exec (.clearStage par) s = .next (t.done ctrSet 1)) ∧
    exec (.clearSelectable par) s = .next ({ t with ctr.live.sel := s.ctr.live.sel.filter (fun e => !(fld p 8 8).testBit e.1) }.done ctrSet 0) ∧
    exec (.snapshotNow par) s = .next { t with ctr.snapNow := some s.bell.edges } ∧
    (∀ b : CtrBank, b = (if fld p 1 1 = 0 then s.ctr.live else s.ctr.snap) → fld p 1 1 ≤ 1 → fld p 4 4 % 8 = 0 → 1 ≤ fld p 8 1 → fld p 8 1 ≤ 16 → fld p 4 4 + 8 * fld p 8 1 ≤ 0x300000 →
      exec (.counterRead par) s = .next (t.done ctrSet 0 ((List.range' 0 (fld p 8 1)).flatMap (fun q => le 8 (b.word (fld p 4 4 + 8 * q)))))) ∧
    ((1 < fld p 1 1 ∨ fld p 4 4 % 8 ≠ 0 ∨ fld p 8 1 = 0 ∨ 16 < fld p 8 1 ∨ 0x300000 < fld p 4 4 + 8 * fld p 8 1) → exec (.counterRead par) s = .next (t.done ctrSet 1))) ∧
  (∀ (s : State) (k : Nat), s.isUp → k = s.objN 0x800002 0 → k ≠ 0 → s.ctr.armEdge < s.bell.edges → (k ≤ s.bell.number ∨ s.bell.rebased = true) → s.ctr.snapEdge ≠ some s.bell.edges →
    exec .snapshotTarget s = .next { ({ s with ctr.snap := s.ctr.live, ctr.snapTaken := s.bell.number, ctr.snapEra := s.bell.era, ctr.snapCount := (s.ctr.snapCount + 1) % 2 ^ 32, ctr.snapEdge := some s.bell.edges }.setObj 0x800002 (le 8 (nextTarget k (s.objN 0x800003 0) s.bell.number s.bell.rebased))) with ctr.armEdge := s.bell.edges }) ∧
  (∀ t p n : Nat, 0 < p → t ≤ n → n < nextTarget t p n false ∧ nextTarget t p n false ≤ n + p ∧ (nextTarget t p n false - t) % p = 0 ∧ nextTarget t 0 n false = 0 ∧ nextTarget t p n true = n + p)

/-- PPS_IN edges, PPS_OUT and the temperature sensors take effect. It rests on 19_package_pins_electrical.md: Reference clocks and time pins; 19_package_pins_electrical.md: Thermal; 19_package_pins_electrical.md: Objects. -/
def Obligations.PinsAndTemperaturesTakeEffect : Prop :=
  (∀ (s : State) (t : Nat), s.isUp → exec (.ppsInEdge t) s = .next { s with pins.ppsBell := s.bell.number, pins.ppsTime := t, pins.ppsCount := (s.pins.ppsCount + 1) % 2 ^ 32 }) ∧
  (∀ (s : State) (k : Nat), s.isUp → s.wholeSecond = some k → s.objN 0x120031 0 = 1 → s.bell.aligned = true → s.pins.ppsOut = none →
    exec .ppsOutRise s = .next { s with pins.ppsOut := some k } ∧ k % 10 ^ 9 = 0 ∧ s.bell.ptp ≤ k ∧ k < s.bell.ptp + s.bellSpan.1) ∧
  (∀ (s : State) (k : Nat), s.isUp → s.pins.ppsOut = some k → k + 100000000 < s.bell.ptp + s.bellSpan.1 → exec .ppsOutFall s = .next { s with pins.ppsOut := none }) ∧
  (∀ (s : State) (ts : List (Option Int)), s.isUp → s.pins.tempEdge + 1024 ≤ s.bell.edges → ∃ t, exec (.tempSensorUpdate ts) s = .next t ∧
    (∀ i < 8, t.pins.temps.getD i none = (if i = 6 ∧ s.domOn 17 = false ∨ i = 7 ∧ s.domOn 18 = false then none else ts.getD i none) ∧ t.pins.peaks.getD i none = hotter (s.pins.peaks.getD i none) (t.pins.temps.getD i none)) ∧
    (∀ d < 6, t.pins.hot.getD d 0 = (if (t.pins.temps.getD d none).any (fun v => ((s.objN 0x140022 125 * 10 : Nat) : Int) ≤ v) then s.pins.hot.getD d 0 + 1 else 0)) ∧
    t.pins.tempEdge = s.bell.edges ∧ (t.pins.tripped = true ↔ s.pins.tripped = true ∨ ∃ d < 6, 8 ≤ t.pins.hot.getD d 0) ∧ { t with pins := s.pins } = s)

/-- Brodlet requests, DW_GO and register writes reach the dictionary. It rests on 15_object_dictionary.md: Objects; 15_object_dictionary.md: Brodlet messages; 15_object_dictionary.md: Paths; 15_object_dictionary.md: Order; 13_host_endpoint.md: BARs. -/
def Obligations.RequestsReachTheDictionary : Prop :=
  (∀ (s : State) (r : Requester) (b : Bytes) (q : Nat × Nat × Nat) (w : WaitReq), s.isUp → q = Machine.Requester.ident r →
    (match r with
      | .core n => n < 8 ∧ ∀ x ∈ s.dict.waiting, x.path = 0 → x.addr ≠ n
      | .window => True
      | .corolo n => n < 4096
      | .t1s _ _ => s.rst.stretch = false ∧ s.objN 0x110003 1 = 1
      | .vlan _ _ => True) →
    w = { path := q.1, addr := q.2.1, port := q.2.2, edge := s.bell.edges, msg := b, job := 0 } →
    (q.1 < 3 ∨ (s.dict.waiting.filter (fun x => 3 ≤ x.path)).length < 64 →
      exec (.brodletRequest r b) s = .next { settle { s with dict.waiting := insertWait w s.dict.waiting } with pending := s.pending }) ∧
    (3 ≤ q.1 → 64 ≤ (s.dict.waiting.filter (fun x => 3 ≤ x.path)).length →
      exec (.brodletRequest r b) s = .next { settle { s with dict.refused := s.dict.refused ++ [w] } with pending := s.pending })) ∧
  (∀ (w : WaitReq) (l : List WaitReq), (insertWait w l).Perm (w :: l)) ∧
  (∀ (s t : State) (m : Bytes) (n : Nat), s.isUp → s.barOpen = true → t = s.count Ev.bar0 0 → m = padTo 4096 s.dict.dwRequest → n = nfld m 8 2 →
    (s.dict.dwBusy = true → exec .dwGo s = .next { t.count Ev.rqRef4 1 with pending := s.pending }) ∧
    (s.dict.dwBusy = false → exec .dwGo s = .next { t with dict.dwBusy := true, dict.waiting := insertWait { path := 1, addr := 0, port := 0, edge := s.bell.edges, msg := if n ≤ 4096 then m.take n else m } s.dict.waiting, pending := s.pending })) ∧
  (∀ (s : State) (i u : Nat) (v : Bytes) (d : ObjDesc), s.isUp → u < 256 → u ≠ 0 →
    (objDesc (i * 256 + u) = none → exec (.registerWrite (.obj i u v)) s = .next { settle (s.status 1) with pending := s.pending }) ∧
    (objDesc (i * 256 + u) = some d → (d.acc = 1 → exec (.registerWrite (.obj i u v)) s = .next { settle (s.status 2) with pending := s.pending }) ∧
      (d.acc ≠ 1 → d.sizeOk v = false → exec (.registerWrite (.obj i u v)) s = .next { settle (s.status 3) with pending := s.pending }) ∧
      (∀ k w t, d.acc ≠ 1 → d.acc ≠ 6 → d.sizeOk v = true → k = i * 256 + u → ownWrite k false v = none → w = d.storedOf k v → t = s.setObj k w →
        ((d.inRange v = false ∨ writeOk k w t = false) → exec (.registerWrite (.obj i u v)) s = .next { settle (s.status 4) with pending := s.pending }) ∧
        (d.inRange v = true → writeOk k w t = true → s.writable k = false → exec (.registerWrite (.obj i u v)) s = .next { settle (s.status 5) with pending := s.pending }) ∧
        (k ≠ 0x800002 → d.inRange v = true → writeOk k w t = true → s.writable k = true →
          exec (.registerWrite (.obj i u v)) s = .next { settle ((if d.acc = 3 ∨ d.acc = 4 then t.persist else t).status 0) with pending := s.pending })))) ∧
  (∀ (s t : State) (off size v : Nat) (ro : Bool), s.isUp → s.epRuns = true → s.ep.link = true → t = s.count Ev.bar0 0 →
    (s.barOpen = false ∨ size ≠ 4 ∧ size ≠ 8 → exec (.registerWrite (.bar0 off size v)) s = .next { settle (unsupported true t) with pending := s.pending } ∧
      exec (.registerWrite (.readBar0 off size ro)) s = .next { settle ((unsupported false t).emit (.barCpl 1 false ro [])) with pending := s.pending }) ∧
    (s.barOpen = true → exec (.registerWrite (.bar0 off 4 v)) s = .next { settle (bar0Any off v t) with pending := s.pending } ∧
      exec (.registerWrite (.bar0 off 8 v)) s = .next { settle (bar0Any (off + 4) (v / 2 ^ 32) (bar0Any off (v % 2 ^ 32) t)) with pending := s.pending } ∧
      exec (.registerWrite (.readBar0 off 4 ro)) s = .next { settle (t.emit (.barCpl 0 false ro (le 4 (bar0Read off t)))) with pending := s.pending } ∧
      exec (.registerWrite (.readBar0 off 8 ro)) s = .next { settle (t.emit (.barCpl 0 false ro (le 4 (bar0Read off t) ++ le 4 (bar0Read (off + 4) t)))) with pending := s.pending } ∧
      exec (.registerWrite (.readBar2 off 4 ro)) s = .next { settle ((s.count Ev.bar2 0).emit (.barCpl 0 false ro [0, 0, 0, 0])) with pending := s.pending }))

/-- dict_command exports and imports the persisted values and clears the requester table. It rests on 15_object_dictionary.md: Persistence; 15_object_dictionary.md: Command objects; 15_object_dictionary.md: Identity and communication objects. -/
def Obligations.DictionaryCommandsTakeEffect : Prop :=
  (∀ (s t : State) (par p : Bytes), s.takes dictSet 32 par → p = padTo 32 par → t = s.accepted dictSet dictSet 32 par →
    (snapRange p = false → exec (.dictExport par) s = .next (t.done dictSet 1) ∧ exec (.dictImport par) s = .next { settle (t.done dictSet 1) with pending := s.pending }) ∧
    (snapRange p = true → s.hbmOn = false → exec (.dictExport par) s = .next (t.done dictSet 2) ∧ exec (.dictImport par) s = .next { settle (t.done dictSet 2) with pending := s.pending }) ∧
    (snapRange p = true → s.hbmOn = true →
      (fld p 16 4 < (snapshot t).length → exec (.dictExport par) s = .next (t.done dictSet 3)) ∧
      ((snapshot t).length ≤ fld p 16 4 → exec (.dictExport par) s = .next { (((t.hbmPut (fld p 8 8) (snapshot t)).count Ev.exports 0).done dictSet 0 (le 8 s.dict.persistGen ++ le 4 (snapshot t).length ++ le 4 (snapEntries t).length)) with pending := s.pending }) ∧
      (s.anyReady = true → exec (.dictImport par) s = .next { settle (t.done dictSet 2) with pending := s.pending }) ∧
      (∀ x : State × Bytes × Bool, s.anyReady = false → x = t.hbmGet (if inStackB (fld p 8 8) then 213 else 212) 0 (fld p 8 8) (fld p 16 4) →
        ((x.2.2 = true ∨ snapshotOk x.2.1 (fld p 16 4) = false) → exec (.dictImport par) s = .next { settle (x.1.done dictSet 1) with pending := s.pending }) ∧
        (∀ y : State × ImportCount, x.2.2 = false → snapshotOk x.2.1 (fld p 16 4) = true → y = (parseEntries x.2.1 (fld x.2.1 16 4) 32).foldl (importEntry x.1.opKeysSet.isEmpty) (x.1, {}) →
          exec (.dictImport par) s = .next { settle ((({ y.1 with dict.persistGen := x.1.dict.persistGen }).count Ev.imports 0).done dictSet 0 (le 4 y.2.applied ++ le 4 y.2.skipped ++ le 2 (y.2.first / 256) ++ le 1 (y.2.first % 256))) with pending := s.pending }))) ∧
    exec (.requesterTableClear par) s = .next ({ t with dict.requesters := [] }.done dictSet 0 (le 4 s.dict.requesters.length))) ∧
  (∀ (f : Bool) (s : State) (es : List (Nat × Nat × Bytes)) (y : State × ImportCount), y = es.foldl (importEntry f) (s, {}) → y.2.applied + y.2.skipped = es.length)

/-- Every command answers a next state with the waiting commands as they were. It rests on 02_levels_dies_domains.md: Power domains; 15_object_dictionary.md: Command objects. -/
def Obligations.EveryCommandAnswersANextState : Prop :=
  ∀ (c : Instr) (s : State), ∃ t, exec c s = .next t ∧ t.pending = s.pending

/-- A step runs the command at the front of the queue on the rest of it. It rests on 00_scope.md: Three walks through the device. -/
def Obligations.StepRunsTheFrontCommand : Prop :=
  ∀ (c : Instr) (q : List Instr) (s : State), s.pending = c :: q → step s = exec c { s with pending := q }

/-- With no command waiting the block idles. It rests on 01_bell.md: Inside one bell. -/
def Obligations.EmptyQueueIdles : Prop :=
  ∀ s : State, s.pending = [] → step s = .next s

/-- As many steps as commands wait leave an empty queue, and the steps compose. It rests on 00_scope.md: Three walks through the device. -/
def Obligations.WaitingCommandsAllRunInOrder : Prop :=
  (∀ s : State, ∃ t : State, Host.Core.run Sys2Proof.core s.pending.length s = Host.Outcome.next t ∧ t.pending = []) ∧
  (∀ (s t : State) (m n : Nat), Host.Core.run Sys2Proof.core m s = Host.Outcome.next t → Host.Core.run Sys2Proof.core (m + n) s = Host.Core.run Sys2Proof.core n t) ∧
  (∀ (s : State) (n : Nat), ∃ t : State, Host.Core.run Sys2Proof.core n s = Host.Outcome.next t ∧ t.pending = s.pending.drop n)

/-- Before the Saddle is released every command but those of reset and test access changes nothing. It rests on 02_levels_dies_domains.md: Regions and fencing; 17_reset_test_dump.md: Reset causes. -/
def Obligations.InputsBeforeReleaseAreLost : Prop :=
  (∀ (c : Instr) (s : State), s.rst.phase ≠ .up → c.duringReset = false → exec c s = .next s) ∧
  (∀ (s : State), s.rst.phase ≠ .up →
    (∀ bay a b, bay < 24 → exec (.presenceChange bay a b) s = .next (s.onBay bay (fun x => { x with pinA := a, pinB := b }))) ∧
    (∀ p, exec (.epFundamentalReset p) s = .next { s with ep.perst := p.asserted }) ∧
    exec .fenceInAssert s = .next { s with stby.fenceIn := true } ∧ exec .fenceInRelease s = .next { s with stby.fenceIn := false } ∧
    (∀ l, exec (.activeInEdge l) s = .next { s with stby.activeIn := l }))

/-- Every step keeps the memory in canonical form. It rests on 09_ledger_and_granary.md: HBM areas; 16_faults_and_memory_protection.md: Writing before reading. -/
def Obligations.StepKeepsHbmCanonical : Prop :=
  ∀ s t : State, s.memWf → step s = .next t → t.memWf

/-- After reset the memory lists nothing and is in canonical form. It rests on 16_faults_and_memory_protection.md: Writing before reading. -/
def Obligations.ResetHbmIsCanonical : Prop :=
  State.reset.mem.cells = [] ∧ State.reset.memWf

/-- Only BELL_EDGE and the reset rows move the bell number, the era, the clock and the reset phase. It rests on 01_bell.md: Bell edges and bell numbers; 17_reset_test_dump.md: Bring-up. -/
def Obligations.OnlyTheEdgeAndResetMoveTime : Prop :=
  ∀ (c : Instr) (s t : State), c.movesTime = false → exec c s = .next t →
    t.bell.edges = s.bell.edges ∧ t.bell.number = s.bell.number ∧ t.bell.era = s.bell.era ∧ t.bell.ptp = s.bell.ptp ∧ t.rst.phase = s.rst.phase

/-- BELL_EDGE ends the current bell: one edge, the next number, and 1,024 ns or the stretched length. It rests on 01_bell.md: Bell edges and bell numbers; 01_bell.md: Realignment, steps and rebase; 01_bell.md: Inside one bell. -/
def Obligations.BellEdgeAdvancesTheBell : Prop :=
  (∀ (x : EdgeInput) (s : State), s.isUp → s.bell.stretch = none → s.bell.clock = none →
    Gives (.bellEdge x) s (fun t => t.bell.edges = s.bell.edges + 1 ∧ t.bell.number = (s.bell.number + 1) % 2 ^ 64 ∧ t.bell.era = s.bell.era ∧ t.bell.ptp = s.bell.ptp + 1024)) ∧
  (∀ (x : EdgeInput) (s : State) (r : Stretch), s.isUp → s.bell.stretch = some r → s.bell.clock = none → s.bell.ptp ≤ r.tStar →
    Gives (.bellEdge x) s (fun t => t.bell.edges = s.bell.edges + 1 ∧ t.bell.number = r.nStar % 2 ^ 64 ∧
      t.bell.era = (if r.rebase then (s.bell.era + 1) % 2 ^ 32 else s.bell.era) ∧ t.bell.ptp = r.tStar)) ∧
  (∀ (x : EdgeInput) (s : State) (v : Nat), s.isUp → s.bell.clock = some (.set v) → Gives (.bellEdge x) s (fun t => t.bell.ptp = v)) ∧
  (∀ (x : EdgeInput) (s : State) (d : Int), s.isUp → s.bell.stretch = none → s.bell.clock = some (.step d) → 0 ≤ ((s.bell.ptp + 1024 : Nat) : Int) + d →
    Gives (.bellEdge x) s (fun t => t.bell.ptp = (((s.bell.ptp + 1024 : Nat) : Int) + d).toNat))

/-- A write of a command object whose set runs an earlier command changes nothing but its status. It rests on 00_scope.md: Reads have no side effects; 15_object_dictionary.md: Command objects. -/
def Obligations.BusyObjectsTurnCommandsAway : Prop :=
  ∀ (s : State) (par : Bytes), s.isUp →
    (s.busy 0x240010 = true → ∀ c ∈ [Instr.fdbAddStatic par, .fdbDelete par, .fdbFlush par, .fdbLookup par, .groupWrite par, .groupRead par, .vlanWrite par, .vlanRead par], exec c s = .next (s.status 6)) ∧
    (s.busy 0x260010 = true → ∀ c ∈ [Instr.queueWrite par, .queueRead par, .instanceShaperWrite par, .instanceShaperRead par, .policerWrite par, .policerRead par, .policeMapWrite par,
      .policeMapRead par, .gateAdminWrite par, .gateCommit par, .gateRead par, .sampleFetch par], exec c s = .next (s.status 6)) ∧
    (s.busy 0x300020 = true → ∀ c ∈ [Instr.qpCreate par, .qpConnect par, .qpDestroy par, .qpQuery par, .domainAllocate par, .domainFree par], exec c s = .next (s.status 6)) ∧
    (s.busy 0x300028 = true → ∀ c ∈ [Instr.mrRegister par, .mrRevoke par, .mrQuery par], exec c s = .next (s.status 6)) ∧
    (s.busy 0x340020 = true → ∀ c ∈ [Instr.ccSetProfileMode par, .ccQueryRate par], exec c s = .next (s.status 6)) ∧
    (s.busy 0x300048 = true → ∀ c ∈ [Instr.chainArm par, .chainDisarm par, .chainQuery par, .mirrorBind par, .mirrorUnbind par], exec c s = .next (s.status 6)) ∧
    (s.busy 0x400020 = true → ∀ c ∈ [Instr.namespaceWrite par, .namespaceRead par, .accessWrite par, .associationBind par, .associationRelease par, .queueBind par, .queueEnable par,
      .queueUnbind par, .reservationViewWrite par, .associationQuery par, .hostGroupWrite par], exec c s = .next (s.status 6)) ∧
    (s.busy 0x440010 = true → ∀ c ∈ [Instr.groupCreate par, .groupDelete par, .groupQuery par, .volumeCreate par, .volumeDelete par, .volumeQuery par, .reshapeStart par,
      .reshapePauseResume par, .rebuildStart par, .scrubControl par, .lostListFetch par], exec c s = .next (s.status 6)) ∧
    (s.busy 0x480020 = true → ∀ c ∈ [Instr.ledgerCreate par, .copyReplace par, .replay par, .drain par], exec c s = .next (s.status 6)) ∧
    (s.busy 0x790010 = true → ∀ c ∈ [Instr.regionFill par, .hbmFill par, .testWrite par, .testRead par, .instanceQuery par], exec c s = .next (s.status 6)) ∧
    (s.busy 0x800080 = true → ∀ c ∈ [Instr.clearAll par, .clearStage par, .clearSelectable par, .snapshotNow par, .counterRead par, .directoryQuery par], exec c s = .next (s.status 6))

/-- What reset leaves: bell 0 at PTP time 0, unaligned, every domain off, every object at its default. It rests on 01_bell.md: Bell edges and bell numbers; 17_reset_test_dump.md: Bring-up; 03_ports_and_switch.md: Objects. -/
def Obligations.ResetLeavesWhatTheSpecGives : Prop :=
  State.reset.bell.number = 0 ∧ State.reset.bell.era = 0 ∧ State.reset.bell.ptp = 0 ∧ State.reset.bell.aligned = false ∧ State.reset.bell.lock = false ∧
  (∀ d < 20, State.reset.domOn d = false) ∧ (∀ die < 6, State.reset.hier.clockGood.getD die false = true) ∧
  State.reset.dict.objs = [] ∧ (∀ k, State.reset.busy k = false ∧ (State.reset.res k).seq = 0) ∧ (State.reset.res 0x120008).outcome = 2 ∧
  (∀ v, tgetD State.reset.sw.vlans v {} = if v = 1 then { member := 2 ^ 144 - 1, untagged := 2 ^ 144 - 1 } else {}) ∧
  State.reset.flt.events = [] ∧ State.reset.pending = []

/-- The counter directory answers every event code, and turns an unknown code and a read past 3 MiB away. It states R533. -/
def Obligations.DirectoryListsEveryEvent : Prop :=
  (∀ (s : State) (par : Bytes) (e : EvDesc), s.takes 0x800080 16 par → evDesc (fld (padTo 16 par) 2 2) = some e →
    exec (.directoryQuery par) s = .next ((s.accepted 0x800080 0x800080 16 par).done 0x800080 0
      (padTo 32 (ascii e.name) ++ le 1 (b2n e.level) ++ zeros 3 ++ le 4 (Config.eventOffset e.code) ++ le 2 e.insts ++ padTo 6 (ascii e.unit)))) ∧
  (∀ (s : State) (par : Bytes), s.takes 0x800080 16 par → evDesc (fld (padTo 16 par) 2 2) = none →
    exec (.directoryQuery par) s = .next ((s.accepted 0x800080 0x800080 16 par).done 0x800080 1)) ∧
  (∀ (s : State) (par : Bytes), s.takes 0x800080 16 par → 0x300000 < fld (padTo 16 par) 4 4 + 8 * fld (padTo 16 par) 8 1 →
    exec (.counterRead par) s = .next ((s.accepted 0x800080 0x800080 16 par).done 0x800080 1))

/-- A full event ring takes no record: the loss is counted and FS73 is raised. It states R151. -/
def Obligations.FullEventRingCountsTheLoss : Prop :=
  (∀ (s : State) (r : Bytes), (s.xp.eventProd + 2 ^ 32 - s.objN 0x30000D 0) % 2 ^ 32 = s.objN 0x30000B 4096 →
    (writeEvent s r).mem = s.mem ∧ (writeEvent s r).xp.eventProd = s.xp.eventProd ∧ (writeEvent s r).xp.eventLost = s.xp.eventLost + 1 ∧
    (writeEvent s r).flt.events = s.flt.events ++ [{ source := 73 }]) ∧
  (∀ (s : State) (r : Bytes), (s.xp.eventProd + 2 ^ 32 - s.objN 0x30000D 0) % 2 ^ 32 ≠ s.objN 0x30000B 4096 →
    (writeEvent s r).mem = s.mem.write (s.objN 0x30000A 0 + s.xp.eventProd % s.objN 0x30000B 4096 * 32) r ∧
    (writeEvent s r).xp.eventProd = (s.xp.eventProd + 1) % 2 ^ 32 ∧ (writeEvent s r).xp.eventLost = s.xp.eventLost)
end

