-- ==== Sys2Proof/Laws/Memory.lean ====
section
/-! SUPPORT. HBM as data: reading back what was written, the bytes a write leaves alone, and the canonical form that every operation keeps. -/

namespace Sys2Proof.Machine

/-! ### The listed cells -/

/-- A write of a cell is read back: the listed byte, or nothing where it repeats the background. -/
theorem cellAt_cellPut_self (g : Byte) (l : List Host.Cell) (lo a : Nat) (v : Byte) (fills : List HbmFill)
    (h : cellsWf fills lo l = true) : cellAt (cellPut g l a v) a = if v = g then none else some v := by
  induction l generalizing lo with
  | nil => by_cases hv : v = g <;> simp [cellPut, cellAt, hv]
  | cons c r ih =>
    obtain ⟨k, w⟩ := c
    have hr : cellsWf fills (k + 1) r = true := by simp [cellsWf] at h; exact h.2
    have hnone : ∀ (l : List Host.Cell) (m : Nat), cellsWf fills m l = true → a < m → cellAt l a = none := by
      intro l
      induction l with
      | nil => intros; rfl
      | cons d t iht =>
        obtain ⟨j, u⟩ := d
        intro m hm ham
        simp only [cellsWf, Bool.and_eq_true, decide_eq_true_eq] at hm
        have : ¬ j = a := by omega
        simp only [cellAt, this, if_false]
        exact iht (j + 1) hm.2 (by omega)
    unfold cellPut
    by_cases hak : a < k
    · have hka : ¬ k = a := by omega
      by_cases hv : v = g
      · simp only [hak, hv, if_true, cellAt, hka, if_false]
        exact hnone r (k + 1) hr (by omega)
      · simp [hak, hv, cellAt]
    · by_cases hka : a = k
      · subst hka
        by_cases hv : v = g
        · simp only [Nat.lt_irrefl, if_false, hv, if_true]
          exact hnone r (a + 1) hr (by omega)
        · simp [hv, cellAt]
      · have hka' : ¬ k = a := fun e => hka e.symm
        simp only [hak, hka, if_false, cellAt, hka']
        exact ih (k + 1) hr

/-- A write of a cell leaves every other cell alone. -/
theorem cellAt_cellPut_ne (g : Byte) (l : List Host.Cell) (a b : Nat) (v : Byte) (h : b ≠ a) :
    cellAt (cellPut g l a v) b = cellAt l b := by
  have hab : ¬ a = b := fun e => h e.symm
  induction l with
  | nil => by_cases hv : v = g <;> simp [cellPut, cellAt, hv, hab]
  | cons c r ih =>
    obtain ⟨k, w⟩ := c
    unfold cellPut
    by_cases hak : a < k
    · by_cases hv : v = g <;> simp [hak, hv, cellAt, hab]
    · by_cases hka : a = k
      · subst hka
        by_cases hv : v = g <;> simp [hv, cellAt, hab]
      · simp only [hak, hka, if_false, cellAt, ih]

/-- Setting a cell keeps the listed form. -/
theorem cellsWf_cellPut (fills : List HbmFill) (l : List Host.Cell) (lo a : Nat) (v : Byte)
    (h : cellsWf fills lo l = true) (ha : a < hbmSize) (hlo : lo ≤ a) : cellsWf fills lo (cellPut (background fills a) l a v) = true := by
  induction l generalizing lo with
  | nil =>
    by_cases hv : v = background fills a
    · simp [cellPut, hv, cellsWf]
    · simp [cellPut, hv, cellsWf, hlo, ha]
  | cons c r ih =>
    obtain ⟨k, w⟩ := c
    simp only [cellsWf, Bool.and_eq_true, decide_eq_true_eq, bne_iff_ne] at h
    unfold cellPut
    by_cases hak : a < k
    · by_cases hv : v = background fills a
      · simp [hak, hv, cellsWf, h.1.1.1, h.1.1.2, h.1.2, h.2]
      · have h1 : a + 1 ≤ k := hak
        simp [hak, hv, cellsWf, hlo, ha, h.1.1.2, h.1.2, h.2, h1]
    · by_cases hka : a = k
      · subst hka
        by_cases hv : v = background fills a
        · simp only [Nat.lt_irrefl, if_false, hv, if_true]
          have hmono : ∀ (l : List Host.Cell) (m n : Nat), cellsWf fills m l = true → n ≤ m → cellsWf fills n l = true := by
            intro l m n hm hn
            cases l with
            | nil => rfl
            | cons d t =>
              obtain ⟨j, u⟩ := d
              simp only [cellsWf, Bool.and_eq_true, decide_eq_true_eq] at hm ⊢
              exact ⟨⟨⟨by omega, hm.1.1.2⟩, hm.1.2⟩, hm.2⟩
          exact hmono r (a + 1) lo h.2 (by omega)
        · simp [hv, cellsWf, hlo, ha, h.2]
      · simp only [hak, hka, if_false, cellsWf, Bool.and_eq_true, decide_eq_true_eq, bne_iff_ne]
        exact ⟨⟨⟨h.1.1.1, h.1.1.2⟩, h.1.2⟩, ih (k + 1) h.2 (by omega)⟩

/-- Cells that survive keep the listed form under another background that agrees with the old one on them. -/
theorem cellsWf_filter (f g : List HbmFill) (p : Host.Cell → Bool) (l : List Host.Cell) (lo : Nat)
    (h : cellsWf f lo l = true) (hb : ∀ c ∈ l, p c = true → background g c.1 = background f c.1) : cellsWf g lo (l.filter p) = true := by
  induction l generalizing lo with
  | nil => rfl
  | cons c r ih =>
    obtain ⟨k, w⟩ := c
    simp only [cellsWf, Bool.and_eq_true, decide_eq_true_eq, bne_iff_ne] at h
    have hr := ih (k + 1) h.2 (fun c hc => hb c (List.mem_cons_of_mem _ hc))
    by_cases hp : p (k, w) = true
    · simp only [List.filter_cons, hp, if_true, cellsWf, Bool.and_eq_true, decide_eq_true_eq, bne_iff_ne]
      refine ⟨⟨⟨h.1.1.1, h.1.1.2⟩, ?_⟩, hr⟩
      rw [hb (k, w) (List.mem_cons_self ..) hp]
      exact h.1.2
    · simp only [List.filter_cons, hp]
      have hmono : ∀ (l : List Host.Cell) (m n : Nat), cellsWf g m l = true → n ≤ m → cellsWf g n l = true := by
        intro l m n hm hn
        cases l with
        | nil => rfl
        | cons d t =>
          obtain ⟨j, u⟩ := d
          simp only [cellsWf, Bool.and_eq_true, decide_eq_true_eq] at hm ⊢
          exact ⟨⟨⟨by omega, hm.1.1.2⟩, hm.1.2⟩, hm.2⟩
      exact hmono _ (k + 1) lo hr (by omega)

/-! ### Bytes of HBM -/

@[simp] theorem Hbm.setByte_fills (m : Hbm) (a : Nat) (v : Byte) : (m.setByte a v).fills = m.fills := by
  unfold Hbm.setByte; split <;> rfl

@[simp] theorem Hbm.write_fills (m : Hbm) (a : Nat) (b : Bytes) : (m.write a b).fills = m.fills := by
  induction b generalizing m a with
  | nil => rfl
  | cons x r ih => simp [Hbm.write, ih]

/-- A byte written inside HBM is read back. -/
theorem Hbm.byte_setByte_self (m : Hbm) (a : Nat) (v : Byte) (h : m.wf = true) (ha : a < hbmSize) : (m.setByte a v).byte a = v := by
  unfold Hbm.setByte Hbm.byte
  simp only [ha, if_true]
  rw [cellAt_cellPut_self (background m.fills a) m.cells 0 a v m.fills h]
  split
  · simp_all
  · rfl

/-- A byte written leaves every other byte alone. -/
theorem Hbm.byte_setByte_ne (m : Hbm) (a b : Nat) (v : Byte) (h : b ≠ a) : (m.setByte a v).byte b = m.byte b := by
  unfold Hbm.setByte Hbm.byte
  split
  · simp only [cellAt_cellPut_ne _ _ _ _ _ h]
  · rfl

/-- A write leaves every byte outside it alone. -/
theorem Hbm.byte_write_out (m : Hbm) (a b : Nat) (x : Bytes) (h : b < a ∨ a + x.length ≤ b) : (m.write a x).byte b = m.byte b := by
  induction x generalizing m a with
  | nil => rfl
  | cons y r ih =>
    simp only [List.length_cons] at h
    rw [Hbm.write, ih _ _ (by omega), Hbm.byte_setByte_ne _ _ _ _ (by omega)]

/-! ### The canonical form (R266, R482) -/

@[simp] theorem Hbm.setByte_wf (m : Hbm) (a : Nat) (v : Byte) (h : m.wf = true) : (m.setByte a v).wf = true := by
  unfold Hbm.setByte
  split
  · exact cellsWf_cellPut m.fills m.cells 0 a v h (by assumption) (Nat.zero_le a)
  · exact h

@[simp] theorem Hbm.write_wf (m : Hbm) (a : Nat) (b : Bytes) (h : m.wf = true) : (m.write a b).wf = true := by
  induction b generalizing m a with
  | nil => exact h
  | cons x r ih => exact ih _ _ (Hbm.setByte_wf m a x h)

@[simp] theorem Hbm.lay_wf (m : Hbm) (base len : Nat) (pat : FillPat) (h : m.wf = true) : (m.lay base len pat).wf = true := by
  refine cellsWf_filter m.fills _ _ m.cells 0 h ?_
  intro c _ hp
  have hp' : c.1 < base ∨ base + len ≤ c.1 := by simpa using hp
  have hn : ¬ (base ≤ c.1 ∧ c.1 < base + len) := by omega
  show (if base ≤ c.1 ∧ c.1 < base + len ∧ _ then _ else background m.fills c.1) = _
  exact if_neg (fun e => hn ⟨e.1, e.2.1⟩)

/-- Under a lost stack nothing changes for the other one. -/
theorem background_lose (b : Bool) (fs : List HbmFill) (a : Nat) (hs : inStackB a ≠ b) :
    background (fs.map (fun f => if b then { f with b := false } else { f with a := false })) a = background fs a := by
  induction fs with
  | nil => rfl
  | cons f r ih =>
    cases b <;> cases hc : inStackB a <;> simp_all [background]

@[simp] theorem Hbm.lose_wf (m : Hbm) (b : Bool) (h : m.wf = true) : (m.lose b).wf = true := by
  refine cellsWf_filter m.fills _ _ m.cells 0 h ?_
  intro c _ hp
  exact background_lose b m.fills c.1 (by simpa using hp)

@[simp] theorem Hbm.markPages_wf (m : Hbm) (p n : Nat) (h : m.wf = true) : (m.markPages p n).wf = true := by
  unfold Hbm.markPages; split <;> exact h

@[simp] theorem Hbm.setCheck_wf (m : Hbm) (w c : Nat) (h : m.wf = true) : (m.setCheck w c).wf = true := h

@[simp] theorem Hbm.unwrite_wf (m : Hbm) (b : Bool) (h : m.wf = true) : (m.unwrite b).wf = true := by cases b <;> exact h

theorem Hbm.empty_wf : ({} : Hbm).wf = true := rfl

@[simp] theorem State.hbmPut_wf (s : State) (a : Nat) (b : Bytes) (h : s.mem.wf = true) : (s.hbmPut a b).mem.wf = true :=
  Hbm.write_wf _ _ _ h

end Sys2Proof.Machine
end

