-- ==== Sys2Proof/Laws/State.lean ====
section
/-! SUPPORT. What each shared update of the state leaves alone: one lemma for each part of the state and each update. -/

namespace Sys2Proof.Machine

variable (s : State)

/-! ### `took` changes `freeIdx` only -/

@[simp] theorem State.took_pending : (s.took).pending = s.pending := rfl
@[simp] theorem State.took_bell : (s.took).bell = s.bell := rfl
@[simp] theorem State.took_hier : (s.took).hier = s.hier := rfl
@[simp] theorem State.took_sw : (s.took).sw = s.sw := rfl
@[simp] theorem State.took_sched : (s.took).sched = s.sched := rfl
@[simp] theorem State.took_xp : (s.took).xp = s.xp := rfl
@[simp] theorem State.took_cc : (s.took).cc = s.cc := rfl
@[simp] theorem State.took_tgt : (s.took).tgt = s.tgt := rfl
@[simp] theorem State.took_vol : (s.took).vol = s.vol := rfl
@[simp] theorem State.took_led : (s.took).led = s.led := rfl
@[simp] theorem State.took_ciph : (s.took).ciph = s.ciph := rfl
@[simp] theorem State.took_bay : (s.took).bay = s.bay := rfl
@[simp] theorem State.took_stby : (s.took).stby = s.stby := rfl
@[simp] theorem State.took_ep : (s.took).ep = s.ep := rfl
@[simp] theorem State.took_cor : (s.took).cor = s.cor := rfl
@[simp] theorem State.took_dict : (s.took).dict = s.dict := rfl
@[simp] theorem State.took_flt : (s.took).flt = s.flt := rfl
@[simp] theorem State.took_mp : (s.took).mp = s.mp := rfl
@[simp] theorem State.took_rst : (s.took).rst = s.rst := rfl
@[simp] theorem State.took_pins : (s.took).pins = s.pins := rfl
@[simp] theorem State.took_ctr : (s.took).ctr = s.ctr := rfl
@[simp] theorem State.took_mem : (s.took).mem = s.mem := rfl
@[simp] theorem State.took_sent : (s.took).sent = s.sent := rfl

/-! ### `emit` changes `sent` only -/

@[simp] theorem State.emit_pending (e : Emission) : (s.emit e).pending = s.pending := rfl
@[simp] theorem State.emit_bell (e : Emission) : (s.emit e).bell = s.bell := rfl
@[simp] theorem State.emit_hier (e : Emission) : (s.emit e).hier = s.hier := rfl
@[simp] theorem State.emit_sw (e : Emission) : (s.emit e).sw = s.sw := rfl
@[simp] theorem State.emit_sched (e : Emission) : (s.emit e).sched = s.sched := rfl
@[simp] theorem State.emit_xp (e : Emission) : (s.emit e).xp = s.xp := rfl
@[simp] theorem State.emit_cc (e : Emission) : (s.emit e).cc = s.cc := rfl
@[simp] theorem State.emit_tgt (e : Emission) : (s.emit e).tgt = s.tgt := rfl
@[simp] theorem State.emit_vol (e : Emission) : (s.emit e).vol = s.vol := rfl
@[simp] theorem State.emit_led (e : Emission) : (s.emit e).led = s.led := rfl
@[simp] theorem State.emit_ciph (e : Emission) : (s.emit e).ciph = s.ciph := rfl
@[simp] theorem State.emit_bay (e : Emission) : (s.emit e).bay = s.bay := rfl
@[simp] theorem State.emit_stby (e : Emission) : (s.emit e).stby = s.stby := rfl
@[simp] theorem State.emit_ep (e : Emission) : (s.emit e).ep = s.ep := rfl
@[simp] theorem State.emit_cor (e : Emission) : (s.emit e).cor = s.cor := rfl
@[simp] theorem State.emit_dict (e : Emission) : (s.emit e).dict = s.dict := rfl
@[simp] theorem State.emit_flt (e : Emission) : (s.emit e).flt = s.flt := rfl
@[simp] theorem State.emit_mp (e : Emission) : (s.emit e).mp = s.mp := rfl
@[simp] theorem State.emit_rst (e : Emission) : (s.emit e).rst = s.rst := rfl
@[simp] theorem State.emit_pins (e : Emission) : (s.emit e).pins = s.pins := rfl
@[simp] theorem State.emit_ctr (e : Emission) : (s.emit e).ctr = s.ctr := rfl
@[simp] theorem State.emit_mem (e : Emission) : (s.emit e).mem = s.mem := rfl
@[simp] theorem State.emit_freeIdx (e : Emission) : (s.emit e).freeIdx = s.freeIdx := rfl

/-! ### `setObj` changes `dict` only -/

@[simp] theorem State.setObj_pending (k : Nat) (v : Bytes) : (s.setObj k v).pending = s.pending := rfl
@[simp] theorem State.setObj_bell (k : Nat) (v : Bytes) : (s.setObj k v).bell = s.bell := rfl
@[simp] theorem State.setObj_hier (k : Nat) (v : Bytes) : (s.setObj k v).hier = s.hier := rfl
@[simp] theorem State.setObj_sw (k : Nat) (v : Bytes) : (s.setObj k v).sw = s.sw := rfl
@[simp] theorem State.setObj_sched (k : Nat) (v : Bytes) : (s.setObj k v).sched = s.sched := rfl
@[simp] theorem State.setObj_xp (k : Nat) (v : Bytes) : (s.setObj k v).xp = s.xp := rfl
@[simp] theorem State.setObj_cc (k : Nat) (v : Bytes) : (s.setObj k v).cc = s.cc := rfl
@[simp] theorem State.setObj_tgt (k : Nat) (v : Bytes) : (s.setObj k v).tgt = s.tgt := rfl
@[simp] theorem State.setObj_vol (k : Nat) (v : Bytes) : (s.setObj k v).vol = s.vol := rfl
@[simp] theorem State.setObj_led (k : Nat) (v : Bytes) : (s.setObj k v).led = s.led := rfl
@[simp] theorem State.setObj_ciph (k : Nat) (v : Bytes) : (s.setObj k v).ciph = s.ciph := rfl
@[simp] theorem State.setObj_bay (k : Nat) (v : Bytes) : (s.setObj k v).bay = s.bay := rfl
@[simp] theorem State.setObj_stby (k : Nat) (v : Bytes) : (s.setObj k v).stby = s.stby := rfl
@[simp] theorem State.setObj_ep (k : Nat) (v : Bytes) : (s.setObj k v).ep = s.ep := rfl
@[simp] theorem State.setObj_cor (k : Nat) (v : Bytes) : (s.setObj k v).cor = s.cor := rfl
@[simp] theorem State.setObj_flt (k : Nat) (v : Bytes) : (s.setObj k v).flt = s.flt := rfl
@[simp] theorem State.setObj_mp (k : Nat) (v : Bytes) : (s.setObj k v).mp = s.mp := rfl
@[simp] theorem State.setObj_rst (k : Nat) (v : Bytes) : (s.setObj k v).rst = s.rst := rfl
@[simp] theorem State.setObj_pins (k : Nat) (v : Bytes) : (s.setObj k v).pins = s.pins := rfl
@[simp] theorem State.setObj_ctr (k : Nat) (v : Bytes) : (s.setObj k v).ctr = s.ctr := rfl
@[simp] theorem State.setObj_mem (k : Nat) (v : Bytes) : (s.setObj k v).mem = s.mem := rfl
@[simp] theorem State.setObj_sent (k : Nat) (v : Bytes) : (s.setObj k v).sent = s.sent := rfl
@[simp] theorem State.setObj_freeIdx (k : Nat) (v : Bytes) : (s.setObj k v).freeIdx = s.freeIdx := rfl

/-! ### `persist` changes `dict` only -/

@[simp] theorem State.persist_pending : (s.persist).pending = s.pending := rfl
@[simp] theorem State.persist_bell : (s.persist).bell = s.bell := rfl
@[simp] theorem State.persist_hier : (s.persist).hier = s.hier := rfl
@[simp] theorem State.persist_sw : (s.persist).sw = s.sw := rfl
@[simp] theorem State.persist_sched : (s.persist).sched = s.sched := rfl
@[simp] theorem State.persist_xp : (s.persist).xp = s.xp := rfl
@[simp] theorem State.persist_cc : (s.persist).cc = s.cc := rfl
@[simp] theorem State.persist_tgt : (s.persist).tgt = s.tgt := rfl
@[simp] theorem State.persist_vol : (s.persist).vol = s.vol := rfl
@[simp] theorem State.persist_led : (s.persist).led = s.led := rfl
@[simp] theorem State.persist_ciph : (s.persist).ciph = s.ciph := rfl
@[simp] theorem State.persist_bay : (s.persist).bay = s.bay := rfl
@[simp] theorem State.persist_stby : (s.persist).stby = s.stby := rfl
@[simp] theorem State.persist_ep : (s.persist).ep = s.ep := rfl
@[simp] theorem State.persist_cor : (s.persist).cor = s.cor := rfl
@[simp] theorem State.persist_flt : (s.persist).flt = s.flt := rfl
@[simp] theorem State.persist_mp : (s.persist).mp = s.mp := rfl
@[simp] theorem State.persist_rst : (s.persist).rst = s.rst := rfl
@[simp] theorem State.persist_pins : (s.persist).pins = s.pins := rfl
@[simp] theorem State.persist_ctr : (s.persist).ctr = s.ctr := rfl
@[simp] theorem State.persist_mem : (s.persist).mem = s.mem := rfl
@[simp] theorem State.persist_sent : (s.persist).sent = s.sent := rfl
@[simp] theorem State.persist_freeIdx : (s.persist).freeIdx = s.freeIdx := rfl

/-! ### `status` changes `dict` only -/

@[simp] theorem State.status_pending (n : Nat) : (s.status n).pending = s.pending := rfl
@[simp] theorem State.status_bell (n : Nat) : (s.status n).bell = s.bell := rfl
@[simp] theorem State.status_hier (n : Nat) : (s.status n).hier = s.hier := rfl
@[simp] theorem State.status_sw (n : Nat) : (s.status n).sw = s.sw := rfl
@[simp] theorem State.status_sched (n : Nat) : (s.status n).sched = s.sched := rfl
@[simp] theorem State.status_xp (n : Nat) : (s.status n).xp = s.xp := rfl
@[simp] theorem State.status_cc (n : Nat) : (s.status n).cc = s.cc := rfl
@[simp] theorem State.status_tgt (n : Nat) : (s.status n).tgt = s.tgt := rfl
@[simp] theorem State.status_vol (n : Nat) : (s.status n).vol = s.vol := rfl
@[simp] theorem State.status_led (n : Nat) : (s.status n).led = s.led := rfl
@[simp] theorem State.status_ciph (n : Nat) : (s.status n).ciph = s.ciph := rfl
@[simp] theorem State.status_bay (n : Nat) : (s.status n).bay = s.bay := rfl
@[simp] theorem State.status_stby (n : Nat) : (s.status n).stby = s.stby := rfl
@[simp] theorem State.status_ep (n : Nat) : (s.status n).ep = s.ep := rfl
@[simp] theorem State.status_cor (n : Nat) : (s.status n).cor = s.cor := rfl
@[simp] theorem State.status_flt (n : Nat) : (s.status n).flt = s.flt := rfl
@[simp] theorem State.status_mp (n : Nat) : (s.status n).mp = s.mp := rfl
@[simp] theorem State.status_rst (n : Nat) : (s.status n).rst = s.rst := rfl
@[simp] theorem State.status_pins (n : Nat) : (s.status n).pins = s.pins := rfl
@[simp] theorem State.status_ctr (n : Nat) : (s.status n).ctr = s.ctr := rfl
@[simp] theorem State.status_mem (n : Nat) : (s.status n).mem = s.mem := rfl
@[simp] theorem State.status_sent (n : Nat) : (s.status n).sent = s.sent := rfl
@[simp] theorem State.status_freeIdx (n : Nat) : (s.status n).freeIdx = s.freeIdx := rfl

/-! ### `onRes` changes `dict` only -/

@[simp] theorem State.onRes_pending (k : Nat) (f : CmdRes → CmdRes) : (s.onRes k f).pending = s.pending := rfl
@[simp] theorem State.onRes_bell (k : Nat) (f : CmdRes → CmdRes) : (s.onRes k f).bell = s.bell := rfl
@[simp] theorem State.onRes_hier (k : Nat) (f : CmdRes → CmdRes) : (s.onRes k f).hier = s.hier := rfl
@[simp] theorem State.onRes_sw (k : Nat) (f : CmdRes → CmdRes) : (s.onRes k f).sw = s.sw := rfl
@[simp] theorem State.onRes_sched (k : Nat) (f : CmdRes → CmdRes) : (s.onRes k f).sched = s.sched := rfl
@[simp] theorem State.onRes_xp (k : Nat) (f : CmdRes → CmdRes) : (s.onRes k f).xp = s.xp := rfl
@[simp] theorem State.onRes_cc (k : Nat) (f : CmdRes → CmdRes) : (s.onRes k f).cc = s.cc := rfl
@[simp] theorem State.onRes_tgt (k : Nat) (f : CmdRes → CmdRes) : (s.onRes k f).tgt = s.tgt := rfl
@[simp] theorem State.onRes_vol (k : Nat) (f : CmdRes → CmdRes) : (s.onRes k f).vol = s.vol := rfl
@[simp] theorem State.onRes_led (k : Nat) (f : CmdRes → CmdRes) : (s.onRes k f).led = s.led := rfl
@[simp] theorem State.onRes_ciph (k : Nat) (f : CmdRes → CmdRes) : (s.onRes k f).ciph = s.ciph := rfl
@[simp] theorem State.onRes_bay (k : Nat) (f : CmdRes → CmdRes) : (s.onRes k f).bay = s.bay := rfl
@[simp] theorem State.onRes_stby (k : Nat) (f : CmdRes → CmdRes) : (s.onRes k f).stby = s.stby := rfl
@[simp] theorem State.onRes_ep (k : Nat) (f : CmdRes → CmdRes) : (s.onRes k f).ep = s.ep := rfl
@[simp] theorem State.onRes_cor (k : Nat) (f : CmdRes → CmdRes) : (s.onRes k f).cor = s.cor := rfl
@[simp] theorem State.onRes_flt (k : Nat) (f : CmdRes → CmdRes) : (s.onRes k f).flt = s.flt := rfl
@[simp] theorem State.onRes_mp (k : Nat) (f : CmdRes → CmdRes) : (s.onRes k f).mp = s.mp := rfl
@[simp] theorem State.onRes_rst (k : Nat) (f : CmdRes → CmdRes) : (s.onRes k f).rst = s.rst := rfl
@[simp] theorem State.onRes_pins (k : Nat) (f : CmdRes → CmdRes) : (s.onRes k f).pins = s.pins := rfl
@[simp] theorem State.onRes_ctr (k : Nat) (f : CmdRes → CmdRes) : (s.onRes k f).ctr = s.ctr := rfl
@[simp] theorem State.onRes_mem (k : Nat) (f : CmdRes → CmdRes) : (s.onRes k f).mem = s.mem := rfl
@[simp] theorem State.onRes_sent (k : Nat) (f : CmdRes → CmdRes) : (s.onRes k f).sent = s.sent := rfl
@[simp] theorem State.onRes_freeIdx (k : Nat) (f : CmdRes → CmdRes) : (s.onRes k f).freeIdx = s.freeIdx := rfl

/-! ### `done` changes `dict` only -/

@[simp] theorem State.done_pending (k n : Nat) (r : Bytes) : (s.done k n r).pending = s.pending := rfl
@[simp] theorem State.done_bell (k n : Nat) (r : Bytes) : (s.done k n r).bell = s.bell := rfl
@[simp] theorem State.done_hier (k n : Nat) (r : Bytes) : (s.done k n r).hier = s.hier := rfl
@[simp] theorem State.done_sw (k n : Nat) (r : Bytes) : (s.done k n r).sw = s.sw := rfl
@[simp] theorem State.done_sched (k n : Nat) (r : Bytes) : (s.done k n r).sched = s.sched := rfl
@[simp] theorem State.done_xp (k n : Nat) (r : Bytes) : (s.done k n r).xp = s.xp := rfl
@[simp] theorem State.done_cc (k n : Nat) (r : Bytes) : (s.done k n r).cc = s.cc := rfl
@[simp] theorem State.done_tgt (k n : Nat) (r : Bytes) : (s.done k n r).tgt = s.tgt := rfl
@[simp] theorem State.done_vol (k n : Nat) (r : Bytes) : (s.done k n r).vol = s.vol := rfl
@[simp] theorem State.done_led (k n : Nat) (r : Bytes) : (s.done k n r).led = s.led := rfl
@[simp] theorem State.done_ciph (k n : Nat) (r : Bytes) : (s.done k n r).ciph = s.ciph := rfl
@[simp] theorem State.done_bay (k n : Nat) (r : Bytes) : (s.done k n r).bay = s.bay := rfl
@[simp] theorem State.done_stby (k n : Nat) (r : Bytes) : (s.done k n r).stby = s.stby := rfl
@[simp] theorem State.done_ep (k n : Nat) (r : Bytes) : (s.done k n r).ep = s.ep := rfl
@[simp] theorem State.done_cor (k n : Nat) (r : Bytes) : (s.done k n r).cor = s.cor := rfl
@[simp] theorem State.done_flt (k n : Nat) (r : Bytes) : (s.done k n r).flt = s.flt := rfl
@[simp] theorem State.done_mp (k n : Nat) (r : Bytes) : (s.done k n r).mp = s.mp := rfl
@[simp] theorem State.done_rst (k n : Nat) (r : Bytes) : (s.done k n r).rst = s.rst := rfl
@[simp] theorem State.done_pins (k n : Nat) (r : Bytes) : (s.done k n r).pins = s.pins := rfl
@[simp] theorem State.done_ctr (k n : Nat) (r : Bytes) : (s.done k n r).ctr = s.ctr := rfl
@[simp] theorem State.done_mem (k n : Nat) (r : Bytes) : (s.done k n r).mem = s.mem := rfl
@[simp] theorem State.done_sent (k n : Nat) (r : Bytes) : (s.done k n r).sent = s.sent := rfl
@[simp] theorem State.done_freeIdx (k n : Nat) (r : Bytes) : (s.done k n r).freeIdx = s.freeIdx := rfl

/-! ### `doneNow` changes `dict` only -/

@[simp] theorem State.doneNow_pending (k n : Nat) (r : Bytes) : (s.doneNow k n r).pending = s.pending := rfl
@[simp] theorem State.doneNow_bell (k n : Nat) (r : Bytes) : (s.doneNow k n r).bell = s.bell := rfl
@[simp] theorem State.doneNow_hier (k n : Nat) (r : Bytes) : (s.doneNow k n r).hier = s.hier := rfl
@[simp] theorem State.doneNow_sw (k n : Nat) (r : Bytes) : (s.doneNow k n r).sw = s.sw := rfl
@[simp] theorem State.doneNow_sched (k n : Nat) (r : Bytes) : (s.doneNow k n r).sched = s.sched := rfl
@[simp] theorem State.doneNow_xp (k n : Nat) (r : Bytes) : (s.doneNow k n r).xp = s.xp := rfl
@[simp] theorem State.doneNow_cc (k n : Nat) (r : Bytes) : (s.doneNow k n r).cc = s.cc := rfl
@[simp] theorem State.doneNow_tgt (k n : Nat) (r : Bytes) : (s.doneNow k n r).tgt = s.tgt := rfl
@[simp] theorem State.doneNow_vol (k n : Nat) (r : Bytes) : (s.doneNow k n r).vol = s.vol := rfl
@[simp] theorem State.doneNow_led (k n : Nat) (r : Bytes) : (s.doneNow k n r).led = s.led := rfl
@[simp] theorem State.doneNow_ciph (k n : Nat) (r : Bytes) : (s.doneNow k n r).ciph = s.ciph := rfl
@[simp] theorem State.doneNow_bay (k n : Nat) (r : Bytes) : (s.doneNow k n r).bay = s.bay := rfl
@[simp] theorem State.doneNow_stby (k n : Nat) (r : Bytes) : (s.doneNow k n r).stby = s.stby := rfl
@[simp] theorem State.doneNow_ep (k n : Nat) (r : Bytes) : (s.doneNow k n r).ep = s.ep := rfl
@[simp] theorem State.doneNow_cor (k n : Nat) (r : Bytes) : (s.doneNow k n r).cor = s.cor := rfl
@[simp] theorem State.doneNow_flt (k n : Nat) (r : Bytes) : (s.doneNow k n r).flt = s.flt := rfl
@[simp] theorem State.doneNow_mp (k n : Nat) (r : Bytes) : (s.doneNow k n r).mp = s.mp := rfl
@[simp] theorem State.doneNow_rst (k n : Nat) (r : Bytes) : (s.doneNow k n r).rst = s.rst := rfl
@[simp] theorem State.doneNow_pins (k n : Nat) (r : Bytes) : (s.doneNow k n r).pins = s.pins := rfl
@[simp] theorem State.doneNow_ctr (k n : Nat) (r : Bytes) : (s.doneNow k n r).ctr = s.ctr := rfl
@[simp] theorem State.doneNow_mem (k n : Nat) (r : Bytes) : (s.doneNow k n r).mem = s.mem := rfl
@[simp] theorem State.doneNow_sent (k n : Nat) (r : Bytes) : (s.doneNow k n r).sent = s.sent := rfl
@[simp] theorem State.doneNow_freeIdx (k n : Nat) (r : Bytes) : (s.doneNow k n r).freeIdx = s.freeIdx := rfl

/-! ### `raise` changes `flt` only -/

@[simp] theorem State.raise_pending (e : FaultEvent) : (s.raise e).pending = s.pending := rfl
@[simp] theorem State.raise_bell (e : FaultEvent) : (s.raise e).bell = s.bell := rfl
@[simp] theorem State.raise_hier (e : FaultEvent) : (s.raise e).hier = s.hier := rfl
@[simp] theorem State.raise_sw (e : FaultEvent) : (s.raise e).sw = s.sw := rfl
@[simp] theorem State.raise_sched (e : FaultEvent) : (s.raise e).sched = s.sched := rfl
@[simp] theorem State.raise_xp (e : FaultEvent) : (s.raise e).xp = s.xp := rfl
@[simp] theorem State.raise_cc (e : FaultEvent) : (s.raise e).cc = s.cc := rfl
@[simp] theorem State.raise_tgt (e : FaultEvent) : (s.raise e).tgt = s.tgt := rfl
@[simp] theorem State.raise_vol (e : FaultEvent) : (s.raise e).vol = s.vol := rfl
@[simp] theorem State.raise_led (e : FaultEvent) : (s.raise e).led = s.led := rfl
@[simp] theorem State.raise_ciph (e : FaultEvent) : (s.raise e).ciph = s.ciph := rfl
@[simp] theorem State.raise_bay (e : FaultEvent) : (s.raise e).bay = s.bay := rfl
@[simp] theorem State.raise_stby (e : FaultEvent) : (s.raise e).stby = s.stby := rfl
@[simp] theorem State.raise_ep (e : FaultEvent) : (s.raise e).ep = s.ep := rfl
@[simp] theorem State.raise_cor (e : FaultEvent) : (s.raise e).cor = s.cor := rfl
@[simp] theorem State.raise_dict (e : FaultEvent) : (s.raise e).dict = s.dict := rfl
@[simp] theorem State.raise_mp (e : FaultEvent) : (s.raise e).mp = s.mp := rfl
@[simp] theorem State.raise_rst (e : FaultEvent) : (s.raise e).rst = s.rst := rfl
@[simp] theorem State.raise_pins (e : FaultEvent) : (s.raise e).pins = s.pins := rfl
@[simp] theorem State.raise_ctr (e : FaultEvent) : (s.raise e).ctr = s.ctr := rfl
@[simp] theorem State.raise_mem (e : FaultEvent) : (s.raise e).mem = s.mem := rfl
@[simp] theorem State.raise_sent (e : FaultEvent) : (s.raise e).sent = s.sent := rfl
@[simp] theorem State.raise_freeIdx (e : FaultEvent) : (s.raise e).freeIdx = s.freeIdx := rfl

/-! ### `fault` changes `flt` only -/

@[simp] theorem State.fault_pending (c d : Nat) : (s.fault c d).pending = s.pending := rfl
@[simp] theorem State.fault_bell (c d : Nat) : (s.fault c d).bell = s.bell := rfl
@[simp] theorem State.fault_hier (c d : Nat) : (s.fault c d).hier = s.hier := rfl
@[simp] theorem State.fault_sw (c d : Nat) : (s.fault c d).sw = s.sw := rfl
@[simp] theorem State.fault_sched (c d : Nat) : (s.fault c d).sched = s.sched := rfl
@[simp] theorem State.fault_xp (c d : Nat) : (s.fault c d).xp = s.xp := rfl
@[simp] theorem State.fault_cc (c d : Nat) : (s.fault c d).cc = s.cc := rfl
@[simp] theorem State.fault_tgt (c d : Nat) : (s.fault c d).tgt = s.tgt := rfl
@[simp] theorem State.fault_vol (c d : Nat) : (s.fault c d).vol = s.vol := rfl
@[simp] theorem State.fault_led (c d : Nat) : (s.fault c d).led = s.led := rfl
@[simp] theorem State.fault_ciph (c d : Nat) : (s.fault c d).ciph = s.ciph := rfl
@[simp] theorem State.fault_bay (c d : Nat) : (s.fault c d).bay = s.bay := rfl
@[simp] theorem State.fault_stby (c d : Nat) : (s.fault c d).stby = s.stby := rfl
@[simp] theorem State.fault_ep (c d : Nat) : (s.fault c d).ep = s.ep := rfl
@[simp] theorem State.fault_cor (c d : Nat) : (s.fault c d).cor = s.cor := rfl
@[simp] theorem State.fault_dict (c d : Nat) : (s.fault c d).dict = s.dict := rfl
@[simp] theorem State.fault_mp (c d : Nat) : (s.fault c d).mp = s.mp := rfl
@[simp] theorem State.fault_rst (c d : Nat) : (s.fault c d).rst = s.rst := rfl
@[simp] theorem State.fault_pins (c d : Nat) : (s.fault c d).pins = s.pins := rfl
@[simp] theorem State.fault_ctr (c d : Nat) : (s.fault c d).ctr = s.ctr := rfl
@[simp] theorem State.fault_mem (c d : Nat) : (s.fault c d).mem = s.mem := rfl
@[simp] theorem State.fault_sent (c d : Nat) : (s.fault c d).sent = s.sent := rfl
@[simp] theorem State.fault_freeIdx (c d : Nat) : (s.fault c d).freeIdx = s.freeIdx := rfl

/-! ### `faultAt` changes `flt` only -/

@[simp] theorem State.faultAt_pending (c d r x : Nat) : (s.faultAt c d r x).pending = s.pending := rfl
@[simp] theorem State.faultAt_bell (c d r x : Nat) : (s.faultAt c d r x).bell = s.bell := rfl
@[simp] theorem State.faultAt_hier (c d r x : Nat) : (s.faultAt c d r x).hier = s.hier := rfl
@[simp] theorem State.faultAt_sw (c d r x : Nat) : (s.faultAt c d r x).sw = s.sw := rfl
@[simp] theorem State.faultAt_sched (c d r x : Nat) : (s.faultAt c d r x).sched = s.sched := rfl
@[simp] theorem State.faultAt_xp (c d r x : Nat) : (s.faultAt c d r x).xp = s.xp := rfl
@[simp] theorem State.faultAt_cc (c d r x : Nat) : (s.faultAt c d r x).cc = s.cc := rfl
@[simp] theorem State.faultAt_tgt (c d r x : Nat) : (s.faultAt c d r x).tgt = s.tgt := rfl
@[simp] theorem State.faultAt_vol (c d r x : Nat) : (s.faultAt c d r x).vol = s.vol := rfl
@[simp] theorem State.faultAt_led (c d r x : Nat) : (s.faultAt c d r x).led = s.led := rfl
@[simp] theorem State.faultAt_ciph (c d r x : Nat) : (s.faultAt c d r x).ciph = s.ciph := rfl
@[simp] theorem State.faultAt_bay (c d r x : Nat) : (s.faultAt c d r x).bay = s.bay := rfl
@[simp] theorem State.faultAt_stby (c d r x : Nat) : (s.faultAt c d r x).stby = s.stby := rfl
@[simp] theorem State.faultAt_ep (c d r x : Nat) : (s.faultAt c d r x).ep = s.ep := rfl
@[simp] theorem State.faultAt_cor (c d r x : Nat) : (s.faultAt c d r x).cor = s.cor := rfl
@[simp] theorem State.faultAt_dict (c d r x : Nat) : (s.faultAt c d r x).dict = s.dict := rfl
@[simp] theorem State.faultAt_mp (c d r x : Nat) : (s.faultAt c d r x).mp = s.mp := rfl
@[simp] theorem State.faultAt_rst (c d r x : Nat) : (s.faultAt c d r x).rst = s.rst := rfl
@[simp] theorem State.faultAt_pins (c d r x : Nat) : (s.faultAt c d r x).pins = s.pins := rfl
@[simp] theorem State.faultAt_ctr (c d r x : Nat) : (s.faultAt c d r x).ctr = s.ctr := rfl
@[simp] theorem State.faultAt_mem (c d r x : Nat) : (s.faultAt c d r x).mem = s.mem := rfl
@[simp] theorem State.faultAt_sent (c d r x : Nat) : (s.faultAt c d r x).sent = s.sent := rfl
@[simp] theorem State.faultAt_freeIdx (c d r x : Nat) : (s.faultAt c d r x).freeIdx = s.freeIdx := rfl

/-! ### `slot` changes `ctr` only -/

@[simp] theorem State.slot_pending (i : Nat) (w : Bool) : (s.slot i w).pending = s.pending := rfl
@[simp] theorem State.slot_bell (i : Nat) (w : Bool) : (s.slot i w).bell = s.bell := rfl
@[simp] theorem State.slot_hier (i : Nat) (w : Bool) : (s.slot i w).hier = s.hier := rfl
@[simp] theorem State.slot_sw (i : Nat) (w : Bool) : (s.slot i w).sw = s.sw := rfl
@[simp] theorem State.slot_sched (i : Nat) (w : Bool) : (s.slot i w).sched = s.sched := rfl
@[simp] theorem State.slot_xp (i : Nat) (w : Bool) : (s.slot i w).xp = s.xp := rfl
@[simp] theorem State.slot_cc (i : Nat) (w : Bool) : (s.slot i w).cc = s.cc := rfl
@[simp] theorem State.slot_tgt (i : Nat) (w : Bool) : (s.slot i w).tgt = s.tgt := rfl
@[simp] theorem State.slot_vol (i : Nat) (w : Bool) : (s.slot i w).vol = s.vol := rfl
@[simp] theorem State.slot_led (i : Nat) (w : Bool) : (s.slot i w).led = s.led := rfl
@[simp] theorem State.slot_ciph (i : Nat) (w : Bool) : (s.slot i w).ciph = s.ciph := rfl
@[simp] theorem State.slot_bay (i : Nat) (w : Bool) : (s.slot i w).bay = s.bay := rfl
@[simp] theorem State.slot_stby (i : Nat) (w : Bool) : (s.slot i w).stby = s.stby := rfl
@[simp] theorem State.slot_ep (i : Nat) (w : Bool) : (s.slot i w).ep = s.ep := rfl
@[simp] theorem State.slot_cor (i : Nat) (w : Bool) : (s.slot i w).cor = s.cor := rfl
@[simp] theorem State.slot_dict (i : Nat) (w : Bool) : (s.slot i w).dict = s.dict := rfl
@[simp] theorem State.slot_flt (i : Nat) (w : Bool) : (s.slot i w).flt = s.flt := rfl
@[simp] theorem State.slot_mp (i : Nat) (w : Bool) : (s.slot i w).mp = s.mp := rfl
@[simp] theorem State.slot_rst (i : Nat) (w : Bool) : (s.slot i w).rst = s.rst := rfl
@[simp] theorem State.slot_pins (i : Nat) (w : Bool) : (s.slot i w).pins = s.pins := rfl
@[simp] theorem State.slot_mem (i : Nat) (w : Bool) : (s.slot i w).mem = s.mem := rfl
@[simp] theorem State.slot_sent (i : Nat) (w : Bool) : (s.slot i w).sent = s.sent := rfl
@[simp] theorem State.slot_freeIdx (i : Nat) (w : Bool) : (s.slot i w).freeIdx = s.freeIdx := rfl

/-! ### `creditBlocked` changes `ctr` only -/

@[simp] theorem State.creditBlocked_pending (i : Nat) : (s.creditBlocked i).pending = s.pending := rfl
@[simp] theorem State.creditBlocked_bell (i : Nat) : (s.creditBlocked i).bell = s.bell := rfl
@[simp] theorem State.creditBlocked_hier (i : Nat) : (s.creditBlocked i).hier = s.hier := rfl
@[simp] theorem State.creditBlocked_sw (i : Nat) : (s.creditBlocked i).sw = s.sw := rfl
@[simp] theorem State.creditBlocked_sched (i : Nat) : (s.creditBlocked i).sched = s.sched := rfl
@[simp] theorem State.creditBlocked_xp (i : Nat) : (s.creditBlocked i).xp = s.xp := rfl
@[simp] theorem State.creditBlocked_cc (i : Nat) : (s.creditBlocked i).cc = s.cc := rfl
@[simp] theorem State.creditBlocked_tgt (i : Nat) : (s.creditBlocked i).tgt = s.tgt := rfl
@[simp] theorem State.creditBlocked_vol (i : Nat) : (s.creditBlocked i).vol = s.vol := rfl
@[simp] theorem State.creditBlocked_led (i : Nat) : (s.creditBlocked i).led = s.led := rfl
@[simp] theorem State.creditBlocked_ciph (i : Nat) : (s.creditBlocked i).ciph = s.ciph := rfl
@[simp] theorem State.creditBlocked_bay (i : Nat) : (s.creditBlocked i).bay = s.bay := rfl
@[simp] theorem State.creditBlocked_stby (i : Nat) : (s.creditBlocked i).stby = s.stby := rfl
@[simp] theorem State.creditBlocked_ep (i : Nat) : (s.creditBlocked i).ep = s.ep := rfl
@[simp] theorem State.creditBlocked_cor (i : Nat) : (s.creditBlocked i).cor = s.cor := rfl
@[simp] theorem State.creditBlocked_dict (i : Nat) : (s.creditBlocked i).dict = s.dict := rfl
@[simp] theorem State.creditBlocked_flt (i : Nat) : (s.creditBlocked i).flt = s.flt := rfl
@[simp] theorem State.creditBlocked_mp (i : Nat) : (s.creditBlocked i).mp = s.mp := rfl
@[simp] theorem State.creditBlocked_rst (i : Nat) : (s.creditBlocked i).rst = s.rst := rfl
@[simp] theorem State.creditBlocked_pins (i : Nat) : (s.creditBlocked i).pins = s.pins := rfl
@[simp] theorem State.creditBlocked_mem (i : Nat) : (s.creditBlocked i).mem = s.mem := rfl
@[simp] theorem State.creditBlocked_sent (i : Nat) : (s.creditBlocked i).sent = s.sent := rfl
@[simp] theorem State.creditBlocked_freeIdx (i : Nat) : (s.creditBlocked i).freeIdx = s.freeIdx := rfl

/-! ### `hbmPut` changes `mem` only -/

@[simp] theorem State.hbmPut_pending (a : Nat) (b : Bytes) : (s.hbmPut a b).pending = s.pending := rfl
@[simp] theorem State.hbmPut_bell (a : Nat) (b : Bytes) : (s.hbmPut a b).bell = s.bell := rfl
@[simp] theorem State.hbmPut_hier (a : Nat) (b : Bytes) : (s.hbmPut a b).hier = s.hier := rfl
@[simp] theorem State.hbmPut_sw (a : Nat) (b : Bytes) : (s.hbmPut a b).sw = s.sw := rfl
@[simp] theorem State.hbmPut_sched (a : Nat) (b : Bytes) : (s.hbmPut a b).sched = s.sched := rfl
@[simp] theorem State.hbmPut_xp (a : Nat) (b : Bytes) : (s.hbmPut a b).xp = s.xp := rfl
@[simp] theorem State.hbmPut_cc (a : Nat) (b : Bytes) : (s.hbmPut a b).cc = s.cc := rfl
@[simp] theorem State.hbmPut_tgt (a : Nat) (b : Bytes) : (s.hbmPut a b).tgt = s.tgt := rfl
@[simp] theorem State.hbmPut_vol (a : Nat) (b : Bytes) : (s.hbmPut a b).vol = s.vol := rfl
@[simp] theorem State.hbmPut_led (a : Nat) (b : Bytes) : (s.hbmPut a b).led = s.led := rfl
@[simp] theorem State.hbmPut_ciph (a : Nat) (b : Bytes) : (s.hbmPut a b).ciph = s.ciph := rfl
@[simp] theorem State.hbmPut_bay (a : Nat) (b : Bytes) : (s.hbmPut a b).bay = s.bay := rfl
@[simp] theorem State.hbmPut_stby (a : Nat) (b : Bytes) : (s.hbmPut a b).stby = s.stby := rfl
@[simp] theorem State.hbmPut_ep (a : Nat) (b : Bytes) : (s.hbmPut a b).ep = s.ep := rfl
@[simp] theorem State.hbmPut_cor (a : Nat) (b : Bytes) : (s.hbmPut a b).cor = s.cor := rfl
@[simp] theorem State.hbmPut_dict (a : Nat) (b : Bytes) : (s.hbmPut a b).dict = s.dict := rfl
@[simp] theorem State.hbmPut_flt (a : Nat) (b : Bytes) : (s.hbmPut a b).flt = s.flt := rfl
@[simp] theorem State.hbmPut_mp (a : Nat) (b : Bytes) : (s.hbmPut a b).mp = s.mp := rfl
@[simp] theorem State.hbmPut_rst (a : Nat) (b : Bytes) : (s.hbmPut a b).rst = s.rst := rfl
@[simp] theorem State.hbmPut_pins (a : Nat) (b : Bytes) : (s.hbmPut a b).pins = s.pins := rfl
@[simp] theorem State.hbmPut_ctr (a : Nat) (b : Bytes) : (s.hbmPut a b).ctr = s.ctr := rfl
@[simp] theorem State.hbmPut_sent (a : Nat) (b : Bytes) : (s.hbmPut a b).sent = s.sent := rfl
@[simp] theorem State.hbmPut_freeIdx (a : Nat) (b : Bytes) : (s.hbmPut a b).freeIdx = s.freeIdx := rfl

/-! ### `count` changes `ctr` only -/

@[simp] theorem State.count_pending (c i n : Nat) : (s.count c i n).pending = s.pending := by unfold State.count; split <;> rfl
@[simp] theorem State.count_bell (c i n : Nat) : (s.count c i n).bell = s.bell := by unfold State.count; split <;> rfl
@[simp] theorem State.count_hier (c i n : Nat) : (s.count c i n).hier = s.hier := by unfold State.count; split <;> rfl
@[simp] theorem State.count_sw (c i n : Nat) : (s.count c i n).sw = s.sw := by unfold State.count; split <;> rfl
@[simp] theorem State.count_sched (c i n : Nat) : (s.count c i n).sched = s.sched := by unfold State.count; split <;> rfl
@[simp] theorem State.count_xp (c i n : Nat) : (s.count c i n).xp = s.xp := by unfold State.count; split <;> rfl
@[simp] theorem State.count_cc (c i n : Nat) : (s.count c i n).cc = s.cc := by unfold State.count; split <;> rfl
@[simp] theorem State.count_tgt (c i n : Nat) : (s.count c i n).tgt = s.tgt := by unfold State.count; split <;> rfl
@[simp] theorem State.count_vol (c i n : Nat) : (s.count c i n).vol = s.vol := by unfold State.count; split <;> rfl
@[simp] theorem State.count_led (c i n : Nat) : (s.count c i n).led = s.led := by unfold State.count; split <;> rfl
@[simp] theorem State.count_ciph (c i n : Nat) : (s.count c i n).ciph = s.ciph := by unfold State.count; split <;> rfl
@[simp] theorem State.count_bay (c i n : Nat) : (s.count c i n).bay = s.bay := by unfold State.count; split <;> rfl
@[simp] theorem State.count_stby (c i n : Nat) : (s.count c i n).stby = s.stby := by unfold State.count; split <;> rfl
@[simp] theorem State.count_ep (c i n : Nat) : (s.count c i n).ep = s.ep := by unfold State.count; split <;> rfl
@[simp] theorem State.count_cor (c i n : Nat) : (s.count c i n).cor = s.cor := by unfold State.count; split <;> rfl
@[simp] theorem State.count_dict (c i n : Nat) : (s.count c i n).dict = s.dict := by unfold State.count; split <;> rfl
@[simp] theorem State.count_flt (c i n : Nat) : (s.count c i n).flt = s.flt := by unfold State.count; split <;> rfl
@[simp] theorem State.count_mp (c i n : Nat) : (s.count c i n).mp = s.mp := by unfold State.count; split <;> rfl
@[simp] theorem State.count_rst (c i n : Nat) : (s.count c i n).rst = s.rst := by unfold State.count; split <;> rfl
@[simp] theorem State.count_pins (c i n : Nat) : (s.count c i n).pins = s.pins := by unfold State.count; split <;> rfl
@[simp] theorem State.count_mem (c i n : Nat) : (s.count c i n).mem = s.mem := by unfold State.count; split <;> rfl
@[simp] theorem State.count_sent (c i n : Nat) : (s.count c i n).sent = s.sent := by unfold State.count; split <;> rfl
@[simp] theorem State.count_freeIdx (c i n : Nat) : (s.count c i n).freeIdx = s.freeIdx := by unfold State.count; split <;> rfl

/-! ### `lateWaste` changes `ctr` only -/

@[simp] theorem State.lateWaste_pending (i n : Nat) : (s.lateWaste i n).pending = s.pending := by unfold State.lateWaste; split <;> rfl
@[simp] theorem State.lateWaste_bell (i n : Nat) : (s.lateWaste i n).bell = s.bell := by unfold State.lateWaste; split <;> rfl
@[simp] theorem State.lateWaste_hier (i n : Nat) : (s.lateWaste i n).hier = s.hier := by unfold State.lateWaste; split <;> rfl
@[simp] theorem State.lateWaste_sw (i n : Nat) : (s.lateWaste i n).sw = s.sw := by unfold State.lateWaste; split <;> rfl
@[simp] theorem State.lateWaste_sched (i n : Nat) : (s.lateWaste i n).sched = s.sched := by unfold State.lateWaste; split <;> rfl
@[simp] theorem State.lateWaste_xp (i n : Nat) : (s.lateWaste i n).xp = s.xp := by unfold State.lateWaste; split <;> rfl
@[simp] theorem State.lateWaste_cc (i n : Nat) : (s.lateWaste i n).cc = s.cc := by unfold State.lateWaste; split <;> rfl
@[simp] theorem State.lateWaste_tgt (i n : Nat) : (s.lateWaste i n).tgt = s.tgt := by unfold State.lateWaste; split <;> rfl
@[simp] theorem State.lateWaste_vol (i n : Nat) : (s.lateWaste i n).vol = s.vol := by unfold State.lateWaste; split <;> rfl
@[simp] theorem State.lateWaste_led (i n : Nat) : (s.lateWaste i n).led = s.led := by unfold State.lateWaste; split <;> rfl
@[simp] theorem State.lateWaste_ciph (i n : Nat) : (s.lateWaste i n).ciph = s.ciph := by unfold State.lateWaste; split <;> rfl
@[simp] theorem State.lateWaste_bay (i n : Nat) : (s.lateWaste i n).bay = s.bay := by unfold State.lateWaste; split <;> rfl
@[simp] theorem State.lateWaste_stby (i n : Nat) : (s.lateWaste i n).stby = s.stby := by unfold State.lateWaste; split <;> rfl
@[simp] theorem State.lateWaste_ep (i n : Nat) : (s.lateWaste i n).ep = s.ep := by unfold State.lateWaste; split <;> rfl
@[simp] theorem State.lateWaste_cor (i n : Nat) : (s.lateWaste i n).cor = s.cor := by unfold State.lateWaste; split <;> rfl
@[simp] theorem State.lateWaste_dict (i n : Nat) : (s.lateWaste i n).dict = s.dict := by unfold State.lateWaste; split <;> rfl
@[simp] theorem State.lateWaste_flt (i n : Nat) : (s.lateWaste i n).flt = s.flt := by unfold State.lateWaste; split <;> rfl
@[simp] theorem State.lateWaste_mp (i n : Nat) : (s.lateWaste i n).mp = s.mp := by unfold State.lateWaste; split <;> rfl
@[simp] theorem State.lateWaste_rst (i n : Nat) : (s.lateWaste i n).rst = s.rst := by unfold State.lateWaste; split <;> rfl
@[simp] theorem State.lateWaste_pins (i n : Nat) : (s.lateWaste i n).pins = s.pins := by unfold State.lateWaste; split <;> rfl
@[simp] theorem State.lateWaste_mem (i n : Nat) : (s.lateWaste i n).mem = s.mem := by unfold State.lateWaste; split <;> rfl
@[simp] theorem State.lateWaste_sent (i n : Nat) : (s.lateWaste i n).sent = s.sent := by unfold State.lateWaste; split <;> rfl
@[simp] theorem State.lateWaste_freeIdx (i n : Nat) : (s.lateWaste i n).freeIdx = s.freeIdx := by unfold State.lateWaste; split <;> rfl

/-! ### What each writes -/

@[simp] theorem State.took_freeIdx : s.took.freeIdx = s.freeIdx + 1 := rfl
@[simp] theorem State.emit_sent (e : Emission) : (s.emit e).sent = s.sent ++ [e] := rfl
@[simp] theorem State.raise_events (e : FaultEvent) : (s.raise e).flt.events = s.flt.events ++ [e] := rfl
@[simp] theorem State.fault_events (c d : Nat) : (s.fault c d).flt.events = s.flt.events ++ [{ source := c, detail := d }] := rfl
@[simp] theorem State.faultAt_events (c d r x : Nat) :
    (s.faultAt c d r x).flt.events = s.flt.events ++ [{ source := c, die := d, region := r, detail := x }] := rfl
@[simp] theorem State.status_lastStatus (n : Nat) : (s.status n).dict.lastStatus = n := rfl
@[simp] theorem State.persist_gen : s.persist.dict.persistGen = s.dict.persistGen + 1 := rfl
@[simp] theorem State.hbmPut_mem (a : Nat) (b : Bytes) : (s.hbmPut a b).mem = s.mem.write a b := rfl

end Sys2Proof.Machine
end

