-- ==== Sys2Proof/Laws/Tables.lean ====
section
/-! SUPPORT. The sparse tables: an entry read back after it is set, erased or changed, and the octet strings' lengths. -/

namespace Sys2Proof

variable {α : Type}

@[simp] theorem tget_nil (i : Nat) : tget ([] : Tbl α) i = none := rfl

@[simp] theorem tget_tset_self (t : Tbl α) (i : Nat) (v : α) : tget (tset t i v) i = some v := by
  induction t with
  | nil => simp [tset, tget]
  | cons p r ih =>
    obtain ⟨k, w⟩ := p
    unfold tset
    split
    · simp [tget]
    · split
      · simp [tget]
      · have : ¬ k = i := fun e => by simp_all
        simp [tget, this, ih]

theorem tget_tset_ne (t : Tbl α) (i j : Nat) (v : α) (h : j ≠ i) : tget (tset t i v) j = tget t j := by
  have h' : ¬ i = j := fun e => h e.symm
  induction t with
  | nil => simp [tset, tget, h']
  | cons p r ih =>
    obtain ⟨k, w⟩ := p
    unfold tset
    split
    · simp [tget, h']
    · split
      · subst i; simp [tget, h']
      · simp [tget, ih]

@[simp] theorem tgetD_tset_self (t : Tbl α) (i : Nat) (v d : α) : tgetD (tset t i v) i d = v := by simp [tgetD]

theorem tgetD_tset_ne (t : Tbl α) (i j : Nat) (v d : α) (h : j ≠ i) : tgetD (tset t i v) j d = tgetD t j d := by
  simp [tgetD, tget_tset_ne t i j v h]

@[simp] theorem tget_tmod_self (t : Tbl α) (i : Nat) (d : α) (f : α → α) : tget (tmod t i d f) i = some (f (tgetD t i d)) := by simp [tmod]

theorem tget_tmod_ne (t : Tbl α) (i j : Nat) (d : α) (f : α → α) (h : j ≠ i) : tget (tmod t i d f) j = tget t j := by
  simp [tmod, tget_tset_ne t i j _ h]

/-- An entry that is found is in the table. -/
theorem mem_of_tget (t : Tbl α) (i : Nat) (v : α) (h : tget t i = some v) : (i, v) ∈ t := by
  induction t with
  | nil => simp at h
  | cons p t ih =>
    simp only [tget] at h
    split at h
    · next g => cases h; subst g; exact List.mem_cons_self
    · exact List.mem_cons_of_mem _ (ih h)

@[simp] theorem tget_terase_self (t : Tbl α) (i : Nat) : tget (terase t i) i = none := by
  induction t with
  | nil => rfl
  | cons p r ih =>
    obtain ⟨k, w⟩ := p
    unfold terase
    split
    · exact ih
    · rename_i h; simp [tget, h, ih]

theorem tget_terase_ne (t : Tbl α) (i j : Nat) (h : j ≠ i) : tget (terase t i) j = tget t j := by
  induction t with
  | nil => rfl
  | cons p r ih =>
    obtain ⟨k, w⟩ := p
    unfold terase
    split
    · rename_i hk
      have : ¬ k = j := fun e => h (by omega)
      simp [tget, this, ih]
    · simp [tget, ih]

@[simp] theorem le_length (n w : Nat) : (le n w).length = n := by
  induction n generalizing w with
  | zero => rfl
  | succ n ih => simp [le, ih]

@[simp] theorem padTo_length (n : Nat) (b : Bytes) : (padTo n b).length = n := by
  simp [padTo, zeros]; omega

@[simp] theorem padTo_self (b : Bytes) : padTo b.length b = b := by simp [padTo, zeros]

end Sys2Proof
end

