-- ==== Sys2Proof/Laws/Shared.lean ====
section
/-! SUPPORT. The shared operations, each said once: when a command takes effect, what a write of a CMD object does, and its result set. -/

namespace Sys2Proof.Machine

/-- A command of a released device has its effect, with the queue as it was. -/
theorem up_of_isUp (s : State) (f : State → State) (h : s.isUp) : up s f = .next { f s with pending := s.pending } := by
  simp [up, effect, h]

/-- A command of a released device answers the state its effect leaves, where the effect leaves the queue alone. -/
theorem up_gives {s t : State} {f : State → State} (h : s.rst.phase = .up) (hf : f s = t) (hp : t.pending = s.pending) : up s f = .next t := by
  subst hf
  rw [up_of_isUp s f h, ← hp]

/-- A command of a released device answers the state its effect leaves, the queue apart. -/
theorem up_leaves {s t : State} {f : State → State} (h : s.rst.phase = .up) (hf : f s = t) : up s f = .next { t with pending := s.pending } := by
  subst hf
  exact up_of_isUp s f h

/-- A command whose effect may hand work on leaves what `settle` makes of its effect. -/
theorem act_leaves {s t : State} {f : State → State} (h : s.rst.phase = .up) (hf : f s = t) : act s f = .next { settle t with pending := s.pending } :=
  up_leaves h (by rw [hf])

theorem effect_gives {s t u : State} (hf : t = u) (hp : u.pending = s.pending) : effect s t = .next u := by
  subst hf
  rw [effect, ← hp]

/-- What has been handed on is taken only where something has. -/
theorem settle_calm {s : State} (hn : s.xp.notices = []) (hr : s.tgt.ring = []) : settle s = s := by
  simp [settle, settleGo, hn, hr]

/-- A command of a released device that hands nothing on answers the state its effect leaves. -/
theorem act_gives {s t : State} {f : State → State} (h : s.rst.phase = .up) (hf : f s = t) (hp : t.pending = s.pending)
    (hn : t.xp.notices = []) (hr : t.tgt.ring = []) : act s f = .next t :=
  up_gives h (by rw [hf, settle_calm hn hr]) hp

/-- Before the Saddle's release a command is lost (R561). -/
theorem up_of_held (s : State) (f : State → State) (h : ¬ s.isUp) : up s f = .next s := by
  simp [up, effect, h]

/-- A pin's command acts as any other once the Saddle has been released. -/
theorem pin_of_isUp (s : State) (f g : State → State) (h : s.isUp) : pin s f g = up s f := by
  have e : s.rst.phase = .up := h
  simp [pin, up, e]

/-- Before that it takes the level alone. -/
theorem pin_of_held (s : State) (f g : State → State) (h : ¬ s.isUp) : pin s f g = .next { g s with pending := s.pending } := by
  have e : ¬ s.rst.phase = .up := h
  simp [pin, effect, e]

theorem act_of_held (s : State) (f : State → State) (h : ¬ s.isUp) : act s f = .next s := up_of_held s _ h

/-- Every outcome of `effect` is a next state with the queue as it was. -/
theorem effect_next (s t : State) : effect s t = .next { t with pending := s.pending } := rfl

@[simp] theorem when_true (s : State) (f : State → State) : s.when true f = f s := rfl
@[simp] theorem when_false (s : State) (f : State → State) : s.when false f = s := rfl

/-- An accepted write of a CMD object runs its action on the filled-up parameters (R12). -/
theorem command_of_takes (s : State) (key set size : Nat) (par : Bytes) (act : Bytes → State → State) (h : s.takes set size par) :
    s.command key set size par act = act (padTo size par) (s.accepted key set size par) := by
  obtain ⟨-, hb, hl⟩ := h
  have : ¬ size < par.length := by omega
  simp [State.command, hb, this, State.accepted]

/-- An accepted `hier_command` runs its action (R12, R559). -/
theorem hierCommand_of_takes (s : State) (par : Bytes) (f : Bytes → State → State) (h : s.hierTakes par) :
    hierCommand par f s = f (padTo 8 par) (s.accepted hierSet hierSet 8 par) := by
  obtain ⟨h, hb, hr⟩ := h
  simp [hierCommand, hb, hr, command_of_takes _ _ _ _ _ _ h]

/-- A write while the set is busy changes nothing but the write's status (R12). -/
theorem command_of_busy (s : State) (key set size : Nat) (par : Bytes) (act : Bytes → State → State) (h : s.busy set = true) :
    s.command key set size par act = s.status 6 := by simp [State.command, h]

/-- A write longer than the object changes nothing but the write's status (R437). -/
theorem command_of_long (s : State) (key set size : Nat) (par : Bytes) (act : Bytes → State → State) (h : s.busy set = false) (hl : size < par.length) :
    s.command key set size par act = s.status 3 := by simp [State.command, h, hl]

/-- The result set of a command after it is changed. -/
@[simp] theorem res_onRes_self (s : State) (k : Nat) (f : CmdRes → CmdRes) : (s.onRes k f).res k = f (s.res k) := by
  simp [State.res, State.onRes, tmod]

theorem res_onRes_ne (s : State) (k j : Nat) (f : CmdRes → CmdRes) (h : j ≠ k) : (s.onRes k f).res j = s.res j := by
  simp [State.res, State.onRes, tmod, tgetD_tset_ne _ _ _ _ _ h]

/-- A stored object reads back. -/
@[simp] theorem obj_setObj_self (s : State) (k : Nat) (v d : Bytes) : (s.setObj k v).obj k d = v := by simp [State.obj, State.setObj]

theorem obj_setObj_ne (s : State) (k j : Nat) (v d : Bytes) (h : j ≠ k) : (s.setObj k v).obj j d = s.obj j d := by
  simp [State.obj, State.setObj, tgetD_tset_ne _ _ _ _ _ h]

/-! ### What an acceptance leaves alone -/

variable (s : State) (k st n : Nat) (p : Bytes)

@[simp] theorem State.accepted_pending : (s.accepted k st n p).pending = s.pending := rfl
@[simp] theorem State.accepted_bell : (s.accepted k st n p).bell = s.bell := rfl
@[simp] theorem State.accepted_hier : (s.accepted k st n p).hier = s.hier := rfl
@[simp] theorem State.accepted_sw : (s.accepted k st n p).sw = s.sw := rfl
@[simp] theorem State.accepted_sched : (s.accepted k st n p).sched = s.sched := rfl
@[simp] theorem State.accepted_xp : (s.accepted k st n p).xp = s.xp := rfl
@[simp] theorem State.accepted_cc : (s.accepted k st n p).cc = s.cc := rfl
@[simp] theorem State.accepted_tgt : (s.accepted k st n p).tgt = s.tgt := rfl
@[simp] theorem State.accepted_vol : (s.accepted k st n p).vol = s.vol := rfl
@[simp] theorem State.accepted_led : (s.accepted k st n p).led = s.led := rfl
@[simp] theorem State.accepted_ciph : (s.accepted k st n p).ciph = s.ciph := rfl
@[simp] theorem State.accepted_bay : (s.accepted k st n p).bay = s.bay := rfl
@[simp] theorem State.accepted_stby : (s.accepted k st n p).stby = s.stby := rfl
@[simp] theorem State.accepted_ep : (s.accepted k st n p).ep = s.ep := rfl
@[simp] theorem State.accepted_cor : (s.accepted k st n p).cor = s.cor := rfl
@[simp] theorem State.accepted_flt : (s.accepted k st n p).flt = s.flt := rfl
@[simp] theorem State.accepted_mp : (s.accepted k st n p).mp = s.mp := rfl
@[simp] theorem State.accepted_rst : (s.accepted k st n p).rst = s.rst := rfl
@[simp] theorem State.accepted_pins : (s.accepted k st n p).pins = s.pins := rfl
@[simp] theorem State.accepted_ctr : (s.accepted k st n p).ctr = s.ctr := rfl
@[simp] theorem State.accepted_mem : (s.accepted k st n p).mem = s.mem := rfl
@[simp] theorem State.accepted_sent : (s.accepted k st n p).sent = s.sent := rfl
@[simp] theorem State.accepted_freeIdx : (s.accepted k st n p).freeIdx = s.freeIdx := rfl
@[simp] theorem State.accepted_objs : (s.accepted k st n p).dict.objs = s.dict.objs := rfl
@[simp] theorem State.accepted_objN (a d : Nat) : (s.accepted k st n p).objN a d = s.objN a d := rfl
@[simp] theorem State.accepted_obj (a : Nat) (d : Bytes) : (s.accepted k st n p).obj a d = s.obj a d := rfl

/-- Counting a queue's hindered bells changes the counters alone. -/
theorem noteQueue_ctr (kind inst q : Nat) (s : State) : ∃ c, noteQueue kind inst q s = { s with ctr := c } := by
  unfold noteQueue
  split
  · exact ⟨s.ctr, rfl⟩
  · rename_i h; clear h
    generalize s.blocks kind inst q = l
    induction l generalizing s with
    | nil => exact ⟨s.ctr, rfl⟩
    | cons e l ih =>
      obtain ⟨c, hc⟩ := ih (s.count e (qCtr kind inst q))
      refine ⟨c, ?_⟩
      rw [List.foldl_cons, hc]
      unfold State.count; split <;> rfl

/-! ### Slot accounting (R526-R528): only the counters change. -/

theorem State.slots_only (s : State) (i n : Nat) : s.slots i n = { s with ctr := (s.slots i n).ctr } := by unfold State.slots; split <;> rfl
theorem State.slotToWaste_only (s : State) (i n : Nat) : s.slotToWaste i n = { s with ctr := (s.slotToWaste i n).ctr } := rfl
theorem State.budgetHeld_only (s : State) (i n : Nat) : s.budgetHeld i n = { s with ctr := (s.budgetHeld i n).ctr } := rfl
theorem State.creditBlocked_only (s : State) (i : Nat) : s.creditBlocked i = { s with ctr := (s.creditBlocked i).ctr } := rfl

/-- The four classes of an instance take every slot of a bell, where no more were used than there are (R527). -/
theorem classify_sum (n : Nat) (u : SlotUse) (c : SlotCtr) (h : u.retired + u.wasted ≤ n) :
    let d := classify n u c
    d.retired + d.wasted + d.front + d.back = c.retired + c.wasted + c.front + c.back + n := by
  simp only [classify]
  split <;> split <;> omega

end Sys2Proof.Machine
end

