-- ==== Sys2Proof/WellFormed.lean ====
section
/-! DEFINITION. Which commands are well formed: an operand that numbers one of a fixed count of things names one that the device has,
and the bytes of a command object fit the object and carry the opcode of their row (R12). -/

namespace Sys2Proof

/-- The bytes written to a command object of `size` bytes name opcode `k` in byte `b`; the bytes that are not written are 0 (R12, R437). -/
def opIs (size b k : Nat) (par : Bytes) : Bool := par.length ≤ size && (par.getD b 0).toNat = k

/-- A well-formed command. -/
def Instr.wf : Instr → Bool
  | .bellEdge _ => true
  | .lateItemComplete die region _ => die < 6 && region < 11
  | .edgeTimeout die => die < 6
  | .ptpLockWrite v => v < 256
  | .lockHoldoverExpired => true
  | .bellPhaseWrite v => v < 65536
  | .timeStep par => par.length = 8
  | .timeSet par => par.length ≤ 12
  | .rebase par => par.length = 1
  | .realignment => true
  | .referenceFail => true
  | .overrunRearm _ => true
  | .domainOff par => opIs 8 4 0 par
  | .domainOn par => opIs 8 4 1 par
  | .clusterQuiesce par => opIs 8 4 2 par
  | .clusterResume par => opIs 8 4 3 par
  | .regionCommandFence par => opIs 8 4 4 par
  | .regionCommandUnfence par => opIs 8 4 5 par
  | .domainForcedOff par => opIs 8 4 6 par
  | .quiesceComplete => true
  | .domainSwitchStart d => d < 20
  | .domainPowerGood d => d < 20
  | .domainPgTimeout d => d < 20
  | .domainRelease d => d < 20
  | .domainTrained d _ => d < 20
  | .domainRetentionLost d => d < 20
  | .clockGoodLost die => die < 6
  | .ucieRetry link => link < 10
  | .ucieLinkFail link => link < 10
  | .portModeWrite port sub v => port < 144 && (sub = 1 || sub = 2) && v < 256
  | .portEnableWrite port _ => port < 144
  | .portUp port => port < 144
  | .portDown port _ => port < 144
  | .fecWindowEnd lane => lane < 144
  | .frameReceive port _ => port < 144
  | .pfcRefresh port cls => port < 144 && cls < 8
  | .pfcReceive port mask _ => port < 144 && mask < 256
  | .pauseExpiry port cls => port < 144 && cls < 8
  | .pfcStormDetect port cls => port < 144 && cls < 8
  | .pfcStormRestore port cls => port < 144 && cls < 8
  | .xoffStormDetect port cls => port < 144 && cls < 8
  | .fdbAgeExpiry vid mac => vid < 4096 && mac < 281474976710656
  | .frameTransmit inst _ => inst < 153
  | .mgmtFrameSend _ _ => true
  | .fdbAddStatic par => opIs 48 0 1 par
  | .fdbDelete par => opIs 48 0 2 par
  | .fdbFlush par => opIs 48 0 3 par
  | .fdbLookup par => opIs 48 0 4 par
  | .groupWrite par => opIs 48 0 5 par
  | .groupRead par => opIs 48 0 6 par
  | .vlanWrite par => opIs 48 0 7 par
  | .vlanRead par => opIs 48 0 8 par
  | .sampleWindowEnd kind => kind < 3
  | .gateListSwitch kind inst => (kind = 0 && inst < 144 || kind = 2 && inst < 24)
  | .queueWrite par => opIs 64 0 1 par
  | .queueRead par => opIs 64 0 2 par
  | .instanceShaperWrite par => opIs 64 0 3 par
  | .instanceShaperRead par => opIs 64 0 4 par
  | .policerWrite par => opIs 64 0 5 par
  | .policerRead par => opIs 64 0 6 par
  | .policeMapWrite par => opIs 64 0 7 par
  | .policeMapRead par => opIs 64 0 8 par
  | .gateAdminWrite par => opIs 64 0 9 par
  | .gateCommit par => opIs 64 0 10 par
  | .gateRead par => opIs 64 0 11 par
  | .sampleFetch par => opIs 64 0 12 par
  | .packetReceive engine _ => engine < 8
  | .contextFetchComplete qpn _ => qpn < 16777216
  | .contextWritebackComplete qpn => qpn < 16777216
  | .retransmitTimeout qpn => qpn < 16777216
  | .rnrWaitExpiry qpn => qpn < 16777216
  | .qpCreate par => opIs 96 0 1 par
  | .qpConnect par => opIs 96 0 2 par
  | .qpToError par => opIs 96 0 3 par
  | .qpDestroy par => opIs 96 0 4 par
  | .qpDestroyComplete qpn => qpn < 16777216
  | .qpQuery par => opIs 96 0 5 par
  | .domainAllocate par => opIs 96 0 6 par
  | .domainFree par => opIs 96 0 7 par
  | .mrRegister par => opIs 48 0 1 par
  | .mrRevoke par => opIs 48 0 2 par
  | .mrQuery par => opIs 48 0 3 par
  | .mrDrainComplete idx => idx < 65536
  | .revokeTimeout idx => idx < 65536
  | .rateUpdate => true
  | .idleReset qpn => qpn < 16777216
  | .ccSetProfileMode par => opIs 16 0 1 par
  | .ccQueryRate par => opIs 16 0 2 par
  | .chainArm par => opIs 32 0 1 par
  | .chainDisarm par => opIs 32 0 2 par
  | .chainDisarmComplete engine chain => engine < 8 && chain < 256
  | .chainQuery par => opIs 32 0 3 par
  | .mirrorBind par => opIs 32 0 4 par
  | .mirrorUnbind par => opIs 32 0 5 par
  | .chainWrStart engine chain => engine < 8 && chain < 256
  | .chainWrComplete engine chain wr => engine < 8 && chain < 256 && wr < 64
  | .nvmeFlush _ => true
  | .nvmeWrite _ => true
  | .nvmeRead _ => true
  | .nvmeCompare _ => true
  | .nvmeWriteZeroes _ => true
  | .nvmeDatasetManagement _ => true
  | .nvmeAbort _ => true
  | .nvmeKeepAlive _ => true
  | .inboxRoute _ => true
  | .inboxHeldDeliver => true
  | .outboxRecord => true
  | .keepAliveExpired assoc => assoc < 2048
  | .namespaceWrite par => opIs 64 0 1 par
  | .namespaceRead par => opIs 64 0 2 par
  | .accessWrite par => opIs 64 0 3 par
  | .associationBind par => opIs 64 0 4 par
  | .associationRelease par => opIs 64 0 5 par
  | .queueBind par => opIs 64 0 6 par
  | .queueEnable par => opIs 64 0 7 par
  | .queueUnbind par => opIs 64 0 8 par
  | .reservationViewWrite par => opIs 64 0 9 par
  | .associationQuery par => opIs 64 0 10 par
  | .hostGroupWrite par => opIs 64 0 11 par
  | .chunkStage _ _ => true
  | .recordSubmit => true
  | .ledgerWriteComplete copy _ _ _ => copy < 3
  | .ledgerCopyTimeout copy => copy < 3
  | .replicationBufferRelease _ => true
  | .checkpointPersisted _ => true
  | .seedingComplete copy => copy < 3
  | .ledgerCreate par => opIs 80 0 1 par
  | .copyReplace par => opIs 80 0 2 par
  | .replay par => opIs 80 0 3 par
  | .replayComplete _ => true
  | .drain par => opIs 80 0 4 par
  | .drainComplete => true
  | .pwrfailWarning => true
  | .mergeStart group _ => group < 32
  | .mergeCommitSubmit group _ => group < 32
  | .claimGrant group _ => group < 32
  | .floatReturn group _ => group < 32
  | .driveCompletion bay _ _ => bay < 24
  | .memberTimeout bay _ => bay < 24
  | .spareTake group => group < 32
  | .rebuildItemComplete group stripe => group < 32 && stripe < 2147483648
  | .scrubItemComplete group stripe => group < 32 && stripe < 2147483648
  | .reshapeCopyCommit _ => true
  | .groupCreate par => opIs 64 0 1 par
  | .groupDelete par => opIs 64 0 2 par
  | .groupQuery par => opIs 64 0 3 par
  | .volumeCreate par => opIs 64 0 4 par
  | .volumeDelete par => opIs 64 0 5 par
  | .volumeQuery par => opIs 64 0 6 par
  | .reshapeStart par => opIs 64 0 7 par
  | .reshapePauseResume par => opIs 64 0 8 par
  | .rebuildStart par => opIs 64 0 9 par
  | .scrubControl par => opIs 64 0 10 par
  | .memberFailCommand par => opIs 64 0 11 par
  | .lostListFetch par => opIs 64 0 12 par
  | .keyHoldExpiry lane _ _ => lane < 16
  | .wseqGrant v => v < 2 ^ 64
  | .serviceDescriptor => true
  | .serviceDescriptorComplete => true
  | .randomHealthFail => true
  | .rootCreate _ par => opIs 160 0 1 par
  | .unwrap par => opIs 160 0 2 par
  | .enroll _ par => opIs 160 0 3 par
  | .escrowExport _ par => opIs 160 0 4 par
  | .rootUnload par => opIs 160 0 5 par
  | .volumeRekey par => opIs 160 0 6 par
  | .restore par => opIs 160 0 7 par
  | .volumeEpochQuery par => opIs 160 0 8 par
  | .operatorKeyWrite slot _ _ => slot < 8
  | .measurementExtend par => opIs 80 0 1 par
  | .attest par => opIs 80 0 2 par
  | .rollbackAdvance _ par => opIs 80 0 3 par
  | .oemRevoke _ par => opIs 80 0 4 par
  | .presenceChange bay _ _ => bay < 24
  | .seatingComplete bay => bay < 24
  | .perstRelease bay => bay < 24
  | .fastTrip bay => bay < 24
  | .efuseTrip bay _ => bay < 24
  | .gateStuck bay => bay < 24
  | .pgTimeout bay => bay < 24
  | .outputOutOfWindow bay => bay < 24
  | .passElementShort bay => bay < 24
  | .retryTimerExpiry bay => bay < 24
  | .adcFault bay _ _ => bay < 24
  | .driveShutdownComplete bay => bay < 24
  | .shutdownTimeout bay => bay < 24
  | .shutdownGateOff bay => bay < 24
  | .bayEnableWrite bay _ => bay < 24
  | .bayRelease bay par => bay < 24 && opIs 8 0 1 par
  | .bayEnergyClear bay par => bay < 24 && opIs 8 0 2 par
  | .bayPowerCycle bay par => bay < 24 && opIs 8 0 3 par
  | .bayHistoryClear bay par => bay < 24 && opIs 8 0 4 par
  | .driveLinkUp bay l _ => bay < 24 && 1 ≤ l.speed && l.speed ≤ 6 && [1, 2, 4].contains l.width
  | .driveLinkTimeout bay => bay < 24
  | .driveControllerReady bay _ _ => bay < 24
  | .driveEnableTimeout bay => bay < 24
  | .driveIdentifyComplete bay _ => bay < 24
  | .driveQueuesCreated bay _ => bay < 24
  | .cfsPoll bay _ => bay < 24
  | .driveLinkDown bay => bay < 24
  | .driveAerError bay => bay < 24
  | .sidebandPoll bay _ _ _ => bay < 24
  | .ledShift => true
  | .adminPassthrough par => opIs 96 0 1 par
  | .adminTimeout bay => bay < 24
  | .controllerReset par => opIs 96 0 2 par
  | .sidebandTransfer par _ _ => opIs 96 0 3 par
  | .linkRetrain par => opIs 96 0 4 par
  | .enterStandby par => opIs 8 0 1 par
  | .takeOver par => opIs 8 0 2 par
  | .handoverWaitEnd => true
  | .fenceStaggerExpiry => true
  | .fenceRelease par => opIs 8 0 3 par
  | .resign _ par => opIs 8 0 4 par
  | .fenceInAssert => true
  | .fenceInRelease => true
  | .withdraw => true
  | .hbRefresh _ => true
  | .hbHoldExpiry => true
  | .beatToggle => true
  | .activeInEdge _ => true
  | .beatWindowEnd => true
  | .peerFailDetect => true
  | .activeInSilence => true
  | .leaseConfirm _ => true
  | .leaseDeadline => true
  | .epLinkUp _ _ _ => true
  | .epConfigRequest _ off be data => off < 4096 && be < 16 && data < 2 ^ 32
  | .epConfigReadyWrite _ => true
  | .bar4Access _ => true
  | .epFundamentalReset _ => true
  | .epHotReset => true
  | .epFlr => true
  | .epFlrComplete => true
  | .resetRecordWrite => true
  | .interruptPendingSend vec => vec < 4096
  | .epCompletionReceive tag _ => tag < 16384
  | .epCompletionTimeout tag => tag < 16384
  | .tagQuarantineEnd tag => tag < 16384
  | .tailDoorbell q _ => q < 4096
  | .pushDoorbell q _ => q < 4096
  | .excConsDoorbell q _ => q < 4096
  | .entryFetchComplete q _ status => q < 4096 && status ≤ 8
  | .coroloRead q => q < 4096
  | .coroloWrite q => q < 4096
  | .coroloFlush q => q < 4096
  | .coroloDeallocate q => q < 4096
  | .dictionaryExchange q _ => q < 4096
  | .headPublish q => q < 4096
  | .modTimeExpiry q => q < 4096
  | .adminRingEnable => true
  | .adminRingDisable => true
  | .resetRecordClear => true
  | .ringCreate => true
  | .ringDisable => true
  | .ringDestroy => true
  | .ringSetModeration => true
  | .ringEnable => true
  | .ringDrainComplete q => q < 4096
  | .brodletRequest _ _ => true
  | .dwGo => true
  | .registerWrite _ => true
  | .dictExport par => opIs 32 0 1 par
  | .dictImport par => opIs 32 0 2 par
  | .requesterTableClear par => opIs 32 0 3 par
  | .haltFence => true
  | .faultNPulseEnd => true
  | .faultNHoldWrite _ => true
  | .faultInject par => par.length ≤ 8
  | .firstFaultRearm _ => true
  | .sourceCfgWrite j _ => j < 16
  | .severityActionsWrite sev _ => sev < 5
  | .sourceRecovery src => src < 256
  | .faultFenceRelease die region => die < 6 && region < 11
  | .correctedWriteback _ _ => true
  | .bucketLeak _ => true
  | .regionFill par => opIs 40 0 1 par
  | .hbmFill par => opIs 40 0 2 par
  | .fillComplete => true
  | .testWrite par => opIs 40 0 3 par
  | .testRead par => opIs 40 0 4 par
  | .instanceQuery par => opIs 40 0 5 par
  | .powerOnDetect => true
  | .porstNAssert => true
  | .resetNAssert => true
  | .resetCauseEnd _ _ _ => true
  | .resetStretchEnd => true
  | .fuseLoadComplete die _ => die < 6
  | .clockGoodReached die => die < 6
  | .clockGoodTimeout die => die < 6
  | .saddleRelease => true
  | .erralVerifyComplete _ _ => true
  | .domainBringUp par => opIs 4 0 1 par
  | .logicBist par => opIs 16 0 1 par
  | .memoryBist par => opIs 16 0 2 par
  | .logicAndMemoryBist par => opIs 16 0 3 par
  | .bistRegionComplete die region _ => die < 6 && region < 11
  | .dumpCapture par => opIs 32 0 1 par
  | .dumpCaptureComplete _ => true
  | .dumpClose par => opIs 32 0 2 par
  | .dumpClear par => opIs 32 0 3 par
  | .trstNAssert => true
  | .jtagBypass => true
  | .jtagIdcode => true
  | .jtagSamplePreload _ => true
  | .jtagExtest => true
  | .jtagClamp => true
  | .jtagHighz => true
  | .snapshotTarget => true
  | .clearAll par => opIs 16 0 1 par
  | .clearStage par => opIs 16 0 2 par
  | .clearSelectable par => opIs 16 0 3 par
  | .snapshotNow par => opIs 16 0 4 par
  | .counterRead par => opIs 16 0 5 par
  | .directoryQuery par => opIs 16 0 6 par
  | .ppsInEdge _ => true
  | .ppsOutRise => true
  | .ppsOutFall => true
  | .tempSensorUpdate temps => temps.length = 8
  | .firmwareDriveIo bay _ _ => bay < 24
  | .workRequestPost qpn _ => qpn < 16777216

end Sys2Proof
end

