-- ==== Sys2Proof/Tests/Slice0.lean ====
section
/-! SUPPORT. The smoke test of WellFormed, a witness for the hypotheses of every statement, and small tests of single commands. -/

open Sys2Proof Sys2Proof.Machine

/-! ### Ill-formed commands are refused by every check -/

theorem test_illFormed_1 :
    (Instr.lateItemComplete 6 0 0).wf = false ∧
    (Instr.lateItemComplete 0 11 0).wf = false ∧
    (Instr.edgeTimeout 6).wf = false ∧
    (Instr.ptpLockWrite 256).wf = false ∧
    (Instr.bellPhaseWrite 65536).wf = false ∧
    (Instr.timeStep []).wf = false ∧
    (Instr.timeSet (List.replicate 13 0)).wf = false ∧
    (Instr.rebase []).wf = false ∧
    (Instr.domainOff [0, 0, 0, 0, 99]).wf = false ∧
    (Instr.domainOn [0, 0, 0, 0, 99]).wf = false ∧
    (Instr.clusterQuiesce [0, 0, 0, 0, 99]).wf = false ∧
    (Instr.clusterResume [0, 0, 0, 0, 99]).wf = false ∧
    (Instr.regionCommandFence [0, 0, 0, 0, 99]).wf = false ∧
    (Instr.regionCommandUnfence [0, 0, 0, 0, 99]).wf = false ∧
    (Instr.domainForcedOff [0, 0, 0, 0, 99]).wf = false ∧
    (Instr.domainSwitchStart 20).wf = false ∧
    (Instr.domainPowerGood 20).wf = false ∧
    (Instr.domainPgTimeout 20).wf = false ∧
    (Instr.domainRelease 20).wf = false ∧
    (Instr.domainTrained 20 0).wf = false ∧
    (Instr.domainRetentionLost 20).wf = false ∧
    (Instr.clockGoodLost 6).wf = false ∧
    (Instr.ucieRetry 10).wf = false ∧
    (Instr.ucieLinkFail 10).wf = false ∧
    (Instr.portModeWrite 144 1 0).wf = false := by decide

theorem test_illFormed_2 :
    (Instr.portModeWrite 0 0 0).wf = false ∧
    (Instr.portModeWrite 0 1 256).wf = false ∧
    (Instr.portEnableWrite 144 0).wf = false ∧
    (Instr.portUp 144).wf = false ∧
    (Instr.portDown 144 false).wf = false ∧
    (Instr.fecWindowEnd 144).wf = false ∧
    (Instr.frameReceive 144 { data := [] }).wf = false ∧
    (Instr.pfcRefresh 144 0).wf = false ∧
    (Instr.pfcRefresh 0 8).wf = false ∧
    (Instr.pfcReceive 144 0 []).wf = false ∧
    (Instr.pfcReceive 0 256 []).wf = false ∧
    (Instr.pauseExpiry 144 0).wf = false ∧
    (Instr.pauseExpiry 0 8).wf = false ∧
    (Instr.pfcStormDetect 144 0).wf = false ∧
    (Instr.pfcStormDetect 0 8).wf = false ∧
    (Instr.pfcStormRestore 144 0).wf = false ∧
    (Instr.pfcStormRestore 0 8).wf = false ∧
    (Instr.xoffStormDetect 144 0).wf = false ∧
    (Instr.xoffStormDetect 0 8).wf = false ∧
    (Instr.fdbAgeExpiry 4096 0).wf = false ∧
    (Instr.fdbAgeExpiry 0 281474976710656).wf = false ∧
    (Instr.frameTransmit 153 0).wf = false ∧
    (Instr.fdbAddStatic [99]).wf = false ∧
    (Instr.fdbDelete [99]).wf = false ∧
    (Instr.fdbFlush [99]).wf = false := by decide

theorem test_illFormed_3 :
    (Instr.fdbLookup [99]).wf = false ∧
    (Instr.groupWrite [99]).wf = false ∧
    (Instr.groupRead [99]).wf = false ∧
    (Instr.vlanWrite [99]).wf = false ∧
    (Instr.vlanRead [99]).wf = false ∧
    (Instr.sampleWindowEnd 3).wf = false ∧
    (Instr.gateListSwitch 0 144).wf = false ∧
    (Instr.queueWrite [99]).wf = false ∧
    (Instr.queueRead [99]).wf = false ∧
    (Instr.instanceShaperWrite [99]).wf = false ∧
    (Instr.instanceShaperRead [99]).wf = false ∧
    (Instr.policerWrite [99]).wf = false ∧
    (Instr.policerRead [99]).wf = false ∧
    (Instr.policeMapWrite [99]).wf = false ∧
    (Instr.policeMapRead [99]).wf = false ∧
    (Instr.gateAdminWrite [99]).wf = false ∧
    (Instr.gateCommit [99]).wf = false ∧
    (Instr.gateRead [99]).wf = false ∧
    (Instr.sampleFetch [99]).wf = false ∧
    (Instr.contextFetchComplete 16777216 false).wf = false ∧
    (Instr.contextWritebackComplete 16777216).wf = false ∧
    (Instr.retransmitTimeout 16777216).wf = false ∧
    (Instr.rnrWaitExpiry 16777216).wf = false ∧
    (Instr.qpCreate [99]).wf = false ∧
    (Instr.qpConnect [99]).wf = false := by decide

theorem test_illFormed_4 :
    (Instr.qpToError [99]).wf = false ∧
    (Instr.qpDestroy [99]).wf = false ∧
    (Instr.qpDestroyComplete 16777216).wf = false ∧
    (Instr.qpQuery [99]).wf = false ∧
    (Instr.domainAllocate [99]).wf = false ∧
    (Instr.domainFree [99]).wf = false ∧
    (Instr.mrRegister [99]).wf = false ∧
    (Instr.mrRevoke [99]).wf = false ∧
    (Instr.mrQuery [99]).wf = false ∧
    (Instr.mrDrainComplete 65536).wf = false ∧
    (Instr.revokeTimeout 65536).wf = false ∧
    (Instr.idleReset 16777216).wf = false ∧
    (Instr.ccSetProfileMode [99]).wf = false ∧
    (Instr.ccQueryRate [99]).wf = false ∧
    (Instr.chainArm [99]).wf = false ∧
    (Instr.chainDisarm [99]).wf = false ∧
    (Instr.chainDisarmComplete 8 0).wf = false ∧
    (Instr.chainDisarmComplete 0 256).wf = false ∧
    (Instr.chainQuery [99]).wf = false ∧
    (Instr.mirrorBind [99]).wf = false ∧
    (Instr.mirrorUnbind [99]).wf = false ∧
    (Instr.chainWrStart 8 0).wf = false ∧
    (Instr.chainWrStart 0 256).wf = false ∧
    (Instr.chainWrComplete 8 0 0).wf = false ∧
    (Instr.chainWrComplete 0 256 0).wf = false := by decide

theorem test_illFormed_5 :
    (Instr.chainWrComplete 0 0 64).wf = false ∧
    (Instr.keepAliveExpired 2048).wf = false ∧
    (Instr.namespaceWrite [99]).wf = false ∧
    (Instr.namespaceRead [99]).wf = false ∧
    (Instr.accessWrite [99]).wf = false ∧
    (Instr.associationBind [99]).wf = false ∧
    (Instr.associationRelease [99]).wf = false ∧
    (Instr.queueBind [99]).wf = false ∧
    (Instr.queueEnable [99]).wf = false ∧
    (Instr.queueUnbind [99]).wf = false ∧
    (Instr.reservationViewWrite [99]).wf = false ∧
    (Instr.associationQuery [99]).wf = false ∧
    (Instr.hostGroupWrite [99]).wf = false ∧
    (Instr.ledgerWriteComplete 3 0 0 false).wf = false ∧
    (Instr.ledgerCopyTimeout 3).wf = false ∧
    (Instr.seedingComplete 3).wf = false ∧
    (Instr.ledgerCreate [99]).wf = false ∧
    (Instr.copyReplace [99]).wf = false ∧
    (Instr.replay [99]).wf = false ∧
    (Instr.drain [99]).wf = false ∧
    (Instr.mergeStart 32 0).wf = false ∧
    (Instr.mergeCommitSubmit 32 0).wf = false ∧
    (Instr.claimGrant 32 0).wf = false ∧
    (Instr.floatReturn 32 0).wf = false ∧
    (Instr.memberTimeout 24 0).wf = false := by decide

theorem test_illFormed_6 :
    (Instr.spareTake 32).wf = false ∧
    (Instr.rebuildItemComplete 32 0).wf = false ∧
    (Instr.rebuildItemComplete 0 2147483648).wf = false ∧
    (Instr.scrubItemComplete 32 0).wf = false ∧
    (Instr.scrubItemComplete 0 2147483648).wf = false ∧
    (Instr.groupCreate [99]).wf = false ∧
    (Instr.groupDelete [99]).wf = false ∧
    (Instr.groupQuery [99]).wf = false ∧
    (Instr.volumeCreate [99]).wf = false ∧
    (Instr.volumeDelete [99]).wf = false ∧
    (Instr.volumeQuery [99]).wf = false ∧
    (Instr.reshapeStart [99]).wf = false ∧
    (Instr.reshapePauseResume [99]).wf = false ∧
    (Instr.rebuildStart [99]).wf = false ∧
    (Instr.scrubControl [99]).wf = false ∧
    (Instr.memberFailCommand [99]).wf = false ∧
    (Instr.lostListFetch [99]).wf = false ∧
    (Instr.keyHoldExpiry 16 0 0).wf = false ∧
    (Instr.wseqGrant (2 ^ 64)).wf = false ∧
    (Instr.rootCreate false [99]).wf = false ∧
    (Instr.unwrap [99]).wf = false ∧
    (Instr.enroll false [99]).wf = false ∧
    (Instr.escrowExport false [99]).wf = false ∧
    (Instr.rootUnload [99]).wf = false ∧
    (Instr.volumeRekey [99]).wf = false ∧
    (Instr.restore [99]).wf = false ∧
    (Instr.volumeEpochQuery [99]).wf = false := by decide

theorem test_illFormed_7 :
    (Instr.operatorKeyWrite 8 false []).wf = false ∧
    (Instr.measurementExtend [99]).wf = false ∧
    (Instr.attest [99]).wf = false ∧
    (Instr.rollbackAdvance false [99]).wf = false ∧
    (Instr.oemRevoke false [99]).wf = false ∧
    (Instr.presenceChange 24 false false).wf = false ∧
    (Instr.seatingComplete 24).wf = false ∧
    (Instr.perstRelease 24).wf = false ∧
    (Instr.fastTrip 24).wf = false ∧
    (Instr.efuseTrip 24 false).wf = false ∧
    (Instr.gateStuck 24).wf = false ∧
    (Instr.pgTimeout 24).wf = false ∧
    (Instr.outputOutOfWindow 24).wf = false ∧
    (Instr.passElementShort 24).wf = false ∧
    (Instr.retryTimerExpiry 24).wf = false ∧
    (Instr.adcFault 24 0 false).wf = false ∧
    (Instr.driveShutdownComplete 24).wf = false ∧
    (Instr.shutdownTimeout 24).wf = false ∧
    (Instr.shutdownGateOff 24).wf = false ∧
    (Instr.bayEnableWrite 24 0).wf = false ∧
    (Instr.bayRelease 24 [1]).wf = false ∧
    (Instr.bayRelease 0 [99]).wf = false ∧
    (Instr.bayEnergyClear 24 [2]).wf = false ∧
    (Instr.bayEnergyClear 0 [99]).wf = false ∧
    (Instr.bayPowerCycle 24 [3]).wf = false := by decide

theorem test_illFormed_8 :
    (Instr.bayPowerCycle 0 [99]).wf = false ∧
    (Instr.bayHistoryClear 24 [4]).wf = false ∧
    (Instr.bayHistoryClear 0 [99]).wf = false ∧
    (Instr.driveLinkUp 24 { speed := 5, width := 4 } { mps := 512, timeout := 1 }).wf = false ∧
    (Instr.driveLinkUp 0 { speed := 7, width := 4 } { mps := 512, timeout := 1 }).wf = false ∧
    (Instr.driveLinkUp 0 { speed := 5, width := 3 } { mps := 512, timeout := 1 }).wf = false ∧
    (Instr.driveLinkTimeout 24).wf = false ∧
    (Instr.driveControllerReady 24 false 0).wf = false ∧
    (Instr.driveEnableTimeout 24).wf = false ∧
    (Instr.driveQueuesCreated 24 false).wf = false ∧
    (Instr.cfsPoll 24 false).wf = false ∧
    (Instr.driveLinkDown 24).wf = false ∧
    (Instr.driveAerError 24).wf = false ∧
    (Instr.sidebandPoll 24 .ack 0 0).wf = false ∧
    (Instr.adminPassthrough [99]).wf = false ∧
    (Instr.adminTimeout 24).wf = false ∧
    (Instr.controllerReset [99]).wf = false ∧
    (Instr.sidebandTransfer [99] .ack []).wf = false ∧
    (Instr.linkRetrain [99]).wf = false ∧
    (Instr.enterStandby [99]).wf = false ∧
    (Instr.takeOver [99]).wf = false ∧
    (Instr.fenceRelease [99]).wf = false ∧
    (Instr.resign false [99]).wf = false ∧
    (Instr.epConfigRequest false 4096 0 0).wf = false ∧
    (Instr.epConfigRequest false 0 16 0).wf = false ∧
    (Instr.epConfigRequest false 0 0 (2 ^ 32)).wf = false ∧
    (Instr.interruptPendingSend 4096).wf = false := by decide

theorem test_illFormed_9 :
    (Instr.epCompletionTimeout 16384).wf = false ∧
    (Instr.tagQuarantineEnd 16384).wf = false ∧
    (Instr.tailDoorbell 4096 0).wf = false ∧
    (Instr.pushDoorbell 4096 0).wf = false ∧
    (Instr.excConsDoorbell 4096 0).wf = false ∧
    (Instr.entryFetchComplete 4096 [] 0).wf = false ∧
    (Instr.entryFetchComplete 0 [] 9).wf = false ∧
    (Instr.coroloRead 4096).wf = false ∧
    (Instr.coroloWrite 4096).wf = false ∧
    (Instr.coroloFlush 4096).wf = false ∧
    (Instr.coroloDeallocate 4096).wf = false ∧
    (Instr.dictionaryExchange 4096 []).wf = false ∧
    (Instr.headPublish 4096).wf = false ∧
    (Instr.modTimeExpiry 4096).wf = false ∧
    (Instr.ringDrainComplete 4096).wf = false ∧
    (Instr.dictExport [99]).wf = false ∧
    (Instr.dictImport [99]).wf = false ∧
    (Instr.requesterTableClear [99]).wf = false ∧
    (Instr.faultInject (List.replicate 9 0)).wf = false ∧
    (Instr.sourceCfgWrite 16 []).wf = false ∧
    (Instr.severityActionsWrite 5 0).wf = false ∧
    (Instr.sourceRecovery 256).wf = false ∧
    (Instr.faultFenceRelease 6 0).wf = false ∧
    (Instr.faultFenceRelease 0 11).wf = false ∧
    (Instr.regionFill [99]).wf = false ∧
    (Instr.hbmFill [99]).wf = false := by decide

theorem test_illFormed_10 :
    (Instr.testWrite [99]).wf = false ∧
    (Instr.testRead [99]).wf = false ∧
    (Instr.instanceQuery [99]).wf = false ∧
    (Instr.clockGoodReached 6).wf = false ∧
    (Instr.clockGoodTimeout 6).wf = false ∧
    (Instr.domainBringUp [99]).wf = false ∧
    (Instr.logicBist [99]).wf = false ∧
    (Instr.memoryBist [99]).wf = false ∧
    (Instr.logicAndMemoryBist [99]).wf = false ∧
    (Instr.bistRegionComplete 6 0 0).wf = false ∧
    (Instr.bistRegionComplete 0 11 0).wf = false ∧
    (Instr.dumpCapture [99]).wf = false ∧
    (Instr.dumpClose [99]).wf = false ∧
    (Instr.dumpClear [99]).wf = false ∧
    (Instr.clearAll [99]).wf = false ∧
    (Instr.clearStage [99]).wf = false ∧
    (Instr.clearSelectable [99]).wf = false ∧
    (Instr.snapshotNow [99]).wf = false ∧
    (Instr.counterRead [99]).wf = false ∧
    (Instr.directoryQuery [99]).wf = false ∧
    (Instr.tempSensorUpdate []).wf = false := by decide

/-! ### Witnesses -/

/-! PtpLockWriteAssertsOrDropsLock -/

theorem test_lockWrite_hyps : State.reset.isUp ∧ State.reset.bell.aligned = false ∧ State.reset.bell.rebaseNeeded = false := by decide

theorem test_lockWrite_aligned : ({ State.reset with bell.aligned := true } : State).isUp ∧ ({ State.reset with bell.aligned := true } : State).bell.aligned = true := by decide

/-! PhaseAndClockCommandsTakeEffect -/

theorem test_clock_hyps : State.reset.takes 0x120008 8 (zeros 8) ∧ -(2 ^ 62) ≤ ofLeI (zeros 8) ∧ ofLeI (zeros 8) ≤ 2 ^ 62 ∧ State.reset.bell.lock = false := by decide

theorem test_clockSet_hyps : State.reset.takes 0x120008 12 (zeros 12) ∧ fld (padTo 12 (zeros 12)) 0 8 < 2 ^ 48 ∧ fld (padTo 12 (zeros 12)) 8 4 < 1000000000 := by decide

theorem test_clockLocked_hyps : ({ State.reset with bell.lock := true } : State).takes 0x120008 8 (zeros 8) ∧
    ({ State.reset with bell.lock := true } : State).bell.lock = true ∧ ({ State.reset with bell.lock := true } : State).bell.aligned = false := by decide

theorem test_rebase_hyps : ({ State.reset with bell.lock := true, bell.rebaseNeeded := true } : State).takes 0x120008 1 [1] ∧
    ({ State.reset with bell.lock := true, bell.rebaseNeeded := true } : State).bell.rebaseNeeded = true := by decide

/-! BellEventsTakeEffect -/

theorem test_holdover_hyps : ({ State.reset with bell.aligned := true, bell.edges := 4194305 } : State).lockHoldover < 4194305 - 0 := by decide

/-- A small state or operand for the witnesses below. -/
def realignState (n : Nat) (r : Bool) : State := { State.reset with bell.edges := 1, bell.number := n, bell.request := some { edge := 0, rebase := r } }

theorem test_realign_ahead : (realignState 0 true).isUp ∧ 0 < (realignState 0 true).bell.edges := by decide

theorem test_realign_next : (realignState 0 false).bell.number + 1 = (nextEdgeTime (realignState 0 false).bell.ptp (realignState 0 false).phase - (realignState 0 false).phase) / 1024 := by decide

theorem test_realign_behind : (nextEdgeTime (realignState 1 false).bell.ptp (realignState 1 false).phase - (realignState 1 false).phase) / 1024 ≤ (realignState 1 false).bell.number := by decide

theorem test_reference_hyps : State.reset.isUp ∧ State.reset.bell.fallback = false := by decide

/-- A small state or operand for the witnesses below. -/
def lateState (d : Option Nat) : State := { State.reset with bell.units := [(unitCode 4 2 0, { late := 1, busy := some { kind := 0, size := 1, dest := d } })] }

theorem test_late_hyps : 0 < ((lateState none).unit (unitCode 4 2 0)).late ∧ ((lateState none).unit (unitCode 4 2 0)).busy.bind WorkItem.dest = none := by decide

theorem test_late_dest : 0 < ((lateState (some 5)).unit (unitCode 4 2 0)).late ∧ ((lateState (some 5)).unit (unitCode 4 2 0)).busy.isSome = true := by decide

/-! DomainCommandsAreQueued -/

/-- A small state or operand for the witnesses below. -/
def withDom (d : Nat) (p : DomPhase) : State := { State.reset with hier.doms := [(d, { phase := p })] }

theorem test_domainOn_hyps : State.reset.hierTakes (le 4 0x60000) ∧ depsMet State.reset.domOn (rankOrder (fld (padTo 8 (le 4 0x60000)) 0 4)) = true ∧
    (rankOrder (fld (padTo 8 (le 4 0x60000)) 0 4)).filter (fun d => !State.reset.domOn d) ≠ [] := by decide

theorem test_domainOff_hyps : (withDom 14 .on).hierTakes (le 4 0x4000) ∧ (rankOrder (fld (padTo 8 (le 4 0x4000)) 0 4)).reverse.filter (withDom 14 .on).domOn = [14] ∧
    (∀ q < 20, (withDom 14 .on).domOn q = true → (∃ d ∈ domDeps q, d ∈ [14]) → q ∈ [14]) := by decide

theorem test_domainOff_idle : ∀ d ∈ [14], ∀ r ∈ domRegions d, (withDom 14 .on).liveWork (domDie d) r = false := by decide

/-! ClusterAndFenceCommandsTakeEffect -/

theorem test_cluster_hyps : State.reset.hierTakes [2, 0, 0, 0, 0, 0, 2, 3] ∧ clustersNamed (padTo 8 [2, 0, 0, 0, 0, 0, 2, 3]) = some [clusterKey 0 2 3] := by decide

theorem test_clusters_all : clustersNamed (padTo 8 [2, 0, 0, 0, 0, 4, 8, 0xFF]) = some [clusterKey 4 8 0, clusterKey 4 8 1, clusterKey 4 8 2, clusterKey 4 8 3] := by decide

theorem test_region_hyps : regionNamed 5 0 = true ∧ regionNamed 4 8 = true ∧ regionNamed 4 9 = false ∧ regionNamed 6 0 = false := by decide

theorem test_quiesce_hyps : ({ State.reset with bell.edges := 2, hier.quiesce := some { die := 0, region := 2, clusters := [], edge := 0 } } : State).isUp := by decide

/-! DomainSwitchOnProceeds -/

theorem test_switchStart_hyps : State.reset.isUp ∧ (domDeps 17).all State.reset.domOn = true ∧ State.reset.hier.heldOut.contains (domDie 17) = false ∧
    State.reset.hier.lastSwitch.all (fun e => decide (49 ≤ State.reset.bell.edges - e)) = true := by decide

theorem test_switchHeld_hyps : ({ State.reset with hier.heldOut := [4] } : State).isUp ∧ ({ State.reset with hier.heldOut := [4] } : State).hier.heldOut.contains (domDie 17) = true := by decide

theorem test_powerGood_hyps : (withDom 19 .switching).isUp ∧ (withDom 19 .switching).domPhase 19 = .switching := by decide

theorem test_pgTimeout_hyps : ({ bell.edges := 196, hier.doms := [(0, { phase := .good })] } : State).domPhase 0 = .good := by decide

theorem test_release_hyps : (withDom 2 .good).domPhase 2 = .good ∧ (withDom 2 .good).hier.clockGood.getD (domDie 2) false = true := by decide

theorem test_trained_hyps : (withDom 12 .released).domPhase 12 = .released ∧ (withDom 11 .released).domPhase 11 = .released := by decide

theorem test_retention_hyps : (withDom 0 .clamped).domPhase 0 = .clamped := by decide

/-! ClockLossAndLinkEventsTakeEffect -/

theorem test_clockLost_hyps : State.reset.isUp ∧ State.reset.hier.clockGood.getD 5 false = true ∧ (∀ d < 20, State.reset.domReleased d = false) := by decide

theorem test_clockLost_on : (withDom 19 .on).hier.clockGood.getD 5 false = true ∧ 0 < regionCount 5 ∧ domainOf 5 0 = some 19 ∧ (withDom 19 .on).domReleased 19 = true := by decide

theorem test_links_hyps : State.reset.hier.linkDown.contains 9 = false ∧ linkEnds 9 = (2, 3) ∧ linkEnds 3 = (3, 4) := by decide

/-! SchedCommandsConfigure -/

theorem test_sched_takes : State.reset.takes schedSet 64 [2, 0, 1, 0, 0, 0, 1] := by decide

theorem test_queueWrite_hyps : fld (padTo 64 [1, 2, 3, 0, 116, 0, 1, 0, 0, 6]) 2 2 < instCount 2 ∧ fld (padTo 64 [1, 2, 3, 0, 116, 0, 1, 0, 0, 6]) 4 2 < queueCount 2 ∧
    fld (padTo 64 [1, 2, 3, 0, 116, 0, 1, 0, 0, 6]) 9 1 = 6 := by decide

theorem test_queueWrite_range : queueCount (fld (padTo 64 [1, 0, 0, 0, 8]) 1 1) ≤ fld (padTo 64 [1, 0, 0, 0, 8]) 4 2 := by decide

theorem test_gateCommit_hyps : gateTarget (fld (padTo 64 [10, 2, 1]) 1 1) (fld (padTo 64 [10, 2, 1]) 2 2) = none ∧ fld (padTo 64 [10, 2, 1]) 16 2 < 1 := by decide

/-- A small state or operand for the witnesses below. -/
def listState (k d : Nat) : State := { State.reset with sched.gates := [(k, { admin := [(0, (255, d))] })] }

/-- A small state or operand for the witnesses below. -/
def commitBytes (kind : Byte) : Bytes := [10, kind, 0] ++ zeros 13 ++ [1]

theorem test_gateCommit_entries : (listState 512 0).takes schedSet 64 (commitBytes 2) ∧ (listState 0 5).takes schedSet 64 (commitBytes 0) ∧
    1 ≤ fld (padTo 64 (commitBytes 2)) 16 2 ∧ (tgetD ((listState 512 0).gate 2 0).admin 0 (0, 0)).2 = 0 ∧ (tgetD ((listState 0 5).gate 0 0).admin 0 (0, 0)).2 ≠ 0 ∧
    fld (padTo 64 (commitBytes 0)) 1 1 = 0 ∧ (fld (padTo 64 (commitBytes 0)) 19 1).testBit 0 = false := by decide

theorem test_gate_targets : gateTarget 0 143 = none ∧ gateTarget 0 144 = some 2 ∧ gateTarget 2 24 = some 1 := by decide

/-! SchedReadsAnswerTheirResult -/

/-- A small state or operand for the witnesses below. -/
def gateState : State := { State.reset with sched.gates := [(512, { oper := some { base := 0, entries := [(255, 1)], fallback := 0, align := false }, pend := some { base := 0, entries := [(1, 2)], fallback := 0, align := false } })] }

theorem test_gateRead_hyps : gateState.takes schedSet 64 [9, 2] ∧ gateTarget (fld (padTo 64 [9, 2]) 1 1) (fld (padTo 64 [9, 2]) 2 2) = none ∧
    (gateState.gate 2 0).oper.isSome ∧ (gateState.gate 2 0).pend.isSome := by decide

theorem test_gateSwitch_hyps : gateState.isUp ∧ (gateState.gate 2 0).switchesAt gateState.bell.aligned gateState.bell.number = true := by decide

theorem test_windowEnd_hyps : (({ State.reset with sched.windows := [(2, { k := 14, closeN := 1 })] } : State).window 2).closeN ≠ 0 := by decide

/-! PortCommandsTakeEffect -/

/-- A small state or operand for the witnesses below. -/
def portOn : State := { State.reset with bell.edges := 9766, hier.doms := [(0, { phase := .on })], dict.objs := [(portKey 1 1, [2]), (portKey 1 3, [1])] }

/-- A small state or operand for the witnesses below. -/
def portClean1 : State := { portOn with sw.ports := [(1, { lanes := 1, trained := true })] }

/-- A small state or operand for the witnesses below. -/
def portIsUp : State := { portOn with sw.ports := [(1, { up := true, lanes := 1 })] }

theorem test_portMode_hyps : State.reset.isUp ∧ State.reset.isMember 8 = false ∧ State.reset.portEnabled 8 = false ∧ modeValid 8 5 = true ∧
    (∀ l ∈ otherLanes 8 5, State.reset.portEnabled l = false) := by decide

theorem test_portUp_hyps : portClean1.isUp ∧ (portClean1.port 1).up = false ∧ portClean1.isMember 1 = false ∧ portClean1.portMode 1 ≠ 0 ∧ portClean1.portEnabled 1 = true ∧
    portClean1.stby.fenceIn = false ∧ portClean1.domOn ((domainOf (1 / 36) (laneRegion 1)).getD 0) = true ∧
    (portClean1.port 1).lanes = 2 ^ modeLanes (portClean1.portMode 1) - 1 ∧ (portClean1.port 1).trained = true := by decide

theorem test_portDown_hyps : portIsUp.isUp ∧ (portIsUp.port 1).up = true ∧ (portIsUp.port 1).lanes = 2 ^ modeLanes (portIsUp.portMode 1) - 1 := by decide

theorem test_portMember_hyps : ({ State.reset with sw.ports := [(9, { member := some 8 })] } : State).isMember 9 = true := by decide

theorem test_fec_hyps : 1048576 ≤ ({ State.reset with bell.edges := 1048576 } : State).bell.edges - (tgetD State.reset.sw.lanes 143 {}).start := by decide

/-! SwitchTableCommandsTakeEffect -/

/-- A small state or operand for the witnesses below. -/
def fdbState : State := { State.reset with bell.edges := 292968750, sw.fdb := [{ vid := 1, mac := 0, target := 0, num := 0, static := false, lastSeen := 0, lastEdge := 0 }] }

theorem test_switch_takes : fdbState.takes switchSet 48 [1, 0, 1] := by decide

theorem test_fdb_hyps : vidOk (fld (padTo 48 [1, 0, 1]) 2 2) = true ∧ (fdbState.fdbFind (fld (padTo 48 [1, 0, 1]) 2 2) (fld (padTo 48 [1, 0, 1]) 4 6)).isSome ∧ vidOk 4095 = false := by decide

theorem test_fdbAge_hyps : fdbState.isUp ∧ (fdbState.fdbFind 1 0).any (fun e => !e.static && fdbState.objN 0x240003 292968750 ≤ fdbState.bell.edges - e.lastEdge) = true := by decide

/-! FrameAndPauseCommandsTakeEffect -/

/-- A small state or operand for the witnesses below. -/
def frameBytes : Bytes := [2, 0, 0, 0, 0, 1, 2, 0, 0, 0, 0, 2, 8, 0] ++ zeros 46

/-- A small state or operand for the witnesses below. -/
def frameState (k : PortClass) : State := { State.reset with hier.doms := [(0, { phase := .on }), (2, { phase := .on }), (17, { phase := .on }), (18, { phase := .on })], dict.objs := [(portKey 1 1, [2]), (portKey 1 3, [1])], sw.vlans := [(1, { member := 2, untagged := 2 })], sw.ports := [(1, { up := true, lanes := 1, classes := [(3, k)] })], sw.copies := [(0, copyOf [] 1 1 0 0 64 0)], sched.queues := [(qKey 0 1 0, { items := [{ size := 64, enq := 0, ref := 0 }] })] }

theorem test_frame_hyps : (frameState {}).isUp ∧ (frameState {}).portRuns 1 = true ∧ (frameState {}).fifoWaits 1 + 64 ≤ 32768 * modeLanes ((frameState {}).portMode 1) ∧
    frameBytes.length + 4 = 64 ∧ 64 ≤ (frameState {}).objN (portKey 1 9) 9216 ∧ tagGood frameBytes = true ∧ etherType frameBytes ≠ 0x8808 := by decide

theorem test_frame_vlan : tagOf frameBytes = none ∧ (frameState {}).objN (portKey 1 8) 1 = 1 ∧ (tgetD (frameState {}).sw.vlans 1 {}).member.testBit 1 = true ∧
    (tgetD (frameState {}).sw.vlans 2 {}).member.testBit 1 = false ∧ nfld frameBytes 0 6 / 16 ≠ 0x0180C200000 := by decide

theorem test_frame_police : (police 1 0 0 64 (frameState {})).2 = some 0 ∧
    (police 1 0 0 64 { frameState {} with sched.policeMap := [(8, 1)], sched.policers := [(0, { dropRed := true })] }).2 = none := by decide

theorem test_transmit_hyps : (frameState {}).egressRuns 1 = true ∧ ((frameState {}).sinst 0 1).stopped = false ∧ (frameState {}).selectQueue 0 1 0 = some 0 ∧
    (frameState {}).egressCovered 1 64 0 = true ∧ (frameState {}).egressCovered 1 64 1024 = false := by decide

theorem test_pause_hyps : modeRate ((frameState {}).portMode 1) ≠ 0 ∧ (((frameState { pause := some { ns := 1024, edge := 0, since := 0 } }).port 1).cls 3).pause = some { ns := 1024, edge := 0, since := 0 } ∧
    (((frameState { xoff := some 0 }).port 1).cls 3).xoff = some 0 ∧ (((frameState { stormDrop := true }).port 1).cls 3).stormDrop = true := by decide

theorem test_storm_hyps : ({ frameState {} with bell.edges := 97657 } : State).objN (portKey 1 0xE) 97657 ≤ 97657 - 0 ∧ (frameState {}).objN (portKey 1 0x10) 1 = 1 ∧
    (frameState {}).objN (portKey 1 0xF) 195313 ≤ 195313 := by decide

/-! QueuePairCommandsTakeEffect -/

/-- A small state or operand for the witnesses below. -/
def qpState (st : Nat) (d : Option Nat) : State := { State.reset with bell.edges := 9, hier.doms := [(2, { phase := .on })], xp.domains := [0], xp.qps := [(0, { state := st, destroying := d })] }

/-- A small state or operand for the witnesses below. -/
def createPar : Bytes := [1, 0, 0, 0, 0xFF, 0xFF, 0, 0, 0, 1]

/-- A small state or operand for the witnesses below. -/
def qpnPar : Bytes := [0, 0, 0, 0, 0, 0x40]

theorem test_qpCreate_hyps : (qpState 0 none).takes qpSet 96 createPar ∧ 1 ≤ fld (padTo 96 createPar) 9 1 ∧ (qpState 0 none).xp.domains.contains (fld (padTo 96 createPar) 2 2) = true := by decide

theorem test_qpCreate_place : (State.reset.place 1 0xFFFF 0) = none := by decide

theorem test_qpInit_hyps : (qpState 1 none).takes qpSet 96 qpnPar ∧ (qpState 1 none).genOk (fld (padTo 96 qpnPar) 4 4) = true ∧ ((qpState 1 none).qp (keyOf (fld (padTo 96 qpnPar) 4 4))).state = 1 := by decide

theorem test_qpDestroyed_hyps : (qpState 3 (some 8)).genOk 16384 = true ∧ ((qpState 3 (some 8)).qp (keyOf 16384)).destroying = some 8 ∧ 8 < (qpState 3 (some 8)).bell.edges ∧
    ((qpState 3 (some 8)).cache (clOf (keyOf 16384))).missQ.any (fun m => m.1 = keyOf 16384) = false := by decide

theorem test_qpStale_hyps : (qpState 1 none).genOk (fld (padTo 96 []) 4 4) = false := by decide

/-! RegionAndPacketCommandsTakeEffect -/

/-- A small state or operand for the witnesses below. -/
def regionState (st refs : Nat) : State := { State.reset with bell.edges := 97657, xp.domains := [0], xp.regions := [(1, { state := st, refs := refs })] }

/-- A small state or operand for the witnesses below. -/
def registerPar : Bytes := [1, 0, 0, 0, 0, 0, 0, 0] ++ zeros 16 ++ [1]

theorem test_register_hyps : ({ (regionState 0 0) with dict.objs := [(0x300009, [0, 16])] } : State).takes mrSet 48 registerPar ∧
    ({ (regionState 0 0) with dict.objs := [(0x300009, [0, 16])] } : State).registerOk (fld (padTo 48 registerPar) 2 2) (fld (padTo 48 registerPar) 8 8) (fld (padTo 48 registerPar) 24 8) = true ∧
    (regionState 0 0).freeRegion 1 0 = some 0 := by decide

theorem test_region_hyps2 : (regionState 2 0).isUp ∧ ((regionState 2 0).region 1).state = 2 ∧ ((regionState 2 0).region 1).refs = 0 ∧ ((regionState 2 1).region 1).refs = 1 := by decide

theorem test_mrKey_hyps : (regionState 1 0).takes mrSet 48 [2, 0, 0, 0, 1, 1] ∧ fld (padTo 48 [2, 0, 0, 0, 1, 1]) 4 4 / 256 = 1 := by decide

/-- A small state or operand for the witnesses below. -/
def rxPacket : Packet := { srcIp := 0, dstIp := 0, ecn := 0, icrcOk := true, opcode := 4, destQp := 16384, pkey := 0, psn := 0, ackReq := false, becn := false, reth := none, imm := none, aeth := none, ieth := none, payload := [], ts := 0 }

/-- A small state or operand for the witnesses below. -/
def rxState : State := { (qpState 2 none) with xp.caches := [(0, { cached := [0], writeBack := [1], writing := [(1, [])] })] }

theorem test_packet_hyps : rxState.isUp ∧ rxState.domReleased 2 = true ∧ rxState.holdsBack 0 rxPacket = false ∧ rxState.genOk 16384 = true ∧ (rxState.cache 0).missQ = [] ∧
    (rxState.cache 0).cached.contains (keyOf 16384 % 512) = true := by decide

theorem test_packetStale_hyps : rxState.genOk 16385 = true ∧ rxState.genOk 3 = false := by decide

theorem test_writeback_hyps : tget (rxState.cache (clOf (keyOf 16416))).writing (keyOf 16416 % 512) = some [] := by decide

/-- A small state or operand for the witnesses below. -/
def fetchState : State := { rxState with xp.caches := [(0, { fetching := [(0, some 1)] })], mem.writtenA := [(0, 1)] }

theorem test_fetch_hyps : (fetchState.cache (clOf (keyOf 16384))).fetching.find? (fun f => f.1 = 0 ∧ f.2.any (fun e => e < fetchState.bell.edges)) = some (0, some 1) ∧ fetchState.mem.written 0 1024 = true := by decide

/-- A small state or operand for the witnesses below. -/
def timedState : State := { rxState with xp.qps := [(0, { state := 2, timer := some 0, rnrWait := some (0, 1, 5), flight := [{ psn := 0, span := 1, poster := .firmware 16384, last := true, pkt := { engine := 0, qpn := 16384, destQp := 0, dstMac := 0, vid := 1, dstIp := 0, srcIp := 0, cls := 0, dscp := 0, ecn := 0, opcode := 4, pkey := 0, psn := 0, ackReq := true, becn := false, reth := none, imm := none, aeth := none, ieth := none, payload := [] } }] })] }

theorem test_timer_hyps : timedState.genOk 16384 = true ∧ (timedState.qp (keyOf 16384)).timer = some 0 ∧ (timedState.qp (keyOf 16384)).conn.ackTimeout ≤ timedState.bell.edges - 0 ∧
    (timedState.qp (keyOf 16384)).rnrWait = some (0, 1, 5) ∧ 1 ≤ timedState.bell.edges - 0 := by decide

/-! RateAndChainCommandsTakeEffect -/

/-- A small state or operand for the witnesses below. -/
def chainState (c : Chain) : State := { rxState with cc.chains := [(0, c)] }

theorem test_rateUpdate_hyps : rxState.bell.number % 16 = 0 ∧ rxState.cc.lastUpdate < rxState.bell.edges := by decide

theorem test_cc_hyps : rxState.takes ccSet 16 qpnPar ∧ rxState.genOk (fld (padTo 16 qpnPar) 4 4) = true ∧ rxState.genOk (fld (padTo 16 []) 4 4) = false := by decide

/-- A small state or operand for the witnesses below. -/
def armPar : Bytes := [1, 0, 0, 0, 0, 0x40, 0, 0, 1]

/-- A small state or operand for the witnesses below. -/
def armState : State := { (chainState {}) with mem := { cells := [(0, 1), (5, 0x40)] } }

theorem test_arm_hyps : armState.takes chainSet 32 armPar ∧ armState.genOk (fld (padTo 32 armPar) 4 4) = true ∧ (armState.qp (keyOf (fld (padTo 32 armPar) 4 4))).state = 2 ∧
    (List.range' 0 (fld (padTo 32 armPar) 8 1)).all (armState.wrOk 0 (fld (padTo 32 armPar) 4 4)) = true := by decide

theorem test_disarm_hyps : ((chainState { state := 2, disarm := some 1 }).chain 0).disarm = some 1 ∧ 1 < (chainState {}).bell.edges := by decide

/-- A small state or operand for the witnesses below. -/
def runState (k : Nat) : State := { (chainState { state := 2, len := 1, crc := k, acked := [0] }) with mem := { cells := [(0, 1), (1, 2), (5, 0x40)] } }

theorem test_chainRun_hyps : (runState 0).engineRuns 0 = true ∧ ((runState 0).chain 0).acked.contains 0 = true ∧ ((runState 0).chain 0).held = [] ∧
    ((runState 0).wrLocal ((runState 0).chain 0) 0 0 ((runState 0).wrBytes 0 0)) = some (1048576, none) := by decide

theorem test_idle_hyps : fld (rxState.rateProfile 0) 40 4 = 6104 ∧ ({ rxState with cc.rates := [(0, { idle := 6104 })] } : State).genOk 16384 = true ∧ (({ rxState with cc.rates := [(0, { idle := 6104 })] } : State).rate 0).idle = 6104 := by decide

/-- A small state or operand for the witnesses below. -/
def bindPar : Bytes := [4, 0, 0, 0, 8, 0, 0, 0, 0, 0x40, 0, 0, 0, 0, 0, 0, 0xFF, 0xFF, 0xFF, 0xFF]

theorem test_bind_hyps : rxState.takes chainSet 32 bindPar ∧ fld (padTo 32 bindPar) 4 4 % 8 = 0 ∧ fld (padTo 32 bindPar) 16 4 = 0xFFFFFFFF ∧ rxState.genOk (fld (padTo 32 bindPar) 8 4) = true ∧
    rxState.cc.mirrors.any (fun m => m.1 / 64 = 0 ∧ m.2.intake = 8) = false ∧ (List.range' 0 64).find? (fun i => (tget rxState.cc.mirrors i).isNone) = some 0 := by decide

/-! TargetCommandsTakeEffect -/

/-- A small state or operand for the witnesses below. -/
def tgtState : State := { State.reset with stby.role := 2, xp.qps := [(0, { state := 1 })], vol.volumes := [(0, { group := 0, f := 0, size := 100, epochBase := 0, epochCur := 0 })], tgt.binds := [(1, { assoc := 2, qid := 0, size := 32 })], tgt.assocs := [(2, { state := 1 })], tgt.namespaces := [(7, { state := 1, vol := 3, nsid := 1 })], tgt.cmds := [(0, { key := 1, qpn := 1, assoc := 2, qid := 0, sqe := [], icd := [], bell := 0, edge := 0, order := 0, ns := 7 })] }

/-- A small state or operand for the witnesses below. -/
def nsPar : Bytes := [1, 0, 0, 0, 1, 0, 0, 0, 1, 0, 0, 0, 0, 0, 1]

theorem test_namespaceWrite_hyps : tgtState.takes targetSet 64 nsPar ∧ fld (padTo 64 nsPar) 4 1 = 1 ∧ tgtState.outOfService = false ∧ fld (padTo 64 nsPar) 14 1 = 1 ∧
    (tgtState.volume 0).isSome = true ∧ tgtState.nsBusy 0 = 0 ∧ 0 < tgtState.nsBusy 7 ∧ State.reset.outOfService = true := by decide

theorem test_accessWrite_hyps : tgtState.takes targetSet 64 [3, 0, 0, 0, 255, 1, 0, 0, 2] ∧ (∀ c ∈ ((padTo 64 [3, 0, 0, 0, 255, 1, 0, 0, 2]).drop 8).take 1, c.toNat ≤ 2) ∧
    (∃ c ∈ ((padTo 64 [3, 0, 0, 0, 255, 1, 0, 0, 3]).drop 8).take 1, c.toNat = 3) := by decide

theorem test_association_hyps : (tgtState.assoc 0).state = 0 ∧ (tgtState.assoc 2).state ≠ 0 ∧ tgtState.tgt.binds.any (fun b => b.2.assoc = 2) = true ∧
    tgtState.tgt.binds.any (fun b => b.2.assoc = 3) = false := by decide

theorem test_queueBind_hyps : tgtState.genOk 16384 = true ∧ (tgtState.qp (keyOf 16384)).state = 1 ∧ tget tgtState.tgt.binds (keyOf 16384) = none ∧ tgtState.entriesBound + 1024 ≤ 262144 ∧
    (tget tgtState.tgt.binds 1).isSome = true ∧ tgtState.tgt.cmds.any (fun c => c.2.key = 1 ∧ c.2.ring.isNone) = true ∧ tgtState.tgt.cmds.any (fun c => c.2.key = 0 ∧ c.2.ring.isNone) = false := by decide

theorem test_viewWrite_hyps : fld (padTo 64 [9, 0, 0xFF, 3, 6, 0, 0xFF, 7, 1]) 2 2 < 1024 ∧ fld (padTo 64 [9, 0, 0xFF, 3, 6, 0, 0xFF, 7, 1]) 6 2 + 1 ≤ 2048 := by decide

/-! HostCommandsExecute -/

/-- A small state or operand for the witnesses below. -/
def ioState (op flags qid : Nat) : State := { State.reset with bell.edges := 9, hier.doms := [(16, { phase := .on })], vol.volumes := [(0, { group := 0, f := 0, size := 100, epochBase := 0, epochCur := 0 })], tgt.binds := [(1, { assoc := 2, qid := qid, size := 32, live := true })], tgt.assocs := [(2, { state := 1 })], tgt.namespaces := [(7, { state := 1, vol := 0, nsid := 1, access := [(0, 2)] })], tgt.cmds := [(0, { key := 1, qpn := 1, assoc := 2, qid := qid, sqe := padTo 64 ([BitVec.ofNat 8 op, BitVec.ofNat 8 flags, 0, 0, 0, 0, 0, 1] ++ zeros 25 ++ [0x10, 0, 0, 0, 0, 0, 0x40, 0, 0, 0, 0, if op = 9 then 4 else 0]), icd := [], bell := 0, edge := 0, order := 0 })] }

/-- A small state or operand for the witnesses below. -/
def ioCmd (s : State) : Cmd := (s.cmd 0).getD { key := 0, qpn := 0, assoc := 0, qid := 0, sqe := [], icd := [], bell := 0, edge := 0, order := 0 }

theorem test_ioFails_hyps : (ioState 0 1 1).awaitsNext 0 0 = true ∧ (ioState 0 1 1).checkFails (ioCmd (ioState 0 1 1)) 5 = some (2, true) ∧
    (ioState 2 1 1).awaits 0 2 = true ∧ (ioState 2 1 1).checkFails (ioCmd (ioState 2 1 1)) 0 = some (2, true) := by decide

theorem test_ioFlush_hyps : (ioState 0 64 1).awaitsNext 0 0 = true ∧ (ioState 0 64 1).checkFails (ioCmd (ioState 0 64 1)) 5 = none := by decide

theorem test_ioRead_hyps : (ioState 2 64 1).awaits 0 2 = true ∧ (ioState 2 64 1).checkFails (ioCmd (ioState 2 64 1)) 0 = none ∧
    ((setAddress 0 0 (ioCmd (ioState 2 64 1)) (ioState 2 64 1)).cmd 0).isSome = true := by decide

theorem test_ioCompare_hyps : (ioState 5 64 1).awaits 0 5 = true ∧ (ioState 5 64 1).checkFails (ioCmd (ioState 5 64 1)) 1 = none ∧
    ((fetchData 0 (setAddress 0 1 (ioCmd (ioState 5 64 1)) (ioState 5 64 1))).cmd 0).isSome = true := by decide

theorem test_ioWrite_hyps : (ioState 1 64 1).awaits 0 1 = true ∧ (ioState 1 64 1).checkFails (ioCmd (ioState 1 64 1)) 2 = none ∧
    ((fetchData 0 (setAddress 0 2 (ioCmd (ioState 1 64 1)) (ioState 1 64 1))).cmd 0).isSome = true := by decide

theorem test_ioZeroes_hyps : (ioState 8 64 1).awaits 0 8 = true ∧ (ioState 8 64 1).checkFails (ioCmd (ioState 8 64 1)) 3 = none ∧
    ((fetchData 0 (setAddress 0 3 (ioCmd (ioState 8 64 1)) (ioState 8 64 1))).cmd 0).isSome = true := by decide

theorem test_ioManage_hyps : (ioState 9 64 1).awaits 0 9 = true ∧ (ioState 9 64 1).checkFails (ioCmd (ioState 9 64 1)) 4 = none ∧
    ((fetchData 0 (setAddress 0 4 (ioCmd (ioState 9 64 1)) (ioState 9 64 1))).cmd 0).any (fun d => !d.bufReady) = true := by decide

theorem test_ioAdmin_hyps : (ioState 8 64 0).awaitsNext 0 8 true = true ∧ (ioState 24 64 0).awaitsNext 0 24 true = true := by decide

/-! RoutingAndStagingCommandsTakeEffect -/

/-- A small state or operand for the witnesses below. -/
def routedState : State := { (ioState 9 64 0) with tgt.cmds := (ioState 9 64 0).tgt.cmds.map (fun x => (x.1, { x.2 with route := 1 })) }

/-- A small state or operand for the witnesses below. -/
def heldState : State := { (ioState 9 64 1) with tgt.inboxHeld := [0] }

theorem test_inboxRoute_hyps : routedState.cmd 0 = some (ioCmd routedState) ∧ (∀ x ∈ routedState.tgt.cmds, (ioCmd routedState).order ≤ x.2.order ∨ x.2.toInbox = false) ∧ (ioCmd routedState).route = 1 ∧ (ioCmd routedState).toInbox = true ∧ (ioState 9 64 0).targetRuns = true ∧
    (ioCmd routedState).conflict = false ∧ (ioCmd { routedState with tgt.cmds := routedState.tgt.cmds.map (fun x => (x.1, { x.2 with conflict := true })) }).conflict = true ∧
    (ioState 9 64 0).pwrStopped (ioCmd (ioState 9 64 0)) = false ∧ (ioState 9 64 0).inboxFull = false ∧ heldState.tgt.inboxHeld ≠ [] ∧
    ({ heldState with tgt.pwrfail := some 8 } : State).pwrStopped { (ioCmd (ioState 9 64 0)) with edge := 9 } = true := by decide

theorem test_outbox_hyps : ({ (ioState 9 64 0) with dict.objs := [(0x40000C, [1])] } : State).objN 0x40000C 0 ≠ (ioState 9 64 0).tgt.outboxCons := by decide

/-- A small state or operand for the witnesses below. -/
def keepState : State := { State.reset with bell.edges := 977, tgt.assocs := [(2047, { state := 1, kato := 1 })] }

theorem test_keepAlive_hyps : (keepState.assoc 2047).state = 1 ∧ katoBells (keepState.assoc 2047).kato ≤ keepState.bell.edges - (keepState.assoc 2047).lastEdge := by decide

/-- A small state or operand for the witnesses below. -/
def stagingState : State := { (ioState 9 64 1) with dict.objs := [(0x480011, [1])], led.isOpen := true, tgt.cmds := [(0, { (ioCmd (ioState 9 64 1)) with kind := 4, phase := .staging, bufReady := true, chunks := [{ lba := 0, n := 1, seq := 1 }] })] }

theorem test_chunkStage_hyps : (stagingState.cmd 0).any (fun c => c.phase = .staging && c.bufReady && c.deallocates) = true ∧ stagingState.targetRuns = true ∧
    stagingState.stagingRoom 1 = true ∧ stagingState.led.unstaged = [] ∧ stagingState.objN 0x480011 0 ≠ 0 := by decide

/-- A small state or operand for the witnesses below. -/
def stagedState : State := { stagingState with tgt.cmds := [(0, { key := 1, qpn := 1, assoc := 2, qid := 1, sqe := [], icd := [], bell := 0, edge := 0, order := 0, kind := 3, phase := .staging, bufReady := true, chunks := [{ lba := 0, n := 1, seq := 1, enc := [[]] }] })] }

theorem test_chunkRoom_hyps : stagedState.stagingRoom 2 = true ∧ (stagedState.cmd 0).any (fun c => c.deallocates) = false := by decide

theorem test_chunkEncrypted_hyps : ((encryptChunk 0 0 stagedState).chunkOf 0 0).map (fun x => (x.2.enc, x.2.n)) = some ([[]], 1) := by decide

/-! LedgerCommandsTakeEffect -/

/-- A small state or operand for the witnesses below. -/
def ledgerState (o : Bool) : State := { State.reset with bell.edges := 99, led.isOpen := o, dict.objs := [(0x480011, [1])], bay.bays := [(0, { state := 3, drive := { state := 5, speed := 5 } }), (1, { state := 3, drive := { state := 5, speed := 5 } }), (23, { state := 3, drive := { state := 5, speed := 5 } })], led.buffer := [(5, 35, 1)], led.descs := [{ id := 7, tailPlace := 1, tailBlock := 0, head := 2, headBlock := 1 }], led.drain := some 1, led.pwrLow := 2, stby.role := 2 }

theorem test_ledgerCreate_hyps : (ledgerState false).takes ledgerSet 80 [1, 0, 1, 23] ∧ (∀ x ∈ [0, 1, 23], (ledgerState false).bayLinked x = true) ∧
    (ledgerState false).objN 0x480011 0 ≠ 0 := by decide

theorem test_copyReplace_hyps : (ledgerState true).takes ledgerSet 80 [2, 2, 23] ∧ (ledgerState true).bayReady 23 = true ∧ (ledgerState true).holdsCopy 23 = false ∧ ((ledgerState true).copyOf 2).st = 0 := by decide

theorem test_drain_hyps : (ledgerState true).led.drain = some 1 ∧ (∀ r ∈ (ledgerState true).led.recs, r.retired = true ∨ 1 ≤ r.place) := by decide

theorem test_bufferRelease_hyps : (∃ e ∈ (ledgerState true).led.buffer, e.1 = 5 ∧ e.2.1 + 64 ≤ (ledgerState true).bell.edges) := by decide

theorem test_checkpoint_hyps : (ledgerState true).descIdx 7 = some 0 ∧ (ledgerState true).descIdx (ledgerState true).led.persisted = none ∧ (ledgerState true).descIdx 8 = none := by decide

theorem test_submit_hyps : ({ (ledgerState true) with hier.doms := [(16, { phase := .on })] } : State).maySubmit = true := by decide

/-! LedgerCopiesAndReplayTakeEffect -/

/-- A small state or operand for the witnesses below. -/
def seedState : State := { (ledgerState true) with led.copies := [{ st := 2, bay := 0 }, { st := 1, bay := 1 }, {}] }

theorem test_seeding_hyps : (seedState.copyOf 0).st = 2 ∧ (seedState.copyOf 0).seedLeft = 0 ∧ (seedState.copyOf 0).old = none ∧ seedState.led.failing.contains 3 = false := by decide

/-- A small state or operand for the witnesses below. -/
def writingState : State := { seedState with bell.edges := 7812500, bay.bays := [(1, { drive := { out := [(0, { op := 1, lba := 0, n := 1, consumer := .ledger 1 5 1, queue := 0 })] } })] }

theorem test_ledgerWrite_hyps : writingState.targetBay 1 = some 1 ∧ ((writingState.bayOf 1).drive.out.find? (fun c => c.2.consumer = .ledger 1 5 1)).isSome = true ∧
    (∃ c ∈ (writingState.bayOf 1).drive.out, c.2.consumer = .ledger 1 5 1 ∧ c.2.edge + writingState.objN 0x440007 7812500 ≤ writingState.bell.edges) := by decide

/-- A small state or operand for the witnesses below. -/
def replayPar : Bytes := padTo 63 [3]

/-- A small state or operand for the witnesses below. -/
def replayState : State := { (ledgerState false) with hier.doms := [(12, { phase := .on }), (16, { phase := .on }), (17, { phase := .on }), (18, { phase := .on })], led.replaying := some (sub (padTo 80 (replayPar ++ [1])) 16 64) }

theorem test_replay_hyps : replayState.takes ledgerSet 80 (replayPar ++ [1]) ∧ (∀ c ∈ descCopies (sub (padTo 80 (replayPar ++ [1])) 16 64), replayState.domOn (portDomain c.2) = true) ∧
    (ledgerState true).led.isOpen = true := by decide

theorem test_replayEnd_hyps : replayState.led.replaying = some (sub (padTo 80 (replayPar ++ [1])) 16 64) ∧ ((descCopies (sub (padTo 80 (replayPar ++ [1])) 16 64)).map (·.1)).filter (fun c => !([] : List Nat).contains c) ≠ [] ∧
    (scanCopies (sub (padTo 80 (replayPar ++ [1])) 16 64) ⟨[], [], [], [], []⟩ [0]).1 = [] ∧ (scanCopies (sub (padTo 80 (replayPar ++ [1])) 16 64) ⟨[], [], [], [], []⟩ [0]).2 = false := by decide

/-! LayoutCommandsTakeEffect -/

/-- A small state or operand for the witnesses below. -/
def okGroup : LGroup := { k := 2, u := 4, start := 8388608, count := 65536, f := 16, bays := [some 0, some 1, some 2, some 3], float := [], lost := [] }

/-- A small state or operand for the witnesses below. -/
def volState : State := { State.reset with vol.groups := [(3, okGroup)], vol.volumes := [(5, { group := 3, f := 0, size := 8, epochBase := 1, epochCur := 1 })], dict.objs := [(0x440004, [0, 0, 1, 1])] }

/-- A small state or operand for the witnesses below. -/
def gPar2 : Bytes := padTo 32 [1, 4, 2, 0, 16, 0, 0, 0, 0, 0, 0x80, 0, 0, 0, 0, 0, 0, 0, 1, 0, 0, 0, 0, 0, 16] ++ [4, 5, 6, 23]

theorem test_groupCreate_hyps : volState.takes layoutSet 64 gPar2 ∧ fld (padTo 64 gPar2) 4 2 ∈ unitSizes ∧ 8388608 ≤ (newGroup (padTo 64 gPar2)).start ∧ (newGroup (padTo 64 gPar2)).count % (newGroup (padTo 64 gPar2)).u = 0 ∧ (newGroup (padTo 64 gPar2)).bays.filterMap id = [4, 5, 6, 23] ∧
    [4, 5, 6, 23].eraseDups.length = 4 ∧ (newGroup (padTo 64 gPar2)).m + 16 < (newGroup (padTo 64 gPar2)).nP ∧ (newGroup (padTo 64 gPar2)).nP ≤ 2 ^ 31 ∧ volState.group 4 = none ∧ volState.isSpare 4 = false ∧
    volState.mapRoom (newGroup (padTo 64 gPar2)).mapBytes = some 65536 ∧ ({ volState with dict.objs := [] } : State).mapRoom (newGroup (padTo 64 gPar2)).mapBytes = none := by decide

theorem test_groupRange_hyps : ∀ x ∈ volState.vol.groups, ∀ b, some b ∈ x.2.bays → b ∉ [4, 5, 6, 23] := by
  intro x hx b hb; simp [volState, okGroup] at hx; subst hx; simp at hb; rcases hb with rfl | rfl | rfl | rfl <;> decide

theorem test_groupDelete_hyps : (volState.group 3).isSome = true ∧ volState.volumesOf 3 ≠ [] ∧ ({ volState with vol.volumes := [] } : State).volumesOf 3 = [] := by decide

/-- A small state or operand for the witnesses below. -/
def vPar : Bytes := padTo 8 [4, 3, 6] ++ padTo 8 [1] ++ [1]

theorem test_volumeCreate_hyps : fld (padTo 64 vPar) 1 1 = 3 ∧ fld (padTo 64 vPar) 2 2 = 6 ∧ fld (padTo 64 vPar) 8 4 + ceilDiv (fld (padTo 64 vPar) 16 8) okGroup.d ≤ okGroup.nL ∧ volState.volume 6 = none ∧
    (volState.taken 3 okGroup 6).any (fun r => rangesMeet 1 1 r.1 r.2) = false ∧ volState.ciph.epochNext ≠ 0xFFFFFFFF := by decide

theorem test_volumeDelete_hyps : (volState.volume 5).any (fun x => x.reshape.isNone) = true ∧ volState.volumeMapped 5 = false := by decide

theorem test_reshape_hyps : (1 + ceilDiv 8 okGroup.d ≤ okGroup.nL) ∧ (volState.taken 3 okGroup 5).any (fun r => rangesMeet 1 1 r.1 r.2) = false ∧ volState.reshapeCount < 8 ∧ (∀ e ∈ okGroup.map, e.2.2 = false) := by decide

/-! MembersAndPassesTakeEffect -/

/-- A small state or operand for the witnesses below. -/
def lostGroup (m r : List Nat) : LGroup := { okGroup with state := 2, missing := m, rebuilding := r, scrub := 1, map := [(0, 129, true)] }

/-- A small state or operand for the witnesses below. -/
def memState (g : LGroup) : State := { State.reset with vol.groups := [(3, g)], vol.volumes := [(5, { group := 3, f := 0, size := 8, epochBase := 1, epochCur := 1, reshape := some { target := 3, ft := 1 } })], hier.doms := [(16, { phase := .on })], stby.role := 2, led.isOpen := true }

theorem test_spareTake_hyps : (lostGroup [1] []).unspared = [1] ∧ (memState (lostGroup [1] [])).objN 0x440006 1 = 1 ∧ (memState (lostGroup [1] [])).fitting 1 = none ∧
    (((memState (lostGroup [1] [])).waitingSpares.filter (fun x => x.1 < 1)).reverse.dropWhile (fun x => x.2.1 ≠ 3)).reverse = [(0, 3, 1)] := by decide

/-- A small state or operand for the witnesses below. -/
def spareState : State := { (memState (lostGroup [1] [])) with bell.edges := 1, dict.objs := [(0x440005, [0, 0, 0x80])], bay.bays := [(23, { state := 3, drive := { state := 5, nsBlocks := 8454144 } })] }

theorem test_spareFits_hyps : spareState.fitting 1 = some 23 := by decide

theorem test_rebuildItem_hyps : (memState (lostGroup [1] [1])).parityRuns = true ∧ (memState (lostGroup [1] [1])).driveStops 113 = false ∧ (lostGroup [1] [1]).rebuilding ≠ [] ∧
    ({ (memState (lostGroup [1] [1])) with vol.volumes := [] } : State).item 3 = none ∧ (memState { (lostGroup [1] [1]) with cur1 := 16383 }).needsClaim 3 { (lostGroup [1] [1]) with cur1 := 16383 } 16383 = none := by decide

/-- A small state or operand for the witnesses below. -/
def itemOf (st phys : Nat) (t : List Nat) (ph : StripePhase) : StripeItem := { parts := [{ key := stripeKey 3 st, phys := phys }], keys := [stripeKey 3 st], waits := [], phase := ph, targets := t }

theorem test_rebuildWritten_hyps : ({ (lostGroup [1] [1]) with cur1 := 129 }).toRebuild 129 = [1] ∧ ({ (lostGroup [1] [1]) with cur1 := 129 }).cursor = 129 ∧
    (({ (memState { (lostGroup [1] [1]) with cur1 := 129 }) with vol.items := [(3, itemOf 0 129 [1] .written)] } : State).item 3) = some (itemOf 0 129 [1] .written) := by decide

theorem test_scrubItem_hyps : (lostGroup [1] [1]).scrub ≠ 0 ∧ (memState (lostGroup [1] [])).driveStops 114 = false ∧ (memState (lostGroup [1] [])).item (scrubId 3) = none ∧
    (memState { (lostGroup [1] []) with scrubCur := 16383 }).scrubTarget 3 { (lostGroup [1] []) with scrubCur := 16383 } = none := by decide

theorem test_memberFail_hyps : 3 < okGroup.w ∧ okGroup.unspared.contains 3 = false ∧ okGroup.bays.getD 3 none = some 3 ∧ (lostGroup [1] []).unspared.contains 1 = true := by decide

theorem test_reshapeStep_hyps : ((memState okGroup).volume 5).any (fun x => x.reshape.any (fun r => r.c < x.size)) = true ∧ (memState okGroup).parityRuns = true ∧ (memState okGroup).driveStops 115 = false ∧
    (memState okGroup).stagingRoom 1 = true ∧ ({ (memState okGroup) with vol.items := [(reshapeId 5, itemOf 0 128 [] .written)] } : State).item (reshapeId 5) = some (itemOf 0 128 [] .written) := by decide

/-! MergesClaimsAndCompletionsTakeEffect -/

/-- A small state or operand for the witnesses below. -/
def mergeRec : Rec := { kind := 1, lseq := 1, vol := 5, group := 3, lba := 0, count := 1, n := 1, extra := [], owner := .zone, durable := true, settled := true }

/-- A small state or operand for the witnesses below. -/
def mergeState : State := { (memState okGroup) with bell.edges := 7812500, vol.volumes := [(5, { group := 3, f := 0, size := 8, epochBase := 1, epochCur := 1 })], led.recs := [mergeRec], vol.merges := [(stripeKey 3 1, { places := [], through := 1, method := 3, phys := 130, data := [], rows := [], phase := .written })], vol.claims := [(stripeKey 3 2, [.merge])] }

theorem test_mergeStart_hyps : mergeState.mergeable (stripeKey 3 0) = [mergeRec] ∧ mergeState.runs 4 5 = true ∧ mergeState.driveStops 112 = false ∧ mergeRec.durEdge + mergeState.objN 0x440009 64 ≤ mergeState.bell.edges ∧
    (mergeState.claimsOn (stripeKey 3 0)).contains .merge = false ∧ mergeState.beingCopied 5 0 1 = false := by decide

theorem test_claimGrant_hyps : mergeState.vol.granted.contains (stripeKey 3 2) = false ∧ mergeState.claimsOn (stripeKey 3 2) = [.merge] ∧
    mergeState.led.operandUsed + mergeState.claimSlots (stripeKey 3 2) ≤ mergeState.operandBlocks := by decide

theorem test_mergeCommit_hyps : (tget mergeState.vol.merges (stripeKey 3 1)).any (fun m => m.phase = .written) = true ∧ mergeState.stagingRoom 1 = true := by decide

theorem test_float_hyps : 9 ∈ ({ okGroup with oldPhys := [9] }).oldPhys ∧ (∀ b ∈ mergeState.bay.bays, b.2.drive.out = []) ∧ mergeState.bay.waiting = [] := by decide

/-- A small state or operand for the witnesses below. -/
def outState : State := { mergeState with hier.doms := [(12, { phase := .on })], bay.bays := [(1, { drive := { out := [(7, { op := 2, lba := 0, n := 1, consumer := .firmware, queue := 1 })], admin := some 1 } })] }

theorem test_completion_hyps : (tget (outState.bayOf 1).drive.out 7).any (fun c => c.edge + outState.objN 0x440007 7812500 ≤ outState.bell.edges) = true ∧ outState.runs 4 (portRegion 1) = true ∧ 7 ≠ adminCid ∧
    (outState.bayOf 1).drive.admin.isSome = true := by decide

/-! KeysGrantsAndServicesTakeEffect -/

/-- A small state or operand for the witnesses below. -/
def keyState : State := { State.reset with bell.edges := 9, ciph.lanes := [(15, { keys := [{ vol := 5, epoch := 2, last := 5 }] })], hier.doms := [(15, { phase := .on })], dict.objs := [(0x500032, [1])], vol.volumes := [(5, { group := 3, f := 0, size := 8, epochBase := 1, epochCur := 1 })] }

theorem test_keyHold_hyps : (∃ k ∈ (keyState.lane 15).keys, k.vol = 5 ∧ k.epoch = 2 ∧ k.last + keyState.objN 0x50000B 4 ≤ keyState.bell.edges) := by decide

theorem test_wseqGrant_hyps : keyState.ciph.wseqLimit < 2 ^ 40 ∧ 2 ^ 40 ≤ keyState.ciph.wseqNext + 2 ^ 40 ∧ keyState.ciph.wseqNext + 2 ^ 40 < 2 ^ 40 + 1 := by decide

theorem test_service_hyps : keyState.ciph.svc = none ∧ keyState.objN 0x500032 0 ≠ keyState.ciph.svcCons ∧ keyState.cipherRuns = true := by decide

theorem test_serviceEnd_hyps : (({ keyState with ciph.svc := some { desc := [], left := 0 } } : State).ciph.svc).any (fun r => r.left = 0) = true := by decide

theorem test_operatorKey_hyps : State.reset.opKeysSet = [] ∧ padTo 32 [1] ≠ zeros 32 ∧ padTo 32 [] = zeros 32 ∧ ({ State.reset with dict.objs := [(0x500017, [1])] } : State).opKeysSet = [7] := by decide

theorem test_rekey_hyps : keyState.takes cipherSet 160 [7, 0, 5] ∧ (keyState.volume (fld (padTo 160 [7, 0, 5]) 2 2)).isSome = true ∧ keyState.ciph.epochNext ≠ 0xFFFFFFFF ∧ keyState.anyReady = false ∧
    (keyState.volume (fld (padTo 160 [9]) 2 2)) = none := by decide

/-! RootKeyAndFirmwareCommandsTakeEffect -/

/-- A small state or operand for the witnesses below. -/
def rootState : State := { State.reset with ciph.root := some [1] }

theorem test_root_hyps : State.reset.takes cipherSet 160 [1] ∧ State.reset.ciph.root = none ∧ State.reset.ciph.identityOk = true ∧ State.reset.ciph.randomFailed = false ∧ rootState.ciph.root = some [1] ∧
    rootState.takes cipherSet 160 [3] := by decide

theorem test_firmware_hyps : State.reset.takes fwSet 80 [1, 7] ∧ fld (padTo 80 [1, 7]) 1 1 = 7 ∧ State.reset.ciph.rollback ≤ 0 ∧ 0 ≤ State.reset.ciph.runningSvn ∧ State.reset.ciph.revoked ||| 2 ^ 3 ≠ 15 ∧ State.reset.ciph.signer ≠ 3 := by decide

/-! BayFaultsTakeEffect -/

/-- A small state or operand for the witnesses below. -/
def bayIn (b : Bay) : State := { State.reset with bell.edges := 9765625, hier.doms := [(19, { phase := .on }), (12, { phase := .on }), (13, { phase := .on })], stby.role := 2, bay.bays := [(23, b)] }

theorem test_bayDue_hyps : (bayIn { state := 3, fuse12 := 2000 }).dueFault 23 = some 2 ∧ (bayIn { state := 3, fuseAux := 2000 }).dueFault 23 = some 3 ∧ (bayIn { state := 2 }).dueFault 23 = some 4 ∧
    (bayIn { state := 6, short := 98 }).dueFault 23 = some 5 ∧ (bayIn { state := 3, out := 98 }).dueFault 23 = some 6 ∧ (bayIn { state := 2, gateMet := true }).dueFault 23 = some 7 ∧
    (bayIn { state := 3 }).supervised = true := by decide

theorem test_adcFault_hyps : 16 ≤ tgetD ((bayIn { adcOut := [(4, 16)] }).bayOf 23).adcOut 4 0 ∧ ((bayIn { adcOut := [(4, 16)] }).bayOf 23).adcFault = false ∧ (bayIn {}).supervised = true := by decide

theorem test_bayFault_hyps : ((bayIn { state := 2 }).bayOf 23).state ≠ 3 ∧ ((bayIn { state := 2 }).bayOf 23).drive.state = 0 := by decide

/-! BayCommandsTakeEffect -/

/-- A small state or operand for the witnesses below. -/
def bayOn (b : Bay) : State := { (bayIn b) with dict.objs := [(bayKey 23 1, [1])] }

theorem test_seating_hyps : ((bayOn { state := 1, seat := 97657 }).bayOf 23).state = 1 ∧ (bayOn { state := 1, seat := 97657 }).bayObj 23 0x01 0 = 1 ∧ (bayOn { state := 1 }).stby.fenceIn = false ∧ (bayOn { state := 1 }).supervised = true := by decide

theorem test_retry_hyps : 0 + (bayOn { state := 4, retry := some 0 }).bayObj 23 0x0E 976563 ≤ (bayOn { state := 4, retry := some 0 }).bell.edges ∧ ((bayOn { state := 4, retry := some 0 }).bayOf 23).retry = some 0 := by decide

theorem test_perst_hyps : ((bayOn { state := 3, pgEdge := some 0 }).bayOf 23).pgEdge = some 0 ∧ 0 + 97657 ≤ (bayOn {}).bell.edges ∧ (bayOn {}).domOn (portDomain 23) = true ∧ ({ (bayOn {}) with rst.stretch := false } : State).rst.stretch = false := by decide

theorem test_shutdown_hyps : ((bayOn { state := 7 }).bayOf 23).shutPerst = none ∧ ((bayOn { state := 7 }).bayOf 23).shutEdge + (bayOn {}).objN 0x610008 9765625 ≤ (bayOn {}).bell.edges ∧
    ((bayOn { state := 7, shutPerst := some 1 }).bayOf 23).shutPerst = some 1 ∧ 1 + 977 ≤ (bayOn {}).bell.edges := by decide

theorem test_bayCommand_hyps : (bayOn { state := 5 }).takes (baySet 23) 8 [1] ∧ ((bayOn { state := 5 }).bayOf 23).short < 98 ∧ ((bayOn { state := 5 }).bayOf 23).shortAux < 98 ∧ ((bayOn { state := 3 }).bayOf 23).state = 3 := by decide

/-! DriveBringUpTakesEffect -/

/-- A small state or operand for the witnesses below. -/
def driveAt (st : Nat) : State := bayIn { state := 3, drive := { state := st, retrain := true, speed := 6, width := 4 } }

theorem test_driveIn_hyps : (driveAt 1).driveIn 23 1 = true ∧ (driveAt 2).driveIn 23 2 = true ∧ (driveAt 3).driveIn 23 3 = true ∧ (driveAt 4).driveIn 23 4 = true ∧ (driveAt 5).driveIn 23 5 = true ∧
    ((driveAt 5).bayOf 23).drive.retrain = true ∧ ((driveAt 5).bayOf 23).drive.speed ≠ 0 ∧ (driveAt 5).runs 4 (portRegion 23) = true ∧ ((driveAt 1).bayOf 23).drive.linkHeld = false := by decide

theorem test_driveTime_hyps : ((driveAt 1).bayOf 23).drive.stateEdge + (driveAt 1).objN 0x610005 976563 ≤ (driveAt 1).bell.edges ∧ ((driveAt 2).bayOf 23).drive.stateEdge + min (ceilDiv (((driveAt 2).bayOf 23).drive.capTo * 1953125) 4) ((driveAt 2).objN 0x610006 29296875) ≤ (driveAt 2).bell.edges ∧
    ((driveAt 5).bayOf 23).drive.lastCfs + (driveAt 5).objN 0x610009 977 ≤ (driveAt 5).bell.edges := by decide

/-! DriveCommandsTakeEffect -/

theorem test_sideband_hyps : ((driveAt 5).bayOf 23).drive.lastSb + (driveAt 5).objN 0x61000A 976563 ≤ (driveAt 5).bell.edges ∧ (driveAt 5).objN 0x61000A 976563 ≠ 0 ∧ ((driveAt 5).bayOf 23).state = 3 := by decide

theorem test_led_hyps : (driveAt 5).bay.ledEdge + 1024 ≤ (driveAt 5).bell.edges := by decide

theorem test_driveCommand_hyps : (driveAt 5).takes driveSet 96 [1, 23] ∧ fld (padTo 96 [1, 23]) 1 1 = 23 ∧ ((driveAt 5).bayOf 23).drive.state = 5 ∧ 24 ≤ fld (padTo 96 [1, 24]) 1 1 ∧ ((driveAt 4).bayOf 23).drive.state < 5 ∧
    fld (padTo 96 [4, 23, 1, 0, 64, 64]) 4 1 ≤ 64 ∧ fld (padTo 96 [4, 23, 1, 0, 64, 64]) 5 1 ≤ 64 := by decide

theorem test_adminTimeout_hyps : ((bayIn { drive := { admin := some 0 } }).bayOf 23).drive.admin = some 0 ∧ 0 + (bayIn {}).objN 0x610007 9765625 ≤ (bayIn {}).bell.edges := by decide

/-! RolesAndTheFenceTakeEffect -/

/-- A small state or operand for the witnesses below. -/
def roleState (x : StandbyState) : State := { State.reset with bell.edges := 1000000, stby := x, bay.bays := [(23, { pinA := true, pinB := true })] }

theorem test_role_hyps : (roleState { role := 1 }).takes standbySet 8 [2] ∧ (roleState { role := 1 }).stby.fenceIn = false ∧ (roleState { role := 3 }).takes standbySet 8 [3] ∧ (roleState { role := 3 }).stby.peerFail = false ∧
    (roleState { role := 3 }).stby.beatSeen = false ∧ (roleState {}).takes standbySet 8 [1] := by decide

theorem test_handover_hyps : ((roleState {}).bayOf 23).state ≠ 3 ∧ 0 + (roleState {}).objN 0x540009 48829 ≤ (roleState {}).bell.edges ∧ ((roleState {}).bayOf 23).seated = true := by decide

theorem test_stagger_hyps : 0 + (roleState {}).objN 0x54000A 64 ≤ (roleState {}).bell.edges ∧ (roleState { role := 2, take := some { start := 0, bays := [23], waitEnd := some 0 } }).stby.withdrawal = none := by decide

theorem test_withdraw_hyps : (roleState { role := 2, withdrawal := some (1, 999999) }).isUp ∧ 999999 < (roleState {}).bell.edges := by decide

/-! BeatAndLeaseTakeEffect -/

theorem test_beat_hyps : (roleState { role := 3, beat := some 0, hb := some 0 }).stby.beat = some 0 ∧ 0 + (roleState {}).objN 0x540004 195313 < (roleState {}).bell.edges ∧ 0 + 488 ≤ (roleState {}).bell.edges := by decide

theorem test_peer_hyps : (roleState { activeIn := true }).stby.inEdge + 2048 ≤ (roleState {}).bell.edges ∧ 0 + (roleState {}).objN 0x540005 488282 ≤ (roleState {}).bell.edges ∧ (0 + 1) * 1024 ≤ (roleState {}).bell.edges := by decide

theorem test_lease_hyps : (roleState { role := 3, confirm := some 5 }).stby.deadline ≤ (roleState {}).bell.number ∧ (roleState { role := 3, confirm := some 5 }).isUp := by decide

/-! EndpointLinkResetsAndConfigTakeEffect -/

/-- A small state or operand for the witnesses below. -/
def epState : State := { State.reset with bell.edges := 99999, hier.doms := [(14, { phase := .on }), (17, { phase := .on }), (18, { phase := .on })], stby.role := 2, ep.link := true, ep.cfg := [(0x04, 6)], ep.aperture := padTo 256 (le 8 0 ++ le 4 65536 ++ [3]), ep.speed := 6, ep.width := 16, dict.objs := [(0x700005, [1])] }

theorem test_epLink_hyps : epState.isUp ∧ epState.domOn 14 = true ∧ epState.runs 4 2 = true ∧ epState.ep.perst = false ∧ 6 ≤ epState.objN 0x700002 6 ∧ 16 ≤ epState.objN 0x700003 16 ∧ widthOk 16 = true := by decide

theorem test_epConfig_hyps : epState.objN 0x700005 0 ≠ 0 ∧ epState.ep.flr = none ∧ State.reset.objN 0x700005 0 = 0 ∧ cfgClear 0x10 = 0 ∧ epState.cfgMask 0x10 ≠ 0 := by decide

theorem test_bar4_hyps : epState.epRuns = true ∧ epState.memSpace = true ∧ epState.d3 = false ∧ epState.apertureOk true 65528 8 = true ∧ epState.apertureOk false 65529 8 = false ∧ ({ epState with ep.cfg := [] } : State).memSpace = false := by decide

theorem test_epReset_hyps : epState.ep.perst = false ∧ ¬ ({ State.reset with rst.phase := .fuses } : State).isUp ∧ ({ epState with ep.perst := true } : State).ep.perst = true ∧ epState.domReleased 14 = true ∧ State.reset.domReleased 14 = false ∧ ({ epState with ep.flr := some 1 } : State).ep.flr = some 1 := by decide

/-! EndpointMessagesAndReadsTakeEffect -/

theorem test_resetRecord_hyps : ({ epState with cor.reset := some 5 } : State).cor.reset = some 5 ∧ 5 < epState.bell.edges := by decide

/-- A small state or operand for the witnesses below. -/
def vecState : State := { epState with ep.cfg := [(0x04, 6), (0x70, 0x80000000)], ep.vectors := [4095], ep.msix := [(4095, le 16 0)], ep.tags := [(255, { use := .dropped, edge := 1, len := 64 }), (256, { use := .dropped, edge := 99999, len := 64 })], ep.quarantine := [(7, 99999)] }

theorem test_vector_hyps : vecState.ep.vectors.contains 4095 = true ∧ vecState.vectorOpen 4095 = true := by decide

theorem test_tag_hyps : (∃ t, tget vecState.ep.tags 255 = some t ∧ t.edge + vecState.cplTimeout ≤ vecState.bell.edges) ∧ (∃ t, tget vecState.ep.tags 256 = some t ∧ vecState.bell.edges - t.edge < vecState.cplTimeout) ∧
    tget vecState.ep.tags 0 = none ∧ tget vecState.ep.quarantine 7 = some 99999 := ⟨⟨_, rfl, by decide⟩, ⟨_, rfl, by decide⟩, rfl, rfl⟩

/-! VolumeJobsAndExchangesTakeEffect -/

/-- A small state or operand for the witnesses below. -/
def entryOf (op nsid segs : Nat) : Bytes := padTo 64 (le 1 op ++ le 1 3 ++ le 2 1 ++ le 4 7 ++ le 4 nsid ++ le 4 segs)

/-- A small state or operand for the witnesses below. -/
def jobState (q op : Nat) : State := { epState with hier.doms := [(14, { phase := .on }), (16, { phase := .on }), (17, { phase := .on }), (18, { phase := .on })], cor.rings := [(q, { state := 1, size := 16, excSize := 16, tail := 1, mgmt := true, entries := [(0, (entryOf op 0xFFFFFFFF 0, 0))] })] }

theorem test_job_hyps : ∀ op ∈ [1, 2, 3, 4, 0x20], ((jobState 5 op).nextJob 5).any (fun x => x.2 && fld (x.1.getD 0 []) 0 1 == op) = true ∧ (jobState 5 op).jobTurn 5 = true ∧ (jobState 5 op).opAllowed 5 op = true := by decide

theorem test_jobFails_hyps : ((jobState 5 3).jobFails 0 5 [entryOf 3 0xFFFFFFFF 0]) = none ∧ ((jobState 5 1).jobFails 0 0 [entryOf 1 0xFFFFFFFF 0]) = some (2, 0x800B, 0) ∧ segFails 6 [entryOf 0x20 0 0] = 3 := by decide

/-- A small state or operand for the witnesses below. -/
def nsState : State := { (jobState 5 1) with tgt.namespaces := [(9, { state := 1, nsid := 1, vol := 5, access := [(0, 2)] })], vol.volumes := [(5, { group := 3, f := 0, size := 8, epochBase := 1, epochCur := 1 })] }

/-- A small state or operand for the witnesses below. -/
def jobEntry (op : Nat) : Bytes := padTo 64 (le 1 op ++ le 1 3 ++ le 2 1 ++ le 4 7 ++ le 4 1 ++ le 4 1 ++ le 8 0 ++ le 4 1 ++ le 4 0 ++ le 8 4096 ++ le 4 4096)

theorem test_jobRuns_hyps : (nsState.jobFails 0 0 [jobEntry 1]) = none ∧ (nsState.jobFails 0 2 [jobEntry 2]) = none ∧ (nsState.jobFails 0 4 [padTo 64 (le 1 4 ++ le 1 3 ++ le 2 1 ++ le 4 7 ++ le 4 1 ++ le 4 0 ++ le 8 0 ++ le 4 1)]) = none := by decide

/-! AdminJobsTakeEffect -/

/-- A small state or operand for the witnesses below. -/
def adminEntry (op q : Nat) : Bytes := padTo 64 (le 1 op ++ le 1 3 ++ le 2 1 ++ le 4 7 ++ le 2 q ++ le 2 0 ++ le 2 0 ++ le 2 4095 ++ le 8 64 ++ le 4 16 ++ le 4 65536 ++ le 8 32 ++ le 8 8)

/-- A small state or operand for the witnesses below. -/
def adminState (op q st : Nat) : State := { (jobState 0 op) with cor.rings := [(0, { state := 1, size := 16, excSize := 16, tail := 1, mgmt := true, entries := [(0, (adminEntry op q, 0))] }), (4095, { state := st })], tgt.assocs := [(0, { state := 1 })], dict.objs := [(0x700021, [1])] }

theorem test_adminJob_hyps : ∀ op ∈ [0x10, 0x11, 0x12, 0x13, 0x14], ((adminState op 4095 1).nextJob 0).any (fun x => x.2 && x.1 == [adminEntry op 4095]) = true ∧ (adminState op 4095 1).jobTurn 0 = true := by decide

theorem test_ringCreate_hyps : (adminState 0x10 4095 0).coroloAssocOk 0 = true ∧ fld (adminEntry 0x10 4095) 16 8 % 64 = 0 ∧ pow2In 16 65536 (fld (adminEntry 0x10 4095) 24 4) = true ∧ fld (adminEntry 0x10 4095) 32 8 % 32 = 0 ∧
    pow2In 16 65536 (fld (adminEntry 0x10 4095) 28 4) = true ∧ fld (adminEntry 0x10 4095) 40 8 % 8 = 0 ∧ fld (adminEntry 0x10 4095) 14 2 < 4096 ∧ ((adminState 0x10 4095 0).ring 4095).state = 0 := by decide

theorem test_adminBar_hyps : epState.barOpen = true ∧ (epState.ring 0).state = 0 ∧ ({ epState.cor with size := 4096, excSize := 65536 } : CoroloState).setupOk = true := by decide

/-! DoorbellsAndHeadsTakeEffect -/

/-- A small state or operand for the witnesses below. -/
def ringState (r : Ring) : State := { epState with cor.rings := [(4095, r)], ep.tags := [(0, { use := .entries 4095 0 1, edge := 99999, len := 64 })] }

theorem test_doorbell_hyps : (ringState { state := 1, size := 16 }).barOpen = true ∧ ((ringState { state := 1, size := 16 }).ring 4095).state = 1 ∧ sub32 0 0 = 0 ∧ 2 ^ 31 ≤ sub32 4294967295 0 ∧ 0 < sub32 17 0 ∧ sub32 17 0 < 2 ^ 31 ∧ 16 < sub32 17 0 ∧ sub32 16 0 ≤ 16 := by decide

theorem test_entryFetch_hyps : (ringState {}).bell.edges - 99999 < (ringState {}).cplTimeout ∧ (ringState {}).runs 4 2 = true := by decide

theorem test_head_hyps : (ringState { state := 3 }).muted = false ∧ (ringState { state := 3 }).epSends = true ∧ (ringState { state := 3 }).ep.writes = [] ∧ Job.passable 99999 { idx := 0, n := 1, tag := 0, op := 1, ended := some 99998 } = true ∧
    ((ringState { modTime := 5, passed := 1, passEdge := 1 }).ring 4095).passEdge + 5 ≤ (ringState {}).bell.edges := by decide

/-! FaultObjectsAndRecoveryTakeEffect -/

/-- A small state or operand for the witnesses below. -/
def fltState : State := { State.reset with bell.edges := 2000000, flt.haltEdge := some 1999999, flt.pulseEdge := some 1999990, flt.sources := [(511, { active := 1, lastEdge := 951423 })], flt.fences := [(regionKey 4 6, { lastEdge := 951422, permanent := false })] }

theorem test_sourceCfg_hyps : (∀ i < 32, fld (padTo 32 (List.replicate 32 (0xFC#8))) i 1 % 8 < 5) ∧ (∃ i < 32, 5 ≤ fld (padTo 32 [5#8]) i 1 % 8) ∧ (defaultSeverity 511).isSome = true ∧ defaultSeverity 15 = none := by decide

theorem test_fault_hyps : fltState.isUp ∧ fltState.flt.haltEdge = some 1999999 ∧ 1999990 + 10 ≤ fltState.bell.edges ∧ (fltState.source 511).active = 1 ∧ (fltState.source 511).lastEdge + fltState.objN 0x780002 1048576 < fltState.bell.edges ∧
    (tget fltState.flt.fences (regionKey 4 6)).any (fun f => !f.permanent && f.lastEdge == 951422) = true ∧ 951422 + fltState.objN 0x780002 1048576 < 2000000 := by decide

/-! MemoryFillsTestsAndErrorsTakeEffect -/

/-- A small state or operand for the witnesses below. -/
def protState : State := { State.reset with bell.edges := 9, bell.prev := 976563, mp.fill := some { hbm := true, die := 4, region := 7, base := 0, len := 8192, pattern := 1, edge := 8 }, mp.insts := [(1281, { writeBack := [1023], bucket := 1 }), (1036, { writeBack := [3221225471] })], mem.checks := [(stackByte 1036 3221225471 / 8, 255)] }

theorem test_mp_hyps : protState.takes mpSet 40 [1, 4, 6] ∧ 6 < regionCount 4 ∧ protState.cmdFenced 4 6 = true ∧ protState.cmdFenced 4 9 = false ∧ regionCount 4 = 11 := by decide

theorem test_fillComplete_hyps : (protState.mp.fill.any fun f => f.bells ≤ protState.since f.edge + 1) = true := by decide

theorem test_hbmFill_hyps : (hbmSize - 4096) % 4096 = 0 ∧ hbmSize - 4096 + 4096 ≤ hbmSize := by decide

theorem test_testAccess_hyps : memOf 1281 = some ⟨1, 1, 8192, false⟩ ∧ 1023 * 8 < 8192 ∧ 8192 ≤ 1024 * 8 ∧ isStack 1281 = false ∧ protState.cmdFenced 5 1 = false ∧ protState.cmdFenced 5 0 = true ∧ memOf 1282 = none ∧
    (memOf 1036).any (fun m => 3221225471 * 8 < m.bytes) = true ∧ isStack 1036 = true := by decide

theorem test_writeBack_hyps : (protState.memInst 1281).writeBack.contains 1023 = true ∧ (protState.memInst 1036).writeBack.contains 3221225471 = true ∧ tget protState.mem.checks (stackByte 1036 3221225471 / 8) = some 255 ∧
    (protState.memInst 1281).leakEdge ≠ protState.bell.edges ∧ protState.bell.prev % protState.objN 0x790002 976563 = 0 := by decide

/-! ResetAndBringUpTakeEffect -/

/-- A small state or operand for the witnesses below. -/
def fuseState : State := { State.born with rst := { phase := .fuses, valid := [0, 1, 2, 3, 4] } }

/-- A small state or operand for the witnesses below. -/
def clockState : State := { State.born with rst := { phase := .clocks, deciding := 3, keep := true }, hier := { clockGood := [true, true, true, false, true, true], heldOut := [3] } }

/-- A small state or operand for the witnesses below. -/
def bootSlot (n : Nat) : BootSlot := { header := [0x45, 0x52, 0x52, 0x4C, 1, 0, 0, 1] ++ le 4 n ++ le 4 1, body := [7] }

theorem test_reset_hyps : State.reset.rst.phase = .up ∧ fuseState.rst.phase = .fuses ∧ 5 ∉ fuseState.rst.valid ∧ (putIn 5 fuseState.rst.valid).length = 6 ∧ clockState.clocksSettled = true ∧ State.reset.rst.stretch = true := by decide

theorem test_clocks_hyps : ({ clockState with hier := {} } : State).hier.clockGood.getD 4 false = false ∨ ({ clockState with hier.clockGood := [] } : State).hier.clockGood.getD 4 false = false ∧ 4 ∉ clockState.hier.heldOut := by decide

theorem test_boot_hyps : State.reset.rst.booting = true ∧ slotSvn (bootSlot 2) < slotSvn (bootSlot 3) ∧ slotLen (bootSlot 2) = 1 ∧ State.reset.takes resetSet 4 [1] ∧ State.reset.rst.bringUpIssued = false := by decide

/-! SelfTestAndDumpTakeEffect -/

/-- A small state or operand for the witnesses below. -/
def bistState : State := { State.reset with hier.doms := [(14, { phase := .on }), (16, { phase := .on })], hier.cmdFence := [regionKey 4 5], rst.bist := some { kind := 3, patterns := 1, seed := 1, todo := [regionKey 4 5], results := [] }, dict.objs := [(0x7A0005, le 8 1048576)], rst.dump := { captured := true, run := some 126 } }

theorem test_bist_hyps : bistNamed [1, 4, 5] = some [regionKey 4 5] ∧ regionKey 4 5 ∈ testable ∧ bistState.bistSkip (regionKey 4 5) = 0 ∧ bistState.bistSkip (regionKey 4 4) ≠ 0 ∧ bistNamed [1, 6] = none ∧ regionKey 4 5 ∈ [regionKey 4 5].take 4 ∧ bistState.takes bistSet 16 [1, 4, 5] := by decide

theorem test_dump_hyps : bistState.takes resetSet 32 [2] ∧ bistState.dumpBase = 1048576 ∧ State.reset.dumpBase = 0 ∧ fwSections (zeros 32) 0 0 4096 = [] ∧ sectionsEnd [] ≤ dumpArea ∧ bistState.rst.dump.captured = true ∧ bistState.rst.dump.closed = false ∧ ({ bistState with hier.doms := [(17, { phase := .on }), (18, { phase := .on })] } : State).hbmOn = true ∧ State.reset.hbmOn = false ∧ (bitsOf 7 126).filter (1 ≤ ·) = [1, 2, 3, 4, 5, 6] := by decide

/-! TestAccessTakesEffect -/

theorem test_jtag_hyps : 1 ∉ State.reset.rst.holding ∧ 2 ∉ State.reset.rst.holding ∧ 2 ∈ ({ State.reset with rst.holding := [2] } : State).rst.holding ∧ 1 ∈ ({ State.reset with rst.holding := [1] } : State).rst.holding := by decide

/-! CounterCommandsAndSnapshotsTakeEffect -/

/-- A small state or operand for the witnesses below. -/
def snapState : State := { State.reset with bell.edges := 10, bell.number := 4096, dict.objs := [(0x800002, le 8 4096), (0x800003, le 8 1024)] }

theorem test_ctr_hyps : snapState.takes ctrSet 16 [5, 1, 0, 0, 0x80, 0xFF, 0x2F, 0, 16] ∧ fld (padTo 16 [5, 1, 0, 0, 0x80, 0xFF, 0x2F, 0, 16]) 4 4 + 8 * 16 = 0x300000 ∧ fld (padTo 16 [2, 13]) 1 1 = 13 := by decide

theorem test_snapTarget_hyps : snapState.objN 0x800002 0 = 4096 ∧ snapState.ctr.armEdge < snapState.bell.edges ∧ snapState.ctr.snapEdge ≠ some snapState.bell.edges ∧ nextTarget 4096 1024 4096 false = 5120 := by decide

/-! PinsAndTemperaturesTakeEffect -/

/-- A small state or operand for the witnesses below. -/
def ppsState : State := { State.reset with bell.edges := 2000, bell.aligned := true, bell.ptp := 1999999900, dict.objs := [(0x120031, [1])], pins.hot := [7, 0, 0, 0, 0, 0] }

theorem test_pps_hyps : ppsState.wholeSecond = some 2000000000 ∧ ppsState.objN 0x120031 0 = 1 ∧ ppsState.pins.ppsOut = none ∧ 1899999900 + 100000000 < ppsState.bell.ptp + ppsState.bellSpan.1 ∧ ppsState.pins.tempEdge + 1024 ≤ ppsState.bell.edges := by decide

/-! RequestsReachTheDictionary -/

/-- A small state or operand for the witnesses below. -/
def dictState : State := { epState with dict.waiting := List.replicate 64 { path := 3, addr := 1, port := 2, edge := 1, msg := [] } }

theorem test_brodlet_hyps : dictState.isUp ∧ (dictState.dict.waiting.filter (fun x => 3 ≤ x.path)).length = 64 ∧ Machine.Requester.ident (.vlan 5 6) = (4, 5, 6) ∧ Machine.Requester.ident (.core 7) = (0, 7, 0) ∧ dictState.barOpen = true ∧ dictState.dict.dwBusy = false ∧
    ({ epState with rst.stretch := false } : State).objN 0x110003 1 = 1 := by decide

theorem test_object_hyps : objDesc 0x7FFFFF = none ∧ (objDesc 0x120001).any (fun d => d.acc = 1) = true ∧ (objDesc 0x780002).any (fun d => d.acc = 3 && !d.sizeOk [1] && d.sizeOk (le 4 976) && d.inRange (le 4 1048576) && !d.inRange (le 4 0)) = true ∧
    ownWrite 0x780002 false (le 4 1048576) = none ∧ writeOk 0x780002 (le 4 1048576) State.reset = true ∧ State.reset.writable 0x780002 = true ∧ ownWrite 0x7A0005 false (zeros 8) = none ∧ ({ State.reset with rst.dump.closed := true } : State).writable 0x7A0005 = false := by decide

theorem test_bars_hyps : epState.epRuns = true ∧ epState.ep.link = true ∧ epState.barOpen = true ∧ ({ epState with ep.cfg := [] } : State).barOpen = false := by decide

/-! DictionaryCommandsTakeEffect -/

/-- A small state or operand for the witnesses below. -/
def exportPar : Bytes := padTo 32 ([1] ++ zeros 7 ++ le 8 4096 ++ le 4 1048576)

theorem test_dictCmd_hyps : State.reset.takes dictSet 32 exportPar ∧ snapRange exportPar = true ∧ snapRange (padTo 32 ([1] ++ zeros 7 ++ le 8 4095 ++ le 4 64)) = false ∧ State.reset.anyReady = false ∧
    ({ State.reset with tgt.namespaces := [(0, { state := 1 })] } : State).anyReady = true := by decide

/-- A small state or operand for the witnesses below. -/
def hbmState : State := { State.reset with hier.doms := [(17, { phase := .on }), (18, { phase := .on })] }

theorem test_dictHbm_hyps : hbmState.takes dictSet 32 exportPar ∧ hbmState.hbmOn = true ∧ State.reset.hbmOn = false := by decide

/-! StepRunsTheFrontCommand -/

theorem test_step_hyps : ({ State.reset with pending := [.jtagBypass, .jtagIdcode] } : State).pending = .jtagBypass :: [.jtagIdcode] := by decide

/-! EmptyQueueIdles -/

theorem test_emptyQueue_hyps : State.reset.pending = [] := by decide

/-! WaitingCommandsAllRunInOrder -/

theorem test_run_hyps : Host.Core.run Sys2Proof.core 0 State.reset = Host.Outcome.next State.reset := rfl

/-! InputsBeforeReleaseAreLost -/

theorem test_duringReset_hyps : ({ State.reset with rst.phase := .cause } : State).rst.phase ≠ .up ∧ (Instr.ppsOutRise).duringReset = false := by decide

/-! StepKeepsHbmCanonical -/

theorem test_memWf_hyps : State.reset.memWf ∧ step State.reset = .next State.reset := ⟨by decide, rfl⟩

/-! OnlyTheEdgeAndResetMoveTime -/

theorem test_movesTime_hyps : (Instr.realignment).movesTime = false ∧ ∃ t, exec .realignment State.reset = .next t := ⟨rfl, _, rfl⟩

/-! BellEdgeAdvancesTheBell -/

theorem test_edge_hyps : State.reset.isUp ∧ State.reset.bell.stretch = none ∧ State.reset.bell.clock = none := by decide

theorem test_edge_stretched : ({ State.reset with bell.stretch := some { tStar := 1600, nStar := 1, rebase := false } } : State).isUp ∧ State.reset.bell.ptp ≤ 1600 := by decide

theorem test_edge_step : 0 ≤ ((State.reset.bell.ptp + 1024 : Nat) : Int) + (-1024) := by decide

/-! BusyObjectsTurnCommandsAway -/

/-- A small state or operand for the witnesses below. -/
def busySet (k : Nat) : State := { State.reset with dict.sets := [(k, { ready := false })] }

theorem test_busy_hyps : ∀ k ∈ [0x240010, 0x260010, 0x300020, 0x300028, 0x340020, 0x300048, 0x400020, 0x440010, 0x480020, 0x790010, 0x800080], (busySet k).isUp ∧ (busySet k).busy k = true := by decide

/-! DirectoryListsEveryEvent -/

theorem test_directory_hyps : State.reset.takes 0x800080 16 [6, 0, 1, 1] ∧ (evDesc 0x0101).isSome = true ∧ evDesc 0xFFFF = none ∧
    0x300000 < fld (padTo 16 [5, 0, 0, 0, 0, 0, 0x30, 0, 1]) 4 4 + 8 * fld (padTo 16 [5, 0, 0, 0, 0, 0, 0x30, 0, 1]) 8 1 := by decide

/-! FullEventRingCountsTheLoss -/

theorem test_ring_full : (({ State.reset with xp.eventProd := 4096 } : State).xp.eventProd + 2 ^ 32 - ({ State.reset with xp.eventProd := 4096 } : State).objN 0x30000D 0) % 2 ^ 32 =
    ({ State.reset with xp.eventProd := 4096 } : State).objN 0x30000B 4096 := by decide

theorem test_ring_free : (State.reset.xp.eventProd + 2 ^ 32 - State.reset.objN 0x30000D 0) % 2 ^ 32 ≠ State.reset.objN 0x30000B 4096 := by decide
end

section
/-! The transport event ring: what writing one record does when the ring is full and when it is not (R150, R151). -/

namespace Sys2Proof.Machine

/-- A full ring takes no record: the loss is counted and FS73 reaches the collector (R151). -/
theorem writeEvent_of_full {s : State} (r : Bytes)
    (h : (s.xp.eventProd + 2 ^ 32 - s.objN 0x30000D 0) % 2 ^ 32 = s.objN 0x30000B 4096) :
    writeEvent s r = (({ s with xp.eventLost := s.xp.eventLost + 1 } : State).count Ev.evLost 0).fault 73 0 :=
  if_pos h

/-- The record goes to the place of `event_prod` in a ring that is not full, and the interrupt is sent (R150). -/
theorem writeEvent_of_not_full {s : State} (r : Bytes)
    (h : (s.xp.eventProd + 2 ^ 32 - s.objN 0x30000D 0) % 2 ^ 32 ≠ s.objN 0x30000B 4096) :
    writeEvent s r =
      (({ s.hbmPut (s.objN 0x30000A 0 + s.xp.eventProd % s.objN 0x30000B 4096 * 32) r with
          xp.eventProd := (s.xp.eventProd + 1) % 2 ^ 32 } : State).count (Ev.evPost1 + ((r.getD 12 0).toNat - 1)) 0).emit .eventIrq :=
  if_neg h

/-- Settles O58, by the two cases of `writeEvent`. -/
theorem fullEventRingCountsTheLoss : Obligations.FullEventRingCountsTheLoss := by
  unfold Obligations.FullEventRingCountsTheLoss
  constructor
  · intro s r hfull
    rw [writeEvent_of_full r hfull]
    simp
  · intro s r hfree
    rw [writeEvent_of_not_full r hfree]
    simp

end Sys2Proof.Machine
end

section
/-! Queries of the counter directory and reads of a counter bank, of an accepted `ctr_command` (R532, R533). -/

namespace Sys2Proof.Machine

/-- An accepted `ctr_command` of a released device leaves what its action makes of the accepted write (R12, R532). -/
theorem up_ctrCommand_gives {s t : State} {par : Bytes} {f : Bytes → State → State} (h : s.takes ctrSet 16 par)
    (hf : f (padTo 16 par) (s.accepted ctrSet ctrSet 16 par) = t) (hp : t.pending = s.pending) :
    up s (ctrCommand par f) = .next t :=
  up_gives h.1 ((command_of_takes s ctrSet ctrSet 16 par f h).trans hf) hp

/-- The entry of an event, laid out as R532 gives it, is the query's result. -/
theorem directoryQuery_of_event {p : Bytes} {e : EvDesc} (s : State) (h : evDesc (fld p 2 2) = some e) :
    directoryQuery p s = s.done ctrSet 0
      (padTo 32 (ascii e.name) ++ le 1 (b2n e.level) ++ zeros 3 ++ le 4 (Config.eventOffset e.code) ++ le 2 e.insts ++ padTo 6 (ascii e.unit)) := by
  simp only [directoryQuery, h]

/-- A code that names no event is turned away (R533). -/
theorem directoryQuery_of_no_event {p : Bytes} (s : State) (h : evDesc (fld p 2 2) = none) :
    directoryQuery p s = s.done ctrSet 1 := by
  simp only [directoryQuery, h]

/-- A read that runs past 3 MiB is turned away, whatever its bank and count (R533). -/
theorem counterRead_past_end {p : Bytes} (s : State) (h : 0x300000 < fld p 4 4 + 8 * fld p 8 1) :
    counterRead p s = s.done ctrSet 1 :=
  if_pos (.inr (.inr (.inr (.inr h))))

/-- Settles O57: an accepted command runs its action, and the action's own case gives the answer. -/
theorem directoryListsEveryEvent : Obligations.DirectoryListsEveryEvent := by
  unfold Obligations.DirectoryListsEveryEvent
  refine ⟨?event, ?noEvent, ?pastEnd⟩
  case event =>
    intro s par e h he
    exact up_ctrCommand_gives h (directoryQuery_of_event _ he) (by simp)
  case noEvent =>
    intro s par h hn
    exact up_ctrCommand_gives h (directoryQuery_of_no_event _ hn) (by simp)
  case pastEnd =>
    intro s par h hr
    exact up_ctrCommand_gives h (counterRead_past_end _ hr) (by simp)

end Sys2Proof.Machine
end

section
/-! Commands and the queue: every command answers a next state and leaves the queue alone, and a run takes one waiting command at each step. -/

namespace Sys2Proof.Machine

/-- Every meaning puts its effect beside the queue as it was: none ends in a fault or a refusal. -/
theorem exec_eq_effect (c : Instr) (s : State) : ∃ t, exec c s = effect s t := by
  cases c <;> exact ⟨_, rfl⟩

theorem exec_next (c : Instr) (s : State) : ∃ t, exec c s = .next t ∧ t.pending = s.pending := by
  obtain ⟨t, ht⟩ := exec_eq_effect c s
  exact ⟨_, ht.trans (effect_next s t), rfl⟩

/-- Settles O46: a meaning is an `effect`, which answers a next state with the queue as it was. -/
theorem everyCommandAnswersANextState : Obligations.EveryCommandAnswersANextState := exec_next

theorem step_nil {s : State} (h : s.pending = []) : step s = .next s := by
  simp only [step, h]

theorem step_cons {c : Instr} {q : List Instr} {s : State} (h : s.pending = c :: q) : step s = exec c { s with pending := q } := by
  simp only [step, h]

/-- Settles O47, by the definition of a step. -/
theorem stepRunsTheFrontCommand : Obligations.StepRunsTheFrontCommand := fun _ _ _ h => step_cons h

/-- Settles O48, by the definition of a step. -/
theorem emptyQueueIdles : Obligations.EmptyQueueIdles := fun _ h => step_nil h

/-- A step takes one command off the queue. -/
theorem step_next (s : State) : ∃ t, step s = .next t ∧ t.pending = s.pending.tail := by
  cases hq : s.pending with
  | nil => exact ⟨s, step_nil hq, hq⟩
  | cons c q =>
    obtain ⟨t, ht, hp⟩ := exec_next c { s with pending := q }
    exact ⟨t, (step_cons hq).trans ht, hp⟩

/-- The first of several steps. -/
theorem run_succ {s t : State} (n : Nat) (h : step s = .next t) :
    Host.Core.run Sys2Proof.core (n + 1) s = Host.Core.run Sys2Proof.core n t := by
  simp only [Host.Core.run, Sys2Proof.core, h]

/-- As many commands have left the queue as steps were taken. -/
theorem run_next (n : Nat) (s : State) :
    ∃ t : State, Host.Core.run Sys2Proof.core n s = .next t ∧ t.pending = s.pending.drop n := by
  induction n generalizing s with
  | zero => exact ⟨s, rfl, rfl⟩
  | succ n ih =>
    obtain ⟨u, hu, hp⟩ := step_next s
    obtain ⟨t, ht, hq⟩ := ih u
    exact ⟨t, (run_succ n hu).trans ht, by rw [hq, hp, List.drop_tail]⟩

/-- A run in two parts. -/
theorem run_add (m n : Nat) {s t : State} (h : Host.Core.run Sys2Proof.core m s = .next t) :
    Host.Core.run Sys2Proof.core (m + n) s = Host.Core.run Sys2Proof.core n t := by
  induction m generalizing s with
  | zero => cases h; rw [Nat.zero_add]
  | succ m ih =>
    obtain ⟨u, hu, -⟩ := step_next s
    rw [Nat.add_right_comm, run_succ _ hu]
    exact ih ((run_succ m hu).symm.trans h)

/-- Settles O49: each step takes one command off the queue, so that as many steps as commands empty it. -/
theorem waitingCommandsAllRunInOrder : Obligations.WaitingCommandsAllRunInOrder := by
  refine ⟨fun s => ?_, fun _ _ m n h => run_add m n h, fun s n => run_next n s⟩
  obtain ⟨t, ht, hp⟩ := run_next s.pending.length s
  exact ⟨t, ht, hp.trans List.drop_length⟩

/-- Settles O52: no cell is listed, and the empty list is canonical. -/
theorem resetHbmIsCanonical : Obligations.ResetHbmIsCanonical := ⟨rfl, Hbm.empty_wf⟩

/-! ### Before the Saddle's release -/

/-- A row that does not reach a device in reset waits for the release (R561). -/
theorem exec_waits (c : Instr) (s : State) (hc : c.duringReset = false) :
    ∃ t, exec c s = effect s (if s.rst.phase = .up then t else s) := by
  cases c <;> cases hc <;> exact ⟨_, rfl⟩

/-- Such a row is lost before the release (R561). -/
theorem exec_of_held {c : Instr} {s : State} (h : ¬ s.isUp) (hc : c.duringReset = false) : exec c s = .next s := by
  obtain ⟨t, ht⟩ := exec_waits c s hc
  rw [ht, if_neg h, effect_next]

/-- Settles O50: a row that does not reach a device in reset waits for the release, and a pin takes its level. -/
theorem inputsBeforeReleaseAreLost : Obligations.InputsBeforeReleaseAreLost := by
  refine ⟨fun c s h hc => exec_of_held h hc, fun s h => ⟨?presence, ?perst, ?fenceAssert, ?fenceRelease, ?active⟩⟩
  case presence =>
    intro bay a b hb
    exact (pin_of_held s (presenceChange bay a b) _ h).trans (by simp [hb]; rfl)
  case perst => exact fun p => pin_of_held s (epFundamentalReset p) (fun s => { s with ep.perst := p.asserted }) h
  case fenceAssert => exact pin_of_held s fenceInAssert (fun s => { s with stby.fenceIn := true }) h
  case fenceRelease => exact pin_of_held s fenceInRelease fenceInRelease h
  case active => exact fun l => pin_of_held s (activeInEdge l) (fun s => { s with stby.activeIn := l }) h

end Sys2Proof.Machine
end

section
/-! A busy result set, and the state that a reset leaves. -/

namespace Sys2Proof.Machine

/-- A write of a command object of a released device whose set runs an earlier command leaves status 6 alone (R12, R443). -/
theorem up_command_of_busy {s : State} {set : Nat} (h : s.isUp) (hb : s.busy set = true) (key size : Nat) (par : Bytes)
    (act : Bytes → State → State) : up s (fun s => s.command key set size par act) = .next (s.status 6) :=
  up_gives h (command_of_busy s key set size par act hb) rfl

/-- Settles O55: each of these rows is a write of its command object, which a busy set turns away. -/
theorem busyObjectsTurnCommandsAway : Obligations.BusyObjectsTurnCommandsAway := by
  intro s par h
  refine ⟨?_, ?_, ?_, ?_, ?_, ?_, ?_, ?_, ?_, ?_, ?_⟩
  all_goals
    intro hb
    simp only [List.forall_mem_cons, List.not_mem_nil, false_implies, implies_true, and_true]
    and_intros
  all_goals exact up_command_of_busy h hb _ _ par _

/-- The first adjustment outcome is 2 (R40). -/
theorem reset_sets : State.reset.dict.sets = [(0x120008, { outcome := 2 })] := rfl

/-- Every result set is ready at reset and no command of it has ended. -/
theorem reset_res (k : Nat) : State.reset.busy k = false ∧ (State.reset.res k).seq = 0 := by
  simp only [State.busy, State.res, reset_sets, tgetD, tget]
  split <;> simp

/-- VID 1 has every port as an untagged member, and no other VID has members (R95). -/
theorem reset_vlans (v : Nat) :
    tgetD State.reset.sw.vlans v {} = if v = 1 then { member := 2 ^ 144 - 1, untagged := 2 ^ 144 - 1 } else {} := by
  have e : State.reset.sw.vlans = [(1, { member := 2 ^ 144 - 1, untagged := 2 ^ 144 - 1 })] := rfl
  simp only [e, tgetD, tget, eq_comm]
  split <;> rfl

/-- Settles O56, field by field. -/
theorem resetLeavesWhatTheSpecGives : Obligations.ResetLeavesWhatTheSpecGives :=
  ⟨rfl, rfl, rfl, rfl, rfl, fun _ _ => rfl, by decide, rfl, reset_res, rfl, reset_vlans, rfl, rfl⟩

end Sys2Proof.Machine
end

section
/-! Steady changes: the bell's edge count, number, era and clock and the reset phase stay, and the memory stays in canonical form.
One lemma for each way to put changes together; the files after it have one for each function of the model. -/

namespace Sys2Proof.Machine

/-- The edge count, the bell's number and era, the PTP clock and the reset phase. -/
def State.time (s : State) : Nat × Nat × Nat × Nat × ResetPhase :=
  (s.bell.edges, s.bell.number, s.bell.era, s.bell.ptp, s.rst.phase)

/-- From `s` to `t` no time passes, the reset phase stays, and the memory stays in canonical form. -/
structure Steady (s t : State) : Prop where
  time : t.time = s.time
  mem : s.memWf → t.memWf

variable {s₀ s t : State} {α β : Type}

theorem Steady.refl (s : State) : Steady s s := ⟨rfl, id⟩

theorem Steady.trans (h : Steady s₀ s) (k : Steady s t) : Steady s₀ t := ⟨k.time.trans h.time, k.mem ∘ h.mem⟩

/-- What is shown of a state that is used more than once. -/
theorem Steady.cut (h : Steady s₀ s) (k : Steady s₀ s → Steady s₀ t) : Steady s₀ t := k h

/-- A change of other parts of the state alone. -/
theorem Steady.same (h : Steady s₀ s) (ht : (t.time, t.mem) = (s.time, s.mem) := by rfl) : Steady s₀ t := by
  obtain ⟨e, m⟩ := Prod.mk.inj ht
  exact ⟨e.trans h.time, fun w => by rw [State.memWf, m]; exact h.mem w⟩

/-- A record update of other parts of the state. -/
theorem Steady.update {p b hi sw sc xp cc tg vo le ci ba st ep co di fl mp r pi ct se fr} (h : Steady s₀ t)
    (hb : (b.edges, b.number, b.era, b.ptp) = (t.bell.edges, t.bell.number, t.bell.era, t.bell.ptp) := by rfl)
    (hr : r.phase = t.rst.phase := by rfl) :
    Steady s₀ (State.mk p b hi sw sc xp cc tg vo le ci ba st ep co di fl mp r pi ct t.mem se fr) := by
  simp only [Prod.mk.injEq] at hb
  exact h.same (by simp [State.time, hb, hr])

/-- A change of memory that keeps its canonical form. -/
theorem Steady.put (h : Steady s₀ s) {m : Hbm} (hm : s.mem.wf = true → m.wf = true) : Steady s₀ { s with mem := m } :=
  ⟨h.time, fun w => hm (h.mem w)⟩

theorem steady_ite {c : Prop} [Decidable c] (hs : Steady s₀ s) (ht : Steady s₀ t) : Steady s₀ (if c then s else t) := by
  split <;> assumption

theorem steady_ite_fst {c : Prop} [Decidable c] {x y : State × α} (hs : Steady s₀ x.1) (ht : Steady s₀ y.1) :
    Steady s₀ (if c then x else y).1 := by
  split <;> assumption

theorem steady_of_eq {x : State × α} {a : α} (e : x = (t, a)) (h : Steady s₀ x.1) : Steady s₀ t := by
  rw [e] at h
  exact h

theorem steady_some_ite {c : Prop} [Decidable c] {f g : State → State} {o : Option (State → State)} (e : (if c then some g else o) = some f)
    (hg : Steady s₀ (g s)) (ho : o = some f → Steady s₀ (f s)) : Steady s₀ (f s) := by
  split at e
  · cases e
    exact hg
  · exact ho e

theorem steady_fst {a : α} (h : Steady s₀ s) : Steady s₀ (s, a).1 := h

theorem steady_when {c : Bool} {f : State → State} (hs : Steady s₀ s) (hf : ∀ t, Steady s₀ t → Steady s₀ (f t)) :
    Steady s₀ (s.when c f) := steady_ite (hf s hs) hs

theorem steady_foldl {f : State → α → State} {l : List α} (hs : Steady s₀ s) (hf : ∀ t a, Steady s₀ t → Steady s₀ (f t a)) :
    Steady s₀ (l.foldl f s) :=
  List.foldlRecOn l f hs (fun t ht a _ => hf t a ht)

theorem steady_foldl_fst {f : State × β → α → State × β} {l : List α} {x : State × β} (hs : Steady s₀ x.1)
    (hf : ∀ y a, Steady s₀ y.1 → Steady s₀ (f y a).1) : Steady s₀ (l.foldl f x).1 :=
  List.foldlRecOn (motive := fun y => Steady s₀ y.1) l f hs (fun y hy a _ => hf y a hy)

theorem steady_elim {o : Option α} {f : α → State} (hs : Steady s₀ s) (hf : ∀ a, Steady s₀ (f a)) : Steady s₀ (o.elim s f) := by
  cases o
  · exact hs
  · exact hf _

theorem steady_command {key set size : Nat} {par : Bytes} {act : Bytes → State → State} (hs : Steady s₀ s)
    (hf : ∀ p t, Steady s₀ t → Steady s₀ (act p t)) : Steady s₀ (s.command key set size par act) :=
  steady_ite (hs.same) (steady_ite (hs.same) (hf _ _ (hs.same)))

theorem steady_hbmPut {a : Nat} {b : Bytes} (hs : Steady s₀ s) : Steady s₀ (s.hbmPut a b) := hs.put (Hbm.write_wf s.mem a b)

end Sys2Proof.Machine
end

section
-- One proof at a time: hundreds at once need more threads than the memory limit of the check has room for.
set_option Elab.async false
/-! The functions of the model are steady, apart from those that move time: one lemma each, in the model's own order, file by file.
Each follows the branches of its function; a function that may answer nothing has its lemma for what it answers. -/

namespace Sys2Proof.Machine
variable {s₀ s : State}

/-! ### Ops -/

theorem steady_took (hs : Steady s₀ s) : Steady s₀ (State.took s) :=
  hs.same

theorem steady_emit {e : Emission} (hs : Steady s₀ s) : Steady s₀ (State.emit s e) :=
  hs.same

theorem steady_setObj {k : Nat} {v : Bytes} (hs : Steady s₀ s) : Steady s₀ (State.setObj s k v) :=
  hs.same

theorem steady_persist (hs : Steady s₀ s) : Steady s₀ (State.persist s) :=
  hs.same

theorem steady_status {n : Nat} (hs : Steady s₀ s) : Steady s₀ (State.status s n) :=
  hs.same

theorem steady_done {set outcome : Nat} {result : Bytes} (hs : Steady s₀ s) : Steady s₀ (State.done s set outcome result) :=
  hs.same

theorem steady_doneNow {set outcome : Nat} {result : Bytes} (hs : Steady s₀ s) : Steady s₀ (State.doneNow s set outcome result) :=
  hs.same

theorem steady_commitResults (hs : Steady s₀ s) : Steady s₀ (State.commitResults s) :=
  steady_foldl hs (fun _ _ h₁ => by
    split
    · exact h₁.same
    · exact h₁)

theorem steady_raise {e : FaultEvent} (hs : Steady s₀ s) : Steady s₀ (State.raise s e) :=
  hs.same

theorem steady_fault {src detail : Nat} (hs : Steady s₀ s) : Steady s₀ (State.fault s src detail) :=
  hs.same

theorem steady_faultAt {src die region detail : Nat} (hs : Steady s₀ s) : Steady s₀ (State.faultAt s src die region detail) :=
  hs.same

theorem steady_count {code inst amt : Nat} (hs : Steady s₀ s) : Steady s₀ (State.count s code inst amt) :=
  steady_ite hs hs.same

theorem steady_slot {i : Nat} {wasted : Bool} (hs : Steady s₀ s) : Steady s₀ (State.slot s i wasted) :=
  hs.same

theorem steady_slots {i n : Nat} (hs : Steady s₀ s) : Steady s₀ (State.slots s i n) :=
  steady_ite hs hs.same

theorem steady_slotToWaste {i n : Nat} (hs : Steady s₀ s) : Steady s₀ (State.slotToWaste s i n) :=
  hs.same

theorem steady_lateWaste {i n : Nat} (hs : Steady s₀ s) : Steady s₀ (State.lateWaste s i n) :=
  steady_ite hs hs.same

theorem steady_budgetHeld {i n : Nat} (hs : Steady s₀ s) : Steady s₀ (State.budgetHeld s i n) :=
  hs.same

theorem steady_creditBlocked {i : Nat} (hs : Steady s₀ s) : Steady s₀ (State.creditBlocked s i) :=
  hs.same

theorem steady_memUncorrectable {inst addr : Nat} {unwritten : Bool} (hs : Steady s₀ s) : Steady s₀ (State.memUncorrectable s inst addr unwritten) :=
  Steady.update (steady_ite (steady_count (steady_count hs)) (steady_count hs))

theorem steady_hbmLost {src handle a : Nat} {unwritten : Bool} (hs : Steady s₀ s) : Steady s₀ (State.hbmLost s src handle a unwritten) :=
  steady_memUncorrectable hs.same

theorem steady_readTested {src handle : Nat} {x : State × Hbm × Bool} {c : Nat × Nat} (hx : Steady s₀ x.1) : Steady s₀
    (readTested src handle x c).1 :=
  steady_ite_fst (hx.same) (steady_ite_fst hx (steady_fst (steady_hbmLost hx)))

theorem steady_hbmGet {src handle a n : Nat} (hs : Steady s₀ s) : Steady s₀ (State.hbmGet s src handle a n).1 :=
  steady_ite_fst (steady_fst (steady_hbmLost hs)) (steady_foldl_fst hs (fun _ _ h₁ => steady_readTested h₁))

/-! ### Cipher core -/

/-- A lane that takes a block records it. -/
theorem steady_dispatch {vol epoch i : Nat} (e : dispatch vol epoch s = some (t, i)) (hs : Steady s₀ s) : Steady s₀ t := by
  simp only [dispatch] at e
  split at e
  · cases e
    exact steady_slot (steady_count hs.same)
  · split at e
    · cases e
      exact steady_slot (steady_count hs.same)
    · cases e

theorem steady_dispatchPlain {w : Bool} {i : Nat} (e : dispatchPlain w s = some (t, i)) (hs : Steady s₀ s) : Steady s₀ t := by
  simp only [dispatchPlain] at e
  split at e
  · cases e
    exact hs.same
  · cases e

theorem steady_markShort (hs : Steady s₀ s) : Steady s₀ (markShort s) :=
  steady_ite hs (Steady.update (steady_foldl hs (fun _ _ h₁ => steady_ite (h₁.same) h₁)))

theorem steady_countKeyWaits (hs : Steady s₀ s) : Steady s₀ (countKeyWaits s) :=
  Steady.update (steady_foldl hs (fun _ _ h₁ => steady_count h₁))

theorem steady_refillLanes (hs : Steady s₀ s) : Steady s₀ (refillLanes s) :=
  steady_ite hs hs.same

theorem steady_eraseKeys {p : HeldKey → Bool} (hs : Steady s₀ s) : Steady s₀ (eraseKeys p s) :=
  Steady.update (steady_foldl hs (fun _ _ h₁ => steady_count h₁))

theorem steady_encryptBlock {vol lba epoch : Nat} {data b : Bytes} (e : encryptBlock vol lba epoch data s = some (t, b)) (hs : Steady s₀ s) :
    Steady s₀ t := by
  unfold encryptBlock at e
  split at e
  · cases e
  · split at e
    · cases e
    · split at e
      · cases e
      next u _ hd =>
        cases e
        have h := steady_dispatch hd hs
        exact steady_count (steady_ite h.same h.same)

theorem steady_decryptBlock {vol lba : Nat} {b pt : Bytes} {ok : Bool} (e : decryptBlock vol lba b s = some (t, pt, ok)) (hs : Steady s₀ s) :
    Steady s₀ t := by
  simp only [decryptBlock] at e
  split at e
  · cases e
  · split at e
    · cases e
    · split at e
      · obtain ⟨x, hx, he⟩ := Option.map_eq_some_iff.mp e
        cases he
        exact steady_count (steady_dispatchPlain hx hs)
      · split at e
        · obtain ⟨x, hx, he⟩ := Option.map_eq_some_iff.mp e
          cases he
          exact steady_count (steady_dispatchPlain hx hs)
        · split at e
          · cases e
          next u _ hd =>
            cases e
            exact steady_count (steady_count (steady_dispatch hd hs))

/-! ### Sched -/

theorem steady_onQueue {kind inst q : Nat} {f : SchedQ → SchedQ} (hs : Steady s₀ s) : Steady s₀ (State.onQueue s kind inst q f) :=
  hs.same

theorem steady_onInst {kind inst : Nat} {f : SchedI → SchedI} (hs : Steady s₀ s) : Steady s₀ (State.onInst s kind inst f) :=
  hs.same

theorem steady_startHead {kind inst q : Nat} (hs : Steady s₀ s) : Steady s₀ (State.startHead s kind inst q) := by
  unfold State.startHead
  split
  · exact hs
  · exact steady_count (steady_count hs.same)

theorem steady_noteQueue {kind inst q : Nat} (hs : Steady s₀ s) : Steady s₀ (noteQueue kind inst q s) :=
  steady_ite hs (steady_foldl hs (fun _ _ h₁ => steady_count h₁))

theorem steady_refillShapers (hs : Steady s₀ s) : Steady s₀ (refillShapers s) :=
  hs.same

theorem steady_refillPolicers (hs : Steady s₀ s) : Steady s₀ (refillPolicers s) :=
  hs.same

theorem steady_updateVirtual {kind inst : Nat} (hs : Steady s₀ s) : Steady s₀ (updateVirtual kind inst s) :=
  steady_foldl hs.same (fun _ _ h₁ => h₁.same)

theorem steady_updateVirtuals (hs : Steady s₀ s) : Steady s₀ (updateVirtuals s) :=
  steady_foldl hs (fun _ _ h₁ => steady_updateVirtual h₁)

theorem steady_sampleAll {prev : Nat} (hs : Steady s₀ s) : Steady s₀ (sampleAll prev s) :=
  hs.same

theorem steady_sampleWindowEnd {kind : Nat} (hs : Steady s₀ s) : Steady s₀ (sampleWindowEnd kind s) := by
  unfold sampleWindowEnd
  exact steady_when hs (fun _ h₁ => h₁.same)

theorem steady_fitWaits {inst q : Nat} (hs : Steady s₀ s) : Steady s₀ (fitWaits inst q s) :=
  steady_ite hs (steady_count hs.same)

theorem steady_countFits {inst off : Nat} (hs : Steady s₀ s) : Steady s₀ (countFits inst off s) :=
  steady_foldl hs (fun _ _ h₁ => steady_ite (steady_fitWaits h₁) h₁)

theorem steady_noteIneligible (hs : Steady s₀ s) : Steady s₀ (noteIneligible s) :=
  steady_foldl (steady_foldl hs (fun _ _ h₁ => steady_foldl h₁ (fun _ _ h₂ => steady_noteQueue h₂))) (fun _ _ h₁ => steady_when h₁
      (fun _ h₂ => steady_count h₂))

theorem steady_countIneligible (hs : Steady s₀ s) : Steady s₀ (countIneligible s) :=
  steady_foldl (steady_noteIneligible hs) (fun _ _ h₁ => steady_countFits h₁)

theorem steady_gateListSwitch {kind inst : Nat} (hs : Steady s₀ s) : Steady s₀ (gateListSwitch kind inst s) := by
  unfold gateListSwitch
  exact steady_when hs (fun _ h₁ => steady_count (h₁.same))

theorem steady_gateListsEdge (hs : Steady s₀ s) : Steady s₀ (gateListsEdge s) :=
  steady_foldl hs (fun _ _ h₁ => steady_when h₁ (fun _ h₂ => steady_gateListSwitch h₂))

theorem steady_schedCommand {par : Bytes} {act : Bytes → State → State} (hact : ∀ a b, Steady s₀ b → Steady s₀ (act a b))
    (hs : Steady s₀ s) : Steady s₀ (schedCommand par act s) :=
  steady_command hs (fun _ _ h₁ => hact _ _ h₁)

theorem steady_queueWrite {p : Bytes} (hs : Steady s₀ s) : Steady s₀ (queueWrite p s) :=
  steady_ite hs.same (steady_ite hs.same (steady_ite hs.same hs.same))

theorem steady_queueRead {p : Bytes} (hs : Steady s₀ s) : Steady s₀ (queueRead p s) :=
  steady_ite hs.same hs.same

theorem steady_instanceShaperWrite {p : Bytes} (hs : Steady s₀ s) : Steady s₀ (instanceShaperWrite p s) :=
  steady_ite hs.same hs.same

theorem steady_instanceShaperRead {p : Bytes} (hs : Steady s₀ s) : Steady s₀ (instanceShaperRead p s) :=
  steady_ite hs.same hs.same

theorem steady_policerWrite {p : Bytes} (hs : Steady s₀ s) : Steady s₀ (policerWrite p s) :=
  steady_ite hs.same hs.same

theorem steady_policerRead {p : Bytes} (hs : Steady s₀ s) : Steady s₀ (policerRead p s) :=
  steady_ite hs.same hs.same

theorem steady_policeMapWrite {p : Bytes} (hs : Steady s₀ s) : Steady s₀ (policeMapWrite p s) :=
  steady_ite hs.same hs.same

theorem steady_policeMapRead {p : Bytes} (hs : Steady s₀ s) : Steady s₀ (policeMapRead p s) :=
  steady_ite hs.same hs.same

theorem steady_gateAdminWrite {p : Bytes} (hs : Steady s₀ s) : Steady s₀ (gateAdminWrite p s) := by
  unfold gateAdminWrite
  extract_lets
  split
  · exact hs.same
  · exact steady_ite hs.same hs.same

theorem steady_gateCommit {p : Bytes} (hs : Steady s₀ s) : Steady s₀ (gateCommit p s) := by
  unfold gateCommit
  extract_lets
  split
  · exact hs.same
  · exact steady_ite hs.same (steady_ite hs.same hs.same)

theorem steady_gateRead {p : Bytes} (hs : Steady s₀ s) : Steady s₀ (gateRead p s) := by
  unfold gateRead
  extract_lets
  split <;> exact hs.same

theorem steady_sampleFetch {p : Bytes} (hs : Steady s₀ s) : Steady s₀ (sampleFetch p s) :=
  steady_ite hs.same hs.same

/-! ### Drive core -/

theorem steady_onBay {n : Nat} {f : Bay → Bay} (hs : Steady s₀ s) : Steady s₀ (State.onBay s n f) :=
  hs.same

theorem steady_onDrive {n : Nat} {f : Drive → Drive} (hs : Steady s₀ s) : Steady s₀ (State.onDrive s n f) :=
  hs.same

theorem steady_driveState {n st : Nat} (hs : Steady s₀ s) : Steady s₀ (driveState n st s) :=
  hs.same

theorem steady_driveGone {n : Nat} (hs : Steady s₀ s) : Steady s₀ (driveGone n s) :=
  steady_ite hs (steady_onDrive (steady_ite hs.same hs))

theorem steady_driveEnqueue {bay : Nat} {c : DriveCmd} (hs : Steady s₀ s) : Steady s₀ (driveEnqueue bay c s) :=
  hs.same

theorem steady_layCommand {bay slot : Nat} {c : DriveCmd} (hs : Steady s₀ s) : Steady s₀ (layCommand bay slot c s) :=
  steady_hbmPut (by
    split
    · exact hs
    · exact steady_fst (steady_hbmPut hs))

theorem steady_takeEntry {bay q depth : Nat} {e : Bytes} (hs : Steady s₀ s) : Steady s₀ (takeEntry bay q depth e s) := by
  unfold takeEntry
  exact steady_onDrive (steady_hbmPut hs)

theorem steady_ringDoorbells (hs : Steady s₀ s) : Steady s₀ (ringDoorbells s) :=
  steady_foldl hs (fun _ _ h₁ => steady_ite h₁ (steady_onDrive (steady_foldl (steady_foldl h₁ (fun _ _ h₂ => h₂.same)) (fun _ _ h₂ => h₂.same))))

theorem steady_releaseBatch {place : Nat} (hs : Steady s₀ s) : Steady s₀ (releaseBatch place s) :=
  steady_ite hs hs.same

theorem steady_ledgerFetch {c : DriveCmd} (hs : Steady s₀ s) : Steady s₀ (ledgerFetch c s).1 := by
  unfold ledgerFetch
  split
  · exact steady_ite_fst (steady_fst (steady_releaseBatch hs)) (steady_fst (steady_count hs))
  · exact hs

theorem steady_submitHead {bay q : Nat} (hs : Steady s₀ s) : Steady s₀ (submitHead bay q s) := by
  unfold submitHead
  split
  · exact hs
  · extract_lets
    split
    · exact steady_startHead hs
    · exact steady_emit (steady_slot (steady_count (steady_onDrive (steady_ledgerFetch (steady_layCommand (Steady.update (steady_startHead hs)))))))

theorem steady_serveBay {bay f : Nat} (hs : Steady s₀ s) : Steady s₀ (serveBay bay f s) := by
  induction f generalizing s with
  | zero => exact hs
  | succ f ih =>
    refine steady_ite hs ?_
    split
    · exact hs
    · exact steady_ite (steady_creditBlocked (steady_count hs.same)) (ih (steady_submitHead hs))

theorem steady_serveDrives (hs : Steady s₀ s) : Steady s₀ (serveDrives s) :=
  steady_foldl hs (fun _ _ h₁ => steady_serveBay h₁)

theorem steady_unqueue {bay : Nat} {p : DriveCmd → Bool} (hs : Steady s₀ s) : Steady s₀ (unqueue bay p s).1 :=
  Steady.update (steady_foldl hs (fun _ _ h₁ => steady_ite (h₁.same) h₁))

theorem steady_takeCommands {bay : Nat} {p : DriveCmd → Bool} (hs : Steady s₀ s) : Steady s₀ (takeCommands bay p s).1 :=
  steady_unqueue hs.same

/-! ### Volume core -/

theorem steady_parityRows {n : Nat} (hs : Steady s₀ s) : Steady s₀ (State.parityRows s n) :=
  steady_foldl hs (fun _ _ h₁ => h₁.same)

theorem steady_onGroup {i : Nat} {f : LGroup → LGroup} (hs : Steady s₀ s) : Steady s₀ (State.onGroup s i f) := by
  unfold State.onGroup
  split
  · exact hs.same
  · exact hs

theorem steady_setMap {gi st phys : Nat} {written : Bool} (hs : Steady s₀ s) : Steady s₀ (setMap gi st phys written s) := by
  unfold setMap
  split
  · exact steady_hbmPut (steady_onGroup hs)
  · exact hs

theorem steady_layMap {gi : Nat} (hs : Steady s₀ s) : Steady s₀ (layMap gi s) := by
  unfold layMap
  split
  · exact steady_foldl (hs.put (Hbm.lay_wf s.mem _ _ _)) (fun _ _ h₁ => steady_hbmPut h₁)
  · exact hs

theorem steady_mapMet {gi st : Nat} (hs : Steady s₀ s) : Steady s₀ (mapMet gi st s) := by
  unfold mapMet
  split
  · exact steady_ite hs (steady_hbmGet hs)
  · exact hs

theorem steady_onVolume {i : Nat} {f : Volume → Volume} (hs : Steady s₀ s) : Steady s₀ (State.onVolume s i f) := by
  unfold State.onVolume
  split
  · exact hs.same
  · exact hs

/-! ### Ledger core -/

theorem steady_onCopy {c : Nat} {f : Copy → Copy} (hs : Steady s₀ s) : Steady s₀ (State.onCopy s c f) :=
  hs.same

theorem steady_loseIndexed {place i : Nat} (hs : Steady s₀ s) : Steady s₀ (loseIndexed place i s) :=
  hs.same

theorem steady_imageLost {r : Rec} {i : Nat} (hs : Steady s₀ s) : Steady s₀ (imageLost r i s) := by
  unfold imageLost
  split
  · exact steady_ite hs hs.same
  · exact hs.same

theorem steady_stagedBlock {r : Rec} {i : Nat} (hs : Steady s₀ s) : Steady s₀ (stagedBlock r i s).1 := by
  unfold stagedBlock
  split
  next _ _ _ e =>
  have k₁ := steady_of_eq e (steady_hbmGet hs)
  exact steady_ite_fst (steady_fst (steady_imageLost k₁)) k₁

theorem steady_repairImage {place i : Nat} {b : Bytes} (hs : Steady s₀ s) : Steady s₀ (repairImage place i b s) := by
  unfold repairImage
  split
  · exact steady_hbmPut hs
  · exact hs

theorem steady_indexMet {slot : Nat} (hs : Steady s₀ s) : Steady s₀ (indexMet slot s).1 :=
  steady_hbmGet hs

theorem steady_stagedAll {r : Rec} (hs : Steady s₀ s) : Steady s₀ (stagedAll r s).1 :=
  steady_foldl_fst hs (fun _ _ h₁ => steady_stagedBlock h₁)

theorem steady_putImage {r : Rec} {payload : List Bytes} (hs : Steady s₀ s) : Steady s₀ (putImage r payload s) :=
  Steady.update (steady_foldl_fst hs (fun _ _ h₁ => steady_fst (steady_hbmPut h₁)))

theorem steady_stageRec {r : Rec} {payload : List Bytes} (hs : Steady s₀ s) : Steady s₀ (stageRec r payload s) :=
  steady_ite (steady_putImage hs) hs.same

theorem steady_stageWaiting {f : Nat} (hs : Steady s₀ s) : Steady s₀ (stageWaiting f s) := by
  induction f generalizing s with
  | zero => exact hs
  | succ f ih =>
    unfold stageWaiting
    split
    · exact hs
    · exact steady_ite (ih (steady_putImage hs.same)) hs

theorem steady_takeSeq (hs : Steady s₀ s) : Steady s₀ (State.takeSeq s).1 :=
  hs.same

theorem steady_deviceRec {kind vol group lba : Nat} {extra : Bytes} {owner : RecOwner} {payload : List Bytes} (hs : Steady s₀ s) : Steady s₀
    (deviceRec kind vol group lba extra owner payload s) :=
  steady_stageRec hs

theorem steady_zoneRec {gi page : Nat} (hs : Steady s₀ s) : Steady s₀ (zoneRec gi page s) := by
  unfold zoneRec
  split
  · exact hs
  · exact steady_deviceRec hs

theorem steady_updateDescriptor (hs : Steady s₀ s) : Steady s₀ (updateDescriptor s) :=
  steady_ite hs (steady_ite hs hs.same)

theorem steady_submitChunk {o : RecOwner} (hs : Steady s₀ s) : Steady s₀ (submitChunk o s) := by
  unfold submitChunk
  extract_lets
  split
  · exact hs.same
  · exact hs.same
  · exact hs

theorem steady_placeRec {r : Rec} (hs : Steady s₀ s) : Steady s₀ (placeRec r s).1 :=
  steady_fst (steady_slot (steady_count (steady_count (Steady.update (steady_hbmPut (steady_ite_fst (steady_takeSeq (steady_submitChunk hs))
      (steady_submitChunk hs)))))))

theorem steady_placeAll {f room : Nat} {acc : List Rec} (hs : Steady s₀ s) : Steady s₀ (placeAll f room acc s).1 := by
  induction f generalizing s room acc with
  | zero => exact hs
  | succ f ih =>
    unfold placeAll
    split
    · exact hs
    · exact steady_ite_fst (steady_fst (steady_creditBlocked (steady_count hs))) (steady_ite_fst (ih (steady_placeRec hs)) hs)

theorem steady_writeRun {rs : List Rec} (hs : Steady s₀ s) : Steady s₀ (writeRun rs s) := by
  unfold writeRun
  split
  · exact hs
  · exact steady_foldl (steady_count hs.same) (fun _ _ h₁ => steady_count (h₁.same))

theorem steady_markDurable (hs : Steady s₀ s) : Steady s₀ (markDurable s).1 :=
  steady_ite_fst hs hs.same

theorem steady_retireAll (hs : Steady s₀ s) : Steady s₀ (retireAll s) :=
  Steady.update (steady_count hs.same)

theorem steady_countStaging (hs : Steady s₀ s) : Steady s₀ (countStaging s) :=
  Steady.update (steady_count (steady_count hs))

theorem steady_afterCopyLoss (hs : Steady s₀ s) : Steady s₀ (afterCopyLoss s) :=
  Steady.cut (steady_ite (steady_count hs.same) hs) fun k₁ =>
    steady_ite (k₁.same) k₁

theorem steady_dropTarget {c : Nat} (hs : Steady s₀ s) : Steady s₀ (dropTarget c s) := by
  unfold dropTarget
  split
  · exact hs
  · split
    next e =>
    refine steady_afterCopyLoss (steady_count (steady_faultAt (steady_ite (steady_onCopy ?_) (steady_onCopy ?_))))
    all_goals
      refine steady_foldl (steady_of_eq e (steady_takeCommands hs)) fun u x h₁ => ?_
      split
      · exact steady_releaseBatch h₁
      · exact h₁

theorem steady_failTarget {c : Nat} (hs : Steady s₀ s) : Steady s₀ (failTarget c s) :=
  steady_ite hs.same hs

theorem steady_dropTargets (hs : Steady s₀ s) : Steady s₀ (dropTargets s) :=
  steady_foldl hs.same (fun _ _ h₁ => steady_dropTarget h₁)

theorem steady_failCopiesOn {bay : Nat} (hs : Steady s₀ s) : Steady s₀ (failCopiesOn bay s) :=
  steady_foldl hs (fun _ _ h₁ => steady_ite (steady_failTarget h₁) h₁)

theorem steady_cacheRemove {p : CacheEntry → Bool} (hs : Steady s₀ s) : Steady s₀ (cacheRemove p s) :=
  steady_count hs.same

theorem steady_cacheFill {vol lba slot : Nat} {b : Bytes} (hs : Steady s₀ s) : Steady s₀ (cacheFill vol lba slot b s) :=
  steady_count (steady_hbmPut hs.same)

theorem steady_cacheInsert {vol lba : Nat} {b : Bytes} (hs : Steady s₀ s) : Steady s₀ (cacheInsert vol lba b s) := by
  unfold cacheInsert
  generalize s.cacheSlots = n
  refine steady_ite hs ?_
  split
  · exact steady_count (steady_hbmPut hs)
  · refine steady_ite (steady_cacheFill hs) ?_
    split
    exact steady_count (steady_cacheFill hs.same)

theorem steady_cacheRead {e : CacheEntry} (hs : Steady s₀ s) : Steady s₀ (cacheRead e s).1 := by
  unfold cacheRead
  extract_lets
  split
  next _ _ _ e =>
  have k₁ := steady_of_eq e (steady_hbmGet hs)
  exact steady_ite_fst (steady_fst (steady_cacheRemove k₁)) (steady_fst (steady_count (k₁.same)))

/-! ### Units -/

theorem steady_unitSlots {k : Nat} {before after : UnitWork} (hs : Steady s₀ s) : Steady s₀ (unitSlots k before after s) := by
  unfold unitSlots
  split
  · exact hs
  · exact steady_ite (steady_creditBlocked (steady_ite (steady_budgetHeld (steady_slots hs)) (steady_slots hs))) (steady_ite (steady_budgetHeld
        (steady_slots hs)) (steady_slots hs))

theorem steady_startUnits (hs : Steady s₀ s) : Steady s₀ (startUnits s) :=
  steady_foldl hs.same (fun _ _ h₁ => steady_unitSlots h₁)

theorem steady_publishCredit {late share : List (Nat × Nat × Nat)} (hs : Steady s₀ s) : Steady s₀ (publishCredit late share s) :=
  Steady.update (steady_foldl hs (fun _ _ h₁ => h₁.same))

theorem steady_takeArrival {a : Arrival} (hs : Steady s₀ s) : Steady s₀ (takeArrival s a) := by
  unfold takeArrival
  extract_lets
  split <;> exact steady_when hs (fun _ h₁ => h₁.same)

theorem steady_readCredit {late : List (Nat × Nat × Nat)} (hs : Steady s₀ s) : Steady s₀ (readCredit late s) :=
  hs.same

theorem steady_abandonItem {die region unit : Nat} (hs : Steady s₀ s) : Steady s₀ (abandonItem die region unit s) := by
  unfold abandonItem
  extract_lets
  split
  · exact steady_lateWaste hs.same
  · exact hs.same

theorem steady_lateItemComplete {die region unit : Nat} (hs : Steady s₀ s) : Steady s₀ (lateItemComplete die region unit s) := by
  unfold lateItemComplete
  exact steady_when hs (fun _ h₁ => by
    extract_lets
    split <;> exact h₁.same)

theorem steady_clearUnits {out : Nat → Nat → Bool} (hs : Steady s₀ s) : Steady s₀ (clearUnits out s) :=
  hs.same

/-! ### Switch -/

theorem steady_postEvent {type source cause qpn psn key detail : Nat} (hs : Steady s₀ s) : Steady s₀
    (State.postEvent s type source cause qpn psn key detail) :=
  hs.same

theorem steady_writeEvent {r : Bytes} (hs : Steady s₀ s) : Steady s₀ (writeEvent s r) :=
  steady_ite (steady_fault (steady_count hs.same)) (steady_emit (steady_count (Steady.update (steady_hbmPut hs))))

theorem steady_flushEvents (hs : Steady s₀ s) : Steady s₀ (flushEvents s) :=
  steady_foldl hs.same (fun _ _ h₁ => steady_foldl h₁ (fun _ _ h₂ => steady_writeEvent h₂))

theorem steady_onPort {port : Nat} {f : PortState → PortState} (hs : Steady s₀ s) : Steady s₀ (State.onPort s port f) :=
  hs.same

theorem steady_onClass {port c : Nat} {f : PortClass → PortClass} (hs : Steady s₀ s) : Steady s₀ (State.onClass s port c f) :=
  hs.same

theorem steady_sendPfc {i t quanta : Nat} (hs : Steady s₀ s) : Steady s₀ (sendPfc i t quanta s) :=
  steady_count (steady_count (steady_count hs.same))

theorem steady_evalPair {i t : Nat} (hs : Steady s₀ s) : Steady s₀ (evalPair i t s) := by
  unfold evalPair
  split
  · exact steady_ite (steady_count (steady_sendPfc hs.same)) hs
  · exact steady_ite (steady_sendPfc hs.same) hs

theorem steady_evalXoff (hs : Steady s₀ s) : Steady s₀ (evalXoff s) :=
  steady_foldl hs (fun _ _ h₁ => steady_ite (steady_foldl h₁ (fun _ _ h₂ => steady_evalPair h₂)) h₁)

theorem steady_dropCopies {ev : Nat} {p : FrameCopy → Bool} (hs : Steady s₀ s) : Steady s₀ (dropCopies ev p s) :=
  Steady.update (steady_foldl hs (fun _ _ h₁ => steady_count h₁))

theorem steady_portGoesDown {port : Nat} (hs : Steady s₀ s) : Steady s₀ (portGoesDown port s) :=
  steady_ite hs (steady_evalXoff (steady_postEvent (steady_dropCopies (Steady.update (steady_onPort (steady_ite hs.same hs))))))

theorem steady_portSilent {port : Nat} (hs : Steady s₀ s) : Steady s₀ (portSilent port s) :=
  steady_when hs (fun _ h₁ => h₁.same)

theorem steady_portDown {port : Nat} {localFault : Bool} (hs : Steady s₀ s) : Steady s₀ (portDown port localFault s) :=
  steady_when hs (fun _ h₁ => steady_ite (steady_portGoesDown (h₁.same)) (steady_portGoesDown (h₁.same)))

theorem steady_portUp {port : Nat} (hs : Steady s₀ s) : Steady s₀ (portUp port s) :=
  steady_when hs (fun _ h₁ => h₁.same)

theorem steady_linkReport {r : LinkReport} (hs : Steady s₀ s) : Steady s₀ (linkReport r s) :=
  steady_when hs (fun _ h₁ => steady_ite (steady_ite (steady_portGoesDown (h₁.same)) (h₁.same)) (steady_ite (h₁.same) (h₁.same)))

theorem steady_portModeWrite {port sub v : Nat} (hs : Steady s₀ s) : Steady s₀ (portModeWrite port sub v s) :=
  steady_ite hs.same (steady_ite hs.same (steady_ite hs.same (steady_ite hs.same (steady_ite hs.same (steady_ite hs.same (steady_ite (steady_status
      (steady_persist (steady_setObj (steady_foldl (steady_foldl hs (fun _ _ h₁ => h₁.same)) (fun _ _ h₁ => h₁.same))))) hs.same))))))

theorem steady_portEnableWrite {port v : Nat} (hs : Steady s₀ s) : Steady s₀ (portEnableWrite port v s) :=
  steady_ite hs.same (steady_ite hs.same (steady_ite hs.same (steady_ite (steady_ite hs.same hs.same) (steady_portSilent
      (steady_portGoesDown hs.same)))))

theorem steady_fecWindowEnd {lane : Nat} (hs : Steady s₀ s) : Steady s₀ (fecWindowEnd lane s) := by
  unfold fecWindowEnd
  exact steady_when hs (fun _ h₁ => steady_ite (h₁.same) (h₁.same))

theorem steady_learn {port vid mac : Nat} (hs : Steady s₀ s) : Steady s₀ (learn port vid mac s) :=
  steady_ite hs (by
    extract_lets
    split
    · exact steady_ite hs.same (steady_ite (steady_ite hs.same (steady_count hs)) (steady_ite hs (steady_count hs.same)))
    · exact steady_ite hs (steady_ite (steady_fault (steady_count hs)) (steady_count hs.same)))

theorem steady_fdbAgeExpiry {vid mac : Nat} (hs : Steady s₀ s) : Steady s₀ (fdbAgeExpiry vid mac s) := by
  unfold fdbAgeExpiry
  split
  · exact hs
  · exact steady_when hs (fun _ h₁ => h₁.same)

theorem steady_forward {inPort vid dmac : Nat} {qp : Option Nat} (hs : Steady s₀ s) : Steady s₀ (forward inPort vid dmac qp s).1 := by
  unfold forward
  extract_lets
  split
  next _ _ e =>
  have k₁ := steady_of_eq e (by
    split
    · exact steady_ite_fst hs (steady_fst (steady_count hs))
    · exact steady_ite_fst (steady_ite_fst (steady_fst (steady_count hs)) hs) (steady_ite_fst hs (steady_ite_fst hs (steady_fst (steady_count hs)))))
  exact steady_ite_fst (steady_fst (steady_count k₁)) k₁

theorem steady_dropCopy {ev : Nat} {c : FrameCopy} (hs : Steady s₀ s) : Steady s₀ (dropCopy ev c s) :=
  steady_ite (steady_fault (steady_count (steady_count hs))) (steady_count hs)

theorem steady_linkCopy {c : FrameCopy} (hs : Steady s₀ s) : Steady s₀ (linkCopy c s) :=
  steady_ite (Steady.update (steady_count hs.same)) (steady_count hs.same)

theorem steady_admitCells {c : FrameCopy} (hs : Steady s₀ s) : Steady s₀ (admitCells c s) :=
  steady_ite (steady_ite (steady_linkCopy hs) (steady_ite (steady_linkCopy hs) (steady_faultAt (steady_dropCopy hs)))) (steady_ite
      (steady_linkCopy hs) (steady_dropCopy hs))

theorem steady_admitCopy {c : FrameCopy} (hs : Steady s₀ s) : Steady s₀ (admitCopy c s) := by
  unfold admitCopy
  extract_lets
  split
  next _ _ e =>
  have k₁ := steady_of_eq e (steady_ite_fst hs (steady_ite_fst hs hs.same))
  exact steady_ite (steady_admitCells k₁) (steady_ite (steady_ite (steady_admitCells (steady_count k₁)) (steady_admitCells k₁)) (steady_ite
      (steady_ite (steady_admitCells (steady_count k₁)) (steady_ite (steady_admitCells k₁) (steady_dropCopy k₁))) (steady_dropCopy k₁)))

theorem steady_deliverCopy {c : FrameCopy} (hs : Steady s₀ s) : Steady s₀ (deliverCopy c s) :=
  steady_ite (steady_dropCopy hs) (steady_ite (steady_dropCopy hs) (steady_ite (steady_dropCopy hs) (steady_ite (steady_fault (steady_count hs))
      (steady_admitCopy hs))))

theorem steady_linkFrame {c : FrameCopy} {ds : List Dest} (hs : Steady s₀ s) : Steady s₀ (linkFrame c ds s) :=
  steady_evalXoff (steady_foldl hs.same (fun _ _ h₁ => steady_deliverCopy h₁))

theorem steady_spendCells {inPort n k : Nat} (hs : Steady s₀ s) : Steady s₀ (spendCells inPort n k s) := by
  unfold spendCells
  split
  · exact hs
  · exact steady_slots hs.same

theorem steady_writeCells {x : State × Waiting} {n : Nat} (hx : Steady s₀ x.1) : Steady s₀ (writeCells x n).1 :=
  steady_ite_fst hx (steady_fst (steady_spendCells hx))

theorem steady_wasteCells {frame : Nat} {was : Tbl Nat} (hs : Steady s₀ s) : Steady s₀ (wasteCells frame was s) :=
  steady_foldl hs (fun _ _ h₁ => steady_ite h₁ (h₁.same))

theorem steady_drainGo {f i : Nat} (hs : Steady s₀ s) : Steady s₀ (drainGo f i s) := by
  induction f generalizing s with
  | zero => exact hs
  | succ f ih =>
    unfold drainGo
    split
    · exact hs
    next w _ _ =>
      have h : Steady s₀ ((w.left.map (·.1)).foldl writeCells (s, w)).1 := steady_foldl_fst hs (fun _ _ h₁ => steady_writeCells h₁)
      exact steady_ite (ih (steady_wasteCells (steady_linkFrame h.same))) h.same

theorem steady_drainIngress {i : Nat} (hs : Steady s₀ s) : Steady s₀ (drainIngress i s) :=
  steady_ite (steady_drainGo hs) hs

theorem steady_deliver {c : FrameCopy} {ds : List Dest} (hs : Steady s₀ s) : Steady s₀ (deliver c ds s) :=
  steady_ite hs (steady_evalXoff (steady_drainIngress hs.same))

theorem steady_police {port cls pre len : Nat} (hs : Steady s₀ s) : Steady s₀ (police port cls pre len s).1 := by
  unfold police
  split
  · exact hs
  · exact Steady.cut (steady_count (steady_count hs.same)) fun k₁ =>
      steady_ite_fst (steady_ite_fst (steady_fst (steady_count k₁)) (steady_fst (steady_count k₁))) k₁

theorem steady_frameReceive {port : Nat} {f : Frame} (hs : Steady s₀ s) : Steady s₀ (frameReceive port f s) := by
  have h : Steady s₀ (((s.onPort port (fun p => { p with fifo := 0 })).count Ev.frRx port).count Ev.byRx port (f.data.length + 4)) :=
    steady_count (steady_count (steady_onPort hs))
  unfold frameReceive
  refine steady_ite hs (steady_ite (steady_count h) (steady_ite (steady_count h) (steady_ite (steady_count h) (steady_ite (steady_count h)
    (steady_ite (steady_count h) (steady_ite h (steady_ite (steady_count h) ?_)))))))
  extract_lets
  split
  split
  next e => exact steady_of_eq e (steady_police (steady_learn h))
  next e =>
    have hp := steady_of_eq e (steady_police (steady_learn h))
    refine steady_ite (steady_ite (steady_deliver hp) (steady_count hp)) ?_
    split
    next e' => exact steady_deliver (steady_of_eq e' (steady_forward hp))

theorem steady_pfcReceive {port mask : Nat} {quanta : List Nat} (hs : Steady s₀ s) : Steady s₀ (pfcReceive port mask quanta s) := by
  unfold pfcReceive
  exact steady_when hs (fun _ h₁ => steady_foldl (steady_count (steady_count h₁)) (fun _ _ h₂ => steady_ite (steady_onClass (steady_noteQueue
      (steady_count h₂))) (steady_count (steady_onClass (steady_noteQueue (steady_count h₂))))))

theorem steady_pauseExpiry {port c : Nat} (hs : Steady s₀ s) : Steady s₀ (pauseExpiry port c s) := by
  unfold pauseExpiry
  split
  · exact hs
  · exact steady_when hs (fun _ h₁ => steady_onClass (steady_noteQueue h₁))

theorem steady_pfcRefresh {port c : Nat} (hs : Steady s₀ s) : Steady s₀ (pfcRefresh port c s) :=
  steady_when hs (fun _ h₁ => steady_sendPfc (h₁.same))

theorem steady_pfcStormDetect {port c : Nat} (hs : Steady s₀ s) : Steady s₀ (pfcStormDetect port c s) := by
  unfold pfcStormDetect
  extract_lets
  split
  · exact hs
  · exact steady_when hs (fun _ h₁ => steady_ite (steady_evalXoff (steady_dropCopies (h₁.same))) (h₁.same))

theorem steady_pfcStormRestore {port c : Nat} (hs : Steady s₀ s) : Steady s₀ (pfcStormRestore port c s) := by
  unfold pfcStormRestore
  exact steady_when hs (fun _ h₁ => h₁.same)

theorem steady_xoffStormDetect {port c : Nat} (hs : Steady s₀ s) : Steady s₀ (xoffStormDetect port c s) := by
  unfold xoffStormDetect
  extract_lets
  split
  · exact hs
  · exact steady_when hs (fun _ h₁ => h₁.same)

theorem steady_egressData {port : Nat} {c : FrameCopy} (hs : Steady s₀ s) : Steady s₀ (egressData port c s).1 := by
  unfold egressData
  extract_lets
  split
  next e =>
  have h := steady_of_eq e (steady_ite_fst hs (by
    split
    · exact hs
    · exact hs.same))
  split
  next e =>
  refine steady_of_eq e ?_
  split
  · exact h
  · split
    · exact h
    · split
      · exact h
      · exact h.same

theorem steady_stampTimed {p : TxPacket} {ts : Nat} (hs : Steady s₀ s) : Steady s₀ (stampTimed p ts s) := by
  unfold stampTimed
  extract_lets
  split
  · exact hs
  · split
    · exact steady_ite hs.same hs
    · exact hs

theorem steady_sendCopy {c : FrameCopy} {ts : Nat} (hs : Steady s₀ s) : Steady s₀ (sendCopy c ts s) :=
  steady_ite (by
    extract_lets
    split
    · exact steady_emit (steady_stampTimed (steady_count (steady_count hs)))
    · split
      next _ _ e =>
      have k₁ := steady_of_eq e (steady_egressData (steady_count hs))
      exact steady_emit (steady_ite (steady_onPort (steady_count k₁)) (steady_count k₁))) (by
    split <;> exact hs.same)

theorem steady_useEgress {inst len start : Nat} (hs : Steady s₀ s) : Steady s₀ (useEgress inst len start s) :=
  steady_ite hs.same (steady_ite hs.same hs.same)

theorem steady_frameTransmit {inst ts : Nat} (hs : Steady s₀ s) : Steady s₀ (frameTransmit inst ts s) :=
  steady_ite hs (Steady.cut (steady_ite (steady_countFits hs) hs) fun k₁ =>
    by
      extract_lets
      split
      · exact k₁
      · split
        · exact k₁
        · exact steady_ite (steady_count (k₁.same)) (by
            extract_lets
            split
            · exact steady_useEgress (steady_startHead k₁)
            · exact steady_evalXoff (steady_sendCopy (Steady.update (steady_useEgress (steady_startHead k₁))))))

theorem steady_mgmtFrameSend {dir : MgmtDirective} {f : Frame} (hs : Steady s₀ s) : Steady s₀ (mgmtFrameSend dir f s) := by
  unfold mgmtFrameSend
  extract_lets
  split
  extract_lets
  split
  · exact steady_when hs (fun _ h₁ => steady_deliver h₁)
  · split
    next e => exact steady_deliver (steady_of_eq e (steady_forward hs))

theorem steady_engineSend {p : TxPacket} (hs : Steady s₀ s) : Steady s₀ (engineSend p s) :=
  steady_deliver (steady_forward hs)

theorem steady_switchCommand {par : Bytes} {act : Bytes → State → State} (hact : ∀ a b, Steady s₀ b → Steady s₀ (act a b))
    (hs : Steady s₀ s) : Steady s₀ (switchCommand par act s) :=
  steady_command hs (fun _ _ h₁ => hact _ _ h₁)

theorem steady_fdbAddStatic {p : Bytes} (hs : Steady s₀ s) : Steady s₀ (fdbAddStatic p s) :=
  steady_ite hs.same (steady_ite hs.same hs.same)

theorem steady_fdbDelete {p : Bytes} (hs : Steady s₀ s) : Steady s₀ (fdbDelete p s) :=
  steady_ite hs.same (steady_ite hs.same hs.same)

theorem steady_fdbFlush {p : Bytes} (hs : Steady s₀ s) : Steady s₀ (fdbFlush p s) :=
  steady_ite hs.same hs.same

theorem steady_fdbLookup {p : Bytes} (hs : Steady s₀ s) : Steady s₀ (fdbLookup p s) :=
  steady_ite hs.same (by
    split <;> exact hs.same)

theorem steady_groupWrite {p : Bytes} (hs : Steady s₀ s) : Steady s₀ (groupWrite p s) :=
  steady_ite hs.same hs.same

theorem steady_groupRead {p : Bytes} (hs : Steady s₀ s) : Steady s₀ (groupRead p s) :=
  steady_ite hs.same hs.same

theorem steady_vlanWrite {p : Bytes} (hs : Steady s₀ s) : Steady s₀ (vlanWrite p s) :=
  steady_ite hs.same hs.same

theorem steady_vlanRead {p : Bytes} (hs : Steady s₀ s) : Steady s₀ (vlanRead p s) :=
  steady_ite hs.same hs.same

theorem steady_updateAverages (hs : Steady s₀ s) : Steady s₀ (updateAverages s) :=
  hs.same

theorem steady_countPause (hs : Steady s₀ s) : Steady s₀ (countPause s) :=
  steady_foldl hs (fun _ _ h₁ => steady_foldl h₁ (fun _ _ h₂ => steady_ite (steady_count (steady_ite (steady_count h₂) h₂)) (steady_ite
      (steady_count h₂) h₂)))

theorem steady_takePortInputs {x : EdgeInput} (hs : Steady s₀ s) : Steady s₀ (takePortInputs x s) :=
  steady_evalXoff (Steady.update (steady_foldl (steady_foldl (steady_foldl hs (fun _ _ h₁ => steady_ite h₁ (Steady.update (steady_count
      (steady_count (steady_count h₁)))))) (fun _ _ h₁ => steady_linkReport h₁)) (fun _ _ h₁ => steady_ite (h₁.same) h₁)))

theorem steady_publishCells {x : EdgeInput} (hs : Steady s₀ s) : Steady s₀ (publishCells x s) :=
  hs.same

theorem steady_drainAll (hs : Steady s₀ s) : Steady s₀ (drainAll s) :=
  steady_foldl hs.same (fun _ _ h₁ => steady_drainIngress h₁)

theorem steady_noteCells (hs : Steady s₀ s) : Steady s₀ (noteCells s) :=
  steady_foldl hs (fun _ _ h₁ => steady_ite (h₁.same) h₁)

/-! ### Transport -/

theorem steady_onQp {key : Nat} {f : Qp → Qp} (hs : Steady s₀ s) : Steady s₀ (State.onQp s key f) :=
  hs.same

theorem steady_engineFault {src e detail : Nat} (hs : Steady s₀ s) : Steady s₀ (State.engineFault s src e detail) :=
  hs.same

theorem steady_notice {n : Notice} (hs : Steady s₀ s) : Steady s₀ (State.notice s n) :=
  hs.same

theorem steady_storeBytes {key : Nat} {b : Bytes} (hs : Steady s₀ s) : Steady s₀ (storeBytes key b s) :=
  steady_hbmPut (steady_took (hs.put (Hbm.lay_wf s.mem _ _ _)))

theorem steady_storeContext {key : Nat} (hs : Steady s₀ s) : Steady s₀ (storeContext key s) :=
  steady_storeBytes hs

theorem steady_onCache {cl : Nat} {f : ClusterCache → ClusterCache} (hs : Steady s₀ s) : Steady s₀ (State.onCache s cl f) :=
  hs.same

theorem steady_touch {key : Nat} (hs : Steady s₀ s) : Steady s₀ (touch key s) :=
  hs.same

theorem steady_makeRoom {cl : Nat} (hs : Steady s₀ s) : Steady s₀ (makeRoom cl s) :=
  steady_ite hs (by
    split
    · exact hs
    · exact steady_count hs.same)

theorem steady_issueFetch {cl slot : Nat} (hs : Steady s₀ s) : Steady s₀ (issueFetch cl slot s) :=
  steady_count (steady_onCache (steady_makeRoom hs))

theorem steady_lookup {key : Nat} (hs : Steady s₀ s) : Steady s₀ (lookup key s).1 :=
  steady_ite_fst (steady_fst (steady_count hs.same)) (steady_ite_fst (steady_fst (steady_count (steady_onCache (steady_makeRoom hs.same))))
      (steady_ite_fst hs (steady_ite_fst (steady_fst (steady_issueFetch (steady_count hs))) (steady_onCache (steady_count hs)))))

theorem steady_issueFetches (hs : Steady s₀ s) : Steady s₀ (issueFetches s) :=
  steady_foldl hs (fun _ _ h₁ => steady_foldl (h₁.same) (fun _ _ h₂ => steady_ite (steady_issueFetch (h₂.same)) h₂))

theorem steady_charge {key bytes : Nat} (hs : Steady s₀ s) : Steady s₀ (charge key bytes s) :=
  steady_ite hs.same (steady_count hs.same)

theorem steady_refillRates (hs : Steady s₀ s) : Steady s₀ (refillRates s) :=
  hs.same

theorem steady_useSaddleLink {e bytes : Nat} (hs : Steady s₀ s) : Steady s₀ (useSaddleLink e bytes s) :=
  hs.same

theorem steady_sendPkt {key : Nat} {p : TxPacket} (hs : Steady s₀ s) : Steady s₀ (sendPkt key p s) :=
  steady_ite hs (steady_ite (Steady.update (steady_count (steady_count hs))) (steady_engineSend (steady_useSaddleLink (steady_count
      (steady_count hs)))))

theorem steady_sendAckTo {key psn : Nat} (hs : Steady s₀ s) : Steady s₀ (sendAckTo key psn s) :=
  steady_sendPkt (steady_ite hs.same (steady_count hs.same))

theorem steady_sendAck {key : Nat} (hs : Steady s₀ s) : Steady s₀ (sendAck key s) := by
  unfold sendAck
  extract_lets
  split
  · exact steady_sendAckTo hs
  · exact steady_ite (steady_sendAckTo hs) hs

theorem steady_sendNak {key syn psn : Nat} (hs : Steady s₀ s) : Steady s₀ (sendNak key syn psn s) :=
  steady_sendPkt (steady_ite hs (steady_count hs))

theorem steady_sendCnp {key : Nat} (hs : Steady s₀ s) : Steady s₀ (sendCnp key s) :=
  steady_sendPkt (steady_count hs.same)

theorem steady_timePkt {key : Nat} {p : TxPacket} (hs : Steady s₀ s) : Steady s₀ (timePkt key p s).1 :=
  steady_ite_fst (steady_fst (steady_count hs.same)) hs

theorem steady_sendNew {key : Nat} {p : TxPacket} {span : Nat} {poster : Poster} {last : Bool} {dest want : Nat} (hs : Steady s₀ s) : Steady s₀
    (sendNew key p span poster last dest want s) :=
  steady_sendPkt (steady_slot (steady_charge (steady_onQp (steady_timePkt hs))))

theorem steady_buildNext {key lim : Nat} {w : Work} (hs : Steady s₀ s) : Steady s₀ (buildNext key lim w s) :=
  steady_sendNew hs.same

theorem steady_buildRead {key : Nat} {w : Work} (hs : Steady s₀ s) : Steady s₀ (buildRead key w s) :=
  steady_sendNew hs.same

theorem steady_sendResp {key : Nat} {x : Resp} (hs : Steady s₀ s) : Steady s₀ (sendResp key x s) := by
  have h : ∀ p f, Steady s₀ (((charge key (txSize p) s).slot (4 + clOf key)).onQp key f) := fun p f =>
    steady_onQp (steady_slot (steady_charge hs))
  unfold sendResp
  refine steady_sendPkt ?_
  split
  · exact steady_ite (Steady.update (h _ _)) (h _ _)
  · exact h _ _

theorem steady_sendAgain {key : Nat} {x : SentPkt} (hs : Steady s₀ s) : Steady s₀ (sendAgain key x s) :=
  steady_sendPkt (steady_count (steady_slot (steady_charge (steady_ite hs.same hs.same))))

theorem steady_sendOne {key : Nat} (e : sendOne key s = some t) (hs : Steady s₀ s) : Steady s₀ t := by
  simp only [sendOne] at e
  split at e
  · cases e
  · split at e
    · cases e
      exact steady_sendAgain hs
    · cases e
      exact steady_sendResp hs
    · split at e
      · split at e
        · cases e
          exact steady_buildRead hs
        · cases e
      · split at e
        · cases e
        · cases e
          exact steady_buildNext hs
    · cases e

theorem steady_sendMany {key n : Nat} (hs : Steady s₀ s) : Steady s₀ (sendMany key n s) := by
  induction n generalizing s with
  | zero => exact hs
  | succ n ih =>
    unfold sendMany
    split
    next e => exact ih (steady_touch (steady_sendOne e hs))
    next => exact steady_ite hs.same hs

theorem steady_queueWrites {e : Nat} (hs : Steady s₀ s) : Steady s₀ (queueWrites e s) :=
  steady_foldl hs (fun _ _ h₁ => by
    extract_lets
    split
    · exact steady_ite (h₁.same) h₁
    · exact h₁)

theorem steady_buildItem {key f left : Nat} (hs : Steady s₀ s) : Steady s₀ (buildItem key f left s) := by
  induction f generalizing s left with
  | zero => exact hs
  | succ f ih =>
    unfold buildItem
    split
    · exact hs
    · exact steady_ite (ih (steady_buildNext hs)) (steady_buildNext hs)

theorem steady_withholdItem {key : Nat} (hs : Steady s₀ s) : Steady s₀ (withholdItem key s) :=
  steady_ite hs.same hs

theorem steady_serveResponses {e n : Nat} (hs : Steady s₀ s) : Steady s₀ (serveResponses e n s) := by
  induction n generalizing s with
  | zero => exact hs
  | succ n ih =>
    have h : Steady s₀ (queueWrites e s) := steady_queueWrites hs
    unfold serveResponses
    refine steady_ite h ?_
    split
    · exact h
    · split
      · exact h
      · exact steady_ite (steady_creditBlocked (steady_count (steady_onInst h)))
          (ih (steady_buildItem (steady_onQp (steady_touch (steady_startHead h)))))

theorem steady_releaseRefs {key : Nat} (hs : Steady s₀ s) : Steady s₀ (releaseRefs key s) :=
  steady_onQp (steady_foldl hs (fun _ _ h₁ => h₁.same))

theorem steady_failChain {ck wr cause : Nat} (hs : Steady s₀ s) : Steady s₀ (failChain ck wr cause s) :=
  hs.same

theorem steady_chainsLoseTrigger {qpn : Nat} (hs : Steady s₀ s) : Steady s₀ (chainsLoseTrigger qpn s) :=
  hs.same

theorem steady_workDone {p : Poster} {ok : Bool} (hs : Steady s₀ s) : Steady s₀ (workDone p ok s) := by
  unfold workDone
  split
  · extract_lets
    split
    · exact hs
    · exact steady_ite hs (steady_ite hs.same (steady_ite (steady_failChain (by
        split <;> exact hs.same)) (by
        split <;> exact hs.same)))
  · exact hs.same

theorem steady_dropWaiting {key : Nat} (hs : Steady s₀ s) : Steady s₀ (dropWaiting key s) :=
  steady_lateWaste hs.same

theorem steady_enterError {key cause : Nat} (hs : Steady s₀ s) : Steady s₀ (enterError key cause s) :=
  steady_ite hs (steady_notice (steady_chainsLoseTrigger (steady_foldl (steady_onQueue (steady_onQp (steady_onCache (steady_releaseRefs
      (steady_dropWaiting (Steady.update (steady_ite hs.same (steady_ite hs.same hs)))))))) (fun _ _ h₁ => steady_workDone h₁))))

theorem steady_goBack {key psn : Nat} (hs : Steady s₀ s) : Steady s₀ (goBack key psn s) :=
  steady_onQp (steady_withholdItem hs)

theorem steady_retry {key psn : Nat} (hs : Steady s₀ s) : Steady s₀ (retry key psn s) :=
  steady_ite (steady_enterError hs) (steady_goBack hs.same)

theorem steady_advanceUna {key psn : Nat} (hs : Steady s₀ s) : Steady s₀ (advanceUna key psn s) :=
  hs.same

theorem steady_acknowledge {key psn : Nat} {gone rest : List SentPkt} (hs : Steady s₀ s) : Steady s₀ (acknowledge key psn gone rest s) :=
  steady_ite hs (steady_foldl (steady_ite hs.same hs.same) (fun _ _ h₁ => steady_workDone h₁))

theorem steady_ackBefore {key psn : Nat} (hs : Steady s₀ s) : Steady s₀ (ackBefore key psn s) :=
  steady_acknowledge hs

theorem steady_nakBefore {key psn : Nat} (hs : Steady s₀ s) : Steady s₀ (nakBefore key psn s) :=
  steady_acknowledge hs

theorem steady_wasted {key : Nat} (hs : Steady s₀ s) : Steady s₀ (wasted key s) :=
  hs.same

theorem steady_invalid {key : Nat} (hs : Steady s₀ s) : Steady s₀ (invalid key s) :=
  steady_sendNak (steady_enterError hs)

theorem steady_takeSample {key : Nat} {t : TimedPkt} {rx : Nat} (hs : Steady s₀ s) : Steady s₀ (takeSample key t rx s) := by
  unfold takeSample
  extract_lets
  split
  · exact steady_count hs.same
  · exact steady_ite (steady_count hs.same) (steady_ite (steady_count hs.same) (steady_count hs.same))

theorem steady_delayAnswer {key psn rx : Nat} {nak : Bool} (hs : Steady s₀ s) : Steady s₀ (delayAnswer key psn rx nak s) := by
  unfold delayAnswer
  split
  · exact hs
  · exact steady_ite (steady_takeSample hs) (steady_ite (steady_count hs.same) hs)

theorem steady_nakReceive {key syn psn : Nat} (hs : Steady s₀ s) : Steady s₀ (nakReceive key syn psn s) :=
  steady_ite (steady_ite (steady_enterError (steady_nakBefore (steady_count hs))) (steady_count (steady_onQp (steady_withholdItem (steady_nakBefore
      (steady_count hs)))))) (steady_ite (steady_retry (steady_nakBefore (steady_count hs))) (steady_ite (steady_enterError (steady_nakBefore
      (steady_count hs))) (steady_ite (steady_enterError (steady_nakBefore (steady_count hs))) (steady_enterError (steady_nakBefore
      (steady_count hs))))))

theorem steady_ackReceive {key : Nat} {p : Packet} (hs : Steady s₀ s) : Steady s₀ (ackReceive key p s) :=
  steady_ite (steady_wasted (steady_count hs)) (steady_ite (steady_invalid hs) (steady_ite (Steady.cut (steady_ackBefore
      (steady_delayAnswer hs)) fun k₁ =>
    by
      extract_lets
      split
      · exact steady_ite (steady_retry k₁) k₁
      · exact k₁) (steady_nakReceive (steady_delayAnswer hs))))

theorem steady_landRead {x : SentPkt} {b : Bytes} (hs : Steady s₀ s) : Steady s₀ (landRead x b s) := by
  unfold landRead
  split
  · exact hs.same
  · exact steady_hbmPut hs

theorem steady_respReceive {key : Nat} {p : Packet} (hs : Steady s₀ s) : Steady s₀ (respReceive key p s) := by
  have h : Steady s₀ (delayAnswer key p.psn p.ts false s) := steady_delayAnswer hs
  unfold respReceive
  refine steady_ite (steady_wasted (steady_count hs)) ?_
  dsimp only
  split
  · exact steady_invalid h
  · refine steady_ite (steady_invalid h) (steady_ite (steady_ite (steady_retry h) (steady_wasted (steady_count h))) (steady_ite
        (steady_invalid h) ?_))
    have k : ∀ f r psn, Steady s₀ (advanceUna key psn ((landRead r p.payload (ackBefore key r.psn
        (delayAnswer key p.psn p.ts false s))).onQp key f)) :=
      fun _ _ _ => steady_advanceUna (steady_onQp (steady_landRead (steady_ackBefore h)))
    exact steady_ite (steady_workDone (k _ _ _)) (k _ _ _)

theorem steady_access {key rkey va len : Nat} {write : Bool} (hs : Steady s₀ s) : Steady s₀ (access key rkey va len write s).1 := by
  unfold access
  exact steady_ite_fst hs (by
    extract_lets
    split
    next _ _ e =>
    have k₁ := steady_of_eq e (steady_ite_fst hs (steady_hbmGet hs))
    exact steady_ite_fst (steady_fst (steady_count (k₁.same))) (steady_fst (steady_sendNak (steady_enterError (steady_postEvent (steady_count k₁))))))

theorem steady_dropRef {key : Nat} {i : Option Nat} (hs : Steady s₀ s) : Steady s₀ (dropRef key i s) := by
  unfold dropRef
  split
  · exact hs
  · exact hs.same

theorem steady_countMissed {qpn v : Nat} (hs : Steady s₀ s) : Steady s₀ (countMissed qpn v s) :=
  steady_foldl hs (fun _ _ h₁ => steady_ite (steady_count (h₁.same)) h₁)

theorem steady_sendComplete {key : Nat} {data : Bytes} {imm : Option Nat} (hs : Steady s₀ s) : Steady s₀ (sendComplete key data imm s) := by
  unfold sendComplete
  extract_lets
  split
  · exact hs.same
  · exact steady_ite hs.same (by
      extract_lets
      split
      · exact steady_notice (steady_countMissed hs)
      · exact steady_count (Steady.update (steady_hbmPut (steady_countMissed hs))))

theorem steady_accept {key : Nat} {p : Packet} {span : Nat} {done : Bool} (hs : Steady s₀ s) : Steady s₀ (accept key p span done s) :=
  steady_ite hs.same (steady_ite (steady_sendAck hs.same) hs.same)

theorem steady_executeSend {key : Nat} {p : Packet} (hs : Steady s₀ s) : Steady s₀ (executeSend key p s) := by
  unfold executeSend
  refine steady_ite (steady_invalid hs) (steady_ite ?_
    (steady_ite (steady_sendNak hs) (steady_ite (steady_sendComplete (steady_accept (steady_ite (steady_onQp hs) (steady_onQp hs))))
      (steady_accept (steady_ite (steady_onQp hs) (steady_onQp hs))))))
  extract_lets r start
  have h : Steady s₀ start.1 := by
    refine steady_ite_fst ?_ ?_
    · split
      next e => exact steady_of_eq e (steady_access hs)
      next e => exact steady_of_eq e (steady_access hs)
    · split <;> exact hs
  clear_value start
  split
  · exact h
  · exact steady_accept (steady_ite (steady_dropRef (steady_onQp (steady_hbmPut h))) (steady_onQp (steady_hbmPut h)))

theorem steady_answerRead {key : Nat} {p : Packet} {va rkey len : Nat} (hs : Steady s₀ s) : Steady s₀ (answerRead key p va rkey len s).1 := by
  unfold answerRead
  split
  next e => exact steady_of_eq e (steady_access hs)
  next e => exact steady_fst (steady_onQp (steady_of_eq e (steady_access hs)))

theorem steady_executeRead {key : Nat} {p : Packet} (hs : Steady s₀ s) : Steady s₀ (executeRead key p s) := by
  unfold executeRead
  extract_lets
  split
  · exact steady_invalid hs
  · exact steady_ite (steady_invalid hs) (steady_ite (steady_accept (steady_answerRead hs)) (steady_answerRead hs))

theorem steady_repeatRead {key : Nat} {p : Packet} (hs : Steady s₀ s) : Steady s₀ (repeatRead key p s) := by
  unfold repeatRead
  split
  · exact steady_invalid hs
  · exact steady_answerRead hs

theorem steady_requestReceive {key : Nat} {p : Packet} (hs : Steady s₀ s) : Steady s₀ (requestReceive key p s) :=
  steady_ite (steady_ite (steady_executeRead hs) (steady_executeSend hs)) (steady_ite (steady_ite (steady_wasted (steady_count hs)) (steady_sendNak
      (steady_onQp (steady_wasted (steady_count hs))))) (steady_ite (steady_repeatRead (steady_count hs)) (steady_ite (steady_sendAckTo
      (steady_wasted (steady_count hs))) (steady_wasted (steady_count hs)))))

theorem steady_mirrorReceive {key : Nat} {sync : Bool} {p : Packet} (hs : Steady s₀ s) : Steady s₀ (mirrorReceive key sync p s) :=
  steady_ite (steady_wasted (steady_count hs)) (Steady.cut (steady_ite hs.same hs) fun k₁ =>
    steady_ite (steady_wasted (steady_count k₁)) (steady_ite (steady_executeSend k₁) (steady_ite (steady_enterError (steady_engineFault
        (steady_count k₁))) (steady_wasted (steady_count k₁)))))

theorem steady_processPacket {key : Nat} {p : Packet} (hs : Steady s₀ s) : Steady s₀ (processPacket key p s) :=
  steady_ite (steady_count hs) (steady_ite (steady_count hs) (steady_ite (steady_count hs) (steady_ite (steady_count hs) (Steady.cut (steady_ite
      (steady_ite (steady_count (steady_count hs)) (steady_sendCnp (steady_count hs))) hs) fun k₁ =>
    steady_ite (steady_count (steady_count (k₁.same))) (steady_ite (steady_ackReceive k₁) (steady_ite (steady_respReceive k₁) (steady_ite
        (steady_mirrorReceive k₁) (steady_requestReceive k₁))))))))

theorem steady_receiveKnown {engine : Nat} {p : Packet} (hs : Steady s₀ s) : Steady s₀ (receiveKnown engine p s) := by
  unfold receiveKnown
  exact steady_ite (steady_count hs) (by
    extract_lets
    split
    next _ _ e =>
    have k₁ := steady_of_eq e (steady_lookup hs)
    exact steady_ite (steady_processPacket k₁) (steady_ite (k₁.same) (steady_engineFault (steady_wasted (steady_count k₁)))))

theorem steady_translate {engine : Nat} {p : Packet} (hs : Steady s₀ s) : Steady s₀ (translate engine p s).1 := by
  unfold translate
  split
  · exact hs
  · exact steady_fst (steady_count hs)

theorem steady_receivePacket {engine : Nat} {p : Packet} (hs : Steady s₀ s) : Steady s₀ (receivePacket engine p s) :=
  steady_ite hs (steady_ite hs.same (steady_receiveKnown (steady_translate (steady_count (steady_count hs)))))

theorem steady_takePosted {key : Nat} (hs : Steady s₀ s) : Steady s₀ (takePosted key s) :=
  steady_ite hs hs.same

theorem steady_postWork {key : Nat} {poster : Poster} {wr : WorkRequest} (hs : Steady s₀ s) : Steady s₀ (postWork key poster wr s) :=
  steady_ite (steady_takePosted (steady_lookup hs.same)) (steady_workDone hs)

theorem steady_fetchComplete {qpn : Nat} {bad : Bool} (hs : Steady s₀ s) : Steady s₀ (fetchComplete qpn bad s) := by
  unfold fetchComplete
  extract_lets
  split
  · exact hs
  · exact steady_when hs (fun _ h₁ => by
      extract_lets
      split
      next _ _ _ e =>
      have k₁ := steady_of_eq e (steady_hbmGet (h₁.same))
      exact steady_ite (Steady.cut (steady_count (steady_ite k₁ (k₁.same))) fun k₂ =>
        steady_ite (steady_dropWaiting (k₂.same)) (steady_enterError k₂)) (steady_takePosted (steady_foldl (k₁.same)
            (fun _ _ h₂ => steady_processPacket h₂))))

theorem steady_writebackComplete {qpn : Nat} (hs : Steady s₀ s) : Steady s₀ (writebackComplete qpn s) := by
  unfold writebackComplete
  extract_lets
  split
  · exact steady_storeBytes hs.same
  · exact hs

theorem steady_takeHeld (hs : Steady s₀ s) : Steady s₀ (takeHeld s) :=
  steady_foldl hs.same (fun _ _ h₁ => steady_receivePacket h₁)

theorem steady_sendControlOf {l : List TxPacket} (hs : Steady s₀ s) : Steady s₀ (sendControlOf l s) := by
  induction l generalizing s with
  | nil => exact hs
  | cons p r ih => exact steady_ite (ih (steady_engineSend hs.same)) hs

theorem steady_sendControl (hs : Steady s₀ s) : Steady s₀ (sendControl s) :=
  steady_foldl hs (fun _ _ h₁ => steady_ite (steady_sendControlOf h₁) h₁)

theorem steady_sendDueAcks (hs : Steady s₀ s) : Steady s₀ (sendDueAcks s) :=
  steady_foldl hs (fun _ _ h₁ => steady_ite (steady_sendAck h₁) h₁)

theorem steady_startTransport (hs : Steady s₀ s) : Steady s₀ (startTransport s) :=
  steady_foldl (steady_foldl (steady_sendControl hs) (fun _ _ h₁ => steady_sendMany (steady_ite (steady_ite (steady_ite (steady_takePosted h₁)
      (steady_lookup (steady_takePosted h₁))) (steady_count (steady_ite (steady_takePosted h₁) (steady_lookup (steady_takePosted h₁)))))
      (steady_takePosted h₁)))) (fun _ _ h₁ => steady_ite (steady_serveResponses h₁) h₁)

/-! ### Transport cmd -/

theorem steady_qpCommand {par : Bytes} {act : Bytes → State → State} (hact : ∀ a b, Steady s₀ b → Steady s₀ (act a b))
    (hs : Steady s₀ s) : Steady s₀ (qpCommand par act s) :=
  steady_command hs (fun _ _ h₁ => hact _ _ h₁)

theorem steady_mrCommand {par : Bytes} {act : Bytes → State → State} (hact : ∀ a b, Steady s₀ b → Steady s₀ (act a b))
    (hs : Steady s₀ s) : Steady s₀ (mrCommand par act s) :=
  steady_command hs (fun _ _ h₁ => hact _ _ h₁)

theorem steady_ccCommand {par : Bytes} {act : Bytes → State → State} (hact : ∀ a b, Steady s₀ b → Steady s₀ (act a b))
    (hs : Steady s₀ s) : Steady s₀ (ccCommand par act s) :=
  steady_command hs (fun _ _ h₁ => hact _ _ h₁)

theorem steady_chainCommand {par : Bytes} {act : Bytes → State → State} (hact : ∀ a b, Steady s₀ b → Steady s₀ (act a b))
    (hs : Steady s₀ s) : Steady s₀ (chainCommand par act s) :=
  steady_command hs (fun _ _ h₁ => hact _ _ h₁)

theorem steady_qpCreate {p : Bytes} (hs : Steady s₀ s) : Steady s₀ (qpCreate p s) :=
  steady_ite hs.same (steady_ite hs.same (by
    split
    · exact hs.same
    · exact hs.same
    · exact steady_done (steady_storeContext hs.same)))

theorem steady_qpConnect {p : Bytes} (hs : Steady s₀ s) : Steady s₀ (qpConnect p s) :=
  steady_ite hs.same (steady_ite hs.same (steady_ite hs.same (steady_done (steady_storeContext hs.same))))

theorem steady_qpToError {p : Bytes} (hs : Steady s₀ s) : Steady s₀ (qpToError p s) :=
  steady_ite hs.same (steady_ite hs.same (steady_done (steady_enterError hs)))

theorem steady_qpDestroy {p : Bytes} (hs : Steady s₀ s) : Steady s₀ (qpDestroy p s) :=
  steady_ite hs.same (steady_ite hs.same hs.same)

theorem steady_qpDestroyComplete {qpn : Nat} (hs : Steady s₀ s) : Steady s₀ (qpDestroyComplete qpn s) := by
  unfold qpDestroyComplete
  exact steady_when hs (fun _ h₁ => steady_doneNow (steady_hbmPut (h₁.same)))

theorem steady_qpQuery {p : Bytes} (hs : Steady s₀ s) : Steady s₀ (qpQuery p s) :=
  steady_ite hs.same hs.same

theorem steady_domainAllocate {x : Bytes} (hs : Steady s₀ s) : Steady s₀ (domainAllocate x s) := by
  unfold domainAllocate
  split <;> exact hs.same

theorem steady_domainFree {p : Bytes} (hs : Steady s₀ s) : Steady s₀ (domainFree p s) :=
  steady_ite hs.same (steady_ite hs.same (steady_ite hs.same hs.same))

theorem steady_mrRegister {p : Bytes} (hs : Steady s₀ s) : Steady s₀ (mrRegister p s) := by
  unfold mrRegister
  refine steady_ite hs.same (steady_ite hs.same ?_)
  split
  · exact hs.same
  · exact steady_done (steady_took ((hs.put (Hbm.lay_wf s.mem _ 32 (.free s.freeIdx))).same))

theorem steady_mrRevoke {p : Bytes} (hs : Steady s₀ s) : Steady s₀ (mrRevoke p s) :=
  steady_ite hs.same (steady_done (steady_foldl hs.same (fun _ _ h₁ => steady_count h₁)))

theorem steady_mrQuery {p : Bytes} (hs : Steady s₀ s) : Steady s₀ (mrQuery p s) :=
  steady_ite hs.same hs.same

theorem steady_startDrains (hs : Steady s₀ s) : Steady s₀ (startDrains s) :=
  hs.same

theorem steady_mrDrainComplete {i : Nat} (hs : Steady s₀ s) : Steady s₀ (mrDrainComplete i s) := by
  unfold mrDrainComplete
  exact steady_when hs (fun _ h₁ => h₁.same)

theorem steady_revokeTimeout {i : Nat} (hs : Steady s₀ s) : Steady s₀ (revokeTimeout i s) := by
  unfold revokeTimeout
  exact steady_when hs (fun _ h₁ => steady_foldl (steady_fault (steady_foldl h₁ (fun _ _ h₂ => steady_enterError h₂)))
      (fun _ _ h₂ => steady_count h₂))

theorem steady_retransmitTimeout {qpn : Nat} (hs : Steady s₀ s) : Steady s₀ (retransmitTimeout qpn s) := by
  unfold retransmitTimeout
  exact steady_when hs (fun _ h₁ => by
    extract_lets
    split
    · exact steady_retry (steady_count h₁)
    · exact steady_onQp (steady_count h₁))

theorem steady_rnrWaitExpiry {qpn : Nat} (hs : Steady s₀ s) : Steady s₀ (rnrWaitExpiry qpn s) := by
  unfold rnrWaitExpiry
  extract_lets
  split
  · exact steady_when hs (fun _ h₁ => steady_goBack (h₁.same))
  · exact hs

theorem steady_updateRate {key : Nat} (hs : Steady s₀ s) : Steady s₀ (updateRate key s) :=
  steady_count (steady_count (steady_count (steady_count (steady_count (steady_count (steady_count (steady_count hs.same)))))))

theorem steady_rateUpdate (hs : Steady s₀ s) : Steady s₀ (rateUpdate s) :=
  steady_when hs (fun _ h₁ => steady_foldl (h₁.same) (fun _ _ h₂ => steady_ite (steady_updateRate h₂) h₂))

theorem steady_idleReset {qpn : Nat} (hs : Steady s₀ s) : Steady s₀ (idleReset qpn s) := by
  unfold idleReset
  exact steady_when hs (fun _ h₁ => steady_count (h₁.same))

theorem steady_ccSetProfileMode {p : Bytes} (hs : Steady s₀ s) : Steady s₀ (ccSetProfileMode p s) :=
  steady_ite hs.same (steady_ite hs.same hs.same)

theorem steady_ccQueryRate {p : Bytes} (hs : Steady s₀ s) : Steady s₀ (ccQueryRate p s) :=
  steady_ite hs.same hs.same

theorem steady_onChain {ck : Nat} {f : Chain → Chain} (hs : Steady s₀ s) : Steady s₀ (State.onChain s ck f) :=
  hs.same

theorem steady_chainArm {p : Bytes} (hs : Steady s₀ s) : Steady s₀ (chainArm p s) :=
  steady_ite hs.same (steady_ite hs.same (steady_ite hs.same (steady_ite hs.same (steady_ite hs.same hs.same))))

theorem steady_chainDisarm {p : Bytes} (hs : Steady s₀ s) : Steady s₀ (chainDisarm p s) :=
  steady_ite hs.same (steady_ite hs.same hs.same)

theorem steady_takeDisarms (hs : Steady s₀ s) : Steady s₀ (takeDisarms s) :=
  hs.same

theorem steady_chainDisarmComplete {engine chain : Nat} (hs : Steady s₀ s) : Steady s₀ (chainDisarmComplete engine chain s) := by
  unfold chainDisarmComplete
  exact steady_when hs (fun _ h₁ => h₁.same)

theorem steady_chainQuery {p : Bytes} (hs : Steady s₀ s) : Steady s₀ (chainQuery p s) :=
  steady_ite hs.same hs.same

theorem steady_chainWrStart {engine chain : Nat} (hs : Steady s₀ s) : Steady s₀ (chainWrStart engine chain s) := by
  unfold chainWrStart
  exact steady_when hs (fun _ h₁ => steady_ite (h₁.same) (steady_ite (h₁.same) (by
    split
    · exact h₁.same
    · exact steady_postWork (steady_count (by
        split <;> exact h₁.same)))))

theorem steady_chainRunEnd {engine ck : Nat} (hs : Steady s₀ s) : Steady s₀ (chainRunEnd engine ck s) :=
  steady_ite (steady_count hs.same) hs

theorem steady_chainWrComplete {engine chain idx : Nat} (hs : Steady s₀ s) : Steady s₀ (chainWrComplete engine chain idx s) := by
  unfold chainWrComplete
  exact steady_when hs (fun _ h₁ => steady_chainRunEnd (steady_onChain (by
    split
    · exact h₁.same
    · exact h₁)))

theorem steady_mirrorBind {p : Bytes} (hs : Steady s₀ s) : Steady s₀ (mirrorBind p s) :=
  steady_ite hs.same (steady_ite hs.same (by
    split
    · exact hs.same
    · exact steady_done (steady_ite hs.same hs.same)))

theorem steady_mirrorUnbind {p : Bytes} (hs : Steady s₀ s) : Steady s₀ (mirrorUnbind p s) := by
  unfold mirrorUnbind
  extract_lets
  split <;> exact hs.same

/-! ### Target -/

theorem steady_onCmd {h : Nat} {f : Cmd → Cmd} (hs : Steady s₀ s) : Steady s₀ (State.onCmd s h f) := by
  unfold State.onCmd
  split
  · exact hs.same
  · exact hs

theorem steady_freeCmd {h : Nat} (hs : Steady s₀ s) : Steady s₀ (freeCmd h s) :=
  hs.same

theorem steady_sendCqe {h : Nat} {cqe : Bytes} (hs : Steady s₀ s) : Steady s₀ (sendCqe h cqe s) := by
  unfold sendCqe
  split
  · exact hs
  · exact steady_ite (steady_onCmd hs) (steady_ite hs.same (steady_postWork hs.same))

theorem steady_countStatus {c : Cmd} {status : Nat} (hs : Steady s₀ s) : Steady s₀ (countStatus c status s) :=
  hs.same

theorem steady_complete {h status : Nat} {dnr : Bool} {dw0 : Nat} (hs : Steady s₀ s) : Steady s₀ (complete h status dnr dw0 s) := by
  unfold complete
  split
  · exact hs
  · exact steady_ite (steady_onCmd hs) (by
      split
      · exact hs.same
      · exact steady_sendCqe (steady_ite hs hs.same))

theorem steady_checked {h kind : Nat} {f : Cmd → State → State} (hs : Steady s₀ s) (hf : ∀ a b, Steady s₀ b → Steady s₀ (f a b)) : Steady s₀
    (checked h kind s f) := by
  unfold checked
  split
  · exact hs
  · split
    · exact steady_complete (steady_ite (steady_count hs) hs)
    · exact hf _ _ hs

theorem steady_capsuleIn {key : Nat} {data : Bytes} (hs : Steady s₀ s) : Steady s₀ (capsuleIn key data s) := by
  unfold capsuleIn
  extract_lets b _ _ h
  clear_value b h
  cases h with
  | none => exact hs
  | some h => cases b <;> exact steady_hbmPut hs.same

theorem steady_parseCapsule {h : Nat} (hs : Steady s₀ s) : Steady s₀ (parseCapsule h s) := by
  unfold parseCapsule
  split
  · exact hs
  · exact steady_ite (steady_complete (steady_slot (steady_count (Steady.update (steady_onCmd hs))))) (steady_slot (steady_count (Steady.update
        (steady_onCmd hs))))

theorem steady_parseCapsules (hs : Steady s₀ s) : Steady s₀ (parseCapsules s) :=
  steady_ite (steady_foldl hs.same (fun _ _ h₁ => steady_parseCapsule h₁)) hs.same

theorem steady_inboxWrite {h : Nat} (hs : Steady s₀ s) : Steady s₀ (inboxWrite h s) := by
  unfold inboxWrite
  split
  · exact hs
  · exact steady_emit (steady_count (Steady.update (steady_onCmd (steady_hbmPut hs))))

theorem steady_inboxRoute {h : Nat} (hs : Steady s₀ s) : Steady s₀ (inboxRoute h s) := by
  unfold inboxRoute
  split
  · exact hs
  · exact steady_when hs (fun _ h₁ => steady_ite (steady_complete h₁) (steady_ite (steady_complete h₁) (steady_ite (steady_count (Steady.update
        (steady_onCmd h₁))) (steady_inboxWrite h₁))))

theorem steady_inboxHeldDeliver (hs : Steady s₀ s) : Steady s₀ (inboxHeldDeliver s) := by
  unfold inboxHeldDeliver
  split
  · exact hs
  · exact steady_when hs (fun _ h₁ => steady_inboxWrite (h₁.same))

theorem steady_freeClaim {key : Nat} (hs : Steady s₀ s) : Steady s₀ (freeClaim key s) :=
  hs.same

theorem steady_dropStripe {k : Chunk} (hs : Steady s₀ s) : Steady s₀ (dropStripe k s) :=
  steady_freeClaim (steady_ite (steady_onGroup hs) hs)

theorem steady_endRow {j : Nat} (hs : Steady s₀ s) : Steady s₀ (endRow j s) := by
  unfold endRow
  split
  · exact hs.same
  · exact hs

theorem steady_takeBack {c : Cmd} (hs : Steady s₀ s) : Steady s₀ (takeBack c s) :=
  Steady.update (steady_foldl (steady_foldl (steady_foldl hs.same (fun _ _ h₁ => steady_endRow h₁)) (fun _ _ h₁ => steady_unqueue h₁))
      (fun _ _ h₁ => steady_dropStripe h₁))

theorem steady_abandon {h : Nat} (hs : Steady s₀ s) : Steady s₀ (abandon h s) := by
  unfold abandon
  split
  · exact hs
  · exact steady_ite (steady_slotToWaste (steady_count (steady_freeCmd (steady_takeBack hs)))) (steady_lateWaste (steady_count (steady_freeCmd
        (steady_takeBack hs))))

theorem steady_dropQueue {key : Nat} (hs : Steady s₀ s) : Steady s₀ (dropQueue key s) :=
  steady_foldl hs (fun _ _ h₁ => steady_ite (steady_onCmd h₁) (steady_abandon h₁))

theorem steady_nsOffline {n : Nat} (hs : Steady s₀ s) : Steady s₀ (nsOffline n s) :=
  steady_foldl hs.same (fun _ _ h₁ => steady_complete (steady_takeBack h₁))

theorem steady_takeOutbox {r : Bytes} (hs : Steady s₀ s) : Steady s₀ (takeOutbox r s) := by
  unfold takeOutbox
  extract_lets
  split
  · exact steady_count (steady_count hs)
  · exact steady_ite (steady_count (steady_count hs)) (steady_ite (steady_abandon (steady_count hs)) (steady_ite (steady_sendCqe (steady_count hs))
        (steady_ite (steady_sendCqe (steady_ite (steady_count (steady_count hs)) (steady_countStatus (steady_count (steady_count hs))))) (steady_ite
        (steady_sendCqe (steady_postWork (steady_count hs))) (steady_ite (steady_sendCqe (steady_hbmPut (steady_count hs))) (steady_postWork
        (steady_onCmd (steady_count hs))))))))

theorem steady_outboxRecord (hs : Steady s₀ s) : Steady s₀ (outboxRecord s) := by
  unfold outboxRecord
  exact steady_when hs (fun _ h₁ => by
    split
    next _ _ _ e =>
    have k₁ := steady_of_eq e (steady_hbmGet h₁)
    exact steady_ite (steady_count (k₁.same)) (steady_takeOutbox (k₁.same)))

theorem steady_nvmeFlush {h : Nat} (hs : Steady s₀ s) : Steady s₀ (nvmeFlush h s) :=
  steady_when hs (fun _ h₁ => steady_checked h₁ (fun _ _ h₂ => steady_complete h₂))

theorem steady_answerAdmin {h op dw0 : Nat} (hs : Steady s₀ s) : Steady s₀ (answerAdmin h op dw0 s) :=
  steady_when hs (fun _ h₁ => by
    split
    · exact steady_ite (steady_complete h₁) (steady_ite (steady_complete h₁) (steady_complete h₁))
    · exact h₁)

theorem steady_nvmeAbort {h : Nat} (hs : Steady s₀ s) : Steady s₀ (nvmeAbort h s) :=
  steady_answerAdmin hs

theorem steady_nvmeKeepAlive {h : Nat} (hs : Steady s₀ s) : Steady s₀ (nvmeKeepAlive h s) :=
  steady_answerAdmin hs

theorem steady_keepAliveExpired {a : Nat} (hs : Steady s₀ s) : Steady s₀ (keepAliveExpired a s) := by
  unfold keepAliveExpired
  exact steady_when hs (fun _ h₁ => steady_count (steady_faultAt (steady_foldl (h₁.same) (fun _ _ h₂ => steady_enterError h₂))))

theorem steady_targetCommand {par : Bytes} {act : Bytes → State → State} (hact : ∀ a b, Steady s₀ b → Steady s₀ (act a b))
    (hs : Steady s₀ s) : Steady s₀ (targetCommand par act s) :=
  steady_command hs (fun _ _ h₁ => hact _ _ h₁)

theorem steady_namespaceWrite {p : Bytes} (hs : Steady s₀ s) : Steady s₀ (namespaceWrite p s) :=
  steady_ite hs.same (steady_ite hs.same hs.same)

theorem steady_namespaceRead {p : Bytes} (hs : Steady s₀ s) : Steady s₀ (namespaceRead p s) :=
  steady_ite hs.same hs.same

theorem steady_accessWrite {p : Bytes} (hs : Steady s₀ s) : Steady s₀ (accessWrite p s) :=
  steady_ite hs.same hs.same

theorem steady_associationBind {p : Bytes} (hs : Steady s₀ s) : Steady s₀ (associationBind p s) :=
  steady_ite hs.same (steady_ite hs.same (steady_done (steady_count hs.same)))

theorem steady_associationRelease {p : Bytes} (hs : Steady s₀ s) : Steady s₀ (associationRelease p s) :=
  steady_ite hs.same (steady_ite hs.same (steady_done (steady_count hs.same)))

theorem steady_queueBind {p : Bytes} (hs : Steady s₀ s) : Steady s₀ (queueBind p s) :=
  steady_ite hs.same (steady_ite hs.same (steady_ite hs.same hs.same))

theorem steady_queueEnable {p : Bytes} (hs : Steady s₀ s) : Steady s₀ (queueEnable p s) := by
  unfold queueEnable
  extract_lets
  split
  · exact hs.same
  · exact steady_ite hs.same (steady_ite hs.same hs.same)

theorem steady_queueUnbind {p : Bytes} (hs : Steady s₀ s) : Steady s₀ (queueUnbind p s) :=
  steady_ite hs.same (steady_ite hs.same hs.same)

theorem steady_reservationViewWrite {p : Bytes} (hs : Steady s₀ s) : Steady s₀ (reservationViewWrite p s) :=
  steady_ite hs.same (steady_done (steady_count hs.same))

theorem steady_takeViews (hs : Steady s₀ s) : Steady s₀ (takeViews s) :=
  steady_foldl hs.same (fun _ _ h₁ => h₁.same)

theorem steady_associationQuery {p : Bytes} (hs : Steady s₀ s) : Steady s₀ (associationQuery p s) :=
  steady_ite hs.same hs.same

theorem steady_hostGroupWrite {p : Bytes} (hs : Steady s₀ s) : Steady s₀ (hostGroupWrite p s) :=
  steady_ite hs.same hs.same

theorem steady_integrityRecord {c : Cmd} {lba origin bay : Nat} (hs : Steady s₀ s) : Steady s₀ (integrityRecord c lba origin bay s) :=
  steady_ite hs.same (Steady.update (steady_hbmPut hs.same))

/-! ### Reads -/

theorem steady_finishRead {h : Nat} (hs : Steady s₀ s) : Steady s₀ (finishRead h s) := by
  unfold finishRead
  split
  · exact hs
  · exact steady_ite (steady_complete hs) hs

theorem steady_sendBlock {c : Cmd} {blk : Nat} {pt : Bytes} (hs : Steady s₀ s) : Steady s₀ (sendBlock c blk pt s) := by
  unfold sendBlock
  extract_lets
  split
  · exact Steady.update (steady_count hs)
  · exact steady_postWork (steady_count hs)

theorem steady_compareBlock {h blk : Nat} {pt : Bytes} (hs : Steady s₀ s) : Steady s₀ (compareBlock h blk pt s) :=
  steady_onCmd hs

theorem steady_handBlock {h blk : Nat} {pt : Bytes} (hs : Steady s₀ s) : Steady s₀ (handBlock h blk pt s) := by
  unfold handBlock
  split
  · exact hs
  · exact steady_finishRead (steady_onCmd (steady_ite (steady_sendBlock hs) (steady_ite (steady_compareBlock hs) (steady_onCmd hs))))

theorem steady_compareReady {h : Nat} (hs : Steady s₀ s) : Steady s₀ (compareReady h s) := by
  unfold compareReady
  split
  · exact hs
  · exact steady_finishRead (steady_foldl (steady_onCmd hs) (fun _ _ h₁ => steady_compareBlock h₁))

theorem steady_lostBlock {u blk : Nat} (hs : Steady s₀ s) : Steady s₀ (lostBlock u blk s) := by
  unfold lostBlock
  split
  · exact hs
  · exact steady_finishRead (steady_onCmd hs)

theorem steady_cancelItem {i : Nat} (hs : Steady s₀ s) : Steady s₀ (cancelItem i s) := by
  unfold cancelItem
  split
  · exact steady_ite hs hs.same
  · exact hs

theorem steady_groupOffline {gi : Nat} (hs : Steady s₀ s) : Steady s₀ (groupOffline gi s) := by
  unfold groupOffline
  split
  · exact hs
  · exact steady_ite hs (steady_foldl (steady_cacheRemove (steady_foldl (steady_faultAt (steady_onGroup hs)) (fun _ _ h₁ => steady_cancelItem h₁)))
        (fun _ _ h₁ => steady_nsOffline h₁))

theorem steady_listLost {gi vol lba pos reason : Nat} (hs : Steady s₀ s) : Steady s₀ (listLost gi vol lba pos reason s) := by
  unfold listLost
  split
  · exact hs
  · exact steady_ite hs (steady_ite (steady_groupOffline hs.same) (steady_zoneRec (steady_faultAt (steady_onGroup hs))))

theorem steady_unlistLost {gi vol lba : Nat} (hs : Steady s₀ s) : Steady s₀ (unlistLost gi vol lba s) := by
  unfold unlistLost
  split
  · exact hs
  · split
    · exact hs
    · exact steady_ite (steady_zoneRec (steady_onGroup hs)) (steady_zoneRec (steady_zoneRec (steady_onGroup hs)))

theorem steady_askRow {j : Nat} (hs : Steady s₀ s) : Steady s₀ (askRow j s) := by
  unfold askRow
  split
  · exact hs
  · split
    · exact steady_endRow hs
    · exact steady_ite (Steady.cut (steady_foldl (steady_listLost (steady_endRow hs)) (fun _ _ h₁ => by
        split
        · exact steady_listLost h₁
        · exact h₁)) fun k₁ =>
        steady_ite k₁ (steady_lostBlock k₁)) (steady_ite hs.same (steady_foldl hs.same (fun _ _ h₁ => by
        split
        · exact h₁.same
        · exact h₁)))

theorem steady_startRow {x : RowJob} (hs : Steady s₀ s) : Steady s₀ (startRow x s) :=
  steady_ite (steady_count (steady_count hs.same)) (steady_askRow (steady_count hs.same))

theorem steady_repairAt {gi phys row pos : Nat} {b : Bytes} (hs : Steady s₀ s) : Steady s₀ (repairAt gi phys row pos b s) := by
  unfold repairAt
  split
  · exact hs
  · extract_lets
    split
    · exact steady_driveEnqueue (steady_count hs.same)
    · exact steady_count hs.same

theorem steady_repairBlock {x : RowJob} {b : Bytes} (hs : Steady s₀ s) : Steady s₀ (repairBlock x b s) := by
  unfold repairBlock
  split
  · exact hs
  · exact steady_repairAt hs

theorem steady_tagRow {c : Cmd} {blk lba : Nat} (hs : Steady s₀ s) : Steady s₀ (tagRow c blk lba s) := by
  unfold tagRow
  split
  · exact hs
  · split
    · exact hs
    · exact steady_startRow hs

theorem steady_tagFailed {h blk origin bay : Nat} (hs : Steady s₀ s) : Steady s₀ (tagFailed h blk origin bay s) := by
  unfold tagFailed
  split
  · exact hs
  · exact steady_ite (steady_onCmd (steady_cacheRemove (steady_integrityRecord hs))) (steady_tagRow (steady_onCmd (steady_cacheRemove
        (steady_integrityRecord hs))))

theorem steady_deliver2 {w : WaitBlock} {pt : Bytes} {ok : Bool} (hs : Steady s₀ s) : Steady s₀ (deliver2 w pt ok s) :=
  steady_ite (by
    split
    · exact hs
    · exact steady_ite (steady_repairBlock (steady_count (steady_endRow hs))) (by
        split
        · exact steady_listLost (steady_endRow hs)
        · exact steady_endRow hs)) (by
    split
    · exact hs
    · exact steady_handBlock (steady_ite hs (steady_tagFailed hs)))

theorem steady_drainCipher {f : Nat} (hs : Steady s₀ s) : Steady s₀ (drainCipher f s) := by
  induction f generalizing s with
  | zero => exact hs
  | succ f ih =>
    unfold drainCipher
    split
    · exact hs
    · extract_lets
      split
      · exact steady_markShort hs
      next e => exact ih (steady_deliver2 (steady_decryptBlock e hs).same)

theorem steady_toCipher {w : WaitBlock} (hs : Steady s₀ s) : Steady s₀ (toCipher w s) :=
  steady_drainCipher hs.same

theorem steady_finishRow {j : Nat} (hs : Steady s₀ s) : Steady s₀ (finishRow j s) := by
  unfold finishRow
  split
  · exact hs
  · exact steady_ite hs (by
      split
      · exact hs
      · extract_lets
        split
        · exact steady_askRow hs.same
        · exact Steady.cut (steady_foldl (steady_parityRows hs) (fun _ _ h₁ => steady_repairAt h₁)) fun k₁ =>
            steady_ite (steady_toCipher k₁) (steady_toCipher (steady_ite (steady_repairBlock (steady_endRow k₁)) (steady_endRow k₁))))

theorem steady_rowAnswer {j pos : Nat} {b : Option Bytes} (hs : Steady s₀ s) : Steady s₀ (rowAnswer j pos b s) := by
  unfold rowAnswer
  split
  · exact hs
  · extract_lets
    split
    · exact steady_finishRow hs.same
    · exact steady_askRow hs.same

theorem steady_rowUnreadable {j pos : Nat} (hs : Steady s₀ s) : Steady s₀ (rowUnreadable j pos s) := by
  unfold rowUnreadable
  split
  · exact hs
  · exact steady_rowAnswer hs.same

theorem steady_rowFor {u blk vol lba queue reason : Nat} {l : Loc} (hs : Steady s₀ s) : Steady s₀ (rowFor u blk vol lba queue reason l s) := by
  unfold rowFor
  split
  · exact hs
  · exact steady_startRow hs

theorem steady_issueReads {u queue : Nat} {l : List (Nat × Nat × Nat)} {run : Option (Nat × Nat × Nat × Nat)} (hs : Steady s₀ s) :
    Steady s₀ (issueReads u queue l run s) := by
  induction l generalizing s run with
  | nil =>
    cases run
    · exact hs
    · exact steady_driveEnqueue hs
  | cons a r ih =>
    cases run
    · exact ih hs
    · exact steady_ite (ih hs) (ih (steady_driveEnqueue hs))

theorem steady_foundStaged {vol lba : Nat} (hs : Steady s₀ s) : Steady s₀ (foundStaged vol lba s).1 := by
  unfold foundStaged
  split
  · exact hs
  · exact steady_indexMet hs

theorem steady_foundCached {vol lba : Nat} (hs : Steady s₀ s) : Steady s₀ (foundCached vol lba s).1 := by
  unfold foundCached
  split
  · exact hs
  · split
    next _ _ e =>
    have k₁ := steady_of_eq e (steady_indexMet hs)
    exact steady_ite_fst k₁ (steady_fst (steady_cacheRemove k₁))

theorem steady_serveUnstaged {h blk : Nat} {x : State × List (Nat × Nat × Nat)} (hx : Steady s₀ x.1) : Steady s₀ (serveUnstaged h blk x).1 := by
  unfold serveUnstaged
  extract_lets s
  split
  · exact hx
  next c _ =>
    extract_lets lba
    split
    · exact steady_fst (steady_lostBlock hx)
    next l _ =>
      refine steady_ite_fst (steady_fst (steady_lostBlock hx)) ?_
      extract_lets fromDrives
      have hd : ∀ t, Steady s₀ t → Steady s₀ (fromDrives t).1 := by
        intro t ht
        have hm : Steady s₀ (mapMet l.group l.stripe (t.count Ev.grMiss 0)) := steady_mapMet (steady_count ht)
        simp only [fromDrives]
        split
        · exact steady_fst (steady_lostBlock hm)
        · refine steady_ite_fst (steady_fst (steady_handBlock (steady_count hm))) ?_
          split
          · exact steady_fst (steady_count hm)
          · exact steady_fst (steady_rowFor (steady_count hm))
      split
      next e =>
      have hf := steady_of_eq e (steady_foundCached hx)
      split
      · exact hd _ hf
      · split
        next e => exact steady_fst (steady_toCipher (steady_count (steady_of_eq e (steady_cacheRead hf))))
        next e => exact hd _ (steady_of_eq e (steady_cacheRead hf))

theorem steady_serveStaged {h blk : Nat} {r : Rec} {i : Nat} {x : State × List (Nat × Nat × Nat)} (hx : Steady s₀ x.1) :
    Steady s₀ (serveStaged h blk r i x).1 := by
  unfold serveStaged
  split
  · exact hx
  · split
    next e => exact steady_fst (steady_toCipher (steady_count (steady_of_eq e (steady_stagedBlock hx))))
    next e =>
      have h := steady_of_eq e (steady_stagedBlock hx)
      exact steady_ite_fst h.same (steady_serveUnstaged h)

theorem steady_serveBlock {h blk : Nat} {x : State × List (Nat × Nat × Nat)} (hx : Steady s₀ x.1) : Steady s₀ (serveBlock h blk x).1 := by
  unfold serveBlock
  split
  · exact hx
  · split
    next e =>
    have k := steady_of_eq e (steady_foundStaged (steady_count hx))
    split
    · exact steady_ite_fst (steady_handBlock (steady_count (steady_count k)))
        (steady_serveStaged (steady_fst (steady_count k)))
    · exact steady_serveUnstaged k

theorem steady_serveImage {place i : Nat} (hs : Steady s₀ s) : Steady s₀ (serveImage place i s) :=
  steady_foldl hs.same (fun _ _ h₁ => by
    split
    · exact h₁
    · exact steady_issueReads (by
        split
        · exact steady_serveStaged h₁
        · exact steady_serveUnstaged h₁))

theorem steady_serveBlocks {h n : Nat} (hs : Steady s₀ s) : Steady s₀ (serveBlocks h n s) := by
  unfold serveBlocks
  split
  · exact hs
  · exact steady_issueReads (steady_foldl_fst (steady_onCmd hs) (fun _ _ h₁ => steady_serveBlock h₁))

theorem steady_setAddress {h kind : Nat} {c : Cmd} (hs : Steady s₀ s) : Steady s₀ (setAddress h kind c s) := by
  unfold setAddress
  split
  · exact hs
  · exact steady_onCmd hs

theorem steady_fetchData {h : Nat} (hs : Steady s₀ s) : Steady s₀ (fetchData h s) := by
  unfold fetchData
  split
  · exact hs
  · exact steady_ite (steady_postWork (steady_count (steady_onCmd hs))) (steady_ite (steady_count (steady_onCmd hs)) (steady_ite (steady_count
        (steady_onCmd hs)) (steady_onCmd hs)))

theorem steady_readWindow {h : Nat} (hs : Steady s₀ s) : Steady s₀ (readWindow h s) := by
  unfold readWindow
  split
  · exact hs
  · exact steady_ite (steady_onCmd (steady_hbmGet hs)) hs

theorem steady_seqChunks {l : List Chunk} (hs : Steady s₀ s) : Steady s₀ (seqChunks l s).1 := by
  induction l generalizing s with
  | nil => exact hs
  | cons c r ih => exact ih hs.same

theorem steady_makeChunks {h : Nat} {ranges : List (Nat × Nat)} (hs : Steady s₀ s) : Steady s₀ (makeChunks h ranges s) := by
  unfold makeChunks
  split
  · exact hs
  · exact steady_onCmd (steady_count (by
      split
      · exact hs
      · exact steady_seqChunks hs))

theorem steady_nvmeRead {h : Nat} (hs : Steady s₀ s) : Steady s₀ (nvmeRead h s) :=
  steady_when hs (fun _ h₁ => steady_checked h₁ (fun _ _ h₂ => steady_serveBlocks (by
    split
    · exact steady_count (steady_setAddress h₂)
    · exact steady_setAddress h₂)))

theorem steady_nvmeCompare {h : Nat} (hs : Steady s₀ s) : Steady s₀ (nvmeCompare h s) :=
  steady_when hs (fun _ h₁ => steady_checked h₁ (fun _ _ h₂ => by
    extract_lets
    split
    · exact steady_serveBlocks (steady_readWindow (steady_fetchData (steady_setAddress h₂)))
    · exact steady_fetchData (steady_setAddress h₂)))

theorem steady_nvmeWrite {h : Nat} (hs : Steady s₀ s) : Steady s₀ (nvmeWrite h s) :=
  steady_when hs (fun _ h₁ => steady_checked h₁ (fun _ _ h₂ => by
    extract_lets
    split
    · exact steady_count (steady_makeChunks (steady_count (steady_fetchData (steady_setAddress h₂))))
    · exact steady_fetchData (steady_setAddress h₂)))

theorem steady_nvmeWriteZeroes {h : Nat} (hs : Steady s₀ s) : Steady s₀ (nvmeWriteZeroes h s) :=
  steady_when hs (fun _ h₁ => steady_checked h₁ (fun _ _ h₂ => by
    extract_lets
    split
    · exact steady_makeChunks (steady_count (steady_fetchData (steady_setAddress h₂)))
    · exact steady_fetchData (steady_setAddress h₂)))

theorem steady_dsmGo {h : Nat} (hs : Steady s₀ s) : Steady s₀ (dsmGo h s) := by
  unfold dsmGo
  split
  · exact hs
  · exact steady_ite (steady_complete hs) (steady_ite (steady_complete (steady_count hs)) (steady_ite (steady_makeChunks (steady_count hs))
        (steady_complete (steady_count hs))))

theorem steady_reserveSeqs {h : Nat} (hs : Steady s₀ s) : Steady s₀ (reserveSeqs h s) := by
  unfold reserveSeqs
  split
  · exact hs
  · exact Steady.update (steady_onCmd hs)

theorem steady_nvmeDatasetManagement {h : Nat} (hs : Steady s₀ s) : Steady s₀ (nvmeDatasetManagement h s) :=
  steady_when hs (fun _ h₁ => steady_checked h₁ (fun _ _ h₂ => Steady.cut (steady_onCmd (steady_fetchData (steady_setAddress h₂))) fun k₁ =>
    by
      extract_lets
      split
      · exact steady_ite (steady_dsmGo k₁) (steady_reserveSeqs k₁)
      · exact k₁))

theorem steady_dataArrives {u off : Nat} {b : Bytes} (hs : Steady s₀ s) : Steady s₀ (dataArrives u off b s) := by
  unfold dataArrives
  split
  · exact hs
  · exact steady_ite (steady_hbmPut hs) (steady_onCmd hs)

theorem steady_dataComplete {u : Nat} (hs : Steady s₀ s) : Steady s₀ (dataComplete u s) := by
  unfold dataComplete
  split
  · exact hs
  · exact steady_ite (steady_sendCqe hs) (steady_ite (steady_compareReady hs) (steady_ite (steady_dsmGo (steady_onCmd hs)) (steady_onCmd hs)))

/-! ### Merges -/

theorem steady_onChunk {u i : Nat} {f : Chunk → Chunk} (hs : Steady s₀ s) : Steady s₀ (onChunk u i f s) := by
  unfold onChunk
  split
  · exact steady_onCmd hs
  · exact hs

theorem steady_releaseClaim {key : Nat} (hs : Steady s₀ s) : Steady s₀ (releaseClaim key s) :=
  steady_foldl hs.same (fun _ _ h₁ => steady_askRow h₁)

theorem steady_readRows {consumer : Nat → Consumer} {queue pos : Nat} {g : LGroup} {phys : Nat} {rows : List Nat} (hs : Steady s₀ s) : Steady s₀
    (readRows consumer queue pos g phys rows s).1 := by
  unfold readRows
  split
  · exact hs
  · exact steady_fst (steady_foldl hs (fun _ _ h₁ => h₁.same))

theorem steady_writeRows {consumer : Consumer} {queue pos : Nat} {g : LGroup} {phys : Nat} {rows : List Nat} {data : Nat → Bytes} {x : State × Nat}
    (hx : Steady s₀ x.1) : Steady s₀ (writeRows consumer queue pos g phys rows data x).1 := by
  unfold writeRows
  split
  · exact hx
  · exact steady_foldl_fst hx (fun _ _ h₁ => h₁.same)

theorem steady_mergeReads {key pos : Nat} {g : LGroup} {phys : Nat} {rows : List Nat} (hs : Steady s₀ s) : Steady s₀
    (mergeReads key pos g phys rows s).1 :=
  steady_readRows hs

theorem steady_loseUnits {key : Nat} {m : Merge} {g : LGroup} (hs : Steady s₀ s) : Steady s₀ (loseUnits key m g s) :=
  steady_ite hs (steady_foldl hs (fun _ _ h₁ => steady_foldl h₁ (fun _ _ h₂ => steady_ite h₂ (by
    split
    · exact steady_listLost h₂
    · exact steady_ite (steady_groupOffline h₂) h₂))))

theorem steady_mendRows {key : Nat} {m : Merge} {g : LGroup} (hs : Steady s₀ s) : Steady s₀ (mendRows key m g s).1 := by
  refine steady_foldl_fst hs fun x k h => ?_
  have hm : Steady s₀ ((x.1.faultAt 102 4 5 (key / 4294967296)).count Ev.rdRepair (key / 4294967296)) := steady_count (steady_faultAt h)
  refine steady_ite_fst hm ?_
  dsimp only
  split
  · exact hm
  · exact h

theorem steady_mergeWrites {key : Nat} (hs : Steady s₀ s) : Steady s₀ (mergeWrites key s) := by
  unfold mergeWrites
  split
  · exact Steady.cut (steady_foldl_fst hs (fun _ _ h₁ => steady_ite_fst h₁ (steady_writeRows h₁))) fun k₁ =>
      Steady.update (steady_ite_fst (steady_ite_fst k₁ (steady_writeRows k₁)) (steady_writeRows (steady_ite_fst k₁ (steady_writeRows k₁))))
  · exact hs

theorem steady_mergeCompute {key : Nat} (hs : Steady s₀ s) : Steady s₀ (mergeCompute key s) := by
  unfold mergeCompute
  split
  · extract_lets
    split
    next _ _ e =>
    have k₁ := steady_of_eq e (steady_mendRows (steady_loseUnits hs))
    exact steady_ite (steady_foldl (Steady.update (steady_parityRows (steady_count k₁))) (fun _ _ h₁ => steady_count (steady_deviceRec h₁)))
        (steady_mergeWrites (Steady.update (steady_parityRows (steady_count k₁))))
  · exact hs

theorem steady_mergeReadsDone {key : Nat} (hs : Steady s₀ s) : Steady s₀ (mergeReadsDone key s) := by
  unfold mergeReadsDone
  split
  · refine steady_ite hs (steady_ite ?_ (steady_mergeCompute hs))
    extract_lets x
    have hx : Steady s₀ x.1 := steady_foldl_fst hs (fun _ _ h₁ => steady_ite_fst h₁ (steady_mergeReads h₁))
    exact steady_ite (steady_mergeCompute hx.same) hx.same
  · exact hs

theorem steady_mergeBegin {key : Nat} (hs : Steady s₀ s) : Steady s₀ (mergeBegin key s) := by
  unfold mergeBegin
  extract_lets gi st
  split
  · exact steady_releaseClaim hs
  refine steady_ite (steady_releaseClaim hs) ?_
  extract_lets put
  split
  next u data e =>
  have hu : Steady s₀ u := by
    refine steady_of_eq e (steady_foldl_fst hs fun y r hy => steady_foldl_fst hy fun z pc hz => ?_)
    exact steady_ite_fst hz (steady_stagedBlock hz)
  clear_value put
  split
  next v given e =>
  have hv : Steady s₀ v := steady_of_eq e (steady_foldl_fst (steady_mapMet hu) fun y r hy => steady_stagedAll hy)
  refine steady_ite (steady_releaseClaim hv) ?_
  extract_lets
  split
  next w old e =>
  have hw : Steady s₀ w := by
    refine steady_of_eq e (steady_ite_fst hv (steady_foldl_fst hv fun y d hy => ?_))
    split
    · split
      · split
        · next e => exact steady_of_eq e (steady_cacheRead hy)
        · next e => exact steady_of_eq e (steady_cacheRead hy)
      · exact hy
    · exact hy
  refine steady_mergeReadsDone (steady_count (steady_count ?_))
  exact Steady.update (steady_foldl_fst hw fun y pos hy => steady_mergeReads hy)

theorem steady_mergeRead {key pos row n : Nat} {b : Option Bytes} (hs : Steady s₀ s) : Steady s₀ (mergeRead key pos row n b s) := by
  unfold mergeRead
  split
  · split
    · exact steady_mergeReadsDone hs.same
    · exact steady_ite (by
        extract_lets
        split
        · exact steady_foldl hs.same (fun _ _ h₁ => h₁.same)
        · exact hs.same) (steady_mergeReadsDone hs.same)
  · exact hs

theorem steady_mergeWrote {key : Nat} (hs : Steady s₀ s) : Steady s₀ (mergeWrote key s) := by
  unfold mergeWrote
  split
  · exact hs.same
  · exact hs

theorem steady_mergeCommitSubmit {group stripe : Nat} (hs : Steady s₀ s) : Steady s₀ (mergeCommitSubmit group stripe s) := by
  unfold mergeCommitSubmit
  extract_lets
  split
  · exact steady_when hs (fun _ h₁ => steady_deviceRec (h₁.same))
  · exact hs

theorem steady_mergeDone {key : Nat} (hs : Steady s₀ s) : Steady s₀ (mergeDone key s) := by
  unfold mergeDone
  extract_lets
  split
  · exact Steady.cut (steady_ite (steady_zoneRec (steady_setMap hs.same)) hs.same) fun k₁ =>
      Steady.cut (steady_ite k₁ (steady_foldl k₁ (fun _ _ h₁ => steady_unlistLost h₁))) fun k₂ =>
        steady_retireAll (steady_releaseClaim (steady_ite (steady_foldl k₂ (fun _ _ h₁ => steady_ite (steady_cacheInsert h₁) h₁)) k₂))
  · exact hs

/-! ### Items -/

theorem steady_setItem {id : Nat} {x : StripeItem} (hs : Steady s₀ s) : Steady s₀ (State.setItem s id x) :=
  hs.same

theorem steady_endItem {id : Nat} (hs : Steady s₀ s) : Steady s₀ (endItem id s) := by
  unfold endItem
  split
  · exact hs
  · exact steady_foldl (steady_foldl hs.same (fun _ _ h₁ => h₁.same)) (fun _ _ h₁ => steady_releaseClaim h₁)

theorem steady_mendPart {id part phys : Nat} {x : StripeItem} {gi : Nat} {g : LGroup} {y : State × Nat} (hy : Steady s₀ y.1) : Steady s₀
    (mendPart id part phys x gi g y).1 :=
  steady_foldl_fst hy (fun _ _ h₁ => steady_ite_fst h₁ (steady_writeRows (steady_foldl h₁ (fun _ _ h₂ => steady_count (h₂.same)))))

theorem steady_listRow {gi st phys row reason : Nat} {g : LGroup} {d : List (Option Bytes)} (hs : Steady s₀ s) : Steady s₀
    (listRow gi st phys row reason g d s) :=
  steady_ite hs (steady_ite (steady_groupOffline hs) (steady_foldl hs (fun _ _ h₁ => steady_ite h₁ (by
    split
    · exact steady_count (steady_listLost h₁)
    · exact h₁))))

theorem steady_itemWrites {id : Nat} {y : State × Nat} (hy : Steady s₀ y.1) : Steady s₀ (itemWrites id y) := by
  unfold itemWrites
  split
  · exact hy.same
  · exact hy

theorem steady_rebuildCompute {gi : Nat} {x : StripeItem} {part : StripePart} {g : LGroup} (hs : Steady s₀ s) : Steady s₀
    (rebuildCompute gi x part g s) :=
  steady_itemWrites (steady_foldl_fst (steady_mendPart (steady_foldl (steady_parityRows hs) (fun _ _ h₁ => steady_listRow h₁)))
      (fun _ _ h₁ => steady_ite_fst (steady_writeRows h₁) (steady_ite_fst h₁ (steady_writeRows h₁))))

theorem steady_scrubVerdict {gi p row v : Nat} (hs : Steady s₀ s) : Steady s₀ (scrubVerdict gi p row v s) :=
  steady_ite (steady_count hs) (steady_ite (steady_faultAt (steady_onGroup (steady_count hs))) (steady_faultAt (steady_count hs)))

theorem steady_scrubRow {gi st phys row : Nat} {x : StripeItem} {g : LGroup} {y : State × Nat} (hy : Steady s₀ y.1) : Steady s₀
    (scrubRow gi st phys row x g y).1 :=
  steady_ite_fst (steady_fst (steady_listRow hy)) (steady_foldl_fst (steady_fst (steady_scrubVerdict hy)) (fun _ _ h₁ => steady_ite_fst h₁
      (steady_writeRows h₁)))

theorem steady_scrubCompute {gi : Nat} {x : StripeItem} {part : StripePart} {g : LGroup} (hs : Steady s₀ s) : Steady s₀
    (scrubCompute gi x part g s) :=
  steady_itemWrites (steady_mendPart (steady_foldl_fst (steady_fst (steady_parityRows hs)) (fun _ _ h₁ => steady_scrubRow h₁)))

theorem steady_reshapeCompute {v : Nat} {x : StripeItem} (hs : Steady s₀ s) : Steady s₀ (reshapeCompute v x s) := by
  unfold reshapeCompute
  split
  · exact steady_cancelItem hs
  · split
    · exact steady_cancelItem hs
    · split
      · exact steady_itemWrites (steady_foldl_fst (steady_foldl_fst (steady_fst (steady_parityRows (steady_foldl (steady_foldl hs (fun _ _ h₁ => by
          split
          · exact steady_ite h₁ (steady_listLost h₁)
          · exact h₁)) (fun _ _ h₁ => steady_ite (steady_listLost h₁) h₁)))) (fun _ _ h₁ => steady_mendPart h₁)) (fun _ _ h₁ => steady_ite_fst h₁
                (steady_writeRows h₁)))
      · exact steady_cancelItem hs

theorem steady_itemCompute {id : Nat} {x : StripeItem} (hs : Steady s₀ s) : Steady s₀ (itemCompute id x s) := by
  unfold itemCompute
  split
  · exact steady_ite (steady_reshapeCompute hs) hs
  · split
    · exact steady_cancelItem hs
    · exact steady_ite (steady_rebuildCompute hs) (steady_ite (steady_scrubCompute hs) (steady_reshapeCompute hs))

theorem steady_askPart {id part : Nat} {want : Nat → List Nat} {x : StripeItem} {y : State × Nat} (hy : Steady s₀ y.1) : Steady s₀
    (askPart id part want x y).1 := by
  unfold askPart
  split
  · exact hy
  · split
    · exact hy
    · exact steady_foldl_fst hy (fun _ _ h₁ => steady_ite_fst h₁ (steady_readRows h₁))

theorem steady_itemReadsDone {id : Nat} {x : StripeItem} (hs : Steady s₀ s) : Steady s₀ (itemReadsDone id x s) :=
  steady_ite (Steady.cut (steady_foldl_fst hs (fun _ _ h₁ => steady_askPart h₁)) fun k₁ =>
    steady_ite (steady_itemCompute (k₁.same)) (k₁.same)) (steady_itemCompute hs)

theorem steady_itemTick {id : Nat} (hs : Steady s₀ s) : Steady s₀ (itemTick id s) := by
  unfold itemTick
  split
  · exact hs
  · exact steady_ite hs (steady_ite (steady_endItem hs) (by
      split
      · exact steady_itemReadsDone hs
      · exact hs.same
      · exact hs))

theorem steady_itemRead {id part pos row n : Nat} {b : Option Bytes} (hs : Steady s₀ s) : Steady s₀ (itemRead id part pos row n b s) := by
  unfold itemRead
  split
  · exact hs
  · split <;> exact steady_itemTick hs.same

theorem steady_itemSplit {id part pos row bay : Nat} {c : DriveCmd} (hs : Steady s₀ s) : Steady s₀ (itemSplit id part pos row bay c s) := by
  unfold itemSplit
  split
  · exact hs
  · exact steady_foldl hs.same (fun _ _ h₁ => h₁.same)

theorem steady_itemWrote {id : Nat} (hs : Steady s₀ s) : Steady s₀ (itemWrote id s) := by
  unfold itemWrote
  split
  · exact hs
  · exact steady_itemTick hs.same

theorem steady_itemLost {id : Nat} {write : Bool} (hs : Steady s₀ s) : Steady s₀ (itemLost id write s) :=
  steady_itemWrote (steady_ite hs (steady_cancelItem hs))

theorem steady_beginItem {id : Nat} (hs : Steady s₀ s) : Steady s₀ (beginItem id s) := by
  unfold beginItem
  split
  · exact hs
  · exact steady_ite (steady_endItem hs) (Steady.cut (steady_foldl hs (fun _ _ h₁ => steady_mapMet h₁)) fun k₁ =>
      by
        extract_lets
        split
        · exact steady_itemTick (steady_setItem (steady_foldl_fst k₁ (fun _ _ h₁ => by
            split
            · exact steady_askPart h₁
            · exact h₁)))
        · split
          · exact k₁
          · exact steady_itemTick (steady_setItem (steady_askPart k₁))
        · exact steady_endItem k₁)

theorem steady_itemGranted {id key : Nat} (hs : Steady s₀ s) : Steady s₀ (itemGranted id key s) := by
  unfold itemGranted
  split
  · exact steady_releaseClaim hs
  · exact steady_ite (steady_beginItem hs.same) hs.same

/-! ### Data path -/

theorem steady_splitFull {u i : Nat} (hs : Steady s₀ s) : Steady s₀ (splitFull u i s) := by
  unfold splitFull
  split
  · exact hs
  · extract_lets
    split
    · exact steady_count (steady_onCmd hs)
    · exact hs

theorem steady_fullBegin {u i : Nat} (hs : Steady s₀ s) : Steady s₀ (fullBegin u i s) := by
  unfold fullBegin
  split
  · exact hs
  next c k _ =>
    have h : Steady s₀ (mapMet (k.key / 4294967296) (k.key % 4294967296) s) := steady_mapMet hs
    dsimp only
    split
    · exact steady_releaseClaim hs
    · refine steady_ite (steady_releaseClaim (steady_ite (steady_onChunk hs) (steady_splitFull hs))) ?_
      split
      · exact steady_releaseClaim (steady_count (steady_splitFull h))
      · exact steady_stageRec (steady_count (steady_count (steady_onChunk (steady_ite (steady_onGroup h) h))))

theorem steady_tryGrant {key : Nat} (hs : Steady s₀ s) : Steady s₀ (tryGrant key s) :=
  steady_ite hs (by
    split
    · exact hs
    · exact steady_ite (steady_ite hs (steady_count hs.same)) (by
        extract_lets
        split
        · exact steady_mergeBegin hs.same
        · exact steady_fullBegin hs.same
        · exact steady_itemGranted hs.same))

theorem steady_requestClaim {key : Nat} {x : Claimant} (hs : Steady s₀ s) : Steady s₀ (requestClaim key x s) :=
  steady_tryGrant hs.same

theorem steady_claimGrant {group stripe : Nat} (hs : Steady s₀ s) : Steady s₀ (claimGrant group stripe s) :=
  steady_tryGrant hs

theorem steady_mergeStart {group stripe : Nat} (hs : Steady s₀ s) : Steady s₀ (mergeStart group stripe s) := by
  unfold mergeStart
  extract_lets
  split
  · extract_lets
    split
    · exact steady_when hs (fun _ h₁ => steady_count h₁)
    · exact steady_when hs (fun _ h₁ => steady_requestClaim h₁)
  · exact hs

theorem steady_fullWrites {u i : Nat} (hs : Steady s₀ s) : Steady s₀ (fullWrites u i s) := by
  unfold fullWrites
  split
  · exact hs
  · split
    · exact hs
    · exact steady_onChunk (steady_foldl_fst (steady_fst (steady_parityRows hs)) (fun _ _ h₁ => steady_ite_fst h₁ (by
        split
        · exact h₁.same
        · exact h₁)))

theorem steady_fullCommit {u i : Nat} (hs : Steady s₀ s) : Steady s₀ (fullCommit u i s) := by
  unfold fullCommit
  split
  · exact hs
  · extract_lets
    split
    · exact hs
    · exact steady_ite (steady_stageRec (steady_onChunk hs)) hs

theorem steady_fullVisible {k : Chunk} (hs : Steady s₀ s) : Steady s₀ (fullVisible k s) := by
  unfold fullVisible
  extract_lets
  split
  · exact hs
  · exact steady_releaseClaim (steady_foldl (Steady.update (steady_ite (steady_zoneRec (steady_onGroup (steady_setMap (steady_count
        (steady_count hs.same))))) (steady_onGroup (steady_setMap (steady_count (steady_count hs.same)))))) (fun _ _ h₁ => by
      split
      · exact steady_unlistLost h₁
      · exact h₁))

theorem steady_encryptSome {vol epoch lba : Nat} {l acc : List Bytes} (hs : Steady s₀ s) : Steady s₀ (encryptSome vol epoch lba l acc s).1 := by
  induction l generalizing s lba acc with
  | nil => exact hs
  | cons d ds ih =>
    unfold encryptSome
    split
    next e => exact ih (steady_encryptBlock e hs)
    next => exact steady_fst (steady_ite (steady_markShort hs) hs)

theorem steady_encryptChunk {u i : Nat} (hs : Steady s₀ s) : Steady s₀ (encryptChunk u i s) := by
  unfold encryptChunk
  split
  · exact hs
  · split
    · exact hs
    · exact steady_onChunk (steady_encryptSome hs)

theorem steady_chunkStage {h i : Nat} (hs : Steady s₀ s) : Steady s₀ (chunkStage h i s) := by
  unfold chunkStage
  split
  · exact hs
  split
  · exact hs
  next c _ _ k _ =>
  refine steady_when (steady_when hs (fun _ h₁ => steady_count (steady_onChunk h₁))) (fun u h₁ => ?_)
  have hw : Steady s₀ (readWindow h u) := steady_readWindow h₁
  generalize readWindow h u = u at hw ⊢
  refine steady_ite (steady_onChunk (steady_stageRec hw)) (steady_ite ?_ ?_)
  · extract_lets v
    have hv : Steady s₀ v := by
      refine steady_ite ?_ hw
      split
      · exact steady_requestClaim (steady_onChunk hw)
      · exact hw
    clear_value v
    split
    · refine steady_ite ?_ hv
      split
      · exact steady_ite (steady_fullCommit (steady_fullWrites (steady_encryptChunk hv))) (steady_encryptChunk hv)
      · exact steady_encryptChunk hv
    · exact hv
  · have he : Steady s₀ (encryptChunk c.order i u) := steady_encryptChunk hw
    dsimp only
    split
    · exact steady_ite (steady_onChunk (steady_stageRec he)) he
    · exact he

theorem steady_unwrite {gi f n : Nat} (hs : Steady s₀ s) : Steady s₀ (unwrite gi f n s) := by
  unfold unwrite
  split
  · exact hs
  · exact steady_foldl (steady_foldl hs (fun _ _ h₁ => steady_setMap h₁)) (fun _ _ h₁ => steady_zoneRec h₁)

theorem steady_onDurable {r : Rec} (hs : Steady s₀ s) : Steady s₀ (onDurable r s) := by
  unfold onDurable
  extract_lets
  split
  · exact steady_onChunk (steady_count hs)
  · exact steady_ite (steady_mergeDone (steady_count hs)) (by
      split
      · exact steady_ite (steady_mergeWrites (Steady.update (steady_count hs))) (Steady.update (steady_count hs))
      · exact steady_count hs)
  · exact steady_ite (steady_fullCommit (steady_onChunk (steady_count hs))) (steady_onChunk (steady_count hs))
  · exact Steady.update (steady_count hs)
  · exact steady_ite (by
      extract_lets
      split
      · split
        · exact steady_endItem (steady_zoneRec (steady_setMap (steady_onVolume (Steady.update (steady_count hs)))))
        · exact steady_onVolume (Steady.update (steady_count hs))
      · exact steady_onVolume (Steady.update (steady_count hs))) (by
      extract_lets
      split
      · split
        · exact steady_unwrite (steady_onVolume (Steady.update (steady_count hs)))
        · exact steady_onVolume (Steady.update (steady_count hs))
      · exact steady_onVolume (Steady.update (steady_count hs)))
  · exact steady_count hs

theorem steady_settleDurable (hs : Steady s₀ s) : Steady s₀ (settleDurable s) :=
  steady_retireAll (steady_foldl (steady_markDurable hs) (fun _ _ h₁ => steady_onDurable h₁))

theorem steady_runParsed (hs : Steady s₀ s) : Steady s₀ (runParsed s) :=
  steady_foldl hs (fun _ _ h₁ => steady_nvmeFlush (steady_nvmeAbort (steady_nvmeKeepAlive (steady_inboxRoute (steady_nvmeDatasetManagement
      (steady_nvmeWriteZeroes (steady_nvmeWrite (steady_nvmeCompare (steady_nvmeRead h₁)))))))))

theorem steady_makeVisible {h : Nat} (hs : Steady s₀ s) : Steady s₀ (makeVisible h s) := by
  unfold makeVisible
  split
  · exact hs
  · exact steady_complete (steady_foldl (steady_cacheRemove hs.same) (fun _ _ h₁ => steady_fullVisible h₁))

theorem steady_finishWrites (hs : Steady s₀ s) : Steady s₀ (finishWrites s) :=
  steady_foldl hs (fun _ _ h₁ => by
    split
    · exact h₁
    · exact steady_ite h₁ (steady_ite (steady_makeVisible h₁) (steady_ite h₁ (steady_ite (steady_ite h₁ (steady_count (steady_onCmd h₁)))
          (steady_makeVisible h₁)))))

theorem steady_floatReturn {group phys : Nat} (hs : Steady s₀ s) : Steady s₀ (floatReturn group phys s) := by
  unfold floatReturn
  split
  · exact hs
  · exact steady_when hs (fun _ h₁ => steady_onGroup h₁)

theorem steady_abandonedCmd {c : DriveCmd} (hs : Steady s₀ s) : Steady s₀ (abandonedCmd c s) := by
  unfold abandonedCmd
  split
  · exact steady_foldl hs (fun _ _ h₁ => by
      split
      · split
        · exact steady_rowFor h₁
        · exact h₁
      · exact h₁)
  · exact steady_rowAnswer hs
  · exact steady_foldl (by
      split
      · exact hs.same
      · exact hs) (fun _ _ h₁ => steady_mergeRead h₁)
  · exact steady_mergeWrote hs
  · exact steady_fullCommit (steady_onChunk hs)
  · exact steady_itemLost hs
  · exact steady_itemLost hs
  · exact steady_serveImage hs
  · exact hs

theorem steady_losePosition {gi pos : Nat} (hs : Steady s₀ s) : Steady s₀ (losePosition gi pos s) := by
  unfold losePosition
  split
  · exact hs
  · exact steady_ite (steady_onGroup (steady_onGroup hs)) (steady_ite (steady_onGroup hs) (steady_ite (steady_groupOffline (steady_onGroup
        (steady_onGroup hs))) (steady_ite (steady_faultAt (steady_onGroup (steady_onGroup hs))) (steady_onGroup (steady_onGroup hs)))))

theorem steady_memberFail {bay cause : Nat} (hs : Steady s₀ s) : Steady s₀ (memberFail bay cause s) := by
  unfold memberFail
  refine steady_ite hs ?_
  extract_lets
  split
  next e =>
  have h := steady_of_eq e (steady_takeCommands (steady_raise (steady_onDrive hs)))
  refine steady_foldl (steady_foldl (steady_foldl (steady_lateWaste h) fun u c hu => ?_)
    (fun _ _ h₁ => steady_foldl h₁ (fun _ _ h₂ => steady_losePosition h₂))) (fun _ _ h₁ => steady_abandonedCmd h₁)
  split
  · exact steady_releaseBatch hu
  · exact hu

theorem steady_bayLost {bay cause : Nat} (hs : Steady s₀ s) : Steady s₀ (bayLost bay cause s) :=
  steady_memberFail (steady_failCopiesOn hs)

theorem steady_stopWrites {gi : Nat} {g : LGroup} (hs : Steady s₀ s) : Steady s₀ (stopWrites gi g s) :=
  steady_foldl hs (fun _ _ h₁ => steady_foldl (steady_unqueue h₁) (fun _ _ h₂ => by
    split
    · exact steady_itemLost h₂
    · exact steady_ite (steady_releaseClaim (h₂.same)) h₂
    · exact h₂))

theorem steady_volumeEdge (hs : Steady s₀ s) : Steady s₀ (volumeEdge s) :=
  steady_foldl (steady_foldl (steady_foldl hs (fun _ _ h₁ => steady_stopWrites h₁)) (fun _ _ h₁ => steady_endItem h₁))
      (fun _ _ h₁ => steady_askRow h₁)

theorem steady_mediaError {bay : Nat} (hs : Steady s₀ s) : Steady s₀ (mediaError bay s) :=
  Steady.cut (steady_foldl hs.same (fun _ _ h₁ => steady_count h₁)) fun k₁ =>
    steady_ite (steady_bayLost k₁) k₁

theorem steady_reservationLost (hs : Steady s₀ s) : Steady s₀ (reservationLost s) :=
  steady_ite hs hs.same

theorem steady_ledgerWrote {copy place count : Nat} {ok : Bool} (hs : Steady s₀ s) : Steady s₀ (ledgerWrote copy place count ok s) :=
  steady_ite (steady_settleDurable (steady_count (Steady.update (steady_releaseBatch hs)))) (steady_failTarget (steady_count
      (steady_releaseBatch hs)))

theorem steady_imagesEdge (hs : Steady s₀ s) : Steady s₀ (imagesEdge s) :=
  steady_foldl hs (fun _ _ h₁ => steady_serveImage h₁)

theorem steady_hostBlocks {u blk bay queue edge : Nat} {d : Bytes} {n : Nat} (hs : Steady s₀ s) : Steady s₀ (hostBlocks u blk bay queue edge d n s) :=
  steady_foldl hs (fun _ _ h₁ => steady_toCipher (by
    split
    · exact h₁
    · exact steady_ite h₁ (by
        split
        · exact steady_ite h₁ (steady_ite (steady_count h₁) (steady_cacheInsert h₁))
        · exact h₁)))

theorem steady_hostUnreadable {u blk bay : Nat} {c : DriveCmd} (hs : Steady s₀ s) : Steady s₀ (hostUnreadable u blk bay c s) :=
  steady_ite (steady_foldl hs (fun _ _ h₁ => h₁.same)) (by
    split
    · exact hs
    · split
      · exact steady_rowFor hs
      · exact hs)

theorem steady_consume {bay : Nat} {c : DriveCmd} {r : DriveResult} (hs : Steady s₀ s) : Steady s₀ (consume bay c r s) :=
  steady_ite (Steady.cut (by
    split
    · exact steady_ledgerWrote hs
    · exact steady_failTarget hs
    · exact steady_serveImage (steady_failTarget hs)
    · exact hs) fun k₁ =>
    steady_ite (steady_count k₁) (steady_reservationLost (steady_count k₁))) (by
    split
    · exact steady_ite (steady_hostBlocks hs) (steady_hostUnreadable (steady_ite (steady_mediaError hs) hs))
    · exact steady_ite (steady_rowAnswer hs) (steady_rowUnreadable (steady_ite (steady_mediaError hs) hs))
    · exact steady_ite (steady_mergeRead hs) (steady_mergeRead (steady_ite (steady_mediaError hs) hs))
    · exact steady_ite (steady_itemRead hs) (steady_ite (steady_itemSplit hs) (steady_itemRead (steady_ite (steady_mediaError hs) hs)))
    · exact steady_ite (steady_itemWrote hs) (steady_itemLost (steady_bayLost hs))
    · exact steady_mergeWrote (steady_ite hs (steady_bayLost hs))
    · exact steady_fullCommit (steady_onChunk (steady_ite hs (steady_bayLost hs)))
    · exact steady_ite (steady_ledgerWrote hs) (steady_bayLost (steady_ledgerWrote hs))
    · exact steady_ite (steady_count hs.same) (steady_bayLost (steady_failTarget hs))
    · exact steady_serveImage (steady_ite (steady_repairImage hs) (steady_bayLost (steady_failTarget hs)))
    · exact steady_ite hs (steady_bayLost hs)
    · exact steady_ite hs (steady_bayLost hs))

theorem steady_adminDone {bay : Nat} {r : DriveResult} (hs : Steady s₀ s) : Steady s₀ (adminDone bay r s) :=
  steady_when hs (fun _ h₁ => steady_done (steady_onDrive (steady_takeEntry h₁)))

theorem steady_driveCompletion {bay cid : Nat} {r : DriveResult} (hs : Steady s₀ s) : Steady s₀ (driveCompletion bay cid r s) :=
  steady_ite (steady_adminDone hs) (by
    split
    · exact hs
    · exact steady_when hs (fun _ h₁ => steady_consume (steady_count (steady_count (steady_count (steady_count (steady_onDrive
          (steady_takeEntry h₁))))))))

theorem steady_ledgerWriteComplete {copy place count : Nat} {ok : Bool} (hs : Steady s₀ s) : Steady s₀
    (ledgerWriteComplete copy place count ok s) := by
  unfold ledgerWriteComplete
  split
  · exact hs
  · split
    · exact hs
    · exact steady_driveCompletion hs

theorem steady_memberTimeout {bay cid : Nat} (hs : Steady s₀ s) : Steady s₀ (memberTimeout bay cid s) := by
  unfold memberTimeout
  split
  · exact hs
  · exact steady_when hs (fun _ h₁ => steady_bayLost (steady_driveState (steady_count h₁)))

theorem steady_ledgerCopyTimeout {copy : Nat} (hs : Steady s₀ s) : Steady s₀ (ledgerCopyTimeout copy s) := by
  unfold ledgerCopyTimeout
  split
  · exact hs
  · exact steady_when hs (fun _ h₁ => steady_failTarget h₁)

/-! ### Volumes -/

theorem steady_giveSpare {bay n : Nat} (hs : Steady s₀ s) : Steady s₀ (giveSpare bay n s) :=
  steady_foldl hs.same (fun _ _ h₁ => steady_count (steady_onGroup h₁))

theorem steady_takeFor {gi pos : Nat} {g : LGroup} (hs : Steady s₀ s) : Steady s₀ (takeFor gi pos g s) := by
  unfold takeFor
  extract_lets
  split
  · exact steady_giveSpare hs
  · exact steady_ite hs (steady_faultAt (steady_onGroup hs))

theorem steady_spareTake {group : Nat} (hs : Steady s₀ s) : Steady s₀ (spareTake group s) := by
  unfold spareTake
  split
  · exact hs
  · exact steady_when hs (fun _ h₁ => steady_foldl h₁ (fun _ _ h₂ => by
      split
      · exact steady_ite (steady_takeFor h₂) h₂
      · exact h₂))

theorem steady_claimItem {id : Nat} {keys : List Nat} {parts : List StripePart} (hs : Steady s₀ s) : Steady s₀ (claimItem id keys parts s) :=
  steady_foldl hs.same (fun _ _ h₁ => steady_requestClaim h₁)

theorem steady_checkpoint {cursor : Nat} (hs : Steady s₀ s) : Steady s₀ (checkpoint cursor s) :=
  steady_ite hs.same hs

theorem steady_rebuildStep {gi : Nat} (hs : Steady s₀ s) : Steady s₀ (rebuildStep gi s) := by
  unfold rebuildStep
  split
  · exact hs
  · exact steady_checkpoint (steady_onGroup hs)

theorem steady_startRebuild {gi : Nat} (hs : Steady s₀ s) : Steady s₀ (startRebuild gi s) := by
  unfold startRebuild
  split
  · exact hs
  · exact steady_ite hs (by
      split
      · exact steady_claimItem hs
      · exact hs)

theorem steady_rebuildItemComplete {group stripe : Nat} (hs : Steady s₀ s) : Steady s₀ (rebuildItemComplete group stripe s) := by
  unfold rebuildItemComplete
  split
  · exact hs
  · exact steady_ite hs (by
      split
      · exact steady_when hs (fun _ h₁ => steady_ite (steady_endItem (steady_rebuildStep (steady_count h₁))) (steady_endItem h₁))
      · exact steady_when hs (fun _ h₁ => steady_rebuildStep (steady_count h₁)))

theorem steady_startScrub {gi : Nat} (hs : Steady s₀ s) : Steady s₀ (startScrub gi s) := by
  unfold startScrub
  split
  · exact hs
  · exact steady_ite hs (by
      split
      · exact steady_claimItem hs
      · exact hs)

theorem steady_scrubPast {gi : Nat} (hs : Steady s₀ s) : Steady s₀ (scrubPast gi s) := by
  unfold scrubPast
  split
  · exact hs
  · exact steady_checkpoint (steady_onGroup hs)

theorem steady_scrubItemComplete {group stripe : Nat} (hs : Steady s₀ s) : Steady s₀ (scrubItemComplete group stripe s) := by
  unfold scrubItemComplete
  split
  · exact hs
  · exact steady_ite hs (by
      split
      · exact steady_when hs (fun _ h₁ => steady_endItem (steady_scrubPast (steady_count h₁)))
      · exact steady_when hs (fun _ h₁ => steady_scrubPast h₁))

theorem steady_startCopy {v : Nat} (hs : Steady s₀ s) : Steady s₀ (startCopy v s) := by
  unfold startCopy
  split
  · exact hs
  · split
    · exact hs
    · split
      · exact steady_ite hs (steady_claimItem hs)
      · exact hs

theorem steady_reshapeCopyCommit {vol : Nat} (hs : Steady s₀ s) : Steady s₀ (reshapeCopyCommit vol s) := by
  unfold reshapeCopyCommit
  split
  · exact hs
  · split
    · exact hs
    · split
      · exact steady_ite (steady_when hs (fun _ h₁ => steady_deviceRec h₁)) (by
          split
          · exact hs
          · exact steady_when hs (fun _ h₁ => steady_count (steady_deviceRec (h₁.same))))
      · exact hs

theorem steady_layoutEdge (hs : Steady s₀ s) : Steady s₀ (layoutEdge s) :=
  steady_foldl (steady_foldl (steady_volumeEdge hs) (fun _ _ h₁ => steady_startScrub (steady_startRebuild h₁))) (fun _ _ h₁ => steady_startCopy h₁)

theorem steady_layoutCommand {par : Bytes} {act : Bytes → State → State} (hact : ∀ a b, Steady s₀ b → Steady s₀ (act a b))
    (hs : Steady s₀ s) : Steady s₀ (layoutCommand par act s) :=
  steady_command hs (fun _ _ h₁ => hact _ _ h₁)

theorem steady_groupCreate {p : Bytes} (hs : Steady s₀ s) : Steady s₀ (groupCreate p s) :=
  steady_ite hs.same (steady_ite hs.same (steady_ite hs.same (by
    split
    · exact hs.same
    · exact steady_done (steady_persist (steady_layMap hs.same)))))

theorem steady_groupDelete {p : Bytes} (hs : Steady s₀ s) : Steady s₀ (groupDelete p s) :=
  steady_ite hs.same (steady_ite hs.same (steady_done (steady_persist (Steady.update (steady_endItem (steady_endItem hs))))))

theorem steady_groupQuery {p : Bytes} (hs : Steady s₀ s) : Steady s₀ (groupQuery p s) :=
  steady_ite hs.same (by
    split <;> exact hs.same)

theorem steady_volumeCreate {p : Bytes} (hs : Steady s₀ s) : Steady s₀ (volumeCreate p s) := by
  unfold volumeCreate
  extract_lets
  split
  · exact hs.same
  · exact steady_ite hs.same (steady_ite hs.same (steady_ite hs.same (steady_ite hs.same hs.same)))

theorem steady_volumeDelete {p : Bytes} (hs : Steady s₀ s) : Steady s₀ (volumeDelete p s) := by
  unfold volumeDelete
  extract_lets
  split
  · exact hs.same
  · exact steady_ite hs.same (steady_done (steady_persist (Steady.update (steady_eraseKeys (steady_cacheRemove (steady_unwrite hs))))))

theorem steady_volumeQuery {p : Bytes} (hs : Steady s₀ s) : Steady s₀ (volumeQuery p s) := by
  unfold volumeQuery
  extract_lets
  split <;> exact hs.same

theorem steady_reshapeStart {p : Bytes} (hs : Steady s₀ s) : Steady s₀ (reshapeStart p s) := by
  unfold reshapeStart
  extract_lets
  split
  · exact steady_ite hs.same (steady_ite hs.same (steady_ite hs.same (steady_ite hs.same (steady_done (steady_persist (steady_onVolume hs))))))
  · exact hs.same

theorem steady_reshapePauseResume {p : Bytes} (hs : Steady s₀ s) : Steady s₀ (reshapePauseResume p s) := by
  unfold reshapePauseResume
  extract_lets
  split
  · exact hs.same
  · exact steady_ite hs.same (steady_done (steady_persist (steady_onVolume hs)))

theorem steady_rebuildStart {p : Bytes} (hs : Steady s₀ s) : Steady s₀ (rebuildStart p s) := by
  unfold rebuildStart
  extract_lets
  split
  · exact hs.same
  · split
    · exact hs.same
    · split
      · exact steady_ite hs.same (steady_done (steady_onGroup (steady_giveSpare hs)))
      · exact hs.same

theorem steady_scrubControl {p : Bytes} (hs : Steady s₀ s) : Steady s₀ (scrubControl p s) := by
  unfold scrubControl
  extract_lets
  split
  · exact hs.same
  · exact steady_ite hs.same (steady_ite hs.same (steady_done (steady_onGroup hs)))

theorem steady_memberFailCommand {p : Bytes} (hs : Steady s₀ s) : Steady s₀ (memberFailCommand p s) := by
  unfold memberFailCommand
  extract_lets
  split
  · exact hs.same
  · exact steady_ite hs.same (by
      split
      · exact hs.same
      · exact steady_done (steady_bayLost hs))

theorem steady_lostListFetch {p : Bytes} (hs : Steady s₀ s) : Steady s₀ (lostListFetch p s) := by
  unfold lostListFetch
  extract_lets
  split <;> exact hs.same

/-! ### Ledger -/

theorem steady_recordSubmit (hs : Steady s₀ s) : Steady s₀ (recordSubmit s) :=
  steady_when hs (fun _ h₁ => steady_foldl (steady_placeAll h₁) (fun _ _ h₂ => steady_writeRun h₂))

theorem steady_replicationBufferRelease {place : Nat} (hs : Steady s₀ s) : Steady s₀ (replicationBufferRelease place s) :=
  steady_when hs (fun _ h₁ => h₁.same)

theorem steady_checkpointPersisted {v : Nat} (hs : Steady s₀ s) : Steady s₀ (checkpointPersisted v s) := by
  unfold checkpointPersisted
  split
  · exact hs.same
  · exact steady_ite hs.same (by
      split
      · exact hs.same
      · exact steady_retireAll hs.same)

theorem steady_seedWrites {slot bay first n : Nat} (hs : Steady s₀ s) : Steady s₀ (seedWrites slot bay first n s) :=
  steady_foldl hs (fun _ _ h₁ => h₁.same)

theorem steady_copyReplace {p : Bytes} (hs : Steady s₀ s) : Steady s₀ (copyReplace p s) :=
  steady_ite hs.same (steady_ite hs.same (steady_done (steady_seedWrites hs.same)))

theorem steady_resumeWrites (hs : Steady s₀ s) : Steady s₀ (resumeWrites s) :=
  steady_ite hs.same hs

theorem steady_seedingComplete {copy : Nat} (hs : Steady s₀ s) : Steady s₀ (seedingComplete copy s) := by
  unfold seedingComplete
  exact steady_when hs (fun _ h₁ => steady_settleDurable (steady_resumeWrites (steady_onCopy (Steady.update (steady_onDrive (by
    split
    · exact steady_takeCommands h₁
    · exact h₁))))))

theorem steady_ledgerCommand {par : Bytes} {act : Bytes → State → State} (hact : ∀ a b, Steady s₀ b → Steady s₀ (act a b))
    (hs : Steady s₀ s) : Steady s₀ (ledgerCommand par act s) :=
  steady_command hs (fun _ _ h₁ => hact _ _ h₁)

theorem steady_ledgerCreate {p : Bytes} (hs : Steady s₀ s) : Steady s₀ (ledgerCreate p s) :=
  steady_ite hs.same (steady_ite hs.same (steady_ite hs.same hs.same))

theorem steady_replay {p : Bytes} (hs : Steady s₀ s) : Steady s₀ (replay p s) :=
  steady_ite hs.same hs.same

theorem steady_loadRec {b : Bytes} (hs : Steady s₀ s) : Steady s₀ (loadRec b s) :=
  Steady.update (steady_foldl hs (fun _ _ h₁ => steady_hbmPut h₁))

theorem steady_remaps {gi page : Nat} {r : Rec} (hs : Steady s₀ s) : Steady s₀ (remaps gi page r s) :=
  steady_foldl hs (fun _ _ h₁ => steady_onGroup h₁)

theorem steady_applyRec {b : Bytes} (hs : Steady s₀ s) : Steady s₀ (applyRec b s) :=
  steady_ite (steady_foldl hs (fun _ _ h₁ => steady_remaps (steady_onGroup h₁))) (steady_ite (steady_onGroup (steady_remaps
      (steady_onGroup hs.same))) (steady_ite (by
    split
    · exact steady_ite hs.same (steady_onGroup hs.same)
    · exact hs) (steady_ite (steady_onVolume (by
    split
    · exact steady_onGroup hs
    · exact hs)) (steady_ite (steady_onVolume (by
    split
    · split
      · exact steady_onGroup hs
      · exact hs
    · exact hs)) hs))))

theorem steady_applyZone {x : ReplayScan} {gi n : Nat} (hs : Steady s₀ s) : Steady s₀ (applyZone x gi n s) := by
  unfold applyZone
  extract_lets
  split
  · exact steady_ite (steady_onGroup hs) (steady_repairAt (steady_onGroup hs))
  · exact steady_groupOffline hs
  · exact hs

theorem steady_replayRebuild {d : Bytes} {x : ReplayScan} {load : List (Bytes × List Nat)} {app : List Bytes} {discarded : Nat} {good : List Nat}
    (hs : Steady s₀ s) : Steady s₀ (replayRebuild d x load app discarded good s) :=
  steady_foldl (steady_lateWaste (steady_foldl (steady_foldl (Steady.update (steady_foldl (steady_foldl (steady_foldl (steady_foldl hs.same
      (fun _ _ h₁ => steady_applyZone h₁)) (fun _ _ h₁ => steady_groupOffline h₁)) (fun _ _ h₁ => steady_loadRec h₁))
      (fun _ _ h₁ => steady_applyRec h₁))) (fun _ _ h₁ => steady_layMap h₁)) (fun _ _ h₁ => steady_foldl h₁ (fun _ _ h₂ => h₂.same))))
      (fun _ _ h₁ => steady_count (h₁.same))

theorem steady_replayOpen {d : Bytes} {found : List Bytes} (hs : Steady s₀ s) : Steady s₀ (replayOpen d found s) :=
  steady_retireAll (steady_ite (steady_faultAt (steady_ite hs.same hs.same)) (steady_ite hs.same hs.same))

theorem steady_replayComplete {x : ReplayScan} (hs : Steady s₀ s) : Steady s₀ (replayComplete x s) := by
  unfold replayComplete
  split
  · exact hs
  · exact steady_ite hs.same (steady_done (steady_replayOpen (steady_replayRebuild hs)))

theorem steady_drain {x : Bytes} (hs : Steady s₀ s) : Steady s₀ (drain x s) :=
  steady_ite hs.same hs.same

theorem steady_drainComplete (hs : Steady s₀ s) : Steady s₀ (drainComplete s) := by
  unfold drainComplete
  split
  · exact hs
  · exact steady_when hs (fun _ h₁ => h₁.same)

theorem steady_pwrfailWarning (hs : Steady s₀ s) : Steady s₀ (pwrfailWarning s) :=
  steady_when hs (fun _ h₁ => h₁.same)

/-! ### Cipher -/

theorem steady_keyHoldExpiry {lane vol epoch : Nat} (hs : Steady s₀ s) : Steady s₀ (keyHoldExpiry lane vol epoch s) := by
  unfold keyHoldExpiry
  exact steady_when hs (fun _ h₁ => steady_count (h₁.same))

theorem steady_wseqGrant {v : Nat} (hs : Steady s₀ s) : Steady s₀ (wseqGrant v s) :=
  steady_ite (steady_count hs.same) (steady_count hs.same)

theorem steady_serviceDescriptor (hs : Steady s₀ s) : Steady s₀ (serviceDescriptor s) :=
  steady_when hs (fun _ h₁ => Steady.update (steady_hbmGet h₁))

theorem steady_serviceItem {i : Nat} (hs : Steady s₀ s) : Steady s₀ (serviceItem i s) :=
  hs.same

theorem steady_serviceFill {f : Nat} (hs : Steady s₀ s) : Steady s₀ (serviceFill f s) := by
  induction f generalizing s with
  | zero => exact hs
  | succ f ih =>
    unfold serviceFill
    split
    · exact steady_ite (ih (steady_serviceItem hs)) hs
    · exact hs

theorem steady_serviceItems (hs : Steady s₀ s) : Steady s₀ (serviceItems s) := by
  unfold serviceItems
  split
  · exact hs
  · exact steady_ite hs (steady_ite hs.same (steady_serviceFill hs))

theorem steady_svcRun {d : Bytes} (hs : Steady s₀ s) : Steady s₀ (svcRun d s).1 :=
  steady_ite_fst hs.same (by
    split
    · exact hs
    · extract_lets
      split
      next _ _ _ e =>
      have k₁ := steady_of_eq e (steady_hbmGet hs)
      split
      next _ _ _ e =>
      have k₂ := steady_of_eq e (steady_ite_fst (steady_hbmGet k₁) k₁)
      exact steady_ite_fst k₂ (steady_ite_fst (steady_fst (steady_hbmPut k₂)) (steady_ite_fst (steady_fst (steady_hbmPut k₂)) (steady_fst
          (steady_hbmPut k₂)))))

theorem steady_serviceDescriptorComplete (hs : Steady s₀ s) : Steady s₀ (serviceDescriptorComplete s) := by
  unfold serviceDescriptorComplete
  split
  · exact hs
  · exact steady_when hs (fun _ h₁ => steady_emit (steady_count (Steady.update (steady_hbmPut (steady_ite_fst h₁ (steady_svcRun h₁))))))

theorem steady_randomHealthFail (hs : Steady s₀ s) : Steady s₀ (randomHealthFail s) :=
  steady_when hs (fun _ h₁ => h₁.same)

theorem steady_cipherCommand {par : Bytes} {act : Bytes → State → State} (hact : ∀ a b, Steady s₀ b → Steady s₀ (act a b))
    (hs : Steady s₀ s) : Steady s₀ (cipherCommand par act s) :=
  steady_command hs (fun _ _ h₁ => hact _ _ h₁)

theorem steady_fwCommand {par : Bytes} {act : Bytes → State → State} (hact : ∀ a b, Steady s₀ b → Steady s₀ (act a b))
    (hs : Steady s₀ s) : Steady s₀ (fwCommand par act s) :=
  steady_command hs (fun _ _ h₁ => hact _ _ h₁)

theorem steady_rootCreate {signed : Bool} {x : Bytes} (hs : Steady s₀ s) : Steady s₀ (rootCreate signed x s) := by
  unfold rootCreate
  exact steady_ite hs.same (steady_ite hs.same (steady_ite hs.same (steady_done hs.same)))

theorem steady_unwrap {p : Bytes} (hs : Steady s₀ s) : Steady s₀ (unwrap p s) :=
  steady_ite hs.same (steady_ite hs.same hs.same)

theorem steady_enroll {signed : Bool} {p : Bytes} (hs : Steady s₀ s) : Steady s₀ (enroll signed p s) := by
  unfold enroll
  refine steady_ite hs.same ?_
  split
  · exact hs.same
  · exact steady_ite hs.same (steady_ite hs.same hs.same)

theorem steady_escrowExport {signed : Bool} {p : Bytes} (hs : Steady s₀ s) : Steady s₀ (escrowExport signed p s) := by
  unfold escrowExport
  refine steady_ite hs.same ?_
  split
  · exact hs.same
  · exact steady_ite hs.same hs.same

theorem steady_rootUnload {x : Bytes} (hs : Steady s₀ s) : Steady s₀ (rootUnload x s) :=
  steady_ite hs.same hs.same

theorem steady_cipherEdge (hs : Steady s₀ s) : Steady s₀ (cipherEdge s) :=
  Steady.update (steady_ite (steady_eraseKeys hs.same) hs)

theorem steady_volumeRekey {p : Bytes} (hs : Steady s₀ s) : Steady s₀ (volumeRekey p s) :=
  steady_ite hs.same (steady_done (steady_count (steady_persist (steady_onVolume hs.same))))

theorem steady_restore {p : Bytes} (hs : Steady s₀ s) : Steady s₀ (restore p s) :=
  steady_ite hs.same hs.same

theorem steady_volumeEpochQuery {p : Bytes} (hs : Steady s₀ s) : Steady s₀ (volumeEpochQuery p s) := by
  unfold volumeEpochQuery
  split <;> exact hs.same

theorem steady_operatorKeyWrite {slot : Nat} {signed : Bool} {key : Bytes} (hs : Steady s₀ s) : Steady s₀ (operatorKeyWrite slot signed key s) :=
  steady_ite hs.same (steady_ite hs.same (steady_ite hs.same (steady_ite hs.same hs.same)))

theorem steady_measurementExtend {p : Bytes} (hs : Steady s₀ s) : Steady s₀ (measurementExtend p s) :=
  steady_ite hs.same hs.same

theorem steady_attest {p : Bytes} (hs : Steady s₀ s) : Steady s₀ (attest p s) :=
  steady_ite hs.same hs.same

theorem steady_rollbackAdvance {signed : Bool} {p : Bytes} (hs : Steady s₀ s) : Steady s₀ (rollbackAdvance signed p s) :=
  steady_ite hs.same (steady_ite hs.same hs.same)

theorem steady_oemRevoke {signed : Bool} {p : Bytes} (hs : Steady s₀ s) : Steady s₀ (oemRevoke signed p s) :=
  steady_ite hs.same (steady_ite hs.same hs.same)

/-! ### Bays -/

theorem steady_bayEvent {src n : Nat} (hs : Steady s₀ s) : Steady s₀ (bayEvent src n s) :=
  hs.same

theorem steady_darken {n : Nat} (hs : Steady s₀ s) : Steady s₀ (darken n s) := by
  unfold darken
  exact steady_onDrive (steady_driveGone hs.same)

theorem steady_leaveFor {n st : Nat} (hs : Steady s₀ s) : Steady s₀ (leaveFor n st s) :=
  steady_ite (steady_bayLost (steady_onBay (steady_darken hs))) (steady_onBay (steady_darken hs))

theorem steady_cutCycle {n : Nat} (hs : Steady s₀ s) : Steady s₀ (cutCycle n s) :=
  steady_ite hs.same hs

theorem steady_startRamp {n : Nat} (hs : Steady s₀ s) : Steady s₀ (startRamp n s) :=
  steady_ite (steady_doneNow (steady_count hs.same)) (steady_count hs.same)

theorem steady_bayFault {n cause : Nat} (hs : Steady s₀ s) : Steady s₀ (bayFault n cause s) :=
  steady_ite (steady_count (steady_bayEvent (steady_leaveFor (steady_onBay (steady_count hs.same))))) (steady_onBay (steady_leaveFor (steady_onBay
      (steady_count hs.same))))

theorem steady_startShutdown {n : Nat} (hs : Steady s₀ s) : Steady s₀ (startShutdown n s) :=
  steady_ite (steady_onDrive (steady_bayLost hs.same)) (steady_driveGone (steady_onBay (steady_onDrive (steady_bayLost hs.same))))

theorem steady_adcCount {n : Nat} {r : AdcReading} (hs : Steady s₀ s) : Steady s₀ (adcCount n r s) :=
  steady_onBay (steady_foldl hs (fun _ _ h₁ => steady_ite (h₁.same) (h₁.same)))

theorem steady_measureBay {n : Nat} {r : AdcReading} (hs : Steady s₀ s) : Steady s₀ (measureBay n r s) :=
  hs.same

theorem steady_countBay {n : Nat} (hs : Steady s₀ s) : Steady s₀ (countBay n s) :=
  hs.same

theorem steady_fenceBay {n : Nat} (hs : Steady s₀ s) : Steady s₀ (fenceBay n s) :=
  steady_ite (steady_cutCycle hs.same) (steady_ite hs.same (steady_leaveFor (steady_cutCycle (steady_ite (steady_count hs.same) hs.same))))

theorem steady_levelBay {n : Nat} (hs : Steady s₀ s) : Steady s₀ (levelBay n s) :=
  steady_ite (steady_ite (steady_startShutdown (steady_cutCycle hs)) (steady_ite (steady_leaveFor (steady_cutCycle hs)) (steady_ite
      (steady_cutCycle hs) hs))) (steady_ite (steady_ite (steady_startRamp hs) hs.same) (steady_ite hs.same hs))

theorem steady_baysOff (hs : Steady s₀ s) : Steady s₀ (baysOff s) :=
  steady_foldl hs (fun _ _ h₁ => steady_ite h₁ (steady_ite (steady_darken h₁) (steady_leaveFor (steady_cutCycle h₁))))

theorem steady_baysStart (hs : Steady s₀ s) : Steady s₀ (baysStart s) :=
  steady_foldl hs (fun _ _ h₁ => h₁.same)

theorem steady_portsOff {domain : Nat} (hs : Steady s₀ s) : Steady s₀ (portsOff domain s) :=
  steady_foldl hs (fun _ _ h₁ => steady_driveGone (steady_ite (steady_bayLost (h₁.same)) (h₁.same)))

theorem steady_presenceChange {bay : Nat} {a b : Bool} (hs : Steady s₀ s) : Steady s₀ (presenceChange bay a b s) :=
  steady_when hs (fun _ h₁ => steady_ite (steady_count (h₁.same)) (steady_ite (steady_count (h₁.same)) (h₁.same)))

theorem steady_seatingComplete {bay : Nat} (hs : Steady s₀ s) : Steady s₀ (seatingComplete bay s) :=
  steady_when hs (fun _ h₁ => steady_startRamp h₁)

theorem steady_perstRelease {bay : Nat} (hs : Steady s₀ s) : Steady s₀ (perstRelease bay s) := by
  unfold perstRelease
  exact steady_when hs (fun _ h₁ => h₁.same)

theorem steady_fastTrip {bay : Nat} (hs : Steady s₀ s) : Steady s₀ (fastTrip bay s) :=
  steady_when hs (fun _ h₁ => h₁.same)

theorem steady_efuseTrip {bay : Nat} {aux : Bool} (hs : Steady s₀ s) : Steady s₀ (efuseTrip bay aux s) :=
  steady_when hs (fun _ h₁ => steady_bayFault h₁)

theorem steady_gateStuck {bay : Nat} (hs : Steady s₀ s) : Steady s₀ (gateStuck bay s) :=
  steady_when hs (fun _ h₁ => steady_bayFault h₁)

theorem steady_outputOutOfWindow {bay : Nat} (hs : Steady s₀ s) : Steady s₀ (outputOutOfWindow bay s) :=
  steady_when hs (fun _ h₁ => steady_bayFault h₁)

theorem steady_pgTimeout {bay : Nat} (hs : Steady s₀ s) : Steady s₀ (pgTimeout bay s) :=
  steady_when hs (fun _ h₁ => steady_bayFault h₁)

theorem steady_passElementShort {bay : Nat} (hs : Steady s₀ s) : Steady s₀ (passElementShort bay s) :=
  steady_when hs (fun _ h₁ => steady_onBay (steady_count (h₁.same)))

theorem steady_retryTimerExpiry {bay : Nat} (hs : Steady s₀ s) : Steady s₀ (retryTimerExpiry bay s) :=
  steady_when hs (fun _ h₁ => steady_startRamp (steady_ite h₁ (steady_count h₁)))

theorem steady_adcFault {bay channel : Nat} {stopped : Bool} (hs : Steady s₀ s) : Steady s₀ (adcFault bay channel stopped s) :=
  steady_when hs (fun _ h₁ => h₁.same)

theorem steady_shutdownPerst {bay : Nat} (hs : Steady s₀ s) : Steady s₀ (shutdownPerst bay s) :=
  steady_driveGone hs.same

theorem steady_driveShutdownComplete {bay : Nat} (hs : Steady s₀ s) : Steady s₀ (driveShutdownComplete bay s) :=
  steady_when hs (fun _ h₁ => steady_shutdownPerst h₁)

theorem steady_shutdownTimeout {bay : Nat} (hs : Steady s₀ s) : Steady s₀ (shutdownTimeout bay s) :=
  steady_when hs (fun _ h₁ => steady_shutdownPerst (steady_count h₁))

theorem steady_shutdownGateOff {bay : Nat} (hs : Steady s₀ s) : Steady s₀ (shutdownGateOff bay s) :=
  steady_when hs (fun _ h₁ => steady_ite (steady_onBay (steady_leaveFor h₁)) (steady_leaveFor h₁))

theorem steady_bayEnableWrite {bay v : Nat} (hs : Steady s₀ s) : Steady s₀ (bayEnableWrite bay v s) :=
  steady_ite hs.same (steady_ite hs.same (steady_ite hs.same hs.same))

theorem steady_raiseGate {n : Nat} (hs : Steady s₀ s) : Steady s₀ (raiseGate n s) :=
  steady_when hs (fun _ h₁ => h₁.same)

theorem steady_stepBay {n : Nat} (hs : Steady s₀ s) : Steady s₀ (stepBay n s) :=
  steady_shutdownGateOff (steady_shutdownTimeout (steady_retryTimerExpiry (steady_seatingComplete (steady_perstRelease (steady_ite hs.same hs)))))

theorem steady_evalBay {n : Nat} {r : Option AdcReading} (hs : Steady s₀ s) : Steady s₀ (evalBay n r s) :=
  Steady.cut (steady_countBay (steady_raiseGate (by
    split
    · exact steady_measureBay (steady_adcCount hs)
    · exact hs))) fun k₁ =>
    Steady.cut (steady_ite (steady_cutCycle (steady_ite (steady_fenceBay k₁) k₁)) (steady_ite (steady_fenceBay k₁) k₁)) fun k₂ =>
      steady_ite (steady_leaveFor (steady_cutCycle (k₂.same))) (steady_ite (steady_bayFault k₂) (by
        extract_lets
        split
        · exact steady_ite (steady_passElementShort (k₂.same)) (steady_bayFault (k₂.same))
        · exact steady_ite (steady_count (k₂.same)) (steady_ite (steady_levelBay (k₂.same)) (steady_stepBay (steady_levelBay (k₂.same))))))

theorem steady_evalBays {rs : List AdcReading} (hs : Steady s₀ s) : Steady s₀ (evalBays rs s) :=
  steady_ite hs (steady_foldl hs (fun _ _ h₁ => steady_evalBay h₁))

theorem steady_bayCommand {bay : Nat} {par : Bytes} {act : Bytes → State → State} (hact : ∀ a b, Steady s₀ b → Steady s₀ (act a b))
    (hs : Steady s₀ s) : Steady s₀ (bayCommand bay par act s) :=
  steady_ite hs.same (steady_command hs (fun _ _ h₁ => hact _ _ h₁))

theorem steady_bayRelease {bay : Nat} {x : Bytes} (hs : Steady s₀ s) : Steady s₀ (bayRelease bay x s) :=
  steady_ite hs.same hs.same

theorem steady_bayEnergyClear {bay : Nat} {x : Bytes} (hs : Steady s₀ s) : Steady s₀ (bayEnergyClear bay x s) :=
  hs.same

theorem steady_bayPowerCycle {bay : Nat} {x : Bytes} (hs : Steady s₀ s) : Steady s₀ (bayPowerCycle bay x s) :=
  steady_ite hs.same (steady_onBay (steady_startShutdown hs))

theorem steady_bayHistoryClear {bay : Nat} {x : Bytes} (hs : Steady s₀ s) : Steady s₀ (bayHistoryClear bay x s) :=
  hs.same

/-! ### Bell -/

theorem steady_unalign (hs : Steady s₀ s) : Steady s₀ (State.unalign s) :=
  steady_ite hs.same hs

theorem steady_requestRealign {rebase : Bool} (hs : Steady s₀ s) : Steady s₀ (State.requestRealign s rebase) :=
  hs.same

theorem steady_ptpLockWrite {v : Nat} (hs : Steady s₀ s) : Steady s₀ (ptpLockWrite v s) :=
  steady_ite (steady_ite hs.same hs.same) (steady_ite (steady_status (steady_unalign hs.same)) hs.same)

theorem steady_lockHoldoverExpired (hs : Steady s₀ s) : Steady s₀ (lockHoldoverExpired s) :=
  steady_when hs (fun _ h₁ => steady_unalign h₁)

theorem steady_bellPhaseWrite {v : Nat} (hs : Steady s₀ s) : Steady s₀ (bellPhaseWrite v s) :=
  steady_ite (steady_ite (steady_requestRealign (steady_unalign hs.same)) hs.same) hs.same

theorem steady_changeClock {c : ClockChange} (hs : Steady s₀ s) : Steady s₀ (changeClock c s) :=
  steady_ite (steady_requestRealign (steady_unalign hs.same)) hs.same

theorem steady_scalarCommand {key set size : Nat} {par : Bytes} {act : Bytes → State → State} (hact : ∀ a b, Steady s₀ b → Steady s₀ (act a b))
    (hs : Steady s₀ s) : Steady s₀ (scalarCommand key set size par act s) :=
  steady_ite (steady_command hs (fun _ _ h₁ => hact _ _ h₁)) (steady_ite hs.same hs.same)

theorem steady_timeStep {par : Bytes} (hs : Steady s₀ s) : Steady s₀ (timeStep par s) :=
  steady_scalarCommand (fun _ _ h₁ => steady_ite (steady_changeClock h₁) (h₁.same)) hs

theorem steady_timeSet {par : Bytes} (hs : Steady s₀ s) : Steady s₀ (timeSet par s) :=
  steady_command hs (fun _ _ h₁ => steady_ite (steady_changeClock h₁) (h₁.same))

theorem steady_rebase {par : Bytes} (hs : Steady s₀ s) : Steady s₀ (rebase par s) :=
  steady_scalarCommand (fun _ _ h₁ => steady_ite (h₁.same) (steady_ite (h₁.same) (h₁.same))) hs

theorem steady_realignment (hs : Steady s₀ s) : Steady s₀ (realignment s) := by
  unfold realignment
  split
  · exact hs
  · exact steady_ite hs (steady_ite (steady_ite hs.same hs.same) hs.same)

theorem steady_referenceFail (hs : Steady s₀ s) : Steady s₀ (referenceFail s) :=
  steady_when hs (fun _ h₁ => h₁.same)

theorem steady_referenceAtStart (hs : Steady s₀ s) : Steady s₀ (referenceAtStart s) :=
  steady_when hs (fun _ h₁ => h₁.same)

theorem steady_repeaterFail {die n : Nat} (hs : Steady s₀ s) : Steady s₀ (repeaterFail die n s) :=
  hs.same

theorem steady_repeaterCheck {received : List (Nat × Nat)} {die : Nat} (hs : Steady s₀ s) : Steady s₀ (repeaterCheck received s die) :=
  steady_ite hs.same (steady_ite hs.same hs)

theorem steady_ownCountEnds {es : List FaultEvent} (hs : Steady s₀ s) : Steady s₀ (ownCountEnds es s) :=
  hs.same

theorem steady_overrunRearm {v : Nat} (hs : Steady s₀ s) : Steady s₀ (overrunRearm v s) :=
  hs.same

theorem steady_unitOverrun {die region unit : Nat} (hs : Steady s₀ s) : Steady s₀ (unitOverrun die region unit s) := by
  unfold unitOverrun
  refine steady_ite (steady_abandonItem hs) ?_
  exact Steady.cut (steady_raise (Steady.update (steady_elim hs.same (fun _ => hs.same)))) fun k => steady_ite (steady_raise k) k

/-! ### Counters -/

theorem steady_classifySlots (hs : Steady s₀ s) : Steady s₀ (classifySlots s) :=
  Steady.update (steady_foldl hs (fun _ _ h₁ => steady_ite (steady_ite (h₁.same) (h₁.same)) (steady_ite h₁ (h₁.same))))

theorem steady_guardCounters (hs : Steady s₀ s) : Steady s₀ (guardCounters s) :=
  steady_classifySlots hs.same

theorem steady_takeSnapshot (hs : Steady s₀ s) : Steady s₀ (takeSnapshot s) :=
  steady_ite hs hs.same

theorem steady_snapshotTarget (hs : Steady s₀ s) : Steady s₀ (snapshotTarget s) := by
  unfold snapshotTarget
  exact steady_when hs (fun _ h₁ => Steady.update (steady_setObj (steady_takeSnapshot h₁)))

theorem steady_countersEdge (hs : Steady s₀ s) : Steady s₀ (countersEdge s) :=
  Steady.update (by
    split
    · exact steady_doneNow (steady_takeSnapshot hs.same)
    · exact hs)

theorem steady_ctrCommand {par : Bytes} {act : Bytes → State → State} (hact : ∀ a b, Steady s₀ b → Steady s₀ (act a b))
    (hs : Steady s₀ s) : Steady s₀ (ctrCommand par act s) :=
  steady_command hs (fun _ _ h₁ => hact _ _ h₁)

theorem steady_clearAll {x : Bytes} (hs : Steady s₀ s) : Steady s₀ (clearAll x s) :=
  hs.same

theorem steady_clearStage {p : Bytes} (hs : Steady s₀ s) : Steady s₀ (clearStage p s) :=
  steady_ite hs.same hs.same

theorem steady_clearSelectable {p : Bytes} (hs : Steady s₀ s) : Steady s₀ (clearSelectable p s) :=
  hs.same

theorem steady_snapshotNow {x : Bytes} (hs : Steady s₀ s) : Steady s₀ (snapshotNow x s) :=
  hs.same

theorem steady_counterRead {p : Bytes} (hs : Steady s₀ s) : Steady s₀ (counterRead p s) :=
  steady_ite hs.same hs.same

theorem steady_directoryQuery {p : Bytes} (hs : Steady s₀ s) : Steady s₀ (directoryQuery p s) := by
  unfold directoryQuery
  split <;> exact hs.same

/-! ### Endpoint core -/

theorem steady_cfgSet {off m : Nat} (hs : Steady s₀ s) : Steady s₀ (State.cfgSet s off m) :=
  hs.same

theorem steady_epFault {src detail : Nat} (hs : Steady s₀ s) : Steady s₀ (State.epFault s src detail) :=
  hs.same

theorem steady_epEvent {i : Nat} (hs : Steady s₀ s) : Steady s₀ (State.epEvent s i) :=
  hs.same

theorem steady_errSignal {sev : Nat} {ur : Bool} (hs : Steady s₀ s) : Steady s₀ (errSignal sev ur s) :=
  steady_ite (steady_ite hs.same hs) (steady_ite (steady_emit (steady_ite hs.same hs)) (steady_ite hs.same hs))

theorem steady_aerCorr {type bit : Nat} {ur : Bool} (hs : Steady s₀ s) : Steady s₀ (aerCorr type bit s ur) :=
  steady_ite (steady_cfgSet (steady_cfgSet (steady_count hs))) (steady_errSignal (steady_cfgSet (steady_cfgSet (steady_count hs))))

theorem steady_logHeader {bit : Nat} (hs : Steady s₀ s) : Steady s₀ (logHeader bit s) :=
  steady_ite hs (steady_ite (steady_ite (steady_aerCorr hs) hs) (steady_ite (steady_foldl hs.same (fun _ _ h₁ => h₁.same)) hs.same))

theorem steady_aerUnc {type bit : Nat} {advisory : Bool} (hs : Steady s₀ s) : Steady s₀ (aerUnc type bit advisory s) :=
  Steady.cut (steady_ite (steady_cfgSet (steady_cfgSet (steady_logHeader (steady_count hs)))) (steady_cfgSet (steady_logHeader
      (steady_count hs)))) fun k₁ =>
    steady_ite (steady_aerCorr k₁) (steady_ite (k₁.same) (steady_errSignal (k₁.same)))

theorem steady_linkError {type : Nat} (hs : Steady s₀ s) : Steady s₀ (linkError type s) := by
  unfold linkError
  split
  · exact hs
  · exact steady_ite (steady_aerCorr hs) (steady_aerUnc hs)

theorem steady_poisonedTlp {master : Bool} (hs : Steady s₀ s) : Steady s₀ (poisonedTlp master s) :=
  steady_aerUnc hs.same

theorem steady_poisonedWrite (hs : Steady s₀ s) : Steady s₀ (poisonedWrite s) :=
  steady_poisonedTlp hs

theorem steady_unsupported {posted : Bool} (hs : Steady s₀ s) : Steady s₀ (unsupported posted s) :=
  steady_aerUnc (steady_count hs)

theorem steady_sendVector {v : Nat} (hs : Steady s₀ s) : Steady s₀ (sendVector v s) :=
  steady_ite (steady_emit (steady_count (steady_count (steady_count hs)))) (steady_emit (steady_count (steady_count (steady_count hs))))

theorem steady_trigger {v : Nat} (hs : Steady s₀ s) : Steady s₀ (trigger v s) :=
  steady_ite hs (steady_ite (steady_count hs) (steady_ite (steady_sendVector hs) (Steady.update (steady_count hs))))

theorem steady_writeOut {w : HostWrite} (hs : Steady s₀ s) : Steady s₀ (writeOut w s) :=
  steady_count (steady_count hs.same)

theorem steady_hostWrite {cls addr : Nat} {b : Bytes} (hs : Steady s₀ s) : Steady s₀ (hostWrite cls addr b s) :=
  steady_ite (steady_writeOut hs) hs.same

theorem steady_readOut {t : Nat} {w : ReadWait} (hs : Steady s₀ s) : Steady s₀ (readOut t w s) :=
  steady_count (steady_count hs.same)

theorem steady_hostRead {use : ReadFor} {addr len : Nat} (hs : Steady s₀ s) : Steady s₀ (hostRead use addr len s) := by
  unfold hostRead
  extract_lets
  split
  · exact steady_ite (steady_readOut hs) hs.same
  · exact Steady.update (steady_ite (steady_count hs) hs)

theorem steady_drainReads {f : Nat} (hs : Steady s₀ s) : Steady s₀ (drainReads f s) := by
  induction f generalizing s with
  | zero => exact hs
  | succ f ih =>
    unfold drainReads
    split
    · exact ih (steady_readOut hs.same)
    · exact hs

theorem steady_endpointEvents (hs : Steady s₀ s) : Steady s₀ (endpointEvents s) :=
  steady_ite (steady_trigger hs.same) hs.same

theorem steady_endpointEdge (hs : Steady s₀ s) : Steady s₀ (endpointEdge s) :=
  steady_ite (Steady.cut (steady_foldl (Steady.update (steady_ite hs.same hs.same)) (fun _ _ h₁ => steady_writeOut h₁)) fun k₁ =>
    steady_ite (steady_drainReads k₁) (steady_count (steady_drainReads k₁))) (steady_ite hs.same hs.same)

/-! ### Corolo core -/

theorem steady_onRing {q : Nat} {f : Ring → Ring} (hs : Steady s₀ s) : Steady s₀ (State.onRing s q f) :=
  hs.same

theorem steady_ringMessage {q : Nat} (hs : Steady s₀ s) : Steady s₀ (ringMessage q s) :=
  steady_trigger (steady_count hs.same)

theorem steady_stopRing {q cause : Nat} (hs : Steady s₀ s) : Steady s₀ (stopRing q cause s) :=
  steady_ringMessage hs.same

theorem steady_closeJob {q idx edge : Nat} {fail : Option (Nat × Nat × Nat)} (hs : Steady s₀ s) : Steady s₀ (closeJob q idx edge fail s) := by
  unfold closeJob
  split
  · exact hs
  · extract_lets
    split
    · exact steady_count hs.same
    · exact hs.same

theorem steady_endJobAt {q idx edge : Nat} {fail : Option (Nat × Nat × Nat)} (hs : Steady s₀ s) : Steady s₀ (endJobAt q idx edge fail s) :=
  steady_ite hs (steady_closeJob hs)

theorem steady_endJob {q idx : Nat} {fail : Option (Nat × Nat × Nat)} (hs : Steady s₀ s) : Steady s₀ (endJob q idx fail s) :=
  steady_endJobAt hs

theorem steady_writeRecords {q : Nat} (hs : Steady s₀ s) : Steady s₀ (writeRecords q s) := by
  unfold writeRecords
  exact Steady.cut (steady_foldl hs (fun _ _ h₁ => steady_ite h₁ (steady_onRing (steady_hostWrite h₁)))) fun k₁ =>
    by
      extract_lets
      split
      · exact steady_ite (steady_ite (steady_count k₁) (steady_epFault (steady_onRing (steady_count k₁)))) k₁
      · exact k₁

theorem steady_publish {q : Nat} (hs : Steady s₀ s) : Steady s₀ (publish q s) :=
  steady_ite (steady_ringMessage (steady_count (steady_hostWrite hs.same))) (steady_count (steady_hostWrite hs.same))

theorem steady_payloadOut {j : Job} {off : Nat} {b : Bytes} (hs : Steady s₀ s) : Steady s₀ (payloadOut j off b s) :=
  steady_foldl hs (fun _ _ h₁ => steady_hostWrite h₁)

theorem steady_payloadNext {f q idx : Nat} (hs : Steady s₀ s) : Steady s₀ (payloadNext f q idx s) := by
  induction f generalizing s with
  | zero => exact hs
  | succ f ih =>
    unfold payloadNext
    split
    · exact hs
    · split
      · exact hs
      · exact ih (steady_payloadOut hs.same)

theorem steady_jobData {q idx off : Nat} {b : Bytes} (hs : Steady s₀ s) : Steady s₀ (jobData q idx off b s) :=
  steady_payloadNext hs.same

theorem steady_jobEnded {q idx status : Nat} {dnr : Bool} {detail : Nat} (hs : Steady s₀ s) : Steady s₀ (jobEnded q idx status dnr detail s) := by
  unfold jobEnded
  split
  · exact hs
  · exact steady_endJob (steady_foldl hs (fun _ _ h₁ => steady_payloadOut h₁))

theorem steady_writeReady {q idx : Nat} {b : Bytes} (hs : Steady s₀ s) : Steady s₀ (writeReady q idx b s) := by
  unfold writeReady
  split
  · exact steady_dataComplete (steady_onCmd hs)
  · exact hs

theorem steady_writeFailed {q idx status seg : Nat} {reset : Bool} (hs : Steady s₀ s) : Steady s₀ (writeFailed q idx status seg s reset) := by
  have hd : Steady s₀ (dropReads (ReadFor.dataOf q idx) s) := hs.same
  unfold writeFailed
  cases reset <;> simp only [Bool.false_eq_true, if_false, if_true] <;> split
  · exact steady_endJob (steady_freeCmd hd)
  · exact steady_endJob hd
  · exact steady_closeJob (steady_freeCmd hd)
  · exact steady_closeJob hd

theorem steady_takePushed {f q : Nat} (hs : Steady s₀ s) : Steady s₀ (takePushed f q s) := by
  induction f generalizing s with
  | zero => exact hs
  | succ f ih =>
    unfold takePushed
    extract_lets
    split
    · exact steady_ite (ih hs.same) hs
    · exact hs

theorem steady_fetchEntries {q : Nat} (hs : Steady s₀ s) : Steady s₀ (fetchEntries q s) :=
  steady_ite hs (steady_hostRead (steady_count hs.same))

theorem steady_entriesIn {q first : Nat} {es : List Bytes} (hs : Steady s₀ s) : Steady s₀ (entriesIn q first es s) :=
  steady_ite hs (steady_onRing (steady_count hs))

theorem steady_fetchFailed {q first : Nat} (hs : Steady s₀ s) : Steady s₀ (fetchFailed q first s) :=
  steady_ite hs (steady_stopRing (steady_count hs.same))

theorem steady_submit {q : Nat × Nat × Nat} {job : Nat} {b : Bytes} (hs : Steady s₀ s) : Steady s₀ (submit q job b s) :=
  steady_ite hs.same hs.same

theorem steady_readDone {u : ReadFor} {b : Bytes} (hs : Steady s₀ s) : Steady s₀ (readDone u b s) := by
  unfold readDone
  split
  · exact steady_entriesIn hs
  · extract_lets
    split
    · exact steady_ite hs.same (steady_ite (steady_submit hs.same) (steady_writeReady hs.same))
    · exact hs.same
  · exact hs

theorem steady_readFailed {u : ReadFor} {cause : Nat} (hs : Steady s₀ s) : Steady s₀ (readFailed u cause s) := by
  unfold readFailed
  extract_lets
  split
  · exact steady_fetchFailed (steady_lateWaste hs)
  · exact steady_writeFailed (steady_lateWaste hs)
  · exact steady_lateWaste hs

theorem steady_discardEntries {q : Nat} (hs : Steady s₀ s) : Steady s₀ (discardEntries q s) :=
  steady_lateWaste (steady_count hs.same)

theorem steady_endTransfers {q : Nat} (hs : Steady s₀ s) : Steady s₀ (endTransfers q s) :=
  steady_foldl hs (fun _ _ h₁ => steady_ite (steady_closeJob (h₁.same)) (steady_ite (steady_writeFailed (h₁.same)) (steady_ite
      (steady_endJob h₁) h₁)))

theorem steady_resetRings (hs : Steady s₀ s) : Steady s₀ (resetRings s) :=
  Steady.update (steady_foldl hs (fun _ _ h₁ => steady_onRing (steady_endTransfers h₁)))

theorem steady_resetFunction (hs : Steady s₀ s) : Steady s₀ (resetFunction s) :=
  Steady.update (Steady.update (steady_resetRings hs.same))

theorem steady_fundamentalReset (hs : Steady s₀ s) : Steady s₀ (fundamentalReset s) :=
  steady_epFault (steady_setObj (Steady.update (steady_resetFunction hs)))

theorem steady_rrWrite (hs : Steady s₀ s) : Steady s₀ (rrWrite s) :=
  hs.same

theorem steady_rrAdd {q : Nat} {j : Job} (hs : Steady s₀ s) : Steady s₀ (rrAdd q j s) :=
  steady_ite hs.same hs.same

theorem steady_rrRing {q : Nat} (hs : Steady s₀ s) : Steady s₀ (rrRing q s) :=
  steady_foldl hs.same (fun _ _ h₁ => steady_rrAdd h₁)

theorem steady_endpointInternalError (hs : Steady s₀ s) : Steady s₀ (endpointInternalError s) :=
  steady_resetRings (Steady.update (steady_epFault (steady_aerUnc hs)))

theorem steady_noteJobs (hs : Steady s₀ s) : Steady s₀ (noteJobs s) :=
  steady_ite hs.same hs

theorem steady_takeJob {q : Nat} {es : List Bytes} (hs : Steady s₀ s) : Steady s₀ (takeJob q es s).1 :=
  steady_slot (steady_slot (steady_ite (steady_count hs.same) hs.same))

theorem steady_failUnknown {f q : Nat} (hs : Steady s₀ s) : Steady s₀ (failUnknown f q s) := by
  induction f generalizing s with
  | zero => exact hs
  | succ f ih =>
    unfold failUnknown
    split
    · exact hs
    · split
      · exact hs
      · exact ih (steady_endJob (steady_takeJob hs))

theorem steady_startJob {q op : Nat} {act : Nat → List Bytes → State → State} (hact : ∀ a b c, Steady s₀ c → Steady s₀ (act a b c))
    (hs : Steady s₀ s) : Steady s₀ (startJob q op act s) := by
  unfold startJob
  split
  · exact hs
  · exact steady_ite hs (by
      split
      next _ _ e =>
      have k₁ := steady_of_eq e (steady_takeJob hs)
      exact steady_failUnknown (by
        split
        · exact steady_endJob k₁
        · exact hact _ _ _ k₁))

theorem steady_endAdmin {ops : List Nat} (hs : Steady s₀ s) : Steady s₀ (endAdmin ops s) :=
  steady_foldl hs (fun _ _ h₁ => steady_endJobAt h₁)

theorem steady_ringChange {q : Nat} (hs : Steady s₀ s) : Steady s₀ (ringChange q s) := by
  unfold ringChange
  split
  · exact hs
  · extract_lets
    split
    · exact steady_endAdmin hs.same
    · exact steady_onRing (steady_discardEntries hs.same)
    · exact steady_endAdmin hs.same

theorem steady_endFlushes {q : Nat} (hs : Steady s₀ s) : Steady s₀ (endFlushes q s) :=
  steady_foldl hs (fun _ _ h₁ => steady_endJob h₁)

theorem steady_ringEdge {q : Nat} (hs : Steady s₀ s) : Steady s₀ (ringEdge q s) :=
  Steady.cut (steady_ite (steady_endFlushes (steady_ringChange hs)) (steady_writeRecords (steady_endFlushes (steady_ringChange hs)))) fun k₁ =>
    steady_ite (steady_failUnknown (steady_ite (steady_fetchEntries (steady_takePushed k₁)) (steady_takePushed k₁))) k₁

theorem steady_coroloEdge (hs : Steady s₀ s) : Steady s₀ (coroloEdge s) :=
  steady_ite (steady_foldl hs.same (fun _ _ h₁ => steady_ringEdge h₁)) hs.same

theorem steady_ringNote {n : RingNote} (hs : Steady s₀ s) : Steady s₀ (ringNote n s) := by
  unfold ringNote
  split
  · exact steady_jobEnded hs
  · exact steady_jobData hs

/-! ### Endpoint -/

theorem steady_epLinkUp {speed width : Nat} {flit : Bool} (hs : Steady s₀ s) : Steady s₀ (epLinkUp speed width flit s) := by
  unfold epLinkUp
  exact steady_when hs (fun _ h₁ => Steady.cut (steady_ite (steady_count (steady_epEvent (steady_count (h₁.same)))) (steady_count
      (h₁.same))) fun k₁ =>
    steady_ite (k₁.same) k₁)

theorem steady_epFlr (hs : Steady s₀ s) : Steady s₀ (epFlr s) :=
  steady_when hs (fun _ h₁ => steady_epFault (Steady.update (steady_resetFunction h₁)))

theorem steady_cfgWrite {off be data : Nat} (hs : Steady s₀ s) : Steady s₀ (cfgWrite off be data s) :=
  steady_ite (steady_epFlr (steady_ite hs hs.same)) (steady_ite hs hs.same)

theorem steady_epConfigRequest {wr : Bool} {off be data : Nat} (hs : Steady s₀ s) : Steady s₀ (epConfigRequest wr off be data s) := by
  unfold epConfigRequest
  exact steady_when hs (fun _ h₁ => steady_ite (h₁.same) (steady_ite (steady_emit (steady_cfgWrite h₁)) (h₁.same)))

theorem steady_epConfigReadyWrite {v : Nat} (hs : Steady s₀ s) : Steady s₀ (epConfigReadyWrite v s) :=
  steady_ite hs.same hs.same

theorem steady_mergeWord {w lo : Nat} {b : Bytes} (hs : Steady s₀ s) : Steady s₀ (mergeWord w lo b s) := by
  unfold mergeWord
  split
  next _ _ _ e =>
  have k₁ := steady_of_eq e (steady_hbmGet hs)
  exact steady_ite k₁ (steady_hbmPut k₁)

theorem steady_bar4Write {off : Nat} {b : Bytes} (hs : Steady s₀ s) : Steady s₀ (bar4Write off b s) :=
  Steady.cut (steady_ite hs (steady_mergeWord hs)) fun k₁ =>
    steady_ite (steady_ite k₁ (steady_hbmPut k₁)) (steady_mergeWord (steady_ite k₁ (steady_hbmPut k₁)))

theorem steady_bar4Access {x : Bar4Access} (hs : Steady s₀ s) : Steady s₀ (bar4Access x s) :=
  steady_when hs (fun _ h₁ => steady_ite (steady_poisonedWrite (steady_count h₁)) (steady_ite (steady_ite (steady_unsupported (steady_count h₁))
      (steady_emit (steady_unsupported (steady_count h₁)))) (steady_ite (steady_ite (steady_unsupported (steady_count (steady_count h₁)))
      (steady_emit (steady_unsupported (steady_count (steady_count h₁))))) (steady_ite (steady_bar4Write (steady_count h₁)) (steady_emit
      (steady_hbmGet (steady_count h₁)))))))

theorem steady_epFundamentalReset {p : PerstEp} (hs : Steady s₀ s) : Steady s₀ (epFundamentalReset p s) :=
  steady_ite (steady_ite (steady_fundamentalReset hs.same) hs.same) hs.same

theorem steady_epHotReset (hs : Steady s₀ s) : Steady s₀ (epHotReset s) :=
  steady_when hs (fun _ h₁ => steady_epFault (Steady.update (steady_resetFunction h₁)))

theorem steady_epFlrComplete (hs : Steady s₀ s) : Steady s₀ (epFlrComplete s) :=
  steady_when hs (fun _ h₁ => h₁.same)

theorem steady_resetRecordWrite (hs : Steady s₀ s) : Steady s₀ (resetRecordWrite s) :=
  steady_when hs (fun _ h₁ => steady_epEvent (steady_rrWrite (Steady.update (steady_foldl h₁ (fun _ _ h₂ => steady_rrRing h₂)))))

theorem steady_interruptPendingSend {vec : Nat} (hs : Steady s₀ s) : Steady s₀ (interruptPendingSend vec s) :=
  steady_when hs (fun _ h₁ => steady_sendVector (h₁.same))

theorem steady_unexpectedCompletion (hs : Steady s₀ s) : Steady s₀ (unexpectedCompletion s) :=
  steady_epFault (steady_aerUnc (steady_count hs))

theorem steady_epCompletionTimeout {tag : Nat} (hs : Steady s₀ s) : Steady s₀ (epCompletionTimeout tag s) := by
  unfold epCompletionTimeout
  split
  · exact hs
  · exact steady_when hs (fun _ h₁ => steady_readFailed (steady_epFault (steady_aerUnc (steady_count (h₁.same)))))

theorem steady_epCompletionReceive {tag : Nat} {c : Completion} (hs : Steady s₀ s) : Steady s₀ (epCompletionReceive tag c s) :=
  steady_when hs (fun _ h₁ => by
    extract_lets
    split
    · exact steady_unexpectedCompletion (steady_epCompletionTimeout h₁)
    · exact steady_ite (Steady.cut (steady_ite (steady_poisonedTlp (Steady.update (steady_epCompletionTimeout h₁))) (Steady.update
          (steady_epCompletionTimeout h₁))) fun k₁ =>
        steady_readFailed (steady_ite (k₁.same) (steady_ite (k₁.same) k₁))) (steady_ite (steady_readDone (Steady.update
            (steady_epCompletionTimeout h₁))) (Steady.update (steady_epCompletionTimeout h₁))))

theorem steady_tagQuarantineEnd {tag : Nat} (hs : Steady s₀ s) : Steady s₀ (tagQuarantineEnd tag s) :=
  steady_when hs (fun _ h₁ => h₁.same)

theorem steady_endpointTimers (hs : Steady s₀ s) : Steady s₀ (endpointTimers s) :=
  Steady.cut (steady_foldl (steady_foldl hs (fun _ _ h₁ => steady_epCompletionTimeout h₁)) (fun _ _ h₁ => steady_tagQuarantineEnd h₁)) fun k₁ =>
    steady_foldl (steady_ite (steady_epFlrComplete k₁) k₁) (fun _ _ h₁ => steady_interruptPendingSend h₁)

theorem steady_endpointOff (hs : Steady s₀ s) : Steady s₀ (endpointOff s) :=
  hs.same

/-! ### Corolo -/

theorem steady_barWrite {ev size : Nat} {f : State → State} (hf : ∀ a, Steady s₀ a → Steady s₀ (f a)) (hs : Steady s₀ s) : Steady s₀
    (barWrite ev size f s) :=
  steady_when hs (fun _ h₁ => steady_ite (steady_unsupported (steady_count h₁)) (hf _ (steady_count h₁)))

theorem steady_doorbell {ev q : Nat} {f : State → State} (hf : ∀ a, Steady s₀ a → Steady s₀ (f a)) (hs : Steady s₀ s) : Steady s₀
    (doorbell ev q f s) :=
  steady_when hs (fun _ h₁ => steady_ite (steady_count h₁) (steady_barWrite (fun _ h₂ => steady_ite (hf _ (steady_ite h₂ (steady_count h₂)))
      (steady_count (steady_ite h₂ (steady_count h₂)))) h₁))

theorem steady_newTail {push : Bool} {q t : Nat} (hs : Steady s₀ s) : Steady s₀ (newTail push q t s) :=
  steady_ite hs (steady_ite (steady_stopRing hs) (steady_ite (steady_stopRing hs) (steady_ite (steady_count hs.same) hs.same)))

theorem steady_tailDoorbell {q t : Nat} (hs : Steady s₀ s) : Steady s₀ (tailDoorbell q t s) :=
  steady_doorbell (fun _ h₁ => steady_newTail h₁) hs

theorem steady_pushDoorbell {q t : Nat} (hs : Steady s₀ s) : Steady s₀ (pushDoorbell q t s) :=
  steady_doorbell (fun _ h₁ => steady_newTail h₁) hs

theorem steady_excConsDoorbell {q t : Nat} (hs : Steady s₀ s) : Steady s₀ (excConsDoorbell q t s) :=
  steady_doorbell (fun _ h₁ => h₁.same) hs

theorem steady_entryFetchComplete {q : Nat} {entries : List Bytes} {status : Nat} (hs : Steady s₀ s) : Steady s₀
    (entryFetchComplete q entries status s) := by
  unfold entryFetchComplete
  split
  · exact hs
  · exact steady_epCompletionReceive hs

theorem steady_jobCommand {q idx kind : Nat} {e : Bytes} (hs : Steady s₀ s) : Steady s₀ (jobCommand q idx kind e s).1 :=
  steady_fst (steady_onCmd (steady_setAddress hs.same))

theorem steady_jobReads {q idx : Nat} {segs : List (Nat × Nat)} (hs : Steady s₀ s) : Steady s₀ (jobReads q idx segs s) :=
  steady_foldl hs.same (fun _ _ h₁ => steady_hostRead h₁)

theorem steady_volumeJob {q kind : Nat} {go : Nat → List Bytes → State → State} {idx : Nat} {es : List Bytes}
    (hgo : ∀ a b c, Steady s₀ c → Steady s₀ (go a b c)) (hs : Steady s₀ s) : Steady s₀ (volumeJob q kind go idx es s) := by
  unfold volumeJob
  split
  · exact steady_endJob (steady_ite (steady_count hs) hs)
  · exact hgo _ _ _ hs

theorem steady_countNs {h ev amt : Nat} (hs : Steady s₀ s) : Steady s₀ (countNs h ev amt s) := by
  unfold countNs
  split
  · exact steady_count hs
  · exact hs

theorem steady_coroloRead {q : Nat} (hs : Steady s₀ s) : Steady s₀ (coroloRead q s) :=
  steady_startJob (fun _ _ _ h₁ => steady_volumeJob (fun _ _ _ h₂ => steady_serveBlocks (steady_countNs (steady_jobCommand h₂))) h₁) hs

theorem steady_coroloWrite {q : Nat} (hs : Steady s₀ s) : Steady s₀ (coroloWrite q s) :=
  steady_startJob (fun _ _ _ h₁ => steady_volumeJob (fun _ _ _ h₂ => steady_jobReads (steady_makeChunks (steady_countNs (steady_countNs
      (steady_onCmd (steady_jobCommand h₂)))))) h₁) hs

theorem steady_coroloFlush {q : Nat} (hs : Steady s₀ s) : Steady s₀ (coroloFlush q s) :=
  steady_startJob (fun _ _ _ h₁ => steady_volumeJob (fun _ _ _ h₂ => h₂) h₁) hs

theorem steady_coroloDeallocate {q : Nat} (hs : Steady s₀ s) : Steady s₀ (coroloDeallocate q s) :=
  steady_startJob (fun _ _ _ h₁ => steady_volumeJob (fun _ _ _ h₂ => steady_makeChunks (steady_countNs (steady_onCmd (steady_jobCommand h₂)))) h₁) hs

theorem steady_exchangeDone {q idx : Nat} {resp : Bytes} (hs : Steady s₀ s) : Steady s₀ (exchangeDone q idx resp s) := by
  unfold exchangeDone
  split
  · exact hs
  · exact steady_ite (steady_endJob hs) (steady_endJob (steady_hostWrite hs))

theorem steady_headPublish {q : Nat} (hs : Steady s₀ s) : Steady s₀ (headPublish q s) :=
  steady_when hs (fun _ h₁ => steady_publish h₁)

theorem steady_modTimeExpiry {q : Nat} (hs : Steady s₀ s) : Steady s₀ (modTimeExpiry q s) :=
  steady_when hs (fun _ h₁ => steady_ringMessage h₁)

theorem steady_moderationEdge (hs : Steady s₀ s) : Steady s₀ (moderationEdge s) :=
  steady_foldl hs (fun _ _ h₁ => steady_modTimeExpiry h₁)

theorem steady_adminOn (hs : Steady s₀ s) : Steady s₀ (adminOn s) :=
  steady_ite hs.same hs

theorem steady_adminOff (hs : Steady s₀ s) : Steady s₀ (adminOff s) :=
  steady_ite hs.same (steady_ite hs.same hs.same)

theorem steady_adminRingEnable (hs : Steady s₀ s) : Steady s₀ (adminRingEnable s) :=
  steady_barWrite (fun _ h₁ => steady_adminOn h₁) hs

theorem steady_adminRingDisable (hs : Steady s₀ s) : Steady s₀ (adminRingDisable s) :=
  steady_barWrite (fun _ h₁ => steady_adminOff h₁) hs

theorem steady_resetRecordClear (hs : Steady s₀ s) : Steady s₀ (resetRecordClear s) :=
  steady_barWrite (fun _ h₁ => h₁.same) hs

theorem steady_adminJob {accept : Nat → Bool} {act : Nat → Nat → Bytes → State → State} {idx : Nat} {es : List Bytes}
    (hact : ∀ a b c d, Steady s₀ d → Steady s₀ (act a b c d)) (hs : Steady s₀ s) : Steady s₀ (adminJob accept act idx es s) :=
  steady_ite (steady_endJob hs) (steady_ite (steady_endJob hs) (steady_ite (steady_endJob hs) (hact _ _ _ _ hs)))

theorem steady_ringCreate (hs : Steady s₀ s) : Steady s₀ (ringCreate s) :=
  steady_startJob (fun _ _ _ h₁ => steady_adminJob (fun _ _ _ _ h₂ => steady_ite (steady_endJob h₂) (steady_ite (steady_endJob h₂) (steady_ite
      (steady_endJob h₂) (steady_ite (steady_endJob h₂) (h₂.same))))) h₁) hs

theorem steady_ringDisable (hs : Steady s₀ s) : Steady s₀ (ringDisable s) :=
  steady_startJob (fun _ _ _ h₁ => steady_adminJob (fun _ _ _ _ h₂ => h₂.same) h₁) hs

theorem steady_ringDestroy (hs : Steady s₀ s) : Steady s₀ (ringDestroy s) :=
  steady_startJob (fun _ _ _ h₁ => steady_adminJob (fun _ _ _ _ h₂ => steady_ite (steady_endJob (h₂.same)) (h₂.same)) h₁) hs

theorem steady_ringSetModeration (hs : Steady s₀ s) : Steady s₀ (ringSetModeration s) :=
  steady_startJob (fun _ _ _ h₁ => steady_adminJob (fun _ _ _ _ h₂ => h₂.same) h₁) hs

theorem steady_ringEnable (hs : Steady s₀ s) : Steady s₀ (ringEnable s) :=
  steady_startJob (fun _ _ _ h₁ => steady_adminJob (fun _ _ _ _ h₂ => h₂.same) h₁) hs

theorem steady_ringDrainComplete {q : Nat} (hs : Steady s₀ s) : Steady s₀ (ringDrainComplete q s) := by
  unfold ringDrainComplete
  exact steady_when hs (fun _ h₁ => Steady.cut (steady_ite (steady_epEvent (steady_publish (steady_onRing (steady_rrWrite (steady_rrRing h₁)))))
      (steady_publish (steady_onRing (steady_rrWrite (steady_rrRing h₁))))) fun k₁ =>
    steady_ite (steady_ite (k₁.same) (k₁.same)) (steady_endAdmin (steady_ite (k₁.same) (k₁.same))))

theorem steady_bar0Dword {off v : Nat} (hs : Steady s₀ s) : Steady s₀ (bar0Dword off v s) :=
  steady_ite hs.same (steady_ite hs.same (steady_ite hs.same (steady_ite hs.same (steady_ite (steady_ite (steady_adminOn hs) (steady_adminOff hs))
      (steady_ite (steady_ite hs.same hs) (steady_ite hs (steady_ite hs.same (steady_ite hs.same (steady_ite hs.same (steady_ite hs.same
      (steady_ite hs.same (steady_ite hs.same (steady_ite hs.same (steady_ite hs.same (steady_ite hs.same hs)))))))))))))))

/-! ### Mem core -/

theorem steady_clearMems {die region : Nat} (hs : Steady s₀ s) : Steady s₀ (clearMems die region s) :=
  steady_foldl hs (fun _ _ h₁ => h₁.same)

theorem steady_runMems {die region : Nat} (hs : Steady s₀ s) : Steady s₀ (runMems die region s) :=
  steady_foldl hs (fun _ _ h₁ => h₁.same)

/-! ### Drives -/

theorem steady_portEvent {src bay : Nat} (hs : Steady s₀ s) : Steady s₀ (portEvent src bay s) :=
  hs.same

theorem steady_linkTrained {bay speed width : Nat} (hs : Steady s₀ s) : Steady s₀ (linkTrained bay speed width s) :=
  steady_ite hs.same hs.same

theorem steady_driveSetup {bay : Nat} {cap : DriveCap} (hs : Steady s₀ s) : Steady s₀ (driveSetup bay cap s) :=
  hs.same

theorem steady_driveLinkUp {bay : Nat} {link : DriveLink} {cap : DriveCap} (hs : Steady s₀ s) : Steady s₀ (driveLinkUp bay link cap s) :=
  steady_ite (steady_driveState (steady_driveSetup (steady_linkTrained (steady_count hs)))) (steady_ite (steady_done (steady_onDrive
      (steady_linkTrained (steady_count (steady_count hs))))) hs)

theorem steady_driveLinkTimeout {bay : Nat} (hs : Steady s₀ s) : Steady s₀ (driveLinkTimeout bay s) :=
  steady_when hs (fun _ h₁ => h₁.same)

theorem steady_driveControllerReady {bay : Nat} {ams : Bool} {bar0 : Nat} (hs : Steady s₀ s) : Steady s₀ (driveControllerReady bay ams bar0 s) :=
  steady_when hs (fun _ h₁ => steady_ite (h₁.same) (h₁.same))

theorem steady_driveEnableTimeout {bay : Nat} (hs : Steady s₀ s) : Steady s₀ (driveEnableTimeout bay s) :=
  steady_when hs (fun _ h₁ => h₁.same)

theorem steady_driveIdentifyComplete {bay : Nat} {i : DriveIdentify} (hs : Steady s₀ s) : Steady s₀ (driveIdentifyComplete bay i s) :=
  steady_when hs (fun _ h₁ => steady_ite (h₁.same) (steady_ite (h₁.same) (h₁.same)))

theorem steady_driveQueuesCreated {bay : Nat} {ok : Bool} (hs : Steady s₀ s) : Steady s₀ (driveQueuesCreated bay ok s) :=
  steady_when hs (fun _ h₁ => steady_ite (h₁.same) (h₁.same))

theorem steady_cfsPoll {bay : Nat} {cfs : Bool} (hs : Steady s₀ s) : Steady s₀ (cfsPoll bay cfs s) :=
  steady_when hs (fun _ h₁ => steady_ite (steady_bayLost (h₁.same)) (h₁.same))

theorem steady_cutRetrain {bay : Nat} (hs : Steady s₀ s) : Steady s₀ (cutRetrain bay s) :=
  steady_ite hs.same hs

theorem steady_driveLinkDown {bay : Nat} (hs : Steady s₀ s) : Steady s₀ (driveLinkDown bay s) :=
  steady_when hs (fun _ h₁ => Steady.cut (steady_onDrive (steady_count (steady_cutRetrain h₁))) fun k₁ =>
    steady_ite (steady_bayLost (k₁.same)) (steady_ite (k₁.same) k₁))

theorem steady_driveAerError {bay : Nat} (hs : Steady s₀ s) : Steady s₀ (driveAerError bay s) :=
  steady_when hs (fun _ h₁ => steady_bayLost (steady_ite (steady_portEvent (steady_onDrive (steady_count (steady_cutRetrain h₁))))
      (steady_driveState (steady_portEvent (steady_onDrive (steady_count (steady_cutRetrain h₁)))))))

theorem steady_sidebandPoll {bay : Nat} {how : SidebandEnd} {temp warning : Nat} (hs : Steady s₀ s) : Steady s₀
    (sidebandPoll bay how temp warning s) := by
  unfold sidebandPoll
  refine steady_when hs fun u h => ?_
  have k : ∀ f e, Steady s₀ (((u.count Ev.sbPoll bay).onDrive bay f).emit e) := fun _ _ => steady_emit (steady_onDrive (steady_count h))
  extract_lets
  split
  · exact steady_count (k _ _)
  · exact steady_count (k _ _)
  · exact steady_ite (steady_onDrive (k _ _)) (steady_bayEvent (steady_onDrive (k _ _)))

theorem steady_ledShift (hs : Steady s₀ s) : Steady s₀ (ledShift s) :=
  steady_when hs (fun _ h₁ => h₁.same)

theorem steady_driveCommand {par : Bytes} {act : Bytes → State → State} (hact : ∀ a b, Steady s₀ b → Steady s₀ (act a b))
    (hs : Steady s₀ s) : Steady s₀ (driveCommand par act s) :=
  steady_command hs (fun _ _ h₁ => hact _ _ h₁)

theorem steady_adminPassthrough {p : Bytes} (hs : Steady s₀ s) : Steady s₀ (adminPassthrough p s) :=
  steady_ite hs.same (steady_ite hs.same (steady_emit (steady_count (steady_onDrive (steady_hbmPut hs)))))

theorem steady_adminTimeout {bay : Nat} (hs : Steady s₀ s) : Steady s₀ (adminTimeout bay s) :=
  steady_when hs (fun _ h₁ => h₁.same)

theorem steady_controllerReset {p : Bytes} (hs : Steady s₀ s) : Steady s₀ (controllerReset p s) :=
  steady_ite hs.same (steady_ite hs.same hs.same)

theorem steady_sidebandTransfer {how : SidebandEnd} {rd p : Bytes} (hs : Steady s₀ s) : Steady s₀ (sidebandTransfer how rd p s) :=
  steady_ite hs.same (steady_ite hs.same (Steady.cut (steady_emit (steady_count hs)) fun k₁ =>
    by
      extract_lets
      split
      · exact k₁.same
      · exact steady_done (steady_count k₁)
      · exact steady_done (steady_count k₁)))

theorem steady_linkRetrain {p : Bytes} (hs : Steady s₀ s) : Steady s₀ (linkRetrain p s) :=
  steady_ite hs.same (steady_ite hs.same hs.same)

theorem steady_firmwareDriveIo {bay queue : Nat} {io : FwDriveIo} (hs : Steady s₀ s) : Steady s₀ (firmwareDriveIo bay queue io s) :=
  steady_when hs (fun _ h₁ => h₁.same)

/-! ### Standby -/

theorem steady_standbyCommand {par : Bytes} {act : Bytes → State → State} (hact : ∀ a b, Steady s₀ b → Steady s₀ (act a b))
    (hs : Steady s₀ s) : Steady s₀ (standbyCommand par act s) :=
  steady_command hs (fun _ _ h₁ => hact _ _ h₁)

theorem steady_withdrawFor {cause : Nat} (hs : Steady s₀ s) : Steady s₀ (withdrawFor cause s) :=
  steady_ite hs.same hs

theorem steady_setRole {r : Nat} (hs : Steady s₀ s) : Steady s₀ (State.setRole s r) :=
  steady_ite hs.same hs.same

theorem steady_enterStandby {x : Bytes} (hs : Steady s₀ s) : Steady s₀ (enterStandby x s) :=
  steady_ite hs.same hs.same

theorem steady_takeOver {x : Bytes} (hs : Steady s₀ s) : Steady s₀ (takeOver x s) :=
  steady_ite hs.same hs.same

theorem steady_fenceRelease {x : Bytes} (hs : Steady s₀ s) : Steady s₀ (fenceRelease x s) :=
  steady_ite hs.same hs.same

theorem steady_resign {signed : Bool} {x : Bytes} (hs : Steady s₀ s) : Steady s₀ (resign signed x s) :=
  steady_ite hs.same (steady_ite hs.same hs.same)

theorem steady_takeOverBegin (hs : Steady s₀ s) : Steady s₀ (takeOverBegin s) :=
  Steady.update (steady_foldl hs (fun _ _ h₁ => h₁.same))

theorem steady_standbyPend (hs : Steady s₀ s) : Steady s₀ (standbyPend s) := by
  unfold standbyPend
  split
  · exact steady_takeOverBegin hs.same
  · exact Steady.update (steady_setRole hs)
  · exact hs

theorem steady_handoverWaitEnd (hs : Steady s₀ s) : Steady s₀ (handoverWaitEnd s) := by
  unfold handoverWaitEnd
  split
  · exact hs
  · exact steady_when hs (fun _ h₁ => steady_ite (h₁.same) (h₁.same))

theorem steady_fenceStaggerExpiry (hs : Steady s₀ s) : Steady s₀ (fenceStaggerExpiry s) := by
  unfold fenceStaggerExpiry
  split
  · exact hs
  · exact steady_when hs (fun _ h₁ => h₁.same)

theorem steady_fenceInAssert (hs : Steady s₀ s) : Steady s₀ (fenceInAssert s) := by
  unfold fenceInAssert
  refine steady_when hs fun u h => ?_
  extract_lets _ u₁ u₂ u₃
  have h₂ : Steady s₀ u₂ := steady_foldl h.same (fun _ _ h₁ => steady_portSilent (steady_portGoesDown h₁))
  have h₃ : Steady s₀ u₃ := steady_foldl h₂ (fun _ _ h₁ => steady_setObj (steady_onBay h₁))
  exact steady_withdrawFor (steady_ite (steady_fault h₃) (steady_ite (steady_fault h₃) h₃))

theorem steady_fenceInRelease (hs : Steady s₀ s) : Steady s₀ (fenceInRelease s) :=
  hs.same

theorem steady_withdraw (hs : Steady s₀ s) : Steady s₀ (withdraw s) := by
  unfold withdraw
  split
  · exact hs
  · exact steady_when hs (fun _ h₁ => steady_ite (steady_doneNow (Steady.update (steady_setRole h₁))) (Steady.update (steady_setRole h₁)))

theorem steady_hbRefresh {v : Nat} (hs : Steady s₀ s) : Steady s₀ (hbRefresh v s) :=
  steady_ite hs.same hs.same

theorem steady_hbHoldExpiry (hs : Steady s₀ s) : Steady s₀ (hbHoldExpiry s) :=
  steady_when hs (fun _ h₁ => h₁.same)

theorem steady_beatToggle (hs : Steady s₀ s) : Steady s₀ (beatToggle s) :=
  steady_when hs (fun _ h₁ => h₁.same)

theorem steady_activeInEdge {level : Bool} (hs : Steady s₀ s) : Steady s₀ (activeInEdge level s) :=
  steady_when hs (fun _ h₁ => h₁.same)

theorem steady_beatWindowEnd (hs : Steady s₀ s) : Steady s₀ (beatWindowEnd s) :=
  steady_when hs (fun _ h₁ => h₁.same)

theorem steady_peerFailDetect (hs : Steady s₀ s) : Steady s₀ (peerFailDetect s) :=
  steady_when hs (fun _ h₁ => h₁.same)

theorem steady_activeInSilence (hs : Steady s₀ s) : Steady s₀ (activeInSilence s) :=
  steady_when hs (fun _ h₁ => h₁.same)

theorem steady_leaseConfirm {v : Nat} (hs : Steady s₀ s) : Steady s₀ (leaseConfirm v s) :=
  steady_ite hs.same (steady_ite hs.same hs.same)

theorem steady_leaseDeadline (hs : Steady s₀ s) : Steady s₀ (leaseDeadline s) :=
  steady_when hs (fun _ h₁ => steady_withdrawFor (h₁.same))

theorem steady_leaseEdge (hs : Steady s₀ s) : Steady s₀ (leaseEdge s) :=
  steady_ite (Steady.update (steady_leaseDeadline hs)) (steady_leaseDeadline hs)

theorem steady_beatEdge (hs : Steady s₀ s) : Steady s₀ (beatEdge s) :=
  steady_ite (Steady.update (steady_beatToggle (steady_hbHoldExpiry hs))) (steady_beatToggle (steady_hbHoldExpiry hs))

theorem steady_standbyEdge {jump : Int} (hs : Steady s₀ s) : Steady s₀ (standbyEdge jump s) :=
  steady_leaseEdge (steady_activeInSilence (steady_peerFailDetect (steady_beatWindowEnd (steady_beatEdge (steady_standbyPend
      (steady_withdraw hs.same))))))

theorem steady_takeOverEdge (hs : Steady s₀ s) : Steady s₀ (takeOverEdge s) :=
  steady_fenceStaggerExpiry (steady_handoverWaitEnd hs)

/-! ### Hier -/

theorem steady_setPhase {d : Nat} {p : DomPhase} (hs : Steady s₀ s) : Steady s₀ (setPhase d p s) :=
  hs.same

theorem steady_discardItems {die region : Nat} (hs : Steady s₀ s) : Steady s₀ (discardItems die region s) :=
  steady_clearUnits (steady_foldl hs (fun _ _ h₁ => steady_ite (steady_lateWaste h₁) h₁))

theorem steady_fenceOnset {die region : Nat} (hs : Steady s₀ s) : Steady s₀ (fenceOnset die region s) :=
  Steady.cut (steady_foldl hs (fun _ _ h₁ => steady_ite (steady_abandonItem h₁) h₁)) fun k₁ =>
    steady_ite (steady_eraseKeys k₁) k₁

theorem steady_setCmdFence {k : Nat} (hs : Steady s₀ s) : Steady s₀ (setCmdFence k s) :=
  steady_ite hs.same (steady_fenceOnset hs.same)

theorem steady_clearCmdFence {k : Nat} (hs : Steady s₀ s) : Steady s₀ (clearCmdFence k s) :=
  steady_ite hs.same (steady_runMems hs.same)

theorem steady_hierCommand {par : Bytes} {act : Bytes → State → State} (hact : ∀ a b, Steady s₀ b → Steady s₀ (act a b))
    (hs : Steady s₀ s) : Steady s₀ (hierCommand par act s) :=
  steady_ite hs.same (steady_command hs (fun _ _ h₁ => hact _ _ h₁))

theorem steady_domainOn {p : Bytes} (hs : Steady s₀ s) : Steady s₀ (domainOn p s) :=
  steady_ite hs.same (steady_ite hs.same (steady_ite hs.same hs.same))

theorem steady_domainOffAs {forced : Bool} {p : Bytes} (hs : Steady s₀ s) : Steady s₀ (domainOffAs forced p s) :=
  steady_ite hs.same (steady_ite hs.same (steady_ite hs.same (steady_ite hs.same hs.same)))

theorem steady_domainOff {p : Bytes} (hs : Steady s₀ s) : Steady s₀ (domainOff p s) :=
  steady_domainOffAs hs

theorem steady_domainForcedOff {p : Bytes} (hs : Steady s₀ s) : Steady s₀ (domainForcedOff p s) :=
  steady_domainOffAs hs

theorem steady_clusterQuiesce {p : Bytes} (hs : Steady s₀ s) : Steady s₀ (clusterQuiesce p s) := by
  unfold clusterQuiesce
  split <;> exact hs.same

theorem steady_clusterResume {p : Bytes} (hs : Steady s₀ s) : Steady s₀ (clusterResume p s) := by
  unfold clusterResume
  split <;> exact hs.same

theorem steady_quiesceComplete (hs : Steady s₀ s) : Steady s₀ (quiesceComplete s) := by
  unfold quiesceComplete
  split
  · exact hs
  · exact steady_when hs (fun _ h₁ => h₁.same)

theorem steady_fenceCommand {on : Bool} {p : Bytes} (hs : Steady s₀ s) : Steady s₀ (fenceCommand on p s) :=
  steady_ite hs.same hs.same

theorem steady_regionCommandFence {p : Bytes} (hs : Steady s₀ s) : Steady s₀ (regionCommandFence p s) :=
  steady_fenceCommand hs

theorem steady_regionCommandUnfence {p : Bytes} (hs : Steady s₀ s) : Steady s₀ (regionCommandUnfence p s) :=
  steady_fenceCommand hs

theorem steady_domainSwitchStart {d : Nat} (hs : Steady s₀ s) : Steady s₀ (domainSwitchStart d s) := by
  unfold domainSwitchStart
  split
  · exact hs
  · exact steady_ite hs (steady_ite hs.same (steady_when hs (fun _ h₁ => h₁.same)))

theorem steady_domainPowerGood {d : Nat} (hs : Steady s₀ s) : Steady s₀ (domainPowerGood d s) :=
  steady_when hs (fun _ h₁ => h₁.same)

theorem steady_domainPgTimeout {d : Nat} (hs : Steady s₀ s) : Steady s₀ (domainPgTimeout d s) :=
  steady_when hs (fun _ h₁ => h₁.same)

theorem steady_releaseHook {d : Nat} (hs : Steady s₀ s) : Steady s₀ (releaseHook d s) :=
  steady_ite (steady_fundamentalReset hs) (steady_ite (steady_baysStart hs) hs)

theorem steady_domainRelease {d : Nat} (hs : Steady s₀ s) : Steady s₀ (domainRelease d s) :=
  steady_when hs (fun _ h₁ => steady_releaseHook (steady_foldl (h₁.same) (fun _ _ h₂ => steady_clearMems (h₂.same))))

theorem steady_laneTest {failed : Nat} (hs : Steady s₀ s) : Steady s₀ (laneTest failed s) :=
  steady_foldl hs (fun _ _ h₁ => h₁.same)

theorem steady_domainTrained {d failedLanes : Nat} (hs : Steady s₀ s) : Steady s₀ (domainTrained d failedLanes s) :=
  steady_when hs (fun _ h₁ => steady_ite (steady_laneTest (h₁.same)) (steady_ite (h₁.same) (h₁.same)))

theorem steady_contentsLost {d : Nat} (hs : Steady s₀ s) : Steady s₀ (contentsLost d s) := by
  have h : Steady s₀ (clearUnits (fun die r => domainOf die r = some d) s) := steady_clearUnits hs
  unfold contentsLost
  refine steady_ite (steady_ite ?_ ?_) (steady_ite (steady_portsOff h) (steady_ite (steady_endpointOff h) (steady_ite (steady_eraseKeys h.same)
    (steady_ite h.same (steady_ite ?_ (steady_ite (steady_baysOff h) h))))))
  · exact steady_evalXoff (Steady.update (steady_dropCopies h))
  · exact steady_foldl h (fun _ _ h₁ => steady_portSilent (steady_portGoesDown h₁.same))
  · exact (h.put (Hbm.lose_wf _ _)).same

theorem steady_fenceDomain {forced : Bool} {d : Nat} (hs : Steady s₀ s) : Steady s₀ (fenceDomain forced d s) :=
  steady_foldl hs.same (fun _ _ h₁ => steady_ite (steady_discardItems (steady_setCmdFence h₁)) (steady_setCmdFence h₁))

theorem steady_domainRetentionLost {d : Nat} (hs : Steady s₀ s) : Steady s₀ (domainRetentionLost d s) :=
  steady_when hs (fun _ h₁ => h₁.same)

theorem steady_takeFences (hs : Steady s₀ s) : Steady s₀ (takeFences s) :=
  steady_foldl hs.same (fun _ _ h₁ => steady_ite (steady_doneNow (steady_setCmdFence h₁)) (steady_doneNow (steady_clearCmdFence h₁)))

theorem steady_takeQuiet (hs : Steady s₀ s) : Steady s₀ (takeQuiet s) :=
  steady_foldl hs.same (fun _ _ h₁ => h₁.same)

theorem steady_endRun {r : HierRun} {outcome : Nat} (hs : Steady s₀ s) : Steady s₀ (endRun r outcome s) :=
  steady_ite hs.same hs.same

theorem steady_offEdge {r : HierRun} (hs : Steady s₀ s) : Steady s₀ (offEdge r s) := by
  unfold offEdge
  split
  · exact steady_endRun hs
  · split
    · exact steady_fenceDomain hs
    · exact steady_setPhase (steady_contentsLost hs)
    · split
      · exact steady_endRun hs
      · exact steady_fenceDomain hs.same
    · exact hs

theorem steady_onEdge {r : HierRun} (hs : Steady s₀ s) : Steady s₀ (onEdge r s) :=
  steady_ite (steady_endRun hs) hs

theorem steady_startBringUp (hs : Steady s₀ s) : Steady s₀ (startBringUp s) :=
  steady_ite hs.same (steady_ite hs.same hs.same)

theorem steady_hierEdge (hs : Steady s₀ s) : Steady s₀ (hierEdge s) := by
  unfold hierEdge
  exact Steady.cut (steady_takeQuiet (steady_takeFences hs)) fun k₁ =>
    by
      extract_lets
      split
      · exact steady_ite (steady_onEdge k₁) (steady_offEdge k₁)
      · exact steady_ite (steady_startBringUp k₁) k₁

theorem steady_faultFence {die region edge : Nat} {permanent : Bool} (hs : Steady s₀ s) : Steady s₀ (faultFence die region edge permanent s) :=
  steady_ite hs (steady_ite (Steady.update (steady_ite hs (steady_count hs))) (steady_fenceOnset (Steady.update (steady_ite hs (steady_count hs)))))

theorem steady_clockGoodLost {die : Nat} (hs : Steady s₀ s) : Steady s₀ (clockGoodLost die s) :=
  steady_when hs (fun _ h₁ => steady_ite (steady_faultAt (Steady.update (steady_foldl (h₁.same) (fun _ _ h₂ => steady_faultFence h₂)))) (h₁.same))

theorem steady_ucieRetry {link : Nat} (hs : Steady s₀ s) : Steady s₀ (ucieRetry link s) :=
  steady_when hs (fun _ h₁ => h₁.same)

theorem steady_ucieLinkFail {link : Nat} (hs : Steady s₀ s) : Steady s₀ (ucieLinkFail link s) :=
  steady_when hs (fun _ h₁ => h₁.same)

/-! ### Memory -/

theorem steady_mpCommand {par : Bytes} {act : Bytes → State → State} (hact : ∀ a b, Steady s₀ b → Steady s₀ (act a b))
    (hs : Steady s₀ s) : Steady s₀ (mpCommand par act s) :=
  steady_command hs (fun _ _ h₁ => hact _ _ h₁)

theorem steady_regionFill {p : Bytes} (hs : Steady s₀ s) : Steady s₀ (regionFill p s) :=
  steady_ite hs.same (steady_ite hs.same hs.same)

theorem steady_hbmFill {p : Bytes} (hs : Steady s₀ s) : Steady s₀ (hbmFill p s) :=
  steady_ite hs.same hs.same

theorem steady_dropOffStacks (hs : Steady s₀ s) : Steady s₀ (dropOffStacks s) := by
  have h : ∀ b (u : State), Steady s₀ u → Steady s₀ { u with mem := u.mem.lose b } := fun b u hu => hu.put (Hbm.lose_wf u.mem b)
  unfold dropOffStacks
  exact Steady.cut (steady_ite hs (h false s hs)) fun h₁ => steady_ite h₁ (h true _ h₁)

theorem steady_fillWords {f : FillRun} (hs : Steady s₀ s) : Steady s₀ (fillWords f s).1 := by
  refine steady_ite_fst ?_ ?_
  · exact steady_fst (steady_count (steady_count (steady_dropOffStacks (hs.put fun w => Hbm.markPages_wf _ _ _ (Hbm.lay_wf _ _ _ _ w)))))
  · exact steady_fst (steady_foldl hs (fun _ _ h₁ => steady_count h₁.same))

theorem steady_fillComplete (hs : Steady s₀ s) : Steady s₀ (fillComplete s) := by
  unfold fillComplete
  split
  · exact hs
  · exact steady_when hs (fun _ h₁ => steady_doneNow (steady_fillWords (h₁.same)))

theorem steady_testAccess {p : Bytes} {go : Nat → MemDesc → Nat → State → State} (hs : Steady s₀ s) (hgo : ∀ a b c d, Steady s₀ d → Steady s₀
    (go a b c d)) : Steady s₀ (testAccess p s go) := by
  unfold testAccess
  extract_lets
  split
  · exact hs.same
  · exact steady_ite hs.same (steady_ite hs.same (hgo _ _ _ _ hs))

theorem steady_testWrite {p : Bytes} (hs : Steady s₀ s) : Steady s₀ (testWrite p s) := by
  unfold testWrite
  refine steady_testAccess hs (fun inst m a u h => ?_)
  refine steady_done (steady_ite ?_ h.same)
  exact h.put fun w => Hbm.setCheck_wf _ _ _ (Hbm.markPages_wf _ _ _ (Hbm.write_wf _ _ _ w))

theorem steady_storedWord {inst : Nat} {m : MemDesc} {a : Nat} (hs : Steady s₀ s) : Steady s₀ (storedWord inst m a s).1 := by
  unfold storedWord
  extract_lets
  split
  · exact hs
  · exact steady_ite_fst hs.same (by
      split
      · exact hs
      · exact hs.same)

theorem steady_testRead {p : Bytes} (hs : Steady s₀ s) : Steady s₀ (testRead p s) :=
  steady_testAccess hs (fun _ _ _ _ h₁ => steady_done (steady_ite_fst h₁ (steady_storedWord h₁)))

theorem steady_instanceQuery {p : Bytes} (hs : Steady s₀ s) : Steady s₀ (instanceQuery p s) :=
  steady_ite hs.same hs.same

theorem steady_correctedWriteback {inst addr : Nat} (hs : Steady s₀ s) : Steady s₀ (correctedWriteback inst addr s) :=
  steady_when hs (fun _ h₁ => Steady.cut (steady_count (h₁.same)) fun k₁ =>
    steady_ite (by
      extract_lets
      split
      · exact steady_hbmPut k₁
      · exact k₁) k₁)

theorem steady_raiseOwn {e : MemError} (hs : Steady s₀ s) : Steady s₀ (raiseOwn e s) := by
  unfold raiseOwn
  split
  · exact hs
  · exact hs.same

theorem steady_granaryError {src a : Nat} (hs : Steady s₀ s) : Steady s₀ (granaryError src a s) :=
  steady_ite (by
    extract_lets
    split
    · exact steady_loseIndexed (steady_cacheRemove hs)
    · exact steady_cacheRemove hs) (by
    split
    · exact steady_imageLost hs
    · exact hs)

theorem steady_stackConsumer {src : Nat} {e : MemError} (hs : Steady s₀ s) : Steady s₀ (stackConsumer src e s) :=
  steady_ite (steady_enterError (steady_count hs.same)) (steady_ite (steady_abandon hs.same) (steady_ite (steady_cacheRemove hs.same) (steady_ite
      (steady_bayLost hs.same) (steady_ite (steady_granaryError hs.same) hs.same))))

theorem steady_onDieConsumer {e : MemError} (hs : Steady s₀ s) : Steady s₀ (onDieConsumer e s) :=
  steady_ite (steady_ite (steady_count (steady_raiseOwn hs)) (steady_ite (steady_dropCopies (steady_raiseOwn hs)) (steady_ite (steady_lateWaste
      (steady_raiseOwn hs)) (steady_ite (Steady.update (steady_raiseOwn hs)) (steady_ite (steady_enterError (steady_count hs.same))
      (steady_raiseOwn hs)))))) (steady_ite (steady_ite (steady_bayLost (steady_raiseOwn hs)) (steady_ite (steady_endpointInternalError hs)
      (steady_ite (steady_lateWaste (steady_raiseOwn hs)) (steady_ite (steady_abandon hs.same) (steady_ite (steady_lateWaste (steady_raiseOwn hs))
      (steady_ite (Steady.update (steady_raiseOwn hs)) (steady_ite hs.same (steady_raiseOwn hs)))))))) (steady_raiseOwn hs))

theorem steady_memError {e : MemError} (hs : Steady s₀ s) : Steady s₀ (memError e s) :=
  steady_ite hs (steady_ite hs.same (steady_ite (by
    split
    · exact steady_stackConsumer (steady_memUncorrectable hs)
    · exact steady_stackConsumer (steady_memUncorrectable hs)
    · exact steady_stackConsumer (steady_memUncorrectable hs)
    · exact steady_raiseOwn (steady_memUncorrectable hs)) (steady_onDieConsumer (steady_memUncorrectable hs))))

theorem steady_bucketEdge {inst : Nat} {m : MemInst} (hs : Steady s₀ s) : Steady s₀ (bucketEdge inst m s) :=
  steady_ite hs (steady_ite (steady_faultAt (steady_count (steady_ite (steady_aerCorr hs.same) hs.same))) (steady_ite
      (steady_aerCorr hs.same) hs.same))

theorem steady_bucketsEdge (hs : Steady s₀ s) : Steady s₀ (bucketsEdge s) :=
  steady_foldl hs (fun _ _ h₁ => steady_bucketEdge h₁)

theorem steady_bucketLeak {inst : Nat} (hs : Steady s₀ s) : Steady s₀ (bucketLeak inst s) := by
  unfold bucketLeak
  exact steady_when hs (fun _ h₁ => h₁.same)

theorem steady_bucketsLeak (hs : Steady s₀ s) : Steady s₀ (bucketsLeak s) :=
  steady_foldl hs (fun _ _ h₁ => steady_bucketLeak h₁)

/-! ### Faults -/

theorem steady_sourceCfgWrite {j : Nat} {v : Bytes} (hs : Steady s₀ s) : Steady s₀ (sourceCfgWrite j v s) :=
  steady_ite hs.same (steady_ite hs.same (steady_ite hs.same hs.same))

theorem steady_severityActionsWrite {sev v : Nat} (hs : Steady s₀ s) : Steady s₀ (severityActionsWrite sev v s) :=
  steady_ite hs.same (steady_ite hs.same hs.same)

theorem steady_faultInject {par : Bytes} (hs : Steady s₀ s) : Steady s₀ (faultInject par s) :=
  steady_ite hs.same (steady_ite hs.same (steady_status (steady_count hs.same)))

theorem steady_halt {src : Nat} (hs : Steady s₀ s) : Steady s₀ (halt src s) :=
  steady_ite hs (steady_foldl hs.same (fun _ _ h₁ => steady_ite h₁ (h₁.same)))

theorem steady_takeActions {src sev acts : Nat} {es : List FaultEvent} (hs : Steady s₀ s) : Steady s₀ (takeActions src sev acts es s) :=
  Steady.cut (steady_ite (steady_foldl (steady_ite hs.same hs) (fun _ _ h₁ => steady_faultFence h₁)) (steady_ite hs.same hs)) fun k₁ =>
    steady_ite (steady_halt (steady_ite (steady_withdrawFor k₁) k₁)) (steady_ite (steady_withdrawFor k₁) k₁)

theorem steady_evalSource {src : Nat} {es : List FaultEvent} (hs : Steady s₀ s) : Steady s₀ (evalSource src es s) := by
  unfold evalSource
  split
  · exact hs
  · exact steady_ite (Steady.update (steady_count hs)) (Steady.cut (steady_takeActions (Steady.update (steady_count hs))) fun k₁ =>
      steady_ite (Steady.update (steady_ite (k₁.same) k₁)) (steady_ite (k₁.same) k₁))

theorem steady_evalEvents {es : List FaultEvent} (hs : Steady s₀ s) : Steady s₀ (evalEvents es s) :=
  steady_ite hs (Steady.cut (steady_foldl (steady_count hs) (fun _ _ h₁ => steady_evalSource h₁)) fun k₁ =>
    steady_ite (steady_count (k₁.same)) k₁)

theorem steady_evaluateFaults (hs : Steady s₀ s) : Steady s₀ (evaluateFaults s) :=
  Steady.update (steady_evalEvents hs.same)

theorem steady_ofEndedBell {f : State → State} (hf : ∀ a, Steady s₀ a → Steady s₀ (f a)) (hs : Steady s₀ s) : Steady s₀ (ofEndedBell f s) :=
  Steady.update (steady_evalEvents (Steady.update (hf _ hs.same)))

theorem steady_haltFence (hs : Steady s₀ s) : Steady s₀ (haltFence s) :=
  steady_when hs (fun _ h₁ => steady_foldl (h₁.same) (fun _ _ h₂ => steady_faultFence h₂))

theorem steady_faultNPulseEnd (hs : Steady s₀ s) : Steady s₀ (faultNPulseEnd s) :=
  steady_when hs (fun _ h₁ => h₁.same)

theorem steady_faultNHoldWrite {v : Nat} (hs : Steady s₀ s) : Steady s₀ (faultNHoldWrite v s) :=
  steady_ite hs.same hs.same

theorem steady_firstFaultRearm {v : Nat} (hs : Steady s₀ s) : Steady s₀ (firstFaultRearm v s) :=
  steady_ite hs.same hs.same

theorem steady_sourceRecovery {src : Nat} (hs : Steady s₀ s) : Steady s₀ (sourceRecovery src s) := by
  unfold sourceRecovery
  exact steady_when hs (fun _ h₁ => h₁.same)

theorem steady_faultFenceRelease {die region : Nat} (hs : Steady s₀ s) : Steady s₀ (faultFenceRelease die region s) := by
  unfold faultFenceRelease
  split
  · exact hs
  · exact steady_when hs (fun _ h₁ => steady_ite (steady_count (h₁.same)) (steady_runMems (steady_count (h₁.same))))

theorem steady_recoverAll (hs : Steady s₀ s) : Steady s₀ (recoverAll s) :=
  steady_foldl (steady_foldl hs (fun _ _ h₁ => steady_sourceRecovery h₁)) (fun _ _ h₁ => steady_faultFenceRelease h₁)

/-! ### Pins -/

theorem steady_ppsInEdge {t : Nat} (hs : Steady s₀ s) : Steady s₀ (ppsInEdge t s) :=
  hs.same

theorem steady_ppsOutRise (hs : Steady s₀ s) : Steady s₀ (ppsOutRise s) := by
  unfold ppsOutRise
  split
  · exact hs
  · exact steady_when hs (fun _ h₁ => h₁.same)

theorem steady_ppsOutFall (hs : Steady s₀ s) : Steady s₀ (ppsOutFall s) :=
  steady_when hs (fun _ h₁ => h₁.same)

theorem steady_pinsEdge (hs : Steady s₀ s) : Steady s₀ (pinsEdge s) :=
  steady_ite hs hs.same

theorem steady_tempSensorUpdate {temps : List (Option Int)} (hs : Steady s₀ s) : Steady s₀ (tempSensorUpdate temps s) :=
  steady_when hs (fun _ h₁ => h₁.same)

/-! ### Reset -/

theorem steady_resetStretchEnd (hs : Steady s₀ s) : Steady s₀ (resetStretchEnd s) :=
  steady_when hs (fun _ h₁ => h₁.same)

theorem steady_recordEvent {src die : Nat} (hs : Steady s₀ s) : Steady s₀ (recordEvent src die s) :=
  hs.same

theorem steady_fillHouse (hs : Steady s₀ s) : Steady s₀ (fillHouse s) :=
  steady_foldl hs (fun _ _ h₁ => h₁.same)

theorem steady_bootFrom {slot : Nat} {b : BootSlot} {second : Bool} (hs : Steady s₀ s) : Steady s₀ (bootFrom slot b second s) :=
  steady_ite hs.same hs.same

theorem steady_erralVerifyComplete {a b : BootSlot} (hs : Steady s₀ s) : Steady s₀ (erralVerifyComplete a b s) :=
  steady_when hs (fun _ h₁ => steady_ite (steady_bootFrom (h₁.same)) (steady_ite (steady_bootFrom (h₁.same)) (h₁.same)))

theorem steady_domainBringUp {x : Bytes} (hs : Steady s₀ s) : Steady s₀ (domainBringUp x s) :=
  steady_ite hs.same hs.same

theorem steady_bistStart {kind : Nat} {p : Bytes} (hs : Steady s₀ s) : Steady s₀ (bistStart kind p s) := by
  unfold bistStart
  split
  · exact hs.same
  · exact steady_ite hs.same (Steady.cut (steady_foldl hs (fun _ _ h₁ => steady_ite h₁ (steady_count h₁))) fun k₁ =>
      steady_ite (k₁.same) (k₁.same))

theorem steady_bistCommand {kind : Nat} {par : Bytes} (hs : Steady s₀ s) : Steady s₀ (bistCommand kind par s) :=
  steady_command hs (fun _ _ h₁ => steady_bistStart h₁)

theorem steady_logicBist {par : Bytes} (hs : Steady s₀ s) : Steady s₀ (logicBist par s) :=
  steady_bistCommand hs

theorem steady_memoryBist {par : Bytes} (hs : Steady s₀ s) : Steady s₀ (memoryBist par s) :=
  steady_bistCommand hs

theorem steady_logicAndMemoryBist {par : Bytes} (hs : Steady s₀ s) : Steady s₀ (logicAndMemoryBist par s) :=
  steady_bistCommand hs

theorem steady_regionReset {die r : Nat} (hs : Steady s₀ s) : Steady s₀ (regionReset die r s) := by
  have hu : ∀ b (u : State), Steady s₀ u → Steady s₀ { u with mem := u.mem.unwrite b } := fun b u h => h.put (Hbm.unwrite_wf u.mem b)
  have h : Steady s₀ (clearUnits (fun d q => d = die && q = r) (clearMems die r s)) := steady_clearUnits (steady_clearMems hs)
  unfold regionReset
  exact steady_ite (Steady.update h) (steady_ite (steady_eraseKeys h) (steady_ite (steady_cacheRemove h) (steady_ite (hu _ _ h) (steady_ite
      (hu _ _ h) h))))

theorem steady_bistDrop {k : Nat} {b : BistRun} (hs : Steady s₀ s) : Steady s₀ (bistDrop k b s).1 :=
  steady_fst (steady_count hs)

theorem steady_bistNext {b : BistRun} (hs : Steady s₀ s) : Steady s₀ (bistNext b s) :=
  steady_ite hs.same hs.same

theorem steady_bistRegionComplete {die region mismatches : Nat} (hs : Steady s₀ s) : Steady s₀ (bistRegionComplete die region mismatches s) := by
  unfold bistRegionComplete
  split
  · exact hs
  · exact steady_when hs (fun _ h₁ => steady_ite (steady_bistNext (steady_bistDrop h₁)) (steady_bistNext (steady_ite (steady_faultAt (steady_count
        (steady_regionReset h₁))) (steady_count (steady_regionReset h₁)))))

theorem steady_dumpCommand {par : Bytes} {act : Bytes → State → State} (hact : ∀ a b, Steady s₀ b → Steady s₀ (act a b))
    (hs : Steady s₀ s) : Steady s₀ (dumpCommand par act s) :=
  steady_command hs (fun _ _ h₁ => hact _ _ h₁)

theorem steady_dumpCapture {p : Bytes} (hs : Steady s₀ s) : Steady s₀ (dumpCapture p s) :=
  steady_ite hs.same (steady_ite hs.same hs.same)

theorem steady_captureSection {x : State × Nat} {k : Nat × Nat} (hx : Steady s₀ x.1) : Steady s₀ (captureSection x k).1 := by
  obtain ⟨s, off⟩ := x
  have hl : ∀ a n, Steady s₀ { s with mem := s.mem.lay a n (.free s.freeIdx) } := fun a n => hx.put (Hbm.lay_wf s.mem a n _)
  refine steady_ite_fst hx.same (steady_ite_fst ?_ ?_)
  · exact steady_fst (steady_count (hl _ _).same)
  · exact (hl (s.dumpBase + off) (min (sectionLen k.1 k.2) (dumpArea - off))).same

theorem steady_dumpCaptureComplete {lens : List Nat} (hs : Steady s₀ s) : Steady s₀ (dumpCaptureComplete lens s) := by
  unfold dumpCaptureComplete
  split
  · exact hs
  · exact steady_doneNow (steady_count (steady_foldl_fst hs.same (fun _ _ h₁ => steady_captureSection h₁)))

theorem steady_dumpClose {p : Bytes} (hs : Steady s₀ s) : Steady s₀ (dumpClose p s) :=
  steady_ite hs.same (steady_ite hs.same (steady_done (steady_count (Steady.update (steady_hbmPut hs)))))

theorem steady_dumpClear {x : Bytes} (hs : Steady s₀ s) : Steady s₀ (dumpClear x s) :=
  hs.same

theorem steady_tap {i : JtagInstr} (hs : Steady s₀ s) : Steady s₀ (tap i s) :=
  steady_when hs (fun _ h₁ => h₁.same)

theorem steady_trstNAssert (hs : Steady s₀ s) : Steady s₀ (trstNAssert s) :=
  hs.same

theorem steady_jtagBypass (hs : Steady s₀ s) : Steady s₀ (jtagBypass s) :=
  steady_tap hs

theorem steady_jtagIdcode (hs : Steady s₀ s) : Steady s₀ (jtagIdcode s) :=
  steady_when hs (fun _ h₁ => h₁.same)

theorem steady_jtagSamplePreload {preload : Bits} (hs : Steady s₀ s) : Steady s₀ (jtagSamplePreload preload s) :=
  steady_when hs (fun _ h₁ => h₁.same)

theorem steady_jtagExtest (hs : Steady s₀ s) : Steady s₀ (jtagExtest s) :=
  steady_tap hs

theorem steady_jtagClamp (hs : Steady s₀ s) : Steady s₀ (jtagClamp s) :=
  steady_tap hs

theorem steady_jtagHighz (hs : Steady s₀ s) : Steady s₀ (jtagHighz s) :=
  steady_tap hs

/-! ### Dict view -/

theorem steady_sampleObjects (hs : Steady s₀ s) : Steady s₀ (sampleObjects s) := by
  unfold sampleObjects
  exact Steady.update hs

/-! ### Reg read -/

theorem steady_sampleRings (hs : Steady s₀ s) : Steady s₀ (sampleRings s) :=
  hs.same

theorem steady_barRead {ev size : Nat} {v : Nat → State → Nat} {off : Nat} {ro : Bool} (hs : Steady s₀ s) : Steady s₀ (barRead ev size v off ro s) :=
  steady_when hs (fun _ h₁ => steady_ite (steady_emit (steady_unsupported (steady_count h₁))) (steady_emit (steady_count h₁)))

theorem steady_readBar0 {off size : Nat} {ro : Bool} (hs : Steady s₀ s) : Steady s₀ (readBar0 off size ro s) :=
  steady_barRead hs

theorem steady_readRom {off len : Nat} {ro : Bool} (hs : Steady s₀ s) : Steady s₀ (readRom off len ro s) :=
  steady_when hs (fun _ h₁ => steady_ite (steady_emit (steady_unsupported h₁)) (steady_ite (h₁.same) (steady_emit (steady_hbmGet h₁))))

theorem steady_readBar2 {off size : Nat} {ro : Bool} (hs : Steady s₀ s) : Steady s₀ (readBar2 off size ro s) :=
  steady_barRead hs

/-! ### Dict write -/

/-- A table of command actions each of which is steady. -/
def SteadyOps (ops : Nat → Option CmdAct) : Prop := ∀ n act, ops n = some act → ∀ p (s₀ s : State), Steady s₀ s → Steady s₀ (act p s)

theorem steady_hierOps : SteadyOps hierOps := by
  intro op act e p s₀ s hs
  unfold hierOps at e
  split at e <;> cases e
  · exact steady_domainOff hs
  · exact steady_domainOn hs
  · exact steady_clusterQuiesce hs
  · exact steady_clusterResume hs
  · exact steady_regionCommandFence hs
  · exact steady_regionCommandUnfence hs
  · exact steady_domainForcedOff hs

theorem steady_switchOps : SteadyOps switchOps := by
  intro op act e p s₀ s hs
  unfold switchOps at e
  split at e <;> cases e
  · exact steady_fdbAddStatic hs
  · exact steady_fdbDelete hs
  · exact steady_fdbFlush hs
  · exact steady_fdbLookup hs
  · exact steady_groupWrite hs
  · exact steady_groupRead hs
  · exact steady_vlanWrite hs
  · exact steady_vlanRead hs

theorem steady_schedOps : SteadyOps schedOps := by
  intro op act e p s₀ s hs
  unfold schedOps at e
  split at e <;> cases e
  · exact steady_queueWrite hs
  · exact steady_queueRead hs
  · exact steady_instanceShaperWrite hs
  · exact steady_instanceShaperRead hs
  · exact steady_policerWrite hs
  · exact steady_policerRead hs
  · exact steady_policeMapWrite hs
  · exact steady_policeMapRead hs
  · exact steady_gateAdminWrite hs
  · exact steady_gateCommit hs
  · exact steady_gateRead hs
  · exact steady_sampleFetch hs

theorem steady_qpOps : SteadyOps qpOps := by
  intro op act e p s₀ s hs
  unfold qpOps at e
  split at e <;> cases e
  · exact steady_qpCreate hs
  · exact steady_qpConnect hs
  · exact steady_qpToError hs
  · exact steady_qpDestroy hs
  · exact steady_qpQuery hs
  · exact steady_domainAllocate hs
  · exact steady_domainFree hs

theorem steady_mrOps : SteadyOps mrOps := by
  intro op act e p s₀ s hs
  unfold mrOps at e
  split at e <;> cases e
  · exact steady_mrRegister hs
  · exact steady_mrRevoke hs
  · exact steady_mrQuery hs

theorem steady_ccOps : SteadyOps ccOps := by
  intro op act e p s₀ s hs
  unfold ccOps at e
  split at e <;> cases e
  · exact steady_ccSetProfileMode hs
  · exact steady_ccQueryRate hs

theorem steady_chainOps : SteadyOps chainOps := by
  intro op act e p s₀ s hs
  unfold chainOps at e
  split at e <;> cases e
  · exact steady_chainArm hs
  · exact steady_chainDisarm hs
  · exact steady_chainQuery hs
  · exact steady_mirrorBind hs
  · exact steady_mirrorUnbind hs

theorem steady_targetOps : SteadyOps targetOps := by
  intro op act e p s₀ s hs
  unfold targetOps at e
  split at e <;> cases e
  · exact steady_namespaceWrite hs
  · exact steady_namespaceRead hs
  · exact steady_accessWrite hs
  · exact steady_associationBind hs
  · exact steady_associationRelease hs
  · exact steady_queueBind hs
  · exact steady_queueEnable hs
  · exact steady_queueUnbind hs
  · exact steady_reservationViewWrite hs
  · exact steady_associationQuery hs
  · exact steady_hostGroupWrite hs

theorem steady_layoutOps : SteadyOps layoutOps := by
  intro op act e p s₀ s hs
  unfold layoutOps at e
  split at e <;> cases e
  · exact steady_groupCreate hs
  · exact steady_groupDelete hs
  · exact steady_groupQuery hs
  · exact steady_volumeCreate hs
  · exact steady_volumeDelete hs
  · exact steady_volumeQuery hs
  · exact steady_reshapeStart hs
  · exact steady_reshapePauseResume hs
  · exact steady_rebuildStart hs
  · exact steady_scrubControl hs
  · exact steady_memberFailCommand hs
  · exact steady_lostListFetch hs

theorem steady_ledgerOps : SteadyOps ledgerOps := by
  intro op act e p s₀ s hs
  unfold ledgerOps at e
  split at e <;> cases e
  · exact steady_ledgerCreate hs
  · exact steady_copyReplace hs
  · exact steady_replay hs
  · exact steady_drain hs

theorem steady_cipherOps {signed : Bool} : SteadyOps (cipherOps signed) := by
  intro op act e p s₀ s hs
  unfold cipherOps at e
  split at e <;> cases e
  · exact steady_rootCreate hs
  · exact steady_unwrap hs
  · exact steady_enroll hs
  · exact steady_escrowExport hs
  · exact steady_rootUnload hs
  · exact steady_volumeRekey hs
  · exact steady_restore hs
  · exact steady_volumeEpochQuery hs

theorem steady_standbyOps {signed : Bool} : SteadyOps (standbyOps signed) := by
  intro op act e p s₀ s hs
  unfold standbyOps at e
  split at e <;> cases e
  · exact steady_enterStandby hs
  · exact steady_takeOver hs
  · exact steady_fenceRelease hs
  · exact steady_resign hs

theorem steady_bayOps {bay : Nat} : SteadyOps (bayOps bay) := by
  intro op act e p s₀ s hs
  unfold bayOps at e
  split at e <;> cases e
  · exact steady_bayRelease hs
  · exact steady_bayEnergyClear hs
  · exact steady_bayPowerCycle hs
  · exact steady_bayHistoryClear hs

theorem steady_driveOps {how : SidebandEnd} {rd : Bytes} : SteadyOps (driveOps how rd) := by
  intro op act e p s₀ s hs
  unfold driveOps at e
  split at e <;> cases e
  · exact steady_adminPassthrough hs
  · exact steady_controllerReset hs
  · exact steady_sidebandTransfer hs
  · exact steady_linkRetrain hs

theorem steady_mpOps : SteadyOps mpOps := by
  intro op act e p s₀ s hs
  unfold mpOps at e
  split at e <;> cases e
  · exact steady_regionFill hs
  · exact steady_hbmFill hs
  · exact steady_testWrite hs
  · exact steady_testRead hs
  · exact steady_instanceQuery hs

theorem steady_bistOps : SteadyOps bistOps := by
  intro op act e p s₀ s hs
  unfold bistOps at e
  split at e <;> cases e
  · exact steady_bistStart hs
  · exact steady_bistStart hs
  · exact steady_bistStart hs

theorem steady_dumpOps : SteadyOps dumpOps := by
  intro op act e p s₀ s hs
  unfold dumpOps at e
  split at e <;> cases e
  · exact steady_dumpCapture hs
  · exact steady_dumpClose hs
  · exact steady_dumpClear hs

theorem steady_ctrOps : SteadyOps ctrOps := by
  intro op act e p s₀ s hs
  unfold ctrOps at e
  split at e <;> cases e
  · exact steady_clearAll hs
  · exact steady_clearStage hs
  · exact steady_clearSelectable hs
  · exact steady_snapshotNow hs
  · exact steady_counterRead hs
  · exact steady_directoryQuery hs

theorem steady_fwOps {signed : Bool} : SteadyOps (fwOps signed) := by
  intro op act e p s₀ s hs
  unfold fwOps at e
  split at e <;> cases e
  · exact steady_measurementExtend hs
  · exact steady_attest hs
  · exact steady_rollbackAdvance hs
  · exact steady_oemRevoke hs

theorem steady_commandWrite {key set size err op : Nat} {ops : Nat → Option CmdAct} {v : Bytes} (ho : SteadyOps ops) (hs : Steady s₀ s) :
    Steady s₀ (commandWrite key set size err op ops v s) := by
  refine steady_command hs fun p t h => ?_
  split
  next e => exact ho _ _ e p s₀ t h
  next => exact h.same

theorem steady_cmdWrite {dict : Nat → Option CmdAct} {k : Nat} {signed : Bool} {v : Bytes} (hd : SteadyOps dict) (hs : Steady s₀ s) :
    Steady s₀ (cmdWrite dict k signed v s) := by
  have ho : SteadyOps (fun o => if o = 1 then some domainBringUp else none) := by
    intro op act e p s₀ s hs
    simp only [Option.ite_none_right_eq_some, Option.some.injEq] at e
    rw [← e.2]
    exact steady_domainBringUp hs
  exact
    steady_ite (steady_commandWrite hd hs) (steady_ite (steady_timeStep hs) (steady_ite (steady_timeSet hs) (steady_ite (steady_rebase hs) (
    steady_ite (steady_ite hs.same (steady_commandWrite steady_hierOps hs)) (steady_ite (steady_commandWrite steady_switchOps hs) (
    steady_ite (steady_commandWrite steady_schedOps hs) (steady_ite (steady_commandWrite steady_qpOps hs) (
    steady_ite (steady_commandWrite steady_mrOps hs) (steady_ite (steady_commandWrite steady_ccOps hs) (
    steady_ite (steady_commandWrite steady_chainOps hs) (steady_ite (steady_commandWrite steady_targetOps hs) (
    steady_ite (steady_commandWrite steady_layoutOps hs) (steady_ite (steady_commandWrite steady_ledgerOps hs) (
    steady_ite (steady_commandWrite steady_cipherOps hs) (steady_ite (steady_commandWrite steady_standbyOps hs) (
    steady_ite (steady_commandWrite steady_bayOps hs) (steady_ite (steady_commandWrite steady_driveOps hs.same) (
    steady_ite (steady_commandWrite steady_mpOps hs) (steady_ite (steady_commandWrite steady_bistOps hs) (
    steady_ite (steady_commandWrite ho hs) (steady_ite (steady_commandWrite steady_dumpOps hs) (
    steady_ite (steady_commandWrite steady_ctrOps hs) (steady_ite (steady_commandWrite steady_fwOps hs) hs.same)))))))))))))))))))))))

theorem steady_plainWrite {d : ObjDesc} {k : Nat} {v : Bytes} (hs : Steady s₀ s) : Steady s₀ (plainWrite d k v s) :=
  steady_ite hs.same (steady_ite hs.same (steady_status (steady_ite (Steady.update (steady_ite hs.same hs.same)) (steady_ite hs.same hs.same))))

theorem steady_ownWrite {k : Nat} {signed : Bool} {v : Bytes} {f : State → State} (e : ownWrite k signed v = some f) (hs : Steady s₀ s) :
    Steady s₀ (f s) := by
  unfold ownWrite at e
  exact
    steady_some_ite e (steady_bellPhaseWrite hs) fun e => steady_some_ite e (steady_ptpLockWrite hs) fun e =>
    steady_some_ite e (steady_overrunRearm hs) fun e => steady_some_ite e (steady_portModeWrite hs) fun e =>
    steady_some_ite e (steady_portEnableWrite hs) fun e => steady_some_ite e (steady_checkpointPersisted hs) fun e =>
    steady_some_ite e (steady_wseqGrant hs) fun e => steady_some_ite e (steady_operatorKeyWrite hs) fun e =>
    steady_some_ite e (steady_hbRefresh hs) fun e => steady_some_ite e (steady_leaseConfirm hs) fun e =>
    steady_some_ite e (steady_bayEnableWrite hs) fun e => steady_some_ite e (steady_epConfigReadyWrite hs) fun e =>
    steady_some_ite e (steady_faultNHoldWrite hs) fun e => steady_some_ite e (steady_faultInject hs) fun e =>
    steady_some_ite e (steady_firstFaultRearm hs) fun e => steady_some_ite e (steady_severityActionsWrite hs) fun e =>
    steady_some_ite e (steady_sourceCfgWrite hs) fun e => nomatch e

theorem steady_dictWrite {dict : Nat → Option CmdAct} {k : Nat} {signed : Bool} {v : Bytes} (hd : SteadyOps dict) (hs : Steady s₀ s) :
    Steady s₀ (dictWrite dict k signed v s) := by
  refine steady_ite hs.same ?_
  split
  · exact hs.same
  · refine steady_ite hs.same (steady_ite hs.same (steady_ite (steady_cmdWrite hd hs) ?_))
    split
    next e => exact steady_ownWrite e hs
    next => exact steady_plainWrite hs

/-! ### Snapshot -/

theorem steady_dictExport {p : Bytes} (hs : Steady s₀ s) : Steady s₀ (dictExport p s) :=
  steady_ite hs.same (steady_ite hs.same (steady_ite hs.same (steady_done (steady_count (steady_hbmPut hs)))))

theorem steady_restoreSwitch {ws : List Nat} (e : restoreSwitch ws s = some t) (hs : Steady s₀ s) : Steady s₀ t := by
  unfold restoreSwitch at e
  split at e
  · cases e; exact hs.same
  · cases e; exact hs.same
  · cases e; exact hs.same
  · cases e

theorem steady_restoreSched {ws : List Nat} (e : restoreSched ws s = some t) (hs : Steady s₀ s) : Steady s₀ t := by
  unfold restoreSched at e
  split at e
  case h_8 => cases e
  all_goals cases e; exact hs.same

theorem steady_restoreTarget {ws : List Nat} (e : restoreTarget ws s = some t) (hs : Steady s₀ s) : Steady s₀ t := by
  unfold restoreTarget at e
  split at e
  · cases e; exact hs.same
  · cases e; exact hs.same
  · cases e

theorem steady_restoreLayout {ws : List Nat} (e : restoreLayout ws s = some t) (hs : Steady s₀ s) : Steady s₀ t := by
  unfold restoreLayout at e
  split at e
  · cases e; exact steady_layMap hs.same
  · cases e; exact hs.same
  · cases e; exact hs.same
  · cases e

theorem steady_restoreEpochs {ws : List Nat} (e : restoreEpochs ws s = some t) (hs : Steady s₀ s) : Steady s₀ t := by
  unfold restoreEpochs at e
  split at e
  · cases e; exact hs.same
  · obtain ⟨x, -, rfl⟩ := Option.map_eq_some_iff.mp e
    exact steady_onVolume hs
  · cases e

theorem steady_restoreState {k : Nat} {v : Bytes} (e : restoreState k v s = some t) (hs : Steady s₀ s) : Steady s₀ t := by
  simp only [restoreState] at e
  split at e
  · exact steady_restoreSwitch e hs
  split at e
  · exact steady_restoreSched e hs
  split at e
  · exact steady_restoreTarget e hs
  split at e
  · exact steady_restoreLayout e hs
  split at e
  · exact steady_restoreEpochs e hs
  · cases e

theorem steady_restoreObject {free : Bool} {k : Nat} {v : Bytes} (e : restoreObject free k v s = some t) (hs : Steady s₀ s) : Steady s₀ t := by
  unfold restoreObject at e
  split at e
  · cases e
  · split at e
    · split at e
      · cases e; exact hs.same
      · cases e
    · split at e
      · cases e
      · dsimp only at e
        split at e
        · cases e; exact steady_dictWrite (fun _ _ e => nomatch e) hs
        · cases e

theorem steady_importEntry {free : Bool} {x : State × ImportCount} {e : Nat × Nat × Bytes} (hx : Steady s₀ x.1) :
    Steady s₀ (importEntry free x e).1 := by
  obtain ⟨s, n⟩ := x
  simp only [importEntry]
  split
  next t he =>
    split at he
    · exact steady_restoreObject he hx
    · split at he
      · exact steady_restoreState he hx
      · cases he
  next => exact steady_fst (steady_count hx.same)

theorem steady_dictImport {local' : Bool} {p : Bytes} (hs : Steady s₀ s) : Steady s₀ (dictImport local' p s) :=
  steady_ite hs.same (steady_ite hs.same (by
    extract_lets
    split
    next _ _ _ e =>
    have k₁ := steady_of_eq e (steady_hbmGet hs)
    exact steady_ite (k₁.same) (steady_done (steady_count (Steady.update (steady_foldl_fst k₁ (fun _ _ h₁ => steady_importEntry h₁)))))))

theorem steady_requesterTableClear {x : Bytes} (hs : Steady s₀ s) : Steady s₀ (requesterTableClear x s) :=
  hs.same

/-! ### Brodlet -/

theorem steady_dictOps {local' : Bool} : SteadyOps (dictOps local') := by
  intro op act e p s₀ s hs
  unfold dictOps at e
  split at e <;> cases e
  · exact steady_dictExport hs
  · exact steady_dictImport hs
  · exact steady_requesterTableClear hs

theorem steady_writeObj {path : Nat} {r : OpRec} (hs : Steady s₀ s) : Steady s₀ (writeObj path r s) :=
  steady_ite hs.same (steady_ite hs.same (steady_ite hs.same (steady_dictWrite steady_dictOps hs)))

theorem steady_signedWrite {path : Nat} {r : OpRec} (hs : Steady s₀ s) : Steady s₀ (signedWrite path r s) :=
  steady_ite hs.same (steady_ite (steady_status (steady_count (steady_faultAt hs))) (steady_dictWrite steady_dictOps (steady_count hs.same)))

theorem steady_runOp {path : Nat} {r : OpRec} (hs : Steady s₀ s) : Steady s₀ (runOp path r s).1 := by
  unfold runOp
  extract_lets answer
  have ha : ∀ x, Steady s₀ (answer x).1 := fun x => by cases x <;> exact hs
  refine steady_ite_fst (ha _) (steady_ite_fst (steady_writeObj hs) (steady_ite_fst (ha _) (steady_ite_fst ?_ (steady_signedWrite hs))))
  split <;> exact hs

theorem steady_stepOp {path : Nat} {x : State × Bytes} {r : OpRec} (hx : Steady s₀ x.1) : Steady s₀ (stepOp path x r).1 := by
  unfold stepOp
  split
  next _ _ _ _ e =>
  have k₁ := steady_of_eq e (steady_runOp hx)
  exact steady_fst (steady_count (steady_count (steady_ite (steady_count k₁) k₁)))

theorem steady_runRequest {path id : Nat} {rs : List OpRec} (hs : Steady s₀ s) : Steady s₀ (runRequest path id rs s).1 :=
  steady_fst (steady_count (steady_foldl_fst hs (fun _ _ h₁ => steady_stepOp h₁)))

theorem steady_useEntry {q : Nat × Nat × Nat} (hs : Steady s₀ s) : Steady s₀ (useEntry q s) := by
  unfold useEntry
  split
  · exact hs.same
  · exact steady_ite (steady_count hs.same) (steady_ite (steady_faultAt (steady_count (steady_count hs.same))) (steady_count (steady_count hs.same)))

theorem steady_storeResponse {q : Nat × Nat × Nat} {c : CachedReq} (hs : Steady s₀ s) : Steady s₀ (storeResponse q c s) :=
  hs.same

theorem steady_refuse {path id st : Nat} (hs : Steady s₀ s) : Steady s₀ (refuse path id st s).1 :=
  steady_fst (steady_slot (steady_count hs))

theorem steady_handle {q : Nat × Nat × Nat} {b : Bytes} (hs : Steady s₀ s) : Steady s₀ (handle q b s).1 := by
  have h : Steady s₀ { s with dict.execCount := s.dict.execCount + 1 } := hs.same
  have k : Steady s₀ (useEntry q { s with dict.execCount := s.dict.execCount + 1 }) := steady_useEntry h
  unfold handle
  refine steady_ite_fst (steady_fst (steady_slot (steady_count h))) ?_
  dsimp only
  split
  · exact steady_refuse h
  · refine steady_ite_fst (steady_fst (steady_runRequest (steady_slot h))) (steady_ite_fst (steady_refuse h) ?_)
    split
    · exact steady_ite_fst (steady_fst (steady_count (steady_slot k))) (steady_refuse k)
    · exact steady_fst (steady_storeResponse (steady_runRequest (steady_slot k)))

theorem steady_respond {q : Nat × Nat × Nat} {job : Nat} {a : Option Bytes} (hs : Steady s₀ s) : Steady s₀ (respond q job a s) :=
  steady_ite (by
    split
    · exact steady_exchangeDone hs
    · exact steady_endJob hs) (by
    split
    · exact hs
    · exact steady_ite (steady_ite (steady_ite (steady_trigger hs.same) hs.same) hs) hs.same)

theorem steady_execute {q : Nat × Nat × Nat} {job : Nat} {b : Bytes} (hs : Steady s₀ s) : Steady s₀ (execute q job b s) :=
  steady_respond (steady_handle hs)

theorem steady_answerBusy {w : WaitReq} (hs : Steady s₀ s) : Steady s₀ (answerBusy w s) := by
  unfold answerBusy
  refine steady_ite (steady_slot (steady_count hs)) ?_
  split
  next e => exact steady_respond (steady_of_eq e (steady_refuse hs))

theorem steady_dictEdge (hs : Steady s₀ s) : Steady s₀ (dictEdge s) :=
  steady_foldl (steady_foldl (steady_foldl hs.same (fun _ _ h₁ => steady_answerBusy h₁)) (fun _ _ h₁ => steady_execute h₁))
      (fun _ _ h₁ => steady_ite (steady_count h₁) h₁)

theorem steady_brodletRequest {src : Requester} {b : Bytes} (hs : Steady s₀ s) : Steady s₀ (brodletRequest src b s) :=
  steady_when hs (fun _ h₁ => steady_submit h₁)

theorem steady_windowGo (hs : Steady s₀ s) : Steady s₀ (windowGo s) :=
  steady_ite (steady_count hs) hs.same

theorem steady_dwGo (hs : Steady s₀ s) : Steady s₀ (dwGo s) :=
  steady_barWrite (fun _ h₁ => steady_windowGo h₁) hs

theorem steady_dictionaryExchange {q : Nat} {_msg : Bytes} (hs : Steady s₀ s) : Steady s₀ (dictionaryExchange q _msg s) :=
  steady_startJob (fun _ _ _ h₁ => steady_ite (steady_endJob h₁) (steady_jobReads h₁)) hs

theorem steady_bar0Any {off v : Nat} (hs : Steady s₀ s) : Steady s₀ (bar0Any off v s) := by
  unfold bar0Any
  refine steady_ite (Steady.update hs) (steady_ite (steady_ite (steady_windowGo hs) hs) (steady_ite (Steady.update hs) (steady_bar0Dword hs)))

theorem steady_bar2Any {off size v : Nat} (hs : Steady s₀ s) : Steady s₀ (bar2Any off size v s) :=
  steady_ite hs (steady_ite (steady_barWrite (fun _ h₁ => h₁) hs) (steady_ite (steady_tailDoorbell hs) (steady_ite (steady_pushDoorbell hs)
      (steady_ite (steady_excConsDoorbell hs) (steady_ite (steady_barWrite (fun _ h₁ => h₁.same) hs) (steady_barWrite (fun _ h₁ => h₁) hs))))))

theorem steady_registerWrite {w : RegWrite} (hs : Steady s₀ s) : Steady s₀ (registerWrite w s) := by
  cases w with
  | obj i u v => exact steady_dictWrite steady_dictOps hs
  | bar0 off size v => exact steady_barWrite (fun _ h => steady_ite (steady_bar0Any h) (steady_bar0Any (steady_bar0Any h))) hs
  | bar2 off size v => exact steady_bar2Any hs
  | readBar0 off size ro => exact steady_readBar0 hs
  | readBar2 off size ro => exact steady_readBar2 hs
  | readRom off len ro => exact steady_readRom hs
  | poisoned bar2 => exact steady_when hs (fun _ h => steady_poisonedWrite (steady_count h))

/-! ### Settle -/

theorem steady_takeNotice {n : Notice} (hs : Steady s₀ s) : Steady s₀ (takeNotice n s) := by
  unfold takeNotice
  split
  · exact steady_capsuleIn hs
  · exact steady_dataArrives hs
  · exact steady_dataComplete hs
  · exact hs.same
  · exact hs
  · exact steady_dropQueue hs

theorem steady_settleRound (hs : Steady s₀ s) : Steady s₀ (settleRound s) :=
  steady_foldl (Steady.update (steady_foldl hs.same (fun _ _ h₁ => steady_takeNotice h₁))) (fun _ _ h₁ => steady_ringNote h₁)

theorem steady_settleGo {f : Nat} (hs : Steady s₀ s) : Steady s₀ (settleGo f s) := by
  induction f generalizing s with
  | zero => exact hs
  | succ f ih => exact steady_ite hs (ih (steady_settleRound hs))

theorem steady_settle (hs : Steady s₀ s) : Steady s₀ (settle s) :=
  steady_settleGo hs

theorem steady_workRequestPost {qpn : Nat} {wr : WorkRequest} (hs : Steady s₀ s) : Steady s₀ (workRequestPost qpn wr s) :=
  steady_when hs (fun _ h₁ => steady_postWork h₁)

/-! ### Bell edge -/

theorem steady_edgeInputs {x : EdgeInput} (hs : Steady s₀ s) : Steady s₀ (edgeInputs x s) :=
  steady_settle (steady_runParsed (steady_settle (steady_foldl (steady_foldl (steady_foldl (steady_takePortInputs (steady_foldl hs
      (fun _ _ h₁ => steady_takeArrival h₁))) (fun _ _ h₁ => steady_count h₁)) (fun _ _ h₁ => steady_linkError h₁))
      (fun _ _ h₁ => steady_memError h₁))))

theorem steady_edgeGuard {x : EdgeInput} (hs : Steady s₀ s) : Steady s₀ (edgeGuard x s) :=
  steady_guardCounters (steady_noteJobs (steady_noteCells (steady_noteIneligible (steady_countKeyWaits (steady_countStaging (steady_publishCells
      (steady_publishCredit (steady_ringDoorbells (steady_flushEvents (steady_serviceItems hs))))))))))

theorem steady_voidTimed (hs : Steady s₀ s) : Steady s₀ (voidTimed s) :=
  hs.same

theorem steady_edgeResults (hs : Steady s₀ s) : Steady s₀ (edgeResults s) :=
  steady_pinsEdge (steady_snapshotTarget (steady_countersEdge (steady_realignment (steady_commitResults hs))))

theorem steady_edgeRefill (hs : Steady s₀ s) : Steady s₀ (edgeRefill s) :=
  steady_countPause (steady_updateAverages (steady_countIneligible (steady_sampleAll (steady_updateVirtuals (steady_refillLanes (steady_refillRates
      (steady_refillPolicers (steady_refillShapers (steady_gateListsEdge hs.same)))))))))

theorem steady_edgeTake (hs : Steady s₀ s) : Steady s₀ (edgeTake s) :=
  steady_cipherEdge (steady_issueFetches (steady_startDrains (steady_takeDisarms (steady_parseCapsules (steady_takeViews (steady_settleDurable
      (steady_dropTargets hs.same)))))))

theorem steady_edgeRole (hs : Steady s₀ s) : Steady s₀ (edgeRole s) :=
  steady_standbyEdge hs

theorem steady_samplePwrfail {low : Bool} (hs : Steady s₀ s) : Steady s₀ (samplePwrfail low s) :=
  hs.same

theorem steady_edgeFaults {old : List FaultEvent} (hs : Steady s₀ s) : Steady s₀ (edgeFaults old s) :=
  Steady.update (steady_ownCountEnds (steady_bucketsLeak (steady_bucketsEdge (steady_recoverAll (steady_evaluateFaults (Steady.update
      (steady_faultNPulseEnd hs)))))))

theorem steady_edgeOverruns {x : EdgeInput} (hs : Steady s₀ s) : Steady s₀ (edgeOverruns x s) :=
  steady_foldl hs (fun _ _ h₁ => steady_unitOverrun h₁)

theorem steady_rootWait (hs : Steady s₀ s) : Steady s₀ (rootWait s) :=
  steady_ite hs.same hs

theorem steady_edgeWork (hs : Steady s₀ s) : Steady s₀ (edgeWork s) :=
  steady_startUnits (steady_serveDrives (steady_settle (steady_layoutEdge (steady_settle (steady_startTransport (steady_sendDueAcks (steady_takeHeld
      (steady_rootWait (steady_drainCipher (steady_settle (steady_imagesEdge (steady_finishWrites (steady_stageWaiting
      (steady_drainAll hs))))))))))))))

theorem steady_edgeShow (hs : Steady s₀ s) : Steady s₀ (edgeShow s) :=
  steady_sampleRings (steady_sampleObjects (steady_updateDescriptor (steady_settle hs)))

theorem steady_edgeServe (hs : Steady s₀ s) : Steady s₀ (edgeServe s) :=
  steady_settle (steady_dictEdge hs)

end Sys2Proof.Machine
end

section
-- One proof at a time: hundreds at once need more threads than the memory limit of the check has room for.
set_option Elab.async false
/-! ### The commands that move no time -/

namespace Sys2Proof.Machine
variable {s t u : State}

theorem steady_of_effect (e : effect s u = .next t) (h : Steady s u) : Steady s t := by
  cases e
  exact h.same

theorem steady_of_up {f : State → State} (e : up s f = .next t) (h : Steady s s → Steady s (f s)) : Steady s t :=
  steady_of_effect e (steady_ite (h (Steady.refl s)) (Steady.refl s))

theorem steady_of_act {f : State → State} (e : act s f = .next t) (h : Steady s s → Steady s (f s)) : Steady s t :=
  steady_of_up e fun k => steady_settle (h k)

theorem steady_of_pin {f g : State → State} (e : pin s f g = .next t) (hf : Steady s s → Steady s (f s)) (hg : Steady s s → Steady s (g s)) :
    Steady s t :=
  steady_of_effect e (steady_ite (hf (Steady.refl s)) (hg (Steady.refl s)))

/-- REFERENCE_FAIL in each reset phase. -/
theorem steady_execReferenceFail (e : execReferenceFail s = .next t) : Steady s t := by
  unfold execReferenceFail at e
  refine steady_of_effect e ?_
  split
  · exact steady_referenceFail (Steady.refl s)
  · exact steady_referenceAtStart (Steady.refl s)
  · exact Steady.refl s

/-- What every command but BELL_EDGE and the reset rows leaves. -/
theorem exec_steady {c : Instr} (hc : c.movesTime = false) (e : exec c s = .next t) : Steady s t := by
  cases c with
  | bellEdge _ => cases hc
  | lateItemComplete _ _ _ => exact steady_of_up e steady_lateItemComplete
  | edgeTimeout _ => exact steady_of_up e (steady_when · fun _ => steady_repeaterFail)
  | ptpLockWrite _ => exact steady_of_up e steady_ptpLockWrite
  | lockHoldoverExpired => exact steady_of_up e steady_lockHoldoverExpired
  | bellPhaseWrite _ => exact steady_of_up e steady_bellPhaseWrite
  | timeStep _ => exact steady_of_up e steady_timeStep
  | timeSet _ => exact steady_of_up e steady_timeSet
  | rebase _ => exact steady_of_up e steady_rebase
  | realignment => exact steady_of_up e steady_realignment
  | referenceFail => exact steady_execReferenceFail e
  | overrunRearm _ => exact steady_of_up e steady_overrunRearm
  | domainOff _ => exact steady_of_up e (steady_hierCommand fun _ _ => steady_domainOff)
  | domainOn _ => exact steady_of_up e (steady_hierCommand fun _ _ => steady_domainOn)
  | clusterQuiesce _ => exact steady_of_up e (steady_hierCommand fun _ _ => steady_clusterQuiesce)
  | clusterResume _ => exact steady_of_up e (steady_hierCommand fun _ _ => steady_clusterResume)
  | regionCommandFence _ => exact steady_of_up e (steady_hierCommand fun _ _ => steady_regionCommandFence)
  | regionCommandUnfence _ => exact steady_of_up e (steady_hierCommand fun _ _ => steady_regionCommandUnfence)
  | domainForcedOff _ => exact steady_of_up e (steady_hierCommand fun _ _ => steady_domainForcedOff)
  | quiesceComplete => exact steady_of_up e steady_quiesceComplete
  | domainSwitchStart _ => exact steady_of_up e steady_domainSwitchStart
  | domainPowerGood _ => exact steady_of_up e steady_domainPowerGood
  | domainPgTimeout _ => exact steady_of_up e steady_domainPgTimeout
  | domainRelease _ => exact steady_of_up e steady_domainRelease
  | domainTrained _ _ => exact steady_of_up e steady_domainTrained
  | domainRetentionLost _ => exact steady_of_up e steady_domainRetentionLost
  | clockGoodLost _ => exact steady_of_up e steady_clockGoodLost
  | ucieRetry _ => exact steady_of_up e steady_ucieRetry
  | ucieLinkFail _ => exact steady_of_up e steady_ucieLinkFail
  | portModeWrite _ _ _ => exact steady_of_up e steady_portModeWrite
  | portEnableWrite _ _ => exact steady_of_up e steady_portEnableWrite
  | portUp _ => exact steady_of_up e steady_portUp
  | portDown _ _ => exact steady_of_up e steady_portDown
  | fecWindowEnd _ => exact steady_of_up e steady_fecWindowEnd
  | frameReceive _ _ => exact steady_of_up e steady_frameReceive
  | pfcRefresh _ _ => exact steady_of_up e steady_pfcRefresh
  | pfcReceive _ _ _ => exact steady_of_up e steady_pfcReceive
  | pauseExpiry _ _ => exact steady_of_up e steady_pauseExpiry
  | pfcStormDetect _ _ => exact steady_of_up e steady_pfcStormDetect
  | pfcStormRestore _ _ => exact steady_of_up e steady_pfcStormRestore
  | xoffStormDetect _ _ => exact steady_of_up e steady_xoffStormDetect
  | fdbAgeExpiry _ _ => exact steady_of_up e steady_fdbAgeExpiry
  | frameTransmit _ _ => exact steady_of_up e steady_frameTransmit
  | mgmtFrameSend _ _ => exact steady_of_up e steady_mgmtFrameSend
  | fdbAddStatic _ => exact steady_of_up e (steady_switchCommand fun _ _ => steady_fdbAddStatic)
  | fdbDelete _ => exact steady_of_up e (steady_switchCommand fun _ _ => steady_fdbDelete)
  | fdbFlush _ => exact steady_of_up e (steady_switchCommand fun _ _ => steady_fdbFlush)
  | fdbLookup _ => exact steady_of_up e (steady_switchCommand fun _ _ => steady_fdbLookup)
  | groupWrite _ => exact steady_of_up e (steady_switchCommand fun _ _ => steady_groupWrite)
  | groupRead _ => exact steady_of_up e (steady_switchCommand fun _ _ => steady_groupRead)
  | vlanWrite _ => exact steady_of_up e (steady_switchCommand fun _ _ => steady_vlanWrite)
  | vlanRead _ => exact steady_of_up e (steady_switchCommand fun _ _ => steady_vlanRead)
  | sampleWindowEnd _ => exact steady_of_up e steady_sampleWindowEnd
  | gateListSwitch _ _ => exact steady_of_up e steady_gateListSwitch
  | queueWrite _ => exact steady_of_up e (steady_schedCommand fun _ _ => steady_queueWrite)
  | queueRead _ => exact steady_of_up e (steady_schedCommand fun _ _ => steady_queueRead)
  | instanceShaperWrite _ => exact steady_of_up e (steady_schedCommand fun _ _ => steady_instanceShaperWrite)
  | instanceShaperRead _ => exact steady_of_up e (steady_schedCommand fun _ _ => steady_instanceShaperRead)
  | policerWrite _ => exact steady_of_up e (steady_schedCommand fun _ _ => steady_policerWrite)
  | policerRead _ => exact steady_of_up e (steady_schedCommand fun _ _ => steady_policerRead)
  | policeMapWrite _ => exact steady_of_up e (steady_schedCommand fun _ _ => steady_policeMapWrite)
  | policeMapRead _ => exact steady_of_up e (steady_schedCommand fun _ _ => steady_policeMapRead)
  | gateAdminWrite _ => exact steady_of_up e (steady_schedCommand fun _ _ => steady_gateAdminWrite)
  | gateCommit _ => exact steady_of_up e (steady_schedCommand fun _ _ => steady_gateCommit)
  | gateRead _ => exact steady_of_up e (steady_schedCommand fun _ _ => steady_gateRead)
  | sampleFetch _ => exact steady_of_up e (steady_schedCommand fun _ _ => steady_sampleFetch)
  | packetReceive _ _ => exact steady_of_act e steady_receivePacket
  | contextFetchComplete _ _ => exact steady_of_act e steady_fetchComplete
  | contextWritebackComplete _ => exact steady_of_up e steady_writebackComplete
  | retransmitTimeout _ => exact steady_of_act e steady_retransmitTimeout
  | rnrWaitExpiry _ => exact steady_of_up e steady_rnrWaitExpiry
  | qpCreate _ => exact steady_of_up e (steady_qpCommand fun _ _ => steady_qpCreate)
  | qpConnect _ => exact steady_of_up e (steady_qpCommand fun _ _ => steady_qpConnect)
  | qpToError _ => exact steady_of_act e (steady_qpCommand fun _ _ => steady_qpToError)
  | qpDestroy _ => exact steady_of_up e (steady_qpCommand fun _ _ => steady_qpDestroy)
  | qpDestroyComplete _ => exact steady_of_up e steady_qpDestroyComplete
  | qpQuery _ => exact steady_of_up e (steady_qpCommand fun _ _ => steady_qpQuery)
  | domainAllocate _ => exact steady_of_up e (steady_qpCommand fun _ _ => steady_domainAllocate)
  | domainFree _ => exact steady_of_up e (steady_qpCommand fun _ _ => steady_domainFree)
  | mrRegister _ => exact steady_of_up e (steady_mrCommand fun _ _ => steady_mrRegister)
  | mrRevoke _ => exact steady_of_up e (steady_mrCommand fun _ _ => steady_mrRevoke)
  | mrQuery _ => exact steady_of_up e (steady_mrCommand fun _ _ => steady_mrQuery)
  | mrDrainComplete _ => exact steady_of_up e steady_mrDrainComplete
  | revokeTimeout _ => exact steady_of_act e steady_revokeTimeout
  | rateUpdate => exact steady_of_up e steady_rateUpdate
  | idleReset _ => exact steady_of_up e steady_idleReset
  | ccSetProfileMode _ => exact steady_of_up e (steady_ccCommand fun _ _ => steady_ccSetProfileMode)
  | ccQueryRate _ => exact steady_of_up e (steady_ccCommand fun _ _ => steady_ccQueryRate)
  | chainArm _ => exact steady_of_up e (steady_chainCommand fun _ _ => steady_chainArm)
  | chainDisarm _ => exact steady_of_up e (steady_chainCommand fun _ _ => steady_chainDisarm)
  | chainDisarmComplete _ _ => exact steady_of_up e steady_chainDisarmComplete
  | chainQuery _ => exact steady_of_up e (steady_chainCommand fun _ _ => steady_chainQuery)
  | mirrorBind _ => exact steady_of_up e (steady_chainCommand fun _ _ => steady_mirrorBind)
  | mirrorUnbind _ => exact steady_of_up e (steady_chainCommand fun _ _ => steady_mirrorUnbind)
  | chainWrStart _ _ => exact steady_of_act e steady_chainWrStart
  | chainWrComplete _ _ _ => exact steady_of_up e steady_chainWrComplete
  | nvmeFlush _ => exact steady_of_act e steady_nvmeFlush
  | nvmeWrite _ => exact steady_of_act e steady_nvmeWrite
  | nvmeRead _ => exact steady_of_act e steady_nvmeRead
  | nvmeCompare _ => exact steady_of_act e steady_nvmeCompare
  | nvmeWriteZeroes _ => exact steady_of_act e steady_nvmeWriteZeroes
  | nvmeDatasetManagement _ => exact steady_of_act e steady_nvmeDatasetManagement
  | nvmeAbort _ => exact steady_of_act e steady_nvmeAbort
  | nvmeKeepAlive _ => exact steady_of_act e steady_nvmeKeepAlive
  | inboxRoute _ => exact steady_of_act e steady_inboxRoute
  | inboxHeldDeliver => exact steady_of_act e steady_inboxHeldDeliver
  | outboxRecord => exact steady_of_act e steady_outboxRecord
  | keepAliveExpired _ => exact steady_of_act e steady_keepAliveExpired
  | namespaceWrite _ => exact steady_of_up e (steady_targetCommand fun _ _ => steady_namespaceWrite)
  | namespaceRead _ => exact steady_of_up e (steady_targetCommand fun _ _ => steady_namespaceRead)
  | accessWrite _ => exact steady_of_up e (steady_targetCommand fun _ _ => steady_accessWrite)
  | associationBind _ => exact steady_of_up e (steady_targetCommand fun _ _ => steady_associationBind)
  | associationRelease _ => exact steady_of_up e (steady_targetCommand fun _ _ => steady_associationRelease)
  | queueBind _ => exact steady_of_up e (steady_targetCommand fun _ _ => steady_queueBind)
  | queueEnable _ => exact steady_of_up e (steady_targetCommand fun _ _ => steady_queueEnable)
  | queueUnbind _ => exact steady_of_up e (steady_targetCommand fun _ _ => steady_queueUnbind)
  | reservationViewWrite _ => exact steady_of_up e (steady_targetCommand fun _ _ => steady_reservationViewWrite)
  | associationQuery _ => exact steady_of_up e (steady_targetCommand fun _ _ => steady_associationQuery)
  | hostGroupWrite _ => exact steady_of_up e (steady_targetCommand fun _ _ => steady_hostGroupWrite)
  | chunkStage _ _ => exact steady_of_act e steady_chunkStage
  | recordSubmit => exact steady_of_up e steady_recordSubmit
  | ledgerWriteComplete _ _ _ _ => exact steady_of_act e steady_ledgerWriteComplete
  | ledgerCopyTimeout _ => exact steady_of_act e steady_ledgerCopyTimeout
  | replicationBufferRelease _ => exact steady_of_up e steady_replicationBufferRelease
  | checkpointPersisted _ => exact steady_of_up e steady_checkpointPersisted
  | seedingComplete _ => exact steady_of_act e steady_seedingComplete
  | ledgerCreate _ => exact steady_of_up e (steady_ledgerCommand fun _ _ => steady_ledgerCreate)
  | copyReplace _ => exact steady_of_up e (steady_ledgerCommand fun _ _ => steady_copyReplace)
  | replay _ => exact steady_of_up e (steady_ledgerCommand fun _ _ => steady_replay)
  | replayComplete _ => exact steady_of_up e steady_replayComplete
  | drain _ => exact steady_of_up e (steady_ledgerCommand fun _ _ => steady_drain)
  | drainComplete => exact steady_of_up e steady_drainComplete
  | pwrfailWarning => exact steady_of_up e steady_pwrfailWarning
  | mergeStart _ _ => exact steady_of_act e steady_mergeStart
  | mergeCommitSubmit _ _ => exact steady_of_act e steady_mergeCommitSubmit
  | claimGrant _ _ => exact steady_of_act e steady_claimGrant
  | floatReturn _ _ => exact steady_of_act e steady_floatReturn
  | driveCompletion _ _ _ => exact steady_of_act e steady_driveCompletion
  | memberTimeout _ _ => exact steady_of_act e steady_memberTimeout
  | spareTake _ => exact steady_of_up e steady_spareTake
  | rebuildItemComplete _ _ => exact steady_of_act e steady_rebuildItemComplete
  | scrubItemComplete _ _ => exact steady_of_act e steady_scrubItemComplete
  | reshapeCopyCommit _ => exact steady_of_act e steady_reshapeCopyCommit
  | groupCreate _ => exact steady_of_up e (steady_layoutCommand fun _ _ => steady_groupCreate)
  | groupDelete _ => exact steady_of_up e (steady_layoutCommand fun _ _ => steady_groupDelete)
  | groupQuery _ => exact steady_of_up e (steady_layoutCommand fun _ _ => steady_groupQuery)
  | volumeCreate _ => exact steady_of_up e (steady_layoutCommand fun _ _ => steady_volumeCreate)
  | volumeDelete _ => exact steady_of_up e (steady_layoutCommand fun _ _ => steady_volumeDelete)
  | volumeQuery _ => exact steady_of_up e (steady_layoutCommand fun _ _ => steady_volumeQuery)
  | reshapeStart _ => exact steady_of_up e (steady_layoutCommand fun _ _ => steady_reshapeStart)
  | reshapePauseResume _ => exact steady_of_up e (steady_layoutCommand fun _ _ => steady_reshapePauseResume)
  | rebuildStart _ => exact steady_of_up e (steady_layoutCommand fun _ _ => steady_rebuildStart)
  | scrubControl _ => exact steady_of_up e (steady_layoutCommand fun _ _ => steady_scrubControl)
  | memberFailCommand _ => exact steady_of_act e (steady_layoutCommand fun _ _ => steady_memberFailCommand)
  | lostListFetch _ => exact steady_of_up e (steady_layoutCommand fun _ _ => steady_lostListFetch)
  | keyHoldExpiry _ _ _ => exact steady_of_up e steady_keyHoldExpiry
  | wseqGrant _ => exact steady_of_up e steady_wseqGrant
  | serviceDescriptor => exact steady_of_up e steady_serviceDescriptor
  | serviceDescriptorComplete => exact steady_of_up e steady_serviceDescriptorComplete
  | randomHealthFail => exact steady_of_up e steady_randomHealthFail
  | rootCreate _ _ => exact steady_of_up e (steady_cipherCommand fun _ _ => steady_rootCreate)
  | unwrap _ => exact steady_of_up e (steady_cipherCommand fun _ _ => steady_unwrap)
  | enroll _ _ => exact steady_of_up e (steady_cipherCommand fun _ _ => steady_enroll)
  | escrowExport _ _ => exact steady_of_up e (steady_cipherCommand fun _ _ => steady_escrowExport)
  | rootUnload _ => exact steady_of_up e (steady_cipherCommand fun _ _ => steady_rootUnload)
  | volumeRekey _ => exact steady_of_up e (steady_cipherCommand fun _ _ => steady_volumeRekey)
  | restore _ => exact steady_of_up e (steady_cipherCommand fun _ _ => steady_restore)
  | volumeEpochQuery _ => exact steady_of_up e (steady_cipherCommand fun _ _ => steady_volumeEpochQuery)
  | operatorKeyWrite _ _ _ => exact steady_of_up e steady_operatorKeyWrite
  | measurementExtend _ => exact steady_of_up e (steady_fwCommand fun _ _ => steady_measurementExtend)
  | attest _ => exact steady_of_up e (steady_fwCommand fun _ _ => steady_attest)
  | rollbackAdvance _ _ => exact steady_of_up e (steady_fwCommand fun _ _ => steady_rollbackAdvance)
  | oemRevoke _ _ => exact steady_of_up e (steady_fwCommand fun _ _ => steady_oemRevoke)
  | presenceChange _ _ _ => exact steady_of_pin e steady_presenceChange (steady_when · fun _ h => steady_onBay h)
  | seatingComplete _ => exact steady_of_up e steady_seatingComplete
  | perstRelease _ => exact steady_of_up e steady_perstRelease
  | fastTrip _ => exact steady_of_up e steady_fastTrip
  | efuseTrip _ _ => exact steady_of_act e (steady_ofEndedBell fun _ => steady_efuseTrip)
  | gateStuck _ => exact steady_of_act e (steady_ofEndedBell fun _ => steady_gateStuck)
  | pgTimeout _ => exact steady_of_act e (steady_ofEndedBell fun _ => steady_pgTimeout)
  | outputOutOfWindow _ => exact steady_of_act e (steady_ofEndedBell fun _ => steady_outputOutOfWindow)
  | passElementShort _ => exact steady_of_up e (steady_ofEndedBell fun _ => steady_passElementShort)
  | retryTimerExpiry _ => exact steady_of_up e steady_retryTimerExpiry
  | adcFault _ _ _ => exact steady_of_up e steady_adcFault
  | driveShutdownComplete _ => exact steady_of_up e steady_driveShutdownComplete
  | shutdownTimeout _ => exact steady_of_up e steady_shutdownTimeout
  | shutdownGateOff _ => exact steady_of_act e steady_shutdownGateOff
  | bayEnableWrite _ _ => exact steady_of_up e steady_bayEnableWrite
  | bayRelease _ _ => exact steady_of_up e (steady_bayCommand fun _ _ => steady_bayRelease)
  | bayEnergyClear _ _ => exact steady_of_up e (steady_bayCommand fun _ _ => steady_bayEnergyClear)
  | bayPowerCycle _ _ => exact steady_of_act e (steady_bayCommand fun _ _ => steady_bayPowerCycle)
  | bayHistoryClear _ _ => exact steady_of_up e (steady_bayCommand fun _ _ => steady_bayHistoryClear)
  | driveLinkUp _ _ _ => exact steady_of_up e steady_driveLinkUp
  | driveLinkTimeout _ => exact steady_of_up e steady_driveLinkTimeout
  | driveControllerReady _ _ _ => exact steady_of_up e steady_driveControllerReady
  | driveEnableTimeout _ => exact steady_of_up e steady_driveEnableTimeout
  | driveIdentifyComplete _ _ => exact steady_of_up e steady_driveIdentifyComplete
  | driveQueuesCreated _ _ => exact steady_of_up e steady_driveQueuesCreated
  | cfsPoll _ _ => exact steady_of_act e steady_cfsPoll
  | driveLinkDown _ => exact steady_of_act e steady_driveLinkDown
  | driveAerError _ => exact steady_of_act e steady_driveAerError
  | sidebandPoll _ _ _ _ => exact steady_of_up e steady_sidebandPoll
  | ledShift => exact steady_of_up e steady_ledShift
  | adminPassthrough _ => exact steady_of_up e (steady_driveCommand fun _ _ => steady_adminPassthrough)
  | adminTimeout _ => exact steady_of_up e steady_adminTimeout
  | controllerReset _ => exact steady_of_up e (steady_driveCommand fun _ _ => steady_controllerReset)
  | sidebandTransfer _ _ _ => exact steady_of_up e (steady_driveCommand fun _ _ => steady_sidebandTransfer)
  | linkRetrain _ => exact steady_of_up e (steady_driveCommand fun _ _ => steady_linkRetrain)
  | enterStandby _ => exact steady_of_up e (steady_standbyCommand fun _ _ => steady_enterStandby)
  | takeOver _ => exact steady_of_up e (steady_standbyCommand fun _ _ => steady_takeOver)
  | handoverWaitEnd => exact steady_of_up e steady_handoverWaitEnd
  | fenceStaggerExpiry => exact steady_of_up e steady_fenceStaggerExpiry
  | fenceRelease _ => exact steady_of_up e (steady_standbyCommand fun _ _ => steady_fenceRelease)
  | resign _ _ => exact steady_of_up e (steady_standbyCommand fun _ _ => steady_resign)
  | fenceInAssert => exact steady_of_pin (g := fun s => { s with stby.fenceIn := true }) e steady_fenceInAssert (·.same)
  | fenceInRelease => exact steady_of_pin e steady_fenceInRelease steady_fenceInRelease
  | withdraw => exact steady_of_up e steady_withdraw
  | hbRefresh _ => exact steady_of_up e steady_hbRefresh
  | hbHoldExpiry => exact steady_of_up e steady_hbHoldExpiry
  | beatToggle => exact steady_of_up e steady_beatToggle
  | activeInEdge l => exact steady_of_pin (g := fun s => { s with stby.activeIn := l }) e steady_activeInEdge (·.same)
  | beatWindowEnd => exact steady_of_up e steady_beatWindowEnd
  | peerFailDetect => exact steady_of_up e steady_peerFailDetect
  | activeInSilence => exact steady_of_up e steady_activeInSilence
  | leaseConfirm _ => exact steady_of_up e steady_leaseConfirm
  | leaseDeadline => exact steady_of_up e steady_leaseDeadline
  | epLinkUp _ _ _ => exact steady_of_up e steady_epLinkUp
  | epConfigRequest _ _ _ _ => exact steady_of_up e steady_epConfigRequest
  | epConfigReadyWrite _ => exact steady_of_up e steady_epConfigReadyWrite
  | bar4Access _ => exact steady_of_up e steady_bar4Access
  | epFundamentalReset p => exact steady_of_pin (g := fun s => { s with ep.perst := p.asserted }) e steady_epFundamentalReset (·.same)
  | epHotReset => exact steady_of_up e steady_epHotReset
  | epFlr => exact steady_of_up e steady_epFlr
  | epFlrComplete => exact steady_of_up e steady_epFlrComplete
  | resetRecordWrite => exact steady_of_up e steady_resetRecordWrite
  | interruptPendingSend _ => exact steady_of_up e steady_interruptPendingSend
  | epCompletionReceive _ _ => exact steady_of_act e steady_epCompletionReceive
  | epCompletionTimeout _ => exact steady_of_up e steady_epCompletionTimeout
  | tagQuarantineEnd _ => exact steady_of_up e steady_tagQuarantineEnd
  | tailDoorbell _ _ => exact steady_of_up e steady_tailDoorbell
  | pushDoorbell _ _ => exact steady_of_up e steady_pushDoorbell
  | excConsDoorbell _ _ => exact steady_of_up e steady_excConsDoorbell
  | entryFetchComplete _ _ _ => exact steady_of_act e steady_entryFetchComplete
  | coroloRead _ => exact steady_of_act e steady_coroloRead
  | coroloWrite _ => exact steady_of_act e steady_coroloWrite
  | coroloFlush _ => exact steady_of_act e steady_coroloFlush
  | coroloDeallocate _ => exact steady_of_act e steady_coroloDeallocate
  | dictionaryExchange _ _ => exact steady_of_act e steady_dictionaryExchange
  | headPublish _ => exact steady_of_up e steady_headPublish
  | modTimeExpiry _ => exact steady_of_up e steady_modTimeExpiry
  | adminRingEnable => exact steady_of_up e steady_adminRingEnable
  | adminRingDisable => exact steady_of_up e steady_adminRingDisable
  | resetRecordClear => exact steady_of_up e steady_resetRecordClear
  | ringCreate => exact steady_of_up e steady_ringCreate
  | ringDisable => exact steady_of_up e steady_ringDisable
  | ringDestroy => exact steady_of_up e steady_ringDestroy
  | ringSetModeration => exact steady_of_up e steady_ringSetModeration
  | ringEnable => exact steady_of_up e steady_ringEnable
  | ringDrainComplete _ => exact steady_of_up e steady_ringDrainComplete
  | brodletRequest _ _ => exact steady_of_act e steady_brodletRequest
  | dwGo => exact steady_of_up e steady_dwGo
  | registerWrite _ => exact steady_of_act e steady_registerWrite
  | dictExport p => exact steady_of_up (f := fun s => s.command dictSet dictSet 32 p dictExport) e (steady_command · fun _ _ => steady_dictExport)
  | dictImport p =>
    exact steady_of_act (f := fun s => s.command dictSet dictSet 32 p (dictImport true)) e (steady_command · fun _ _ => steady_dictImport)
  | requesterTableClear p =>
    exact steady_of_up (f := fun s => s.command dictSet dictSet 32 p requesterTableClear) e
      (steady_command · fun _ _ => steady_requesterTableClear)
  | haltFence => exact steady_of_up e steady_haltFence
  | faultNPulseEnd => exact steady_of_up e steady_faultNPulseEnd
  | faultNHoldWrite _ => exact steady_of_up e steady_faultNHoldWrite
  | faultInject _ => exact steady_of_up e steady_faultInject
  | firstFaultRearm _ => exact steady_of_up e steady_firstFaultRearm
  | sourceCfgWrite _ _ => exact steady_of_up e steady_sourceCfgWrite
  | severityActionsWrite _ _ => exact steady_of_up e steady_severityActionsWrite
  | sourceRecovery _ => exact steady_of_up e steady_sourceRecovery
  | faultFenceRelease _ _ => exact steady_of_up e steady_faultFenceRelease
  | correctedWriteback _ _ => exact steady_of_up e steady_correctedWriteback
  | bucketLeak _ => exact steady_of_up e steady_bucketLeak
  | regionFill _ => exact steady_of_up e (steady_mpCommand fun _ _ => steady_regionFill)
  | hbmFill _ => exact steady_of_up e (steady_mpCommand fun _ _ => steady_hbmFill)
  | fillComplete => exact steady_of_up e steady_fillComplete
  | testWrite _ => exact steady_of_up e (steady_mpCommand fun _ _ => steady_testWrite)
  | testRead _ => exact steady_of_up e (steady_mpCommand fun _ _ => steady_testRead)
  | instanceQuery _ => exact steady_of_up e (steady_mpCommand fun _ _ => steady_instanceQuery)
  | powerOnDetect => cases hc
  | porstNAssert => cases hc
  | resetNAssert => cases hc
  | resetCauseEnd _ _ _ => cases hc
  | resetStretchEnd => exact steady_of_effect e (steady_resetStretchEnd (Steady.refl s))
  | fuseLoadComplete _ _ => cases hc
  | clockGoodReached _ => cases hc
  | clockGoodTimeout _ => cases hc
  | saddleRelease => cases hc
  | erralVerifyComplete _ _ => exact steady_of_up e steady_erralVerifyComplete
  | domainBringUp p =>
    exact steady_of_up (f := fun s => s.command 0x7A0020 resetSet 4 p domainBringUp) e
      (steady_command · fun _ _ => steady_domainBringUp)
  | logicBist _ => exact steady_of_up e steady_logicBist
  | memoryBist _ => exact steady_of_up e steady_memoryBist
  | logicAndMemoryBist _ => exact steady_of_up e steady_logicAndMemoryBist
  | bistRegionComplete _ _ _ => exact steady_of_up e steady_bistRegionComplete
  | dumpCapture _ => exact steady_of_up e (steady_dumpCommand fun _ _ => steady_dumpCapture)
  | dumpCaptureComplete _ => exact steady_of_up e steady_dumpCaptureComplete
  | dumpClose _ => exact steady_of_up e (steady_dumpCommand fun _ _ => steady_dumpClose)
  | dumpClear _ => exact steady_of_up e (steady_dumpCommand fun _ _ => steady_dumpClear)
  | trstNAssert => exact steady_of_effect e (steady_trstNAssert (Steady.refl s))
  | jtagBypass => exact steady_of_effect e (steady_jtagBypass (Steady.refl s))
  | jtagIdcode => exact steady_of_effect e (steady_jtagIdcode (Steady.refl s))
  | jtagSamplePreload _ => exact steady_of_effect e (steady_jtagSamplePreload (Steady.refl s))
  | jtagExtest => exact steady_of_effect e (steady_jtagExtest (Steady.refl s))
  | jtagClamp => exact steady_of_effect e (steady_jtagClamp (Steady.refl s))
  | jtagHighz => exact steady_of_effect e (steady_jtagHighz (Steady.refl s))
  | snapshotTarget => exact steady_of_up e steady_snapshotTarget
  | clearAll _ => exact steady_of_up e (steady_ctrCommand fun _ _ => steady_clearAll)
  | clearStage _ => exact steady_of_up e (steady_ctrCommand fun _ _ => steady_clearStage)
  | clearSelectable _ => exact steady_of_up e (steady_ctrCommand fun _ _ => steady_clearSelectable)
  | snapshotNow _ => exact steady_of_up e (steady_ctrCommand fun _ _ => steady_snapshotNow)
  | counterRead _ => exact steady_of_up e (steady_ctrCommand fun _ _ => steady_counterRead)
  | directoryQuery _ => exact steady_of_up e (steady_ctrCommand fun _ _ => steady_directoryQuery)
  | ppsInEdge _ => exact steady_of_up e steady_ppsInEdge
  | ppsOutRise => exact steady_of_up e steady_ppsOutRise
  | ppsOutFall => exact steady_of_up e steady_ppsOutFall
  | tempSensorUpdate _ => exact steady_of_up e steady_tempSensorUpdate
  | firmwareDriveIo _ _ _ => exact steady_of_up e steady_firmwareDriveIo
  | workRequestPost _ _ => exact steady_of_act e steady_workRequestPost

/-- Settles O53: such a command is steady. -/
theorem onlyTheEdgeAndResetMoveTime : Obligations.OnlyTheEdgeAndResetMoveTime := by
  intro c s t hc e
  have h := (exec_steady hc e).time
  simp only [State.time, Prod.mk.injEq] at h
  exact h

/-! ### The edge that ends a bell -/

/-- The state in which an edge finds the bell that it ends. -/
def edgeReached (x : EdgeInput) (s : State) : State := { edgeGuard x (edgeInputs x s) with flt.events := [] }

theorem steady_events {l : List FaultEvent} (h : Steady s t) : Steady s { t with flt.events := l } := h.same

theorem steady_edgeReached (x : EdgeInput) (s : State) : Steady s (edgeReached x s) :=
  steady_events (steady_edgeGuard (steady_edgeInputs (Steady.refl s)))

/-- Time moves at `advanceBell` alone: what an edge does after it is steady. -/
theorem steady_bellEdge (x : EdgeInput) (s : State) :
    Steady (advanceBell s.bell.stretch s.bell.clock (edgeReached x s)) (bellEdge x s) := by
  have ha := Steady.refl (advanceBell s.bell.stretch s.bell.clock (edgeReached x s))
  have hc : Steady (advanceBell s.bell.stretch s.bell.clock (edgeReached x s)) (edgeClock x s.bell.stretch s.bell.clock (edgeReached x s)) :=
    steady_foldl (steady_ite (steady_voidTimed ha) ha) (fun _ _ h => steady_repeaterCheck h)
  have ht := steady_edgeRole (steady_edgeTake (steady_edgeRefill (steady_readCredit (late := x.late) (steady_edgeResults
      (steady_endpointEvents hc)))))
  have hs : Steady (advanceBell s.bell.stretch s.bell.clock (edgeReached x s))
      (edgeSteps x s.bell.stretch s.bell.clock (edgeGuard x (edgeInputs x s))) :=
    steady_edgeFaults (steady_samplePwrfail (steady_events (steady_evalBays (steady_events ht))))
  exact steady_edgeServe (steady_edgeWork (steady_edgeShow (steady_moderationEdge (steady_coroloEdge (steady_endpointEdge (steady_endpointTimers
    (steady_edgeOverruns (steady_haltFence (steady_hierEdge (steady_takeOverEdge (steady_rateUpdate hs)))))))))))

/-- The length of a bell: 1,024 ns, or up to T* (R17, R25). -/
def bellLength (r : Option Stretch) (ptp : Nat) : Nat := r.elim 1024 (fun r => r.tStar - ptp)

/-- The clock after an edge that would put it to `p`; where a step goes below 0 it is free (R28). -/
def nextClock (p : Nat) : Option ClockChange → Option Nat
  | none => some p
  | some (.set v) => some v
  | some (.step d) => if 0 ≤ (p : Int) + d then some ((p : Int) + d).toNat else none

/-- What an edge leaves of time where it takes no free value for the clock (R14 to R16, R25, R28). -/
theorem advanceBell_time {r : Option Stretch} {change : Option ClockChange} {s : State} {v : Nat}
    (hv : nextClock (s.bell.ptp + bellLength r s.bell.ptp) change = some v) :
    (advanceBell r change s).time = (s.bell.edges + 1, r.elim (s.bell.number + 1) (·.nStar) % 2 ^ 64,
      if r.any (·.rebase) then (s.bell.era + 1) % 2 ^ 32 else s.bell.era, v, s.rst.phase) := by
  have hd : ∀ (c : Prop) [Decidable c] (u : State), (if c then u.doneNow adjustSet 0 else u).time = u.time := fun c _ u =>
    (steady_ite (steady_doneNow (Steady.refl u)) (Steady.refl u)).time
  unfold advanceBell
  simp only [hd]
  rcases change with _ | d | w
  · obtain rfl : s.bell.ptp + bellLength r s.bell.ptp = v := by simpa [nextClock] using hv
    cases r <;> simp [bellLength, State.time]
  · obtain ⟨hp, hv⟩ := Option.ite_none_right_eq_some.mp hv
    cases hv
    cases r <;> simp only [bellLength, Option.elim] at hp <;> simp only [if_pos hp] <;> simp [State.time, bellLength]
  · obtain rfl : w = v := by simpa [nextClock] using hv
    cases r <;> simp [State.time]

theorem advanceBell_mem (r : Option Stretch) (change : Option ClockChange) (s : State) : (advanceBell r change s).mem = s.mem := by
  have hd : ∀ (c : Prop) [Decidable c] (u : State), (if c then u.doneNow adjustSet 0 else u).mem = u.mem := fun c _ u => by split <;> rfl
  have ht : ∀ (c : Prop) [Decidable c] (u : State), (if c then u.took else u).mem = u.mem := fun c _ u => by split <;> rfl
  unfold advanceBell
  simp only [hd, ht]

/-- What BELL_EDGE leaves of time. -/
theorem bellEdge_time {x : EdgeInput} {s : State} {v : Nat}
    (hv : nextClock (s.bell.ptp + bellLength s.bell.stretch s.bell.ptp) s.bell.clock = some v) :
    (bellEdge x s).time = (s.bell.edges + 1, s.bell.stretch.elim (s.bell.number + 1) (·.nStar) % 2 ^ 64,
      if s.bell.stretch.any (·.rebase) then (s.bell.era + 1) % 2 ^ 32 else s.bell.era, v, s.rst.phase) := by
  have hu := (steady_edgeReached x s).time
  simp only [State.time, Prod.mk.injEq] at hu
  obtain ⟨he, hn, hr, hp, hs⟩ := hu
  rw [(steady_bellEdge x s).time, advanceBell_time (v := v) (by rw [hp]; exact hv), he, hn, hr, hs]

theorem time_pending (s : State) (q : List Instr) : { s with pending := q }.time = s.time := rfl

/-- BELL_EDGE of a released device, where the clock takes no free value. -/
theorem bellEdge_gives {x : EdgeInput} {s : State} {v : Nat} (h : s.isUp)
    (hv : nextClock (s.bell.ptp + bellLength s.bell.stretch s.bell.ptp) s.bell.clock = some v) :
    Gives (.bellEdge x) s (fun t => t.time = (s.bell.edges + 1, s.bell.stretch.elim (s.bell.number + 1) (·.nStar) % 2 ^ 64,
      if s.bell.stretch.any (·.rebase) then (s.bell.era + 1) % 2 ^ 32 else s.bell.era, v, s.rst.phase)) :=
  ⟨_, up_leaves h rfl, (time_pending _ _).trans (bellEdge_time hv)⟩

/-- Settles O54: time moves at `advanceBell` alone, by the length of the bell that ends. -/
theorem bellEdgeAdvancesTheBell : Obligations.BellEdgeAdvancesTheBell := by
  refine ⟨fun x s h hr hc => ?plain, fun x s r h hr hc hp => ?stretched, fun x s v h hc => ?set, fun x s d h hr hc hd => ?step⟩
  case plain =>
    obtain ⟨t, ht, e⟩ := bellEdge_gives (x := x) h (by rw [hr, hc]; rfl)
    simp [State.time, hr, bellLength] at e
    exact ⟨t, ht, by simp [e]⟩
  case stretched =>
    obtain ⟨t, ht, e⟩ := bellEdge_gives (x := x) h (by rw [hr, hc]; rfl)
    simp [State.time, hr, bellLength, Nat.add_sub_cancel' hp] at e
    exact ⟨t, ht, by simp [e]⟩
  case set =>
    obtain ⟨t, ht, e⟩ := bellEdge_gives (x := x) h (by rw [hc]; rfl)
    simp [State.time] at e
    exact ⟨t, ht, by simp [e]⟩
  case step =>
    obtain ⟨t, ht, e⟩ := bellEdge_gives (x := x) h (by rw [hr, hc]; exact if_pos hd)
    simp [State.time, hr, bellLength] at e
    exact ⟨t, ht, by simp [e]⟩

/-! ### The memory of every step -/

/-- From `s` to `t` the memory stays in canonical form, whatever becomes of time. -/
def KeepsMem (s t : State) : Prop := s.memWf → t.memWf

theorem keepsMem_bellEdge (x : EdgeInput) (s : State) : KeepsMem s (bellEdge x s) := fun w =>
  (steady_bellEdge x s).mem (by rw [State.memWf, advanceBell_mem]; exact (steady_edgeReached x s).mem w)

theorem keepsMem_cleared {s : State} {b : Bool} (w : s.memWf) : (if b then s.mem else ({} : Hbm)).wf = true := by
  cases b
  · exact Hbm.empty_wf
  · exact w

/-- A reset cause keeps the HBM that holds a post-mortem dump and empties any other (R494, R496). -/
theorem keepsMem_takeCause (cause : Nat) (s : State) : KeepsMem s (takeCause cause s) := by
  intro w
  unfold takeCause
  split
  · exact keepsMem_cleared w
  · exact keepsMem_cleared w

theorem keepsMem_resetCauseEnd (a b c : Bool) (s : State) : KeepsMem s (resetCauseEnd a b c s) := by
  unfold resetCauseEnd State.when
  split <;> exact id

theorem keepsMem_clockGoodReached (die : Nat) (s : State) : KeepsMem s (clockGoodReached die s) := by
  unfold clockGoodReached State.when
  split <;> exact id

theorem keepsMem_clockGoodTimeout (die : Nat) (s : State) : KeepsMem s (clockGoodTimeout die s) := by
  unfold clockGoodTimeout State.when
  split
  · split
    · exact id
    · exact (steady_recordEvent ((Steady.refl s).same)).mem
  · exact id

theorem keepsMem_fuseLoadComplete (die : Nat) (r : FuseResult) (s : State) : KeepsMem s (fuseLoadComplete die r s) := by
  have hr : ∀ {c : Prop} [Decidable c] {src : Nat} {u v : State}, Steady s u → Steady s v → Steady s (if c then recordEvent src die u else v) :=
    fun hu hv => steady_ite (steady_recordEvent hu) hv
  unfold fuseLoadComplete State.when
  split
  · dsimp -zeta only
    extract_lets badId bits _ _ u u₁ u₂ u₃ u₄
    have h₁ : Steady s u₁ := steady_ite (steady_recordEvent (Steady.refl s).same) (Steady.refl s).same
    have h₂ : Steady s u₂ := steady_ite h₁ (steady_recordEvent h₁)
    have h₃ : Steady s u₃ := steady_ite h₂ (steady_recordEvent h₂)
    have h₄ : Steady s u₄ := steady_ite (steady_recordEvent h₃) h₃
    clear_value u₄
    split
    · exact h₄.mem
    · exact h₄.mem
  · exact id

/-- The release keeps a retained dump, whose pages alone hold written bytes, and empties the HBM otherwise (R499, R508). -/
theorem keepsMem_saddleRelease (s : State) : KeepsMem s (saddleRelease s) := by
  intro w
  have h : (fillHouse s).memWf := (steady_fillHouse (Steady.refl s)).mem w
  have hk : ∀ a n, (if s.rst.keep then (((fillHouse s).mem.unwrite false).unwrite true).markPages a n else ({} : Hbm)).wf = true := by
    intro a n
    split
    · exact Hbm.markPages_wf _ _ _ (Hbm.unwrite_wf _ _ (Hbm.unwrite_wf _ _ h))
    · exact Hbm.empty_wf
  unfold saddleRelease State.when
  split
  · dsimp only
    split
    · exact (steady_fault (Steady.refl _)).mem (hk _ _)
    · exact hk _ _
  · exact w

theorem keepsMem_saddleReleaseEdge (s : State) : KeepsMem s (saddleReleaseEdge s) := by
  intro w
  have h := keepsMem_saddleRelease s w
  unfold saddleReleaseEdge
  dsimp only
  split
  · exact (steady_sampleObjects (Steady.refl _)).mem h
  · exact h

theorem memWf_of_effect {s t u : State} (e : effect s u = .next t) (h : u.memWf) : t.memWf := by
  cases e
  exact h

/-- Every command keeps the memory canonical. -/
theorem exec_keepsMem {c : Instr} {s t : State} (e : exec c s = .next t) : KeepsMem s t := by
  intro w
  cases hc : c.movesTime with
  | false => exact (exec_steady hc e).mem w
  | true =>
    cases c with
    | bellEdge x =>
      refine memWf_of_effect (u := if s.rst.phase = .up then bellEdge x s else s) e ?_
      split
      · exact keepsMem_bellEdge x s w
      · exact w
    | powerOnDetect => exact memWf_of_effect e (keepsMem_takeCause 1 s w)
    | porstNAssert => exact memWf_of_effect e (keepsMem_takeCause 2 s w)
    | resetNAssert => exact memWf_of_effect e (keepsMem_takeCause 3 s w)
    | resetCauseEnd a b c => exact memWf_of_effect e (keepsMem_resetCauseEnd a b c s w)
    | fuseLoadComplete die r => exact memWf_of_effect e (keepsMem_fuseLoadComplete die r s w)
    | clockGoodReached die => exact memWf_of_effect e (keepsMem_clockGoodReached die s w)
    | clockGoodTimeout die => exact memWf_of_effect e (keepsMem_clockGoodTimeout die s w)
    | saddleRelease => exact memWf_of_effect e (keepsMem_saddleReleaseEdge s w)
    | _ => cases hc

/-- Settles O51: a step is the command at the front, and each keeps the memory canonical. -/
theorem stepKeepsHbmCanonical : Obligations.StepKeepsHbmCanonical := by
  intro s t w e
  cases hq : s.pending with
  | nil =>
    rw [step_nil hq] at e
    cases e
    exact w
  | cons c q =>
    rw [step_cons hq] at e
    exact exec_keepsMem e w

end Sys2Proof.Machine
end

section
-- One proof at a time: hundreds at once need more threads than the memory limit of the check has room for.
set_option Elab.async false
/-! ### The bell's objects and commands (O1 to O3) -/

namespace Sys2Proof.Machine
variable {s t : State} {key set size : Nat} {par : Bytes} {act : Bytes → State → State}

/-- An accepted command of a released device answers what its action leaves. -/
theorem up_command_gives (h : s.takes set size par) (hf : act (padTo size par) (s.accepted key set size par) = t)
    (hp : t.pending = s.pending := by rfl) : up s (fun u => u.command key set size par act) = .next t :=
  up_gives h.1 ((command_of_takes s key set size par act h).trans hf) hp

/-- A command whose parameters are one value: they fill the object. -/
theorem up_scalarCommand_gives (h : s.takes set size par) (hn : par.length = size) (hf : act par (s.accepted key set size par) = t)
    (hp : t.pending = s.pending := by rfl) : up s (scalarCommand key set size par act) = .next t :=
  up_gives h.1 ((if_pos hn).trans ((command_of_takes s key set size par act h).trans (by rw [← hn, padTo_self, hn, hf]))) hp

/-- A request that is pending keeps its rebase (R24). -/
theorem requestRealign_false (s : State) : s.requestRealign false =
    { s with bell.request := some { edge := s.bell.edges, rebase := s.bell.request.any Realign.rebase } }.onRes adjustSet
      (fun r => { r with ready := false }) := by
  cases hq : s.bell.request <;> simp [State.requestRealign, hq]

theorem unalign_pending (s : State) : s.unalign.pending = s.pending := by
  unfold State.unalign
  split <;> rfl

theorem requestRealign_true (s : State) : s.requestRealign true =
    { s with bell.request := some { edge := s.bell.edges, rebase := true } }.onRes adjustSet (fun r => { r with ready := false }) := by
  cases hq : s.bell.request <;> simp [State.requestRealign, hq]

theorem unalign_of_aligned (h : s.bell.aligned = true) : s.unalign = { s with bell.aligned := false }.bellFault 0 := if_pos h

theorem unalign_of_unaligned (h : s.bell.aligned = false) : s.unalign = s := by simp [State.unalign, h]

theorem changeClock_of_lock {c : ClockChange} (h : s.bell.lock = true) :
    changeClock c s = { s with bell.clock := some c }.unalign.requestRealign false := if_pos h

theorem changeClock_of_no_lock {c : ClockChange} (h : s.bell.lock = false) :
    changeClock c s = { s with bell.clock := some c }.done adjustSet 2 := by simp [changeClock, h]

/-- Settles O1: one clause for each value written and each state of the bell. -/
theorem ptpLockWriteAssertsOrDropsLock : Obligations.PtpLockWriteAssertsOrDropsLock := by
  refine ⟨fun s h ha => ?kept, fun s h ha hr => ?asks, fun s h ha => ?drops, fun s h ha => ?dropped, fun s v h hv => ?other⟩
  case kept => exact up_gives h (by rcases ha with ha | ha <;> simp [ptpLockWrite, ha]) rfl
  case asks => exact up_gives h (by simp [ptpLockWrite, requestRealign_false, ha, hr]) rfl
  case drops => exact up_gives h (by simp [ptpLockWrite, State.unalign, ha]; rfl) rfl
  case dropped => exact up_gives h (by simp [ptpLockWrite, State.unalign, ha]) rfl
  case other => exact up_gives h (by simp [ptpLockWrite, show v ≠ 1 by omega, show v ≠ 0 by omega]) rfl

/-- Settles O2: one clause for each phase or clock row and each state of lock and alignment. -/
theorem phaseAndClockCommandsTakeEffect : Obligations.PhaseAndClockCommandsTakeEffect := by
  refine ⟨fun s v h hv hl => ?phase, fun s v h hv hl ha => ?phaseLocked, fun s v h hv hl ha => ?phaseAligned, fun s v h hv => ?phaseRange,
    fun s par h hn hd hu hl => ?step, fun s par h hn hd hu hl ha => ?stepLocked, fun s par h hn hd => ?stepRange, fun s par h hd => ?setRange,
    fun s par h hd hu hl => ?setLocked, fun s h hr => ?noRebase, fun s b h hb => ?rebaseRange, fun s par h hd hu hl => ?set, fun s h hr hl => ?rebase⟩
  case phase => exact up_gives h (by simp [bellPhaseWrite, hv, hl]) rfl
  case phaseLocked => exact up_gives h (by simp [bellPhaseWrite, hv, hl, ha, requestRealign_false, State.unalign]) rfl
  case phaseAligned => exact up_gives h (by simp [bellPhaseWrite, hv, hl, ha, State.unalign]; rfl) rfl
  case phaseRange => exact up_gives h (by simp [bellPhaseWrite, Nat.not_lt.mpr hv]) rfl
  case step => exact up_scalarCommand_gives h hn ((if_pos ⟨hd, hu⟩).trans (changeClock_of_no_lock hl))
  case stepLocked =>
    exact up_scalarCommand_gives h hn ((if_pos ⟨hd, hu⟩).trans (by simp [changeClock_of_lock, hl, State.unalign, ha, requestRealign_false]))
  case stepRange => exact up_scalarCommand_gives h hn (if_neg (by omega))
  case setRange => exact up_command_gives h (if_neg hd)
  case setLocked => exact up_command_gives h ((if_pos ⟨hd, hu⟩).trans (changeClock_of_lock hl)) (unalign_pending _)
  case set => exact up_command_gives h ((if_pos ⟨hd, hu⟩).trans (changeClock_of_no_lock hl))
  case noRebase => exact up_scalarCommand_gives h rfl (by rcases hr with hr | hr <;> simp [hr, ofLe])
  case rebaseRange => exact up_scalarCommand_gives h rfl (if_pos fun e => hb (BitVec.eq_of_toNat_eq (by simpa [ofLe] using e)))
  case rebase => exact up_scalarCommand_gives h rfl (by simp [hr, hl, ofLe, requestRealign_true])

/-- The next edge of the phase lies at least a bell ahead (R25). -/
theorem realignment_of_request {q : Realign} (hq : s.bell.request = some q) (he : q.edge < s.bell.edges) :
    realignment s = (let tS := nextEdgeTime s.bell.ptp s.phase
      let nS := (tS - s.phase) / 1024
      let u := { s with bell.request := none }
      if s.bell.number < nS || q.rebase then
        let v := { u with bell.stretch := some { tStar := tS, nStar := nS, rebase := q.rebase } }.onRes adjustSet (fun c => { c with ready := false })
        if s.bell.number + 1 < nS || q.rebase then v.bellFault 1 else v
      else { u with bell.rebaseNeeded := true }.doneNow adjustSet 1) := by
  simp [realignment, hq, Nat.not_le.mpr he]

theorem lateItemComplete_of_lost {die region unit : Nat} (hu : 0 < (s.unit (unitCode die region unit)).late)
    (hd : (s.unit (unitCode die region unit)).busy.bind WorkItem.dest = none) :
    lateItemComplete die region unit s = s.onUnit (unitCode die region unit) (fun u => { u with late := 0, busy := none }) := by
  simp only [lateItemComplete, hu, decide_true, when_true]
  split
  next hb => simp [hb] at hd
  next => rfl

theorem lateItemComplete_of_dest {die region unit d : Nat} {i : WorkItem} (hu : 0 < (s.unit (unitCode die region unit)).late)
    (hb : (s.unit (unitCode die region unit)).busy = some i) (hd : i.dest = some d) :
    lateItemComplete die region unit s = (s.onUnit (unitCode die region unit) (fun u => { u with late := 0, busy := none })).onUnit d
      (fun u => { u with grants := tmod u.grants (unitCode die region unit) 0 (· + Config.itemOutput i.kind) }) := by
  obtain ⟨kind, dest⟩ := i
  cases hd
  simp only [lateItemComplete, hu, decide_true, when_true, hb]

/-- Settles O3: each event's guard decides, and the edge that follows is left to the lemma of its row. -/
theorem bellEventsTakeEffect : Obligations.BellEventsTakeEffect := by
  refine ⟨fun s h ha hl => ?holdover, fun s q h hq he hn => ?stretch, fun s q h hq he hr hn => ?stretchOne, fun s q h hq he hr hn => ?rebase,
    fun s h hf => ?reference, fun s die h hd => ?timeout, fun s v h => ?rearm, fun c edge bell => ?capture,
    fun s die region unit h hu => ⟨fun hd => ?lost, fun i d hb hd => ?hands⟩⟩
  case holdover => exact up_gives h (by simp [lockHoldoverExpired, State.since, ha, hl, State.unalign]; rfl) rfl
  case stretch =>
    refine up_gives h ((realignment_of_request hq he).trans ?_) rfl
    have h₁ : (decide (s.bell.number < (nextEdgeTime s.bell.ptp s.phase - s.phase) / 1024) || q.rebase) = true := by
      rcases hn with hn | hn
      · simp [Nat.lt_of_succ_lt hn]
      · simp [hn]
    have h₂ : (decide (s.bell.number + 1 < (nextEdgeTime s.bell.ptp s.phase - s.phase) / 1024) || q.rebase) = true := by simpa using hn
    exact (if_pos h₁).trans (if_pos h₂)
  case stretchOne => exact up_gives h ((realignment_of_request hq he).trans (by simp [hr, ← hn])) rfl
  case rebase => exact up_gives h ((realignment_of_request hq he).trans (by simp [hr, Nat.not_lt.mpr hn])) rfl
  case reference => exact effect_gives (by simp [h, referenceFail, hf]; rfl) rfl
  case timeout => exact up_gives h (by simp [hd]; rfl) rfl
  case rearm => exact up_gives h rfl rfl
  case capture => exact ⟨fun hc => if_neg hc, fun hc => if_pos hc⟩
  case lost => exact up_gives h (lateItemComplete_of_lost hu hd) rfl
  case hands => exact up_gives h (lateItemComplete_of_dest hu hb hd) rfl

end Sys2Proof.Machine
end

section
-- One proof at a time: hundreds at once need more threads than the memory limit of the check has room for.
set_option Elab.async false
/-! ### Domains, clusters, fences, clocks and links (O4 to O7) -/

namespace Sys2Proof.Machine
variable {s t : State} {par : Bytes} {f : Bytes → State → State}

/-- An accepted hier_command of a released device answers what its action leaves. -/
theorem up_hierCommand_gives (h : s.hierTakes par) (hf : f (padTo 8 par) (s.accepted hierSet hierSet 8 par) = t)
    (hp : t.pending = s.pending := by rfl) : up s (hierCommand par f) = .next t :=
  up_gives h.1.1 ((hierCommand_of_takes s par f h).trans hf) hp

theorem accepted_domOn (k st n : Nat) : (s.accepted k st n par).domOn = s.domOn := rfl

/-- A switch-off passes its checks (R53, R56): domains are named, none is needed by one that stays on, and no work is live where it counts. -/
theorem domainOffAs_of_checked {forced : Bool} {p : Bytes} {ds : List Nat} (hm : fld p 0 4 < 2 ^ 20) (hds : ds = (rankOrder (fld p 0 4)).reverse.filter s.domOn)
    (hne : ds ≠ []) (hdep : ∀ q < 20, s.domOn q = true → (∃ d ∈ domDeps q, d ∈ ds) → q ∈ ds)
    (hw : forced = false → ∀ d ∈ ds, ∀ r ∈ domRegions d, s.liveWork (domDie d) r = false) :
    domainOffAs forced p s = { s with hier.run := some { on := false, forced := forced, bringUp := false, queue := ds } } := by
  have h₁ : (List.range' 0 20).any (fun q => s.domOn q && !ds.contains q && (domDeps q).any (fun d => ds.contains d)) = false := by
    simp only [List.any_eq_false, List.mem_range'_1, Bool.and_eq_true, Bool.not_eq_true', not_and, List.any_eq_true, List.contains_iff_mem]
    intro q hq hon hx
    simpa [hdep q (by omega) hon.1 hx] using hon.2
  have h₂ : (!forced && ds.any (fun d => (domRegions d).any (s.liveWork (domDie d)))) = false := by
    cases forced
    · simpa using hw rfl
    · rfl
  unfold domainOffAs
  simp only [← hds, Nat.not_le.mpr hm, h₁, h₂, List.isEmpty_iff, hne, if_false, Bool.false_eq_true]

/-- Settles O4: a mask that passes the checks queues exactly the domains whose state differs. -/
theorem domainCommandsAreQueued : Obligations.DomainCommandsAreQueued := by
  refine ⟨fun s par h hm hd hne => ?on, fun s par ds h hm hds hne hd hw => ?off, fun s par ds h hm hds hne hd => ?forced⟩
  case on => exact up_hierCommand_gives h ((if_neg (Nat.not_le.mpr hm)).trans ((if_neg (by simp [accepted_domOn, hd])).trans
    (if_neg (by simpa [accepted_domOn] using hne))))
  case off => exact up_hierCommand_gives h (domainOffAs_of_checked hm hds hne hd fun _ => hw)
  case forced => exact up_hierCommand_gives h (domainOffAs_of_checked hm hds hne hd (fun e => nomatch e))

/-- No cluster of a region that is not named is. -/
theorem clustersNamed_of_unnamed {p : Bytes} (h : regionNamed (fld p 5 1) (fld p 6 1) = false) : clustersNamed p = none := by
  simp [clustersNamed, h]

/-- Settles O5: a region that exists outside PD-AO takes the action, any other ends with 5. -/
theorem clusterAndFenceCommandsTakeEffect : Obligations.ClusterAndFenceCommandsTakeEffect := by
  refine ⟨fun s par cs h hc => ?quiesce, fun s par cs h hc => ?resume, fun s par h hr => ?fence, fun s par h hr => ?unfence,
    fun s par h hr => ⟨?noQuiesce, ?noResume, ?noFence, ?noUnfence⟩, fun s q h hq he hl => ?complete⟩
  case quiesce => exact up_hierCommand_gives h (by simp [clusterQuiesce, hc])
  case resume => exact up_hierCommand_gives h (by simp [clusterResume, hc])
  case fence => exact up_hierCommand_gives h (by simp [regionCommandFence, fenceCommand, hr])
  case unfence => exact up_hierCommand_gives h (by simp [regionCommandUnfence, fenceCommand, hr])
  case noQuiesce => exact up_hierCommand_gives h (by simp [clusterQuiesce, clustersNamed_of_unnamed hr])
  case noResume => exact up_hierCommand_gives h (by simp [clusterResume, clustersNamed_of_unnamed hr])
  case noFence => exact up_hierCommand_gives h (by simp [regionCommandFence, fenceCommand, hr])
  case noUnfence => exact up_hierCommand_gives h (by simp [regionCommandUnfence, fenceCommand, hr])
  case complete =>
    have hn : s.bell.units.any (fun u => 0 < u.2.late && u.1 / 65536 = regionKey q.die q.region
        && q.clusters.contains (clusterKey q.die q.region (u.1 % 65536 / unitsPerCluster q.die q.region))) = false := by
      simpa [List.any_eq_false] using hl
    exact up_gives h (by simp only [quiesceComplete, hq, hn, State.since]; simp [show 2 ≤ s.bell.edges - q.edge by omega]) rfl

theorem domainFails_eq (d : Nat) : domainFails d s = { s with
    hier.doms := tset s.hier.doms d { phase := .off, edge := s.bell.edges }
    hier.run := s.hier.run.map (fun r => { r with failed := true, queue := [] })
    flt.events := s.flt.events ++ [{ source := 22, detail := d }] } := rfl

/-- The domain that a running command switches on next. -/
theorem domainSwitchStart_of_next {d : Nat} {r : HierRun} {q : List Nat} (hr : s.hier.run = some r) (ho : r.on = true) (hf : r.failed = false)
    (hq : r.queue = d :: q) (hd : (domDeps d).all s.domOn = true) : domainSwitchStart d s =
      if s.hier.heldOut.contains (domDie d) then domainFails d s
      else s.when (s.hier.lastSwitch.all (fun e => 49 ≤ s.since e)) (fun s =>
        { setPhase d .switching s with hier.lastSwitch := some s.bell.edges, hier.run := some { r with queue := q } }) := by
  simp [domainSwitchStart, hr, ho, hf, hq, hd]
  rfl

theorem tmod_self {α : Type} (t : Tbl α) (k : Nat) (d : α) (f : α → α) : tmod t k d f = tset t k (f (tgetD t k d)) := rfl

/-- Settles O6: the phases of a domain follow one another, each guarded by its row's condition. -/
theorem domainSwitchOnProceeds : Obligations.DomainSwitchOnProceeds := by
  refine ⟨fun s d r q h hr ho hf hq hd hh hl => ?start, fun s d r q h hr ho hf hq hd hh => ?held, fun s d h hd hp he => ?good,
    fun s d h hd hp he => ?timeout, fun s d h hd hp hc he => ?release, fun s d lanes h hd h₁₅ hx hp => ?trained,
    fun s d lanes h hd hx hp => ?ridge, fun s d h hd hp => ?lost⟩
  case start =>
    refine up_gives h ((domainSwitchStart_of_next hr ho hf hq hd).trans ?_) rfl
    exact (if_neg (Bool.eq_false_iff.mp hh)).trans (if_pos hl)
  case held =>
    refine up_gives h ((domainSwitchStart_of_next hr ho hf hq hd).trans ?_) rfl
    rw [if_pos hh, domainFails_eq, hr]
    rfl
  case good => exact up_gives h (by simp [domainPowerGood, hd, hp, State.sinceSwitch, State.since, he, movePhase, tmod_self]) rfl
  case timeout => exact up_gives h (by rcases hp with hp | hp <;> simp [domainPgTimeout, hd, hp, State.sinceSwitch, State.since, he, domainFails_eq]) rfl
  case release => exact up_leaves h (if_pos (by rw [hc]; simpa [hd, hp, State.sinceSwitch, State.since] using he))
  case trained => exact up_gives h (by simp [domainTrained, hd, hp, h₁₅, movePhase, tmod_self]; omega) rfl
  case ridge =>
    have hl : domainTrained d lanes s = linksTrain (d / 3) (movePhase d .on s) := by
      simp [domainTrained, hp, show d < 20 by omega, show d ≠ 15 by omega, hd, hx]
    refine ⟨_, up_leaves h hl, rfl, fun l hl => ?_, rfl⟩
    simp only [linksTrain, List.mem_filter, Bool.and_eq_true, decide_eq_true_eq] at hl
    exact hl.2.1
  case lost => exact up_gives h (by simp [domainRetentionLost, hd, hp, setPhase]) rfl

theorem putIn_of_new {x : Nat} {l : List Nat} (h : l.contains x = false) : putIn x l = l ++ [x] := if_neg (Bool.eq_false_iff.mp h)

theorem dieReleased_clockGood (s : State) (g : List Bool) (die : Nat) : { s with hier.clockGood := g }.dieReleased die = s.dieReleased die := rfl

theorem dieReleased_iff {die : Nat} : s.dieReleased die = true ↔
    die = 4 ∨ ∃ r d, r < regionCount die ∧ domainOf die r = some d ∧ s.domReleased d = true := by
  simp only [State.dieReleased, Bool.or_eq_true, decide_eq_true_eq, List.any_eq_true, List.mem_range'_1, Option.any_eq_true]
  grind

/-- A die other than the Saddle no domain of which has been released. -/
theorem dieReleased_of_none {die : Nat} (hn : die ≠ 4) (hr : ∀ r d, domainOf die r = some d → s.domReleased d = false) :
    s.dieReleased die = false := by
  rw [Bool.eq_false_iff, Ne, dieReleased_iff]
  rintro (h | ⟨r, d, -, hd, hx⟩)
  · exact hn h
  · rw [hr r d hd] at hx
    cases hx

/-- Settles O7: a die's clock or a link is lost, and the events follow from who still needs it. -/
theorem clockLossAndLinkEventsTakeEffect : Obligations.ClockLossAndLinkEventsTakeEffect := by
  refine ⟨fun s die h hd hn hc hr => ?alone, fun s die h hd hc hr => ?dies, fun s l h hl => ?retry, fun s l h hl hd => ?fail⟩
  case alone =>
    refine up_gives h ?_ rfl
    unfold clockGoodLost
    rw [State.when, if_pos (by rw [hc]; simp [hd])]
    exact if_neg (by rw [dieReleased_clockGood, dieReleased_of_none hn hr]; exact Bool.false_ne_true)
  case dies =>
    have hl : clockGoodLost die s = _ := (if_pos (by rw [hc]; simp [hd])).trans (if_pos ((dieReleased_clockGood _ _ _).trans (dieReleased_iff.mpr hr)))
    exact ⟨_, up_leaves h hl, _, rfl, rfl⟩
  case retry => exact up_gives h (by simp [ucieRetry, hl, linkEvent]) rfl
  case fail => exact up_gives h ((if_pos (by rw [hd]; simp [hl])).trans (by rw [putIn_of_new hd]; rfl)) rfl

end Sys2Proof.Machine
end

section
-- One proof at a time: hundreds at once need more threads than the memory limit of the check has room for.
set_option Elab.async false
/-! ### The scheduler's commands (O8, O9) -/

namespace Sys2Proof.Machine
variable {s t : State} {p par : Bytes}

/-- A choice by the opposite condition. -/
theorem ite_swap {α : Type} {c d : Prop} [Decidable c] [Decidable d] {x y : α} (h : c ↔ ¬ d) : (if c then x else y) = if d then y else x := by
  by_cases hd : d <;> simp [h, hd]

/-- What a QUEUE_WRITE stores (R103, R104). -/
theorem queueWrite_of_good {kind inst q : Nat} (hk : fld p 1 1 = kind) (hi : fld p 2 2 = inst) (hq : fld p 4 2 = q)
    (h₁ : inst < instCount kind) (h₂ : q < queueCount kind) (hw : kind = 2 ∧ q = 0 ∨ 1 ≤ fld p 6 2 ∧ fld p 6 2 ≤ 4096)
    (hc : kind = 2 → 116 ≤ q → fld p 9 1 = 6 ∨ fld p 9 1 = 7) :
    queueWrite p s = ({ s with sched.cfg := tset s.sched.cfg (qKey kind inst q) {
      weight := if kind = 2 ∧ q = 0 then driveWeight 0 else fld p 6 2
      strict := if kind = 2 ∧ q = 0 then true else (fld p 8 1).testBit 0
      cls := if kind = 2 ∧ 116 ≤ q then fld p 9 1 else (defaultQCfg kind q).cls
      rate := fld p 12 4, burst := fld p 16 4 } }.onQueue kind inst q id).schedWrote := by
  subst hk hi hq
  have e : (if fld p 1 1 = 2 ∧ fld p 4 2 = 0 then (defaultQCfg (fld p 1 1) (fld p 4 2)).weight else fld p 6 2)
      = if fld p 1 1 = 2 ∧ fld p 4 2 = 0 then driveWeight 0 else fld p 6 2 :=
    ite_congr rfl (fun ⟨hk, hq⟩ => by rw [hk, hq]; rfl) (fun _ => rfl)
  unfold queueWrite
  simp only
  rw [if_neg (by omega), if_neg (by omega), if_neg (by omega), e]

theorem accepted_gate (k st n : Nat) : (s.accepted k st n par).gate = s.gate := rfl

theorem any_emptyEntry {es : List (Nat × Nat)} (h : ∃ e ∈ es, e.2 = 0) : es.any (fun e => decide (e.2 = 0)) = true := by
  obtain ⟨e, he, h0⟩ := h
  exact List.any_eq_true.mpr ⟨e, he, decide_eq_true h0⟩

/-- Settles O8: the checks of each opcode, then its write with `persist_gen` advanced. -/
theorem schedCommandsConfigure : Obligations.SchedCommandsConfigure := by
  refine ⟨fun s par p h hp hi hq hw hc => ?queue, fun s par p h hp hr => ?queueRange, fun s par p h hp => ?shaper, fun s par p h hp => ?policer,
    fun s par p h hp => ?map, fun s par p h hp hg h₁ h₂ h₃ => ?admin, fun s par p es b h hp hg h₁ h₂ hes hd ha hb => ?commit,
    fun s par p h hp hg hr => ?adminRange, fun s par p es h hp hg hes hr => ?commitRange,
    fun s par p es h hp hg hes h₁ h₂ hd hk ha => ?commitState, fun s par p o h hp hg => ⟨?adminPort, ?commitPort⟩⟩
  all_goals subst hp
  case queue => exact up_command_gives h (queueWrite_of_good rfl rfl rfl hi hq hw hc)
  case queueRange => exact up_command_gives h (by unfold queueWrite; simp only; split; rfl; split; rfl; rw [if_pos]; omega)
  case shaper => exact up_command_gives h (ite_swap (by omega)) (by split <;> rfl)
  case policer => exact up_command_gives h (ite_swap (by omega)) (by split <;> rfl)
  case map => exact up_command_gives h (ite_swap (by omega)) (by split <;> rfl)
  case admin => exact up_command_gives h (by simp only [gateAdminWrite, hg]; rw [if_neg (by omega)]; rfl)
  case adminRange => exact up_command_gives h (by simp only [gateAdminWrite, hg]; rw [if_pos (by omega)])
  case commit =>
    subst hes hb
    refine up_command_gives h ?_
    simp only [gateCommit, hg]
    rw [if_neg (by simpa [accepted_gate, h₂, Nat.ne_of_gt h₁] using hd), if_neg (by grind)]
    rfl
  case commitRange =>
    subst hes
    exact up_command_gives h (by simp only [gateCommit, hg]; exact if_pos (hr.imp_right (Or.imp_right any_emptyEntry)))
  case commitState =>
    subst hes
    exact up_command_gives h (by simp only [gateCommit, hg]; rw [if_neg (by simpa [accepted_gate, h₂, Nat.ne_of_gt h₁] using hd), if_pos ⟨hk, ha⟩])
  case adminPort => exact up_command_gives h (by simp only [gateAdminWrite, hg])
  case commitPort => exact up_command_gives h (by simp only [gateCommit, hg])

/-- Settles O9: each read answers what the tables hold; a closed window and a pending list move over. -/
theorem schedReadsAnswerTheirResult : Obligations.SchedReadsAnswerTheirResult := by
  refine ⟨fun s par p h hp => ?queue, fun s par p h hp => ?shaper, fun s par p x h hp hx => ?policer, fun s par p h hp => ?map,
    fun s par p o q h hp hg ho hq => ?gate, fun s par p o h hp hg => ?gatePort, fun s par p h hp => ?sample, fun s kind h hk hw => ?window,
    fun s kind inst h hg => ?switch⟩
  case queue => exact up_command_gives h (hp ▸ ite_swap (by omega)) (by split <;> rfl)
  case shaper => exact up_command_gives h (hp ▸ ite_swap (by omega)) (by split <;> rfl)
  case policer => exact up_command_gives h (hp ▸ hx ▸ ite_swap (by omega)) (by split <;> rfl)
  case map => exact up_command_gives h (hp ▸ ite_swap (by omega)) (by split <;> rfl)
  case gate => exact up_command_gives h (by subst hp ho hq; simp only [gateRead, hg]; rfl)
  case gatePort => exact up_command_gives h (by subst hp; simp only [gateRead, hg])
  case sample => exact up_command_gives h (hp ▸ ite_swap (by omega)) (by split <;> rfl)
  case window => exact up_gives h (if_pos (by simpa [hk] using hw)) rfl
  case switch => exact up_gives h (if_pos hg) rfl

end Sys2Proof.Machine
end

section
-- One proof at a time: hundreds at once need more threads than the memory limit of the check has room for.
set_option Elab.async false
/-! ### Ports and the switch's tables (O10, O11) -/

namespace Sys2Proof.Machine
variable {s t : State} {par : Bytes} {port v : Nat}

theorem when_of {c : Bool} {f : State → State} (h : c = true) : s.when c f = f s := if_pos h

/-- A write of a mode that changes something: what stands before the pools are checked (R60, R61). -/
theorem portModeWrite_of_mode {t u : State} (hp : port < 144) (hv : v ≤ 5) (hm : s.isMember port = false) (he : s.portEnabled port = false)
    (hok : modeValid port v = true) (hl : ∀ l ∈ otherLanes port v, s.portEnabled l = false)
    (ht : t = ((List.range' 0 144).filter (fun l => (s.port l).member = some port && !(otherLanes port v).contains l)).foldl
      (fun s l => (s.onPort l (fun p => { p with member := none })).setObj (portKey l 1) [0]) s)
    (hu : u = ((((otherLanes port v).foldl (fun s l => (s.onPort l (fun p => { p with member := some port })).setObj (portKey l 1) [0]) t).setObj
      (portKey port 1) (le 1 v)).persist).status 0) :
    portModeWrite port 1 v s = if u.poolsFit then u else s.status 4 := by
  have ha : (otherLanes port v).any s.portEnabled = false := by simpa [List.any_eq_false] using hl
  subst ht hu
  unfold portModeWrite
  rw [if_neg (by omega), if_neg (by omega), if_neg (by simp [hm, he]), if_neg (by omega), if_neg (by simp [hok]), if_neg (by simp [ha])]

theorem portModeWrite_of_busy {sub : Nat} (hp : port < 144) (hs : sub = 1 ∧ v ≤ 5 ∨ sub = 2 ∧ v ≤ 2)
    (hb : s.isMember port = true ∨ s.portEnabled port = true) : portModeWrite port sub v s = s.status 5 := by
  unfold portModeWrite
  rw [if_neg (by omega), if_neg (by omega), if_pos (by simpa using hb)]

/-- A write of a mode's enable on a lane that is no member (R60). -/
theorem portEnableWrite_of_free (hp : port < 144) (hv : v ≤ 1) (hm : s.isMember port = false) : portEnableWrite port v s =
    if v = 1 then (if s.portEnabled port then ((s.setObj (portKey port 3) (le 1 v)).persist.status 0)
      else ((s.setObj (portKey port 3) (le 1 v)).persist.status 0).onPort port (fun p => { p with cleanSince := s.bell.edges }))
    else portSilent port (portGoesDown port ((s.setObj (portKey port 3) (le 1 v)).persist.status 0)) := by
  unfold portEnableWrite
  rw [if_neg (by omega), if_neg (by omega), if_neg (by simp [hm])]

theorem portGoesDown_of_up (hu : (s.port port).up = true) : portGoesDown port s = evalXoff ((dropCopies Ev.flushed (fun c => c.inst = port)
    { (if s.portEnabled port && !s.stby.fenceIn then s.portFault 34 port else s).onPort port (fun p => { p with up := false, cleanSince := s.bell.edges, classes := [] })
      with sw.fdb := s.sw.fdb.filter (fun e => e.static || e.target ≠ 0 || e.num ≠ port) }).postEvent 2 8 0 port 0 0 0) := by
  unfold portGoesDown
  rw [if_neg (by simp [hu])]
  split <;> rfl

/-- Settles O10: the checks of a write in the model's order, then the port's events. -/
theorem portCommandsTakeEffect : Obligations.PortCommandsTakeEffect := by
  refine ⟨fun s port v h hp hv hm he => ?interface, fun s t u port v h hp hv hm he hok hl ht hu => ⟨fun hf => ?mode, fun hf => ?noPool⟩,
    fun s port sub v h hp hs hb => ?busy, fun s port h hp hm he => ?enable, fun s port h hp hm he => ?enabled, fun s port h hp hm => ?disable,
    fun s port hu => portGoesDown_of_up hu, fun s port v h hp hv hm => ?member, fun s port h hp hu hm hmode he hf hd ht hl h₁ h₂ h₃ => ?up,
    fun s port lf h hu hl => ?down, fun s port h hu hl => ?downFree, fun s lane l h hl hd ht => ?fec⟩
  case interface =>
    refine up_gives h ?_ rfl
    unfold portModeWrite
    rw [if_neg (by omega), if_neg (by omega), if_neg (by simp [hm, he]), if_pos rfl]
  case mode => exact up_leaves h ((portModeWrite_of_mode hp hv hm he hok hl ht hu).trans (if_pos hf))
  case noPool => exact up_gives h ((portModeWrite_of_mode hp hv hm he hok hl ht hu).trans (if_neg (by simp [hf]))) rfl
  case busy => exact up_gives h (portModeWrite_of_busy hp hs hb) rfl
  case enable => exact up_gives h ((portEnableWrite_of_free hp (Nat.le_refl _) hm).trans ((if_pos rfl).trans (if_neg (by simp [he])))) rfl
  case enabled => exact up_gives h ((portEnableWrite_of_free hp (Nat.le_refl _) hm).trans ((if_pos rfl).trans (if_pos he))) rfl
  case disable => exact up_leaves h ((portEnableWrite_of_free hp (Nat.zero_le 1) hm).trans (if_neg Nat.zero_ne_one))
  case member =>
    refine up_gives h ?_ rfl
    unfold portEnableWrite
    rw [if_neg (by omega), if_neg (by omega), if_pos hm]
  case up =>
    have hmay : s.portMay port = true := by
      unfold State.portMay
      rw [hd]
      simp [hp, hm, hmode, he, hf]
    have hclean : s.portClean port = true := by simpa [State.portClean, State.allLanes, hl, h₁, h₂] using h₃
    have hage : decide (9766 ≤ s.since (s.port port).cleanSince) = true := decide_eq_true ht
    exact up_gives h (when_of (by simp only [hu, hmay, hclean, hage]; rfl)) rfl
  case down => exact up_leaves h ((when_of hu).trans (if_pos (by rcases hl with hl | hl <;> simp [State.allLanes, hl])))
  case downFree => exact up_leaves h ((when_of hu).trans (if_neg (by simp [State.allLanes, hl])))
  case fec =>
    subst hd
    have hg : (decide (lane < 144) && decide (1048576 ≤ s.since (tgetD s.sw.lanes lane {}).start)) = true := by
      rw [decide_eq_true hl, Bool.true_and]
      exact decide_eq_true ht
    refine up_gives h ?_ (by split <;> rfl)
    simp only [fecWindowEnd, hg, when_true]
    split
    next ha => simp only [ha, decide_true, Bool.true_or]; rfl
    next ha =>
      have hs : (!decide ((tgetD s.sw.lanes lane {}).symbols < s.objN (portKey (s.portOf lane) 0xD) 1000000))
          = decide ((tgetD s.sw.lanes lane {}).symbols = s.objN (portKey (s.portOf lane) 0xD) 1000000) := by
        rw [← decide_not, decide_eq_decide]
        omega
      simp only [ha, hs, decide_false, Bool.false_or]

/-- Settles O11: the bucket of a key decides what an edit of the forwarding table does. -/
theorem switchTableCommandsTakeEffect : Obligations.SwitchTableCommandsTakeEffect := by
  refine ⟨fun s par p h hp hv h₁ h₂ h₃ => ?add, fun s par p h hp hv => ?delete, fun s par p h hp hv hq => ?flush, fun s par p e h hp hv he => ?lookup,
    fun s par p h hp => ?group, fun s par p g h hp hg => ?groupRead, fun s par p h hp => ?vlan, fun s par p v h hp hg => ?vlanRead,
    fun s par h hv => ⟨?addRange, ?deleteRange, ?lookupRange⟩, fun s vid mac e h he hs hn ha => ?age⟩
  case add =>
    subst hp
    refine up_command_gives h ?_ (by split <;> rfl)
    unfold fdbAddStatic
    rw [if_neg (by simp [hv]; omega)]
    simp only [Option.isNone_iff_eq_none]
    rfl
  case delete =>
    subst hp
    refine up_command_gives h ?_ (by split <;> rfl)
    unfold fdbDelete
    rw [if_neg (by simp [hv])]
    simp only [Option.isNone_iff_eq_none]
    rfl
  case flush =>
    subst hp
    exact up_command_gives h (if_neg (by omega))
  case lookup =>
    subst hp
    refine up_command_gives h ?_
    unfold fdbLookup
    rw [if_neg (by simp [hv]), show (s.accepted switchSet switchSet 48 par).fdbFind (fld (padTo 48 par) 2 2) (fld (padTo 48 par) 4 6) = some e from he]
  case group => exact up_command_gives h (hp ▸ ite_swap (by omega)) (by split <;> rfl)
  case groupRead => exact up_command_gives h (hp ▸ hg ▸ ite_swap (by omega)) (by split <;> rfl)
  case vlan => exact up_command_gives h (hp ▸ ite_swap (by simp [vidOk]; omega)) (by split <;> rfl)
  case vlanRead => exact up_command_gives h (hp ▸ hg ▸ ite_swap (by simp [vidOk]; omega)) (by split <;> rfl)
  case addRange => exact up_command_gives h (if_pos (.inl (by simp [hv])))
  case deleteRange => exact up_command_gives h (if_pos (by simp [hv]))
  case lookupRange => exact up_command_gives h (if_pos (by simp [hv]))
  case age =>
    refine up_gives h ?_ rfl
    have hg : (!e.static && decide (s.objN 0x240003 292968750 ≠ 0) && decide (s.objN 0x240003 292968750 ≤ s.since e.lastEdge)) = true := by
      rw [hs, decide_eq_true hn]
      exact decide_eq_true ha
    simp only [fdbAgeExpiry, he, hg, when_true]

end Sys2Proof.Machine
end

section
-- One proof at a time: hundreds at once need more threads than the memory limit of the check has room for.
set_option Elab.async false
/-! ### Frames and pauses (O12) -/

namespace Sys2Proof.Machine
variable {s t u v w : State} {port len : Nat} {f : Frame}

/-- What becomes of a frame that has passed its checks: its source is learned, it is policed, and it goes to its destinations (R66, R67). -/
def frameTaken (port : Nat) (f : Frame) (vid len : Nat) (s : State) : State :=
  let s := learn port vid (nfld f.data 6 6) s
  let (cls, pre) := s.classify port f.data
  match police port cls pre len s with
  | (s, none) => s
  | (s, some col) =>
    let c := copyOf f.data port vid cls col len (s.stamp f.ts (- s.boardDelay port 0xA))
    if nfld f.data 0 6 / 16 = 0x0180C200000 then
      (if nfld f.data 0 6 % 16 = 14 then deliver c [(152, none, none)] s else s.count Ev.mgmtDrop 0)
    else
      let (s, ds) := forward port vid (nfld f.data 0 6) (roceQp f.data) s
      deliver c ds s

/-- The VLAN a received frame belongs to (R67). -/
def frameVid (port : Nat) (d : Bytes) (s : State) : Nat :=
  match tagOf d with
  | some g => if g % 4096 = 0 then s.objN (portKey port 8) 1 else g % 4096
  | none => s.objN (portKey port 8) 1

/-- A frame that a running port receives: the checks in their order (R66). -/
theorem frameReceive_of_runs (hp : port < 144) (hr : s.portRuns port = true) (hl : len = f.data.length + 4)
    (ht : t = ((s.onPort port (fun p => { p with fifo := 0 })).count Ev.frRx port).count Ev.byRx port len) :
    frameReceive port f s =
      if 32768 * modeLanes (s.portMode port) < s.fifoWaits port + len then t.count Ev.fifoOvf port
      else if !f.fcsOk then t.count Ev.fcs port
      else if len < 64 then t.count Ev.runt port
      else if s.objN (portKey port 9) 9216 < len then t.count Ev.oversize port
      else if !tagGood f.data then t.count Ev.badTag port
      else if etherType f.data = 0x8808 then t
      else if !((tgetD s.sw.vlans (frameVid port f.data s) {}).member.testBit port) then t.count Ev.vlanViol port
      else frameTaken port f (frameVid port f.data s) len t := by
  subst hl
  unfold frameReceive
  rw [if_neg (by simp [hr]; omega)]
  subst ht
  rfl

/-- A frame that has no fault of its own (R66). -/
theorem frameReceive_of_good (hp : port < 144) (hr : s.portRuns port = true) (hl : len = f.data.length + 4)
    (ht : t = ((s.onPort port (fun p => { p with fifo := 0 })).count Ev.frRx port).count Ev.byRx port len)
    (hw : s.fifoWaits port + len ≤ 32768 * modeLanes (s.portMode port)) (hf : f.fcsOk = true) (hn : 64 ≤ len) (hm : len ≤ s.objN (portKey port 9) 9216)
    (hg : tagGood f.data = true) (he : etherType f.data ≠ 0x8808) :
    frameReceive port f s =
      if !((tgetD s.sw.vlans (frameVid port f.data s) {}).member.testBit port) then t.count Ev.vlanViol port
      else frameTaken port f (frameVid port f.data s) len t := by
  rw [frameReceive_of_runs hp hr hl ht, if_neg (by omega), if_neg (by simp [hf]), if_neg (by omega), if_neg (by omega), if_neg (by simp [hg]), if_neg he]

theorem bitsOf_two_pow {n c : Nat} (h : c < n) : bitsOf n (2 ^ c) = [c] := by
  have h₁ : (List.range' 0 n).count c = 1 := List.count_range_1'.trans (if_pos (by omega))
  simp only [bitsOf, Nat.testBit_two_pow, eq_comm (a := c), List.filter_eq, h₁, List.replicate_one]

theorem noteQueue_pending (kind inst q : Nat) (s : State) : (noteQueue kind inst q s).pending = s.pending := by
  obtain ⟨c, h⟩ := noteQueue_ctr kind inst q s
  rw [h]

/-- A pause frame of one class (R68). -/
theorem pfcReceive_of_class {c : Nat} {quanta : List Nat} (hp : port < 144) (hr : s.portRuns port = true) (hm : modeRate (s.portMode port) ≠ 0) (hc : c < 8)
    (hu : u = noteQueue 0 port c (((s.count Ev.frRx port).count Ev.byRx port 64).count Ev.pfcRx (port * 8 + c))) :
    pfcReceive port (2 ^ c) quanta s =
      if quanta.getD c 0 = 0 then u.onClass port c (fun k => { k with pause := none, stormRx := k.stormDrop })
      else (u.onClass port c (fun k => { k with
        lastPause := s.bell.edges
        pause := some { ns := quanta.getD c 0 * 512 / modeRate (s.portMode port), edge := s.bell.edges, since := (k.pause.map (·.since)).getD s.bell.edges } })).count
          Ev.bellsPaused (port * 8 + c) := by
  have hg : (decide (port < 144) && s.portRuns port && decide (modeRate (s.portMode port) ≠ 0)) = true := by
    rw [decide_eq_true hp, hr, decide_eq_true hm]
    rfl
  have hb : u.bell = s.bell := by
    obtain ⟨c', h⟩ := noteQueue_ctr 0 port c (((s.count Ev.frRx port).count Ev.byRx port 64).count Ev.pfcRx (port * 8 + c))
    rw [hu, h]
    rfl
  subst hu
  simp only [pfcReceive, hg, when_true, bitsOf_two_pow hc, List.foldl_cons, List.foldl_nil, hb]

/-- Settles O12: the checks of a received frame in their order, then its delivery; a pause by its timers. -/
theorem frameAndPauseCommandsTakeEffect : Obligations.FrameAndPauseCommandsTakeEffect := by
  refine ⟨fun s t port vid len f h hp hr hl ht hv => ⟨fun hw => ?fifo, fun hw => ⟨fun hf => ?fcs, fun hf hn => ?runt, fun hf hn hm => ?oversize, fun hf hn hm =>
      ⟨fun hg => ?badTag, fun hg he => ?control, fun hg he hx => ?vlan, fun u v cls pre hg he hx hu hc =>
        ⟨fun hq => ?policed, fun col hq hd => ?toMgmt, fun col hq hd hd' => ?dropped, fun w col ds hq hd hfw => ?forwarded⟩⟩⟩⟩,
    fun s u v inst ts start q hd r h hi hts hr hst hstart hu hq hitems hv => ⟨fun hcov => ?stop, fun c hcov hcopy => ?transmit⟩,
    fun s inst ts h hts => ?guard, fun s dir f c h hc => ⟨fun port hp hlt => ?mgmt, fun w ds hp hfw => ?mgmtLookup⟩,
    fun s u port c quanta h hu hp hr hm hc hq => ?pause, fun s u port c quanta h hu hp hr hm hc hq => ?unpause, fun s port c p h hp hn => ?expiry,
    fun s port c h hx => ?refresh, fun s port c p h hp hs he ha => ?storm, fun s port c p h hp hs he ha => ?stormDrop, fun s port c h hd he => ?restore,
    fun s port c e h hx hs he => ?xoff⟩
  case fifo => exact up_gives h (by rw [frameReceive_of_runs hp hr hl ht, if_pos hw]) (by simp [ht]; rfl)
  case fcs => exact up_gives h (by rw [frameReceive_of_runs hp hr hl ht, if_neg (by omega), if_pos (by simp [hf])]) (by simp [ht]; rfl)
  case runt => exact up_gives h (by rw [frameReceive_of_runs hp hr hl ht, if_neg (by omega), if_neg (by simp [hf]), if_pos hn]) (by simp [ht]; rfl)
  case oversize =>
    refine up_gives h ?_ (by simp [ht]; rfl)
    rw [frameReceive_of_runs hp hr hl ht, if_neg (by omega), if_neg (by simp [hf]), if_neg (by omega), if_pos hm]
  case badTag =>
    refine up_gives h ?_ (by simp [ht]; rfl)
    rw [frameReceive_of_runs hp hr hl ht, if_neg (by omega), if_neg (by simp [hf]), if_neg (by omega), if_neg (by omega), if_pos (by simp [hg])]
  case control =>
    refine up_gives h ?_ (by simp [ht]; rfl)
    rw [frameReceive_of_runs hp hr hl ht, if_neg (by omega), if_neg (by simp [hf]), if_neg (by omega), if_neg (by omega), if_neg (by simp [hg]), if_pos he]
  case vlan =>
    refine up_gives h ?_ (by simp [ht]; rfl)
    have hv' : vid = frameVid port f.data s := hv
    rw [frameReceive_of_good hp hr hl ht hw hf hn hm hg he, ← hv', if_pos (by simp [hx])]
  case policed =>
    refine up_leaves h ?_
    have hv' : vid = frameVid port f.data s := hv
    rw [frameReceive_of_good hp hr hl ht hw hf hn hm hg he, ← hv', if_neg (by simp [hx])]
    simp only [frameTaken, ← hu, hc, hq]
  case toMgmt =>
    refine up_leaves h ?_
    have hv' : vid = frameVid port f.data s := hv
    rw [frameReceive_of_good hp hr hl ht hw hf hn hm hg he, ← hv', if_neg (by simp [hx])]
    simp only [frameTaken, ← hu, hc, hq]
    rw [if_pos (by omega), if_pos (by omega)]
  case dropped =>
    refine up_leaves h ?_
    have hv' : vid = frameVid port f.data s := hv
    rw [frameReceive_of_good hp hr hl ht hw hf hn hm hg he, ← hv', if_neg (by simp [hx])]
    simp only [frameTaken, ← hu, hc, hq]
    rw [if_pos hd, if_neg (by omega)]
  case forwarded =>
    refine up_leaves h ?_
    have hv' : vid = frameVid port f.data s := hv
    rw [frameReceive_of_good hp hr hl ht hw hf hn hm hg he, ← hv', if_neg (by simp [hx])]
    simp only [frameTaken, ← hu, hc, hq]
    rw [if_neg hd, hfw]
  case stop =>
    refine up_leaves h ?_
    unfold frameTransmit
    rw [if_neg (by simp [hr, hst]; omega)]
    simp only [← hstart, ← hu, hq, hitems]
    rw [if_pos (by simp [hcov])]
  case transmit =>
    refine up_leaves h ?_
    unfold frameTransmit
    rw [if_neg (by simp [hr, hst]; omega)]
    simp only [← hstart, ← hu, hq, hitems]
    rw [if_neg (by simp [hcov]), ← hv, hcopy]
  case guard => exact up_gives h (if_pos (.inr (.inl hts))) rfl
  case mgmt =>
    refine up_leaves h ?_
    subst hc
    simp only [mgmtFrameSend, hp, decide_eq_true hlt, when_true]
    cases tagOf f.data <;> rfl
  case mgmtLookup =>
    refine up_leaves h ?_
    subst hc
    simp only [mgmtFrameSend, hp]
    cases hg : tagOf f.data <;> simp only [hg] at hfw <;> exact congrArg (fun x => deliver _ x.2 x.1) hfw
  case pause => exact up_gives h ((pfcReceive_of_class hp hr hm hc hu).trans (if_neg hq)) (by rw [State.count_pending, hu]; exact noteQueue_pending _ _ _ _)
  case unpause => exact up_gives h ((pfcReceive_of_class hp hr hm hc hu).trans (if_pos hq)) (by rw [hu]; exact noteQueue_pending _ _ _ _)
  case expiry =>
    refine up_gives h ?_ (noteQueue_pending 0 port c s)
    simp only [pauseExpiry, hp]
    exact when_of (decide_eq_true hn)
  case refresh => exact up_gives h (if_pos hx) rfl
  case storm =>
    refine up_gives h ?_ rfl
    simp only [pfcStormDetect, hp, hs, Bool.not_false, Bool.true_and, State.since, he, decide_true, when_true, ha, decide_false, if_false]
  case stormDrop =>
    refine up_leaves h ?_
    simp only [pfcStormDetect, hp, hs, Bool.not_false, Bool.true_and, State.since, he, decide_true, when_true, ha, if_true]
  case restore =>
    refine up_gives h ?_ rfl
    simp only [pfcStormRestore, hd, Bool.true_and, State.since, he, decide_true, when_true]
  case xoff =>
    refine up_gives h ?_ rfl
    simp only [xoffStormDetect, hx, hs, Bool.not_false, Bool.true_and, State.since, he, decide_true, when_true]

end Sys2Proof.Machine
end

section
-- One proof at a time: hundreds at once need more threads than the memory limit of the check has room for.
set_option Elab.async false
/-! ### Queue pairs, regions and packets (O13, O14) -/

namespace Sys2Proof.Machine
variable {s t u : State} {par p : Bytes} {act : Bytes → State → State} {key set size : Nat}

theorem not_bnot {b : Bool} (h : b = true) : ¬ (!b) = true := by simp [h]

theorem bnot_of {b : Bool} (h : b = false) : (!b) = true := by simp [h]

/-- An accepted command of a released device, the queue apart. -/
theorem up_command_leaves (h : s.takes set size par) (hf : act (padTo size par) (s.accepted key set size par) = t) :
    up s (fun u => u.command key set size par act) = .next { t with pending := s.pending } :=
  up_leaves h.1 ((command_of_takes s key set size par act h).trans hf)

/-- An accepted command that may hand work on. -/
theorem act_command_leaves (h : s.takes set size par) (hf : act (padTo size par) (s.accepted key set size par) = t) :
    Sys2Proof.Machine.act s (fun u => u.command key set size par act) = .next { settle t with pending := s.pending } :=
  act_leaves h.1 ((command_of_takes s key set size par act h).trans hf)

@[simp] theorem qp_onQp_self (s : State) (k : Nat) (f : Qp → Qp) : (s.onQp k f).qp k = f (s.qp k) := by simp [State.qp, State.onQp, tmod]

/-- The members of a QP_CREATE are in range, and its placement policy is given (R154). -/
structure CreateRanged (p : Bytes) : Prop where
  pd : fld p 2 2 < 4096
  hint : fld p 4 2 < 144 ∨ fld p 4 2 = 0xFFFF
  assoc : fld p 6 2 < 2048
  policy : 1 ≤ fld p 9 1 ∧ fld p 9 1 ≤ 3
  engine : fld p 9 1 = 3 → fld p 10 1 < 8

theorem CreateRanged.passes (h : CreateRanged p) :
    ¬ (4096 ≤ fld p 2 2 ∨ (144 ≤ fld p 4 2 ∧ fld p 4 2 ≠ 0xFFFF) ∨ 2048 ≤ fld p 6 2 ∨ 3 < fld p 9 1 ∨ (fld p 9 1 = 3 ∧ 8 ≤ fld p 10 1)) := by
  obtain ⟨h₁, h₂, h₃, h₄, h₅⟩ := h
  omega

theorem CreateRanged.given (h : CreateRanged p) (d : Nat) : (if fld p 9 1 = 0 then d else fld p 9 1) = fld p 9 1 :=
  if_neg (Nat.ne_of_gt h.policy.1)

theorem qpCreate_of_noDomain (h : CreateRanged p) (hc : s.xp.domains.contains (fld p 2 2) = false) : qpCreate p s = s.done qpSet 4 := by
  simp only [qpCreate, h.given, if_neg h.passes, hc, Bool.not_false, if_true]

theorem qpCreate_of_noEngine (h : CreateRanged p) (hc : s.xp.domains.contains (fld p 2 2) = true)
    (hk : s.place (fld p 9 1) (fld p 4 2) (fld p 10 1) = none) : qpCreate p s = s.done qpSet 5 := by
  simp only [qpCreate, h.given, if_neg h.passes, hc, hk, Bool.not_true, Bool.false_eq_true, if_false]

theorem qpCreate_of_noSlot (h : CreateRanged p) (hc : s.xp.domains.contains (fld p 2 2) = true)
    (hk : s.place (fld p 9 1) (fld p 4 2) (fld p 10 1) = some none) : qpCreate p s = s.done qpSet 3 := by
  simp only [qpCreate, h.given, if_neg h.passes, hc, hk, Bool.not_true, Bool.false_eq_true, if_false]

/-- The slot that a QP_CREATE takes keeps its generation (R133, R154). -/
theorem qpCreate_of_slot (h : CreateRanged p) (hc : s.xp.domains.contains (fld p 2 2) = true)
    (hk : s.place (fld p 9 1) (fld p 4 2) (fld p 10 1) = some (some key))
    (hu : u = (s.onQp key (fun q => { gen := q.gen, state := 1, conn := { pd := fld p 2 2, assoc := fld p 6 2, respGroup := fld p 8 1 } })).onRate key (fun _ => {})) :
    qpCreate p s = (storeContext key { u with xp.created := (s.xp.created + 1) % 2 ^ 32 }).done qpSet 0 (le 4 (qpnOf key (s.qp key).gen)) := by
  have hq : State.qpn { u with xp.created := (s.xp.created + 1) % 2 ^ 32 } key = qpnOf key (s.qp key).gen := by
    subst hu
    simp [State.qpn, State.qp, State.onRate, State.onQp, tmod]
  rw [← hq, hu]
  simp only [qpCreate, h.given, if_neg h.passes, hc, hk, Bool.not_true, Bool.false_eq_true, if_false]
  rfl

section
variable {k st n : Nat}
/-! An accepted command leaves what the queue pairs show. -/

@[simp] theorem accepted_qp : (s.accepted k st n par).qp = s.qp := rfl
@[simp] theorem accepted_genOk : (s.accepted k st n par).genOk = s.genOk := rfl
@[simp] theorem accepted_place : (s.accepted k st n par).place = s.place := rfl
@[simp] theorem accepted_connOk : (s.accepted k st n par).connOk = s.connOk := rfl
@[simp] theorem accepted_domainUsed : (s.accepted k st n par).domainUsed = s.domainUsed := rfl
end

/-- A freed slot: of the next generation, with no rate state, and kept by no cache (R136). -/
def freed (key : Nat) (s : State) : State :=
  let s := s.onQp key (fun q => { gen := nextGen q.gen })
  let s := s.onCache (clOf key) (fun c => { c with
    cached := c.cached.erase (key % 512), writeBack := c.writeBack.erase (key % 512), writing := terase c.writing (key % 512), fetching := c.fetching.filter (fun f => f.1 ≠ key % 512) })
  s.onRate key (fun _ => {})

theorem freed_qp (key : Nat) (s : State) : (freed key s).qp key = { gen := nextGen (s.qp key).gen } := by
  have h := qp_onQp_self s key (fun q => { gen := nextGen q.gen })
  exact h

theorem freed_objN (key : Nat) (s : State) : (freed key s).objN = s.objN := rfl

theorem freed_leaves {a : Nat} {z : Bytes} (h : t = { ((freed key s).hbmPut a z).doneNow set 0 with pending := s.pending }) :
    t = { s with xp := t.xp, cc := t.cc, mem := t.mem, dict := t.dict } := by
  subst h
  rfl

theorem res_doneNow (s : State) (set o : Nat) : ((s.doneNow set o).res set).ready = true ∧ ((s.doneNow set o).res set).outcome = o := by
  simp only [State.doneNow, res_onRes_self, and_self]

theorem qpDestroyComplete_of_due {qpn a : Nat} {z : Bytes} (ha : a = s.objN 0x300005 0 + keyOf qpn * 1024) (hz : z = zeros 1024)
    (h : (s.genOk qpn && (s.qp (keyOf qpn)).destroying.any (fun x => decide (x < s.bell.edges))
      && !(s.cache (clOf (keyOf qpn))).missQ.any (fun m => m.1 = keyOf qpn)) = true) :
    qpDestroyComplete qpn s = ((freed (keyOf qpn) s).hbmPut a z).doneNow qpSet 0 := by
  rw [ha, hz, ← freed_objN (keyOf qpn) s]
  simp only [qpDestroyComplete, h, when_true, freed]

/-- Settles O13: each opcode by the state and generation of the QP it names. -/
theorem queuePairCommandsTakeEffect : Obligations.QueuePairCommandsTakeEffect := by
  refine ⟨fun s par p key h hp hd hh ha h₁ h₂ h₃ hc hk => ?create, fun s par p h hp hd hh ha h₁ h₂ h₃ => ⟨fun hc => ?domain, fun hc hk => ?engine, fun hc hk => ?slot⟩,
    fun s par p key c h hp hg hk hs hn hc hok => ?connect, fun s par p h hp hg hs hn => ?error, fun s par p h hp hg hs hn => ?destroy,
    fun s qpn e h hg hd he hw => ?destroyed, fun s par p h hp => ⟨fun hg => ?query, fun hg => ?stale⟩, fun s par h => ?allocate, fun s par p h hp hd => ?free⟩
  case create =>
    subst hp
    exact ⟨_, up_command_leaves h (qpCreate_of_slot ⟨hd, hh, ha, ⟨h₁, h₂⟩, h₃⟩ hc hk rfl), _, rfl, rfl⟩
  case domain =>
    subst hp
    exact up_command_gives h (qpCreate_of_noDomain ⟨hd, hh, ha, ⟨h₁, h₂⟩, h₃⟩ hc)
  case engine =>
    subst hp
    exact up_command_gives h (qpCreate_of_noEngine ⟨hd, hh, ha, ⟨h₁, h₂⟩, h₃⟩ hc hk)
  case slot =>
    subst hp
    exact up_command_gives h (qpCreate_of_noSlot ⟨hd, hh, ha, ⟨h₁, h₂⟩, h₃⟩ hc hk)
  case connect =>
    subst hp hk hc
    exact up_command_leaves h ((if_neg (by simp [hg])).trans ((if_neg (by simp [hs, hn])).trans (if_neg (by simp [hok]))))
  case error =>
    subst hp
    exact act_command_leaves h ((if_neg (by simp [hg])).trans (if_neg (by simp [hn]; omega)))
  case destroy =>
    subst hp
    exact up_command_gives h ((if_neg (by simp [hg])).trans (if_neg (by simp [hn]; omega)))
  case destroyed =>
    have hgo : (s.genOk qpn && (s.qp (keyOf qpn)).destroying.any (fun x => decide (x < s.bell.edges))
        && !(s.cache (clOf (keyOf qpn))).missQ.any (fun m => m.1 = keyOf qpn)) = true := by
      rw [hg, hd, hw]
      simpa using he
    generalize hz : zeros 1024 = z
    have hr := res_doneNow ((freed (keyOf qpn) s).hbmPut (s.objN 0x300005 0 + keyOf qpn * 1024) z) qpSet 0
    exact ⟨_, up_leaves h (qpDestroyComplete_of_due rfl hz.symm hgo), congrArg Qp.gen (freed_qp (keyOf qpn) s),
      congrArg Qp.state (freed_qp (keyOf qpn) s), rfl, hr.1, hr.2, freed_leaves rfl⟩
  case query =>
    subst hp
    exact up_command_gives h (if_neg (by simp [hg]))
  case stale =>
    subst hp
    simp only [List.forall_mem_cons, List.not_mem_nil, false_imp_iff, implies_true, and_true]
    exact ⟨up_command_gives h (if_pos (by simp [hg])), up_command_gives h (if_pos (by simp [hg])), up_command_gives h (if_pos (by simp [hg]))⟩
  case allocate => exact up_command_gives h rfl (by split <;> rfl)
  case free =>
    subst hp
    refine up_command_gives h ((if_neg (by omega)).trans ?_) ?_
    · cases hc : s.xp.domains.contains (fld (padTo 96 par) 2 2)
      · exact (if_pos (by rw [State.accepted_xp, hc]; rfl)).trans (if_pos rfl).symm
      · exact (if_neg (by rw [State.accepted_xp, hc]; exact Bool.false_ne_true)).trans (if_neg (by decide)).symm
    · split
      · rfl
      · split <;> rfl

theorem not_revocable_iff (i m : Nat) (r : Region) :
    (65536 ≤ i ∨ r.state ≠ 1 ∨ r.tag ≠ m ∨ r.revoke = true) ↔ ¬ (i < 65536 ∧ r.state = 1 ∧ r.tag = m ∧ r.revoke = false) := by
  grind

/-- A registration that passes its checks takes the next Free region (R146). -/
theorem mrRegister_of_region {i : Nat} (hr : s.registerOk (fld p 2 2) (fld p 8 8) (fld p 24 8) = true) (hd : s.xp.domains.contains (fld p 2 2) = true)
    (hi : s.freeRegion 65536 ((s.xp.lastRegion.map (fun i => (i + 1) % 65536)).getD 0) = some i)
    (hu : u = s.onRegion i (fun r => { state := 1, pd := fld p 2 2, access := fld p 4 1 % 4, tag := r.tag, hbm := fld p 8 8, va := fld p 16 8, len := fld p 24 8 })) :
    mrRegister p s = { u with xp.lastRegion := some i, mem := s.mem.lay (s.objN 0x300006 0 + i * 32) 32 (.free s.freeIdx), freeIdx := s.freeIdx + 1 }.done mrSet 0
      (le 4 (i * 256 + (s.region i).tag)) := by
  subst hu
  have hn : s.freeRegion 65536 (match s.xp.lastRegion with | some i => (i + 1) % 65536 | none => 0) = some i := by
    rw [← hi]
    cases s.xp.lastRegion <;> rfl
  unfold mrRegister
  rw [if_neg (not_bnot hr), if_neg (not_bnot hd)]
  split
  next hx => exact absurd (hx.symm.trans hn) (Option.some_ne_none i).symm
  next j hx =>
    obtain rfl : j = i := Option.some.inj (hx.symm.trans hn)
    rfl

theorem accepted_freeRegion {k st sz n i : Nat} : (s.accepted k st sz par).freeRegion n i = s.freeRegion n i := by
  induction n generalizing i with
  | zero => rfl
  | succ n ih =>
    simp only [State.freeRegion, ih]
    rfl

/-- A packet that is not held back, of a running engine and for no mirror intake, is counted and looked up (R139). -/
theorem receivePacket_of_taken {e : Nat} {p : Packet} (he : e < 8) (hd : s.domReleased (3 * (e / 2) + 2) = true) (hb : s.holdsBack e p = false)
    (hu : u = (s.count (Ev.rxPk0 + opGroup p.opcode) e).count (Ev.rxBy0 + opGroup p.opcode) e (rxSize p))
    (hm : s.cc.mirrors.find? (fun m => m.1 / 64 = e ∧ m.2.intake = p.destQp) = none) : receivePacket e p s = receiveKnown e p u := by
  have ht : translate e p u = (u, p) := by
    subst hu
    simp only [translate]
    rw [show (s.count _ _ |>.count _ _ _).cc.mirrors.find? _ = none from hm]
  unfold receivePacket
  rw [if_neg (by simp [hd]; omega), if_neg (by simp [hb])]
  simp only [← hu, ht]

/-- A packet whose context is cached, and that nothing waits before, is processed at once (R139). -/
theorem receiveKnown_of_cached {e : Nat} {p : Packet} (hg : s.genOk p.destQp = true) (hn : (s.qp (keyOf p.destQp)).state ≠ 0) (he : engOf (keyOf p.destQp) = e)
    (hw : (s.cache (clOf (keyOf p.destQp))).missQ = []) (hc : (s.cache (clOf (keyOf p.destQp))).cached.contains (keyOf p.destQp % 512) = true) :
    receiveKnown e p s = processPacket (keyOf p.destQp) p ((touch (keyOf p.destQp) s).count Ev.ctxHit (clOf (keyOf p.destQp))) := by
  have hl : lookup (keyOf p.destQp) s = ((touch (keyOf p.destQp) s).count Ev.ctxHit (clOf (keyOf p.destQp)), true) := if_pos hc
  unfold receiveKnown
  rw [if_neg (by simp [hg, hn, he])]
  simp only [hl, hw, List.any_nil, Bool.not_false, and_self, if_true]

/-- Settles O14: a region by its state and tag, a packet by whether its context is cached. -/
theorem regionAndPacketCommandsTakeEffect : Obligations.RegionAndPacketCommandsTakeEffect := by
  refine ⟨fun s par p i h hp hr hd hi => ?register, fun s par p h hp => ?revoke, fun s par p r h hp hi hr => ?query, fun s i h hs hr he => ?drained,
    fun s i h hs hr he => ?timeout, fun s u e p h he hd hb hu hm => ⟨fun hg => ?unknown, fun hg hn hk hw hc => ?packet⟩,
    fun s u v qpn key slot edge b lost h hk hslot hr hf hu hv => ⟨fun hl => ?fetched, fun bad w hl hw => ?badFetch⟩, fun s qpn b h hw => ?writeback,
    fun s qpn wr h hg => ⟨fun hs => ?post, fun hs => ?flush⟩, fun s qpn e h hg hs ht he => ?retransmit, fun s qpn e n psn h hg hs hw he => ?rnr⟩
  case register =>
    subst hp
    exact up_command_gives h (mrRegister_of_region hr hd (accepted_freeRegion.trans hi) rfl)
  case revoke =>
    subst hp
    exact up_command_leaves h (ite_swap (not_revocable_iff _ _ _))
  case query =>
    subst hp hr
    exact up_command_gives h (if_neg (by omega))
  case drained =>
    refine up_gives h ?_ rfl
    have hgo : (decide ((s.region i).state = 2) && decide ((s.region i).refs = 0) && decide ((s.region i).drainEdge < s.bell.edges)) = true := by
      rw [hs, hr, decide_eq_true he]
      rfl
    simp only [mrDrainComplete, hgo, when_true]
  case timeout =>
    refine act_leaves h ?_
    have hgo : (decide ((s.region i).state = 2) && decide (0 < (s.region i).refs) && decide (s.objN 0x300011 97657 ≤ s.since (s.region i).drainEdge)) = true := by
      rw [hs, decide_eq_true hr, State.since, decide_eq_true he]
      rfl
    simp only [revokeTimeout, hgo, when_true]
  case unknown =>
    refine act_leaves h ((receivePacket_of_taken he hd hb hu hm).trans ?_)
    subst hu
    exact if_pos (.inl (bnot_of hg))
  case packet =>
    refine act_leaves h ((receivePacket_of_taken he hd hb hu hm).trans ?_)
    subst hu
    exact receiveKnown_of_cached hg hn hk hw hc
  case fetched =>
    refine act_leaves h ?_
    subst hk hslot
    simp only [fetchComplete, hf, hr, when_true, ← hu, hv, hl, Bool.false_eq_true, or_self, if_false]
  case badFetch =>
    refine act_leaves h ?_
    subst hk hslot
    simp only [fetchComplete, hf, hr, when_true, ← hu, hv, if_pos hl, ← hw]
  case writeback =>
    refine up_leaves h ?_
    simp only [writebackComplete, hw]
  case post => exact act_leaves h ((when_of hg).trans (if_pos hs))
  case flush => exact act_leaves h ((when_of hg).trans (if_neg hs))
  case retransmit =>
    refine act_leaves h ?_
    have hgo : (s.genOk qpn && decide ((s.qp (keyOf qpn)).state = 2) && (s.qp (keyOf qpn)).timer.any (fun e => decide ((s.qp (keyOf qpn)).conn.ackTimeout ≤ s.since e))) = true := by
      rw [hg, hs, ht]
      exact decide_eq_true he
    simp only [retransmitTimeout, hgo, when_true] <;> rfl
  case rnr =>
    refine up_leaves h ?_
    have hgo : (s.genOk qpn && decide ((s.qp (keyOf qpn)).state = 2) && decide (n ≤ s.since e)) = true := by
      rw [hg, hs]
      exact decide_eq_true he
    simp only [rnrWaitExpiry, hw, hgo, when_true]

end Sys2Proof.Machine
end

section
-- One proof at a time: hundreds at once need more threads than the memory limit of the check has room for.
set_option Elab.async false
/-! ### Rates, chains and mirrors (O15) -/

namespace Sys2Proof.Machine
variable {s t u : State} {par p : Bytes} {k st n : Nat}

@[simp] theorem accepted_chain : (s.accepted k st n par).chain = s.chain := rfl
@[simp] theorem accepted_hostChain : (s.accepted k st n par).hostChain = s.hostChain := rfl
@[simp] theorem accepted_rate : (s.accepted k st n par).rate = s.rate := rfl
@[simp] theorem accepted_ccMode : (s.accepted k st n par).ccMode = s.ccMode := rfl
@[simp] theorem accepted_wrOk : (s.accepted k st n par).wrOk = s.wrOk := rfl

theorem not_or_iff_ne (x : Nat) : (x ≠ 1 ∧ x ≠ 2) ↔ ¬ (x = 1 ∨ x = 2) := not_or.symm

/-- The request that a running chain may start next (R170). -/
theorem chainWrStart_of_due {e n ck : Nat} {c : Chain} {w : Bytes} (hck : ck = e * 256 + n) (hc : c = s.chain ck) (hw : w = s.wrBytes ck c.cur) (hr : s.engineRuns e = true)
    (hs : c.state = 2) (hm : c.matchEdge < s.bell.edges) (hl : c.cur < c.len) (hn : tgetD s.cc.started e 0 < 8)
    (hf : (fld w 1 1).testBit 0 = true → c.cur = 0 ∨ c.posted.contains (c.base + c.cur - 1) = false) (hq : (s.qp (keyOf (fld w 4 4))).workCount < 128)
    (hu : u = { s with cc.started := tmod s.cc.started e 0 (· + 1) }) :
    chainWrStart e n s =
      if crc32 (s.chainBytes ck c.len) ≠ c.crc then failChain ck c.cur 4 u
      else if !s.genOk (fld w 4 4) ∨ (s.qp (keyOf (fld w 4 4))).state ≠ 2 then failChain ck c.cur 1 u
      else match s.wrLocal c ck (s.qp (keyOf (fld w 4 4))).conn.pd w with
        | none => failChain ck c.cur 2 u
        | some (a, reg) => postWork (keyOf (fld w 4 4)) (.chain e n (c.base + c.cur))
          { op := fld w 0 1, remoteVa := fld w 24 8, remoteKey := fld w 32 4, len := fld w 12 4, data := if fld w 0 1 = 5 then [] else s.mem.read a (fld w 12 4), dest := a,
            imm := if fld w 1 1 / 4 % 4 = 0 then fld w 36 4 else if fld w 1 1 / 4 % 4 = 1 then c.imm else Nat.xor c.imm (fld w 36 4) }
          ((match reg with
            | some i => (u.onChain ck (fun c => { c with cur := c.cur + 1, posted := c.posted ++ [c.base + c.cur], held := c.held ++ [(c.base + c.cur, i)] })).onRegion i
                (fun r => { r with refs := r.refs + 1 })
            | none => u.onChain ck (fun c => { c with cur := c.cur + 1, posted := c.posted ++ [c.base + c.cur] })).count Ev.chWr e) := by
  subst hck hc hw hu
  have hfence : ((fld (s.wrBytes (e * 256 + n) (s.chain (e * 256 + n)).cur) 1 1).testBit 0 && decide (0 < (s.chain (e * 256 + n)).cur)
      && (s.chain (e * 256 + n)).posted.contains ((s.chain (e * 256 + n)).base + (s.chain (e * 256 + n)).cur - 1)) = false := by
    refine Bool.eq_false_iff.mpr (fun hx => ?_)
    simp only [Bool.and_eq_true, decide_eq_true_eq] at hx
    obtain ⟨⟨hb, h₀⟩, hp⟩ := hx
    rcases hf hb with h | h
    · omega
    · rw [hp] at h
      cases h
  simp only [chainWrStart, hr, hs, decide_true, Bool.and_self, decide_eq_true hm, decide_eq_true hl, decide_eq_true hn, hfence, Bool.not_false,
    decide_eq_true hq, when_true]
  refine ite_congr rfl (fun _ => rfl) (fun _ => ite_congr rfl (fun _ => rfl) (fun _ => ?_))
  split
  next hx => simp only [show s.wrLocal _ _ _ _ = none from hx]
  next a reg hx => cases reg <;> simp only [show s.wrLocal _ _ _ _ = some (a, _) from hx] <;> rfl

/-- A profile and mode that an allocated queue pair takes (R168). -/
theorem ccSetProfileMode_of_known (hg : s.genOk (fld p 4 4) = true) (hp : fld p 8 1 ≤ 15) (hm : fld p 9 1 ≤ 2) (hs : (s.qp (keyOf (fld p 4 4))).state ≠ 0) :
    ccSetProfileMode p s = (s.onRate (keyOf (fld p 4 4)) (fun r => { r with
      profile := some (fld p 8 1), ccMode := if (s.qp (keyOf (fld p 4 4))).state = 2 then r.ccMode else some (fld p 9 1),
      pendMode := if (s.qp (keyOf (fld p 4 4))).state = 2 ∧ s.ccMode (keyOf (fld p 4 4)) ≠ fld p 9 1 then some (fld p 9 1) else none })).done ccSet 0 := by
  unfold ccSetProfileMode
  rw [if_neg (by simp [hg]; omega), if_neg hs]
  simp only [Bool.not_eq_true', decide_eq_false_iff_not, ne_eq]

/-- A binding that passes its checks takes the least free entry of its engine (R174). -/
theorem mirrorBind_of_free {i : Nat} (he : fld p 1 1 < 8) (hi : fld p 4 4 % 8 = fld p 1 1) (hi' : fld p 4 4 < 2 ^ 24) (hp : fld p 16 4 = 0xFFFFFFFF ∨ fld p 16 4 < 2 ^ 24)
    (hg : s.genOk (fld p 8 4) = true) (hs : (s.qp (keyOf (fld p 8 4))).state = 2) (hk : engOf (keyOf (fld p 8 4)) = fld p 1 1)
    (hm : s.cc.mirrors.any (fun m => m.1 / 64 = fld p 1 1 ∧ m.2.intake = fld p 4 4) = false)
    (hf : (List.range' 0 64).find? (fun i => (tget s.cc.mirrors (fld p 1 1 * 64 + i)).isNone) = some i) :
    mirrorBind p s = (if fld p 16 4 = 0xFFFFFFFF
      then { s with cc.mirrors := tset s.cc.mirrors (fld p 1 1 * 64 + i) { intake := fld p 4 4, qpn := fld p 8 4, key := fld p 12 4, sync := true } }
      else { s with cc.mirrors := tset s.cc.mirrors (fld p 1 1 * 64 + i) { intake := fld p 4 4, qpn := fld p 8 4, key := fld p 12 4, sync := false } }.onQp
        (keyOf (fld p 8 4)) (fun q => { q with ePsn := fld p 16 4 })).done chainSet 0 (le 1 i) := by
  unfold mirrorBind
  rw [if_neg (by simp; omega), if_neg (by simp [hg, hs, hk]; simpa using hm)]
  simp only [hf]
  by_cases hx : fld p 16 4 = 0xFFFFFFFF <;> simp only [hx, decide_true, decide_false, if_true, if_false]

/-- Settles O15: each row by the state of the chain, rate or mirror entry it names. -/
theorem rateAndChainCommandsTakeEffect : Obligations.RateAndChainCommandsTakeEffect := by
  refine ⟨fun s h hb he => ?rates, fun s par p key h hp hg hk hpr hm hs => ?profile, fun s par p key r h hp hg hk hr => ?rate, fun s par p h hp hg => ?stale,
    fun s par p ck h hp he hck hn hn' hg hst hd hq hen hf hw hh => ?arm, fun s par p h hp he hn hn' hg hc hh => ?notHost,
    fun s par p ck h hp he hck => ?disarm, fun s e c d h hd hlt hpo => ?disarmed, fun s par p c h hp he hc => ?query,
    fun s e n ck c w h hck hc hw hr hs hm hl hn hf hq u hu => ⟨fun hx => ?badCrc, fun hx hy => ?notReady, fun hx hg hst hy => ?noBuffer, fun a reg hx hg hst hy => ?start⟩,
    fun s e n i w ck h hck ha => ?complete, fun s par p i h hp he hi hi' hpsn hg hst hen hmir hfree => ?bind, fun s qpn f h hg hst hf hn hi => ?idle,
    fun s par p h hp => ?unbind⟩
  case rates =>
    have hgo : ((decide (s.bell.number % 16 = 0) || s.bell.discontinuity) && decide (s.cc.lastUpdate < s.bell.edges)) = true := by
      rw [decide_eq_true he, Bool.and_true]
      simpa using hb
    refine up_leaves h ?_
    simp only [rateUpdate, hgo, when_true]
    rfl
  case profile =>
    subst hp hk
    exact up_command_gives h (ccSetProfileMode_of_known hg hpr hm hs)
  case rate =>
    subst hp hk hr
    exact up_command_gives h (if_neg (by simp [hg]))
  case stale =>
    subst hp
    exact ⟨up_command_gives h (if_pos (by simp [hg])), up_command_gives h (if_pos (by simp [hg]))⟩
  case arm =>
    subst hp hck
    refine up_command_gives h ((if_neg (by simp [hg]; omega)).trans ((if_neg (fun hx => hh.elim (Nat.not_lt.mpr hx.1) hx.2)).trans ((if_neg (by simp [hd, hq, hen]; omega)).trans
      ((if_neg ?_).trans ((if_neg ?_).trans rfl)))))
    · exact Nat.not_le.mpr hf
    · exact not_bnot hw
  case notHost =>
    subst hp
    exact up_command_gives h ((if_neg (by simp [hg]; omega)).trans (if_pos ⟨hc, hh⟩))
  case disarm =>
    subst hp hck
    exact up_command_gives h ((if_neg (by omega)).trans (ite_swap (not_or_iff_ne _))) (by split <;> rfl)
  case disarmed =>
    have hgo : ((s.chain (e * 256 + c)).disarm.any (fun x => decide (x < s.bell.edges)) && (s.chain (e * 256 + c)).posted.isEmpty) = true := by
      rw [hd, hpo]
      simpa using hlt
    exact up_gives h (by simp only [chainDisarmComplete, hgo, when_true]) rfl
  case query =>
    subst hp hc
    exact up_command_gives h (if_neg (by omega))
  case badCrc => exact act_leaves h ((chainWrStart_of_due hck hc hw hr hs hm hl hn hf hq hu).trans (if_pos hx))
  case notReady => exact act_leaves h ((chainWrStart_of_due hck hc hw hr hs hm hl hn hf hq hu).trans ((if_neg (not_not_intro hx)).trans (if_pos (by simpa using hy))))
  case noBuffer =>
    refine act_leaves h ((chainWrStart_of_due hck hc hw hr hs hm hl hn hf hq hu).trans ((if_neg (not_not_intro hx)).trans ((if_neg (by simp [hg, hst])).trans ?_)))
    rw [hy]
  case start =>
    refine act_leaves h ((chainWrStart_of_due hck hc hw hr hs hm hl hn hf hq hu).trans ((if_neg (not_not_intro hx)).trans ((if_neg (by simp [hg, hst])).trans ?_)))
    cases reg <;> simp only [hy]
  case complete =>
    subst hck
    have hc : (s.chain (e * 256 + n)).acked.contains w = true := by simpa using List.mem_of_find?_eq_some ha
    exact up_leaves h (by simp only [chainWrComplete, ha, Option.getD_some, hc, when_true] <;> rfl)
  case bind =>
    subst hp
    exact up_command_gives h (mirrorBind_of_free he hi hi' hpsn hg hst hen hmir hfree) (by split <;> rfl)
  case idle =>
    subst hf
    have hgo : (s.genOk qpn && decide ((s.qp (keyOf qpn)).state = 2) && decide (fld (s.rateProfile (keyOf qpn)) 40 4 ≠ 0)
        && decide (fld (s.rateProfile (keyOf qpn)) 40 4 ≤ (s.rate (keyOf qpn)).idle)) = true := by
      rw [hg, hst, decide_eq_true hn, decide_eq_true hi]
      rfl
    exact up_gives h (by simp only [idleReset, hgo, when_true]) rfl
  case unbind =>
    subst hp
    refine up_command_gives h ?_ (by split <;> rfl)
    cases hx : s.cc.mirrors.find? (fun m => m.1 / 64 = fld (padTo 32 par) 1 1 ∧ m.2.intake = fld (padTo 32 par) 4 4) <;>
      simp only [mirrorUnbind, State.accepted_cc, hx]

end Sys2Proof.Machine
end

section
-- One proof at a time: hundreds at once need more threads than the memory limit of the check has room for.
set_option Elab.async false
/-! ### The target's commands (O16) -/

namespace Sys2Proof.Machine
variable {s t u : State} {par p : Bytes} {k st n : Nat}

@[simp] theorem accepted_ns : (s.accepted k st n par).ns = s.ns := rfl
@[simp] theorem accepted_outOfService : (s.accepted k st n par).outOfService = s.outOfService := rfl
@[simp] theorem accepted_volume : (s.accepted k st n par).volume = s.volume := rfl
@[simp] theorem accepted_nsBusy : (s.accepted k st n par).nsBusy = s.nsBusy := rfl
@[simp] theorem accepted_assoc : (s.accepted k st n par).assoc = s.assoc := rfl
@[simp] theorem accepted_entriesBound : (s.accepted k st n par).entriesBound = s.entriesBound := rfl

/-- The members of a NAMESPACE_WRITE are in range, and its volume exists where it needs one (R188). -/
theorem namespaceWrite_of_ranged (hi : fld p 2 2 < 1024) (hs : fld p 4 1 ≤ 2) (h₀ : fld p 8 4 ≠ 0) (h₁ : fld p 8 4 ≠ 0xFFFFFFFF) (ht : 1 ≤ fld p 14 1) (ht' : fld p 14 1 ≤ 111)
    (hv : fld p 4 1 = 0 ∨ (s.volume (fld p 12 2)).isSome = true) :
    namespaceWrite p s =
      if (fld p 4 1 = 1 ∧ s.outOfService) ∨ ((fld p 4 1 = 0 ∨ (s.ns (fld p 2 2)).vol ≠ fld p 12 2 ∨ (s.ns (fld p 2 2)).nsid ≠ fld p 8 4) ∧ 0 < s.nsBusy (fld p 2 2)) then s.done targetSet 2
      else { s with tgt.namespaces := tmod s.tgt.namespaces (fld p 2 2) {} (fun n => { n with
        state := fld p 4 1, subsys := fld p 5 1, nsid := fld p 8 4, vol := fld p 12 2, tenant := fld p 14 1 }) }.persist.done targetSet 0 := by
  refine if_neg ?_
  rintro (c | c | c | c | c | c | ⟨c, d⟩)
  case inr.inr.inr.inr.inr.inr =>
    rcases hv with hv | hv
    · exact c hv
    · exact absurd hv (by simp [Option.isNone_iff_eq_none.mp d])
  all_goals omega

/-- Settles O16: the range checks of each opcode, then the state of what it binds. -/
theorem targetCommandsTakeEffect : Obligations.TargetCommandsTakeEffect := by
  refine ⟨fun s par p i st vol h hp hi hst hvol hlt => ⟨fun h₁ h₂ h₃ h₄ h₅ h₆ => ⟨fun hx hy => ?write, fun hx => ?busy⟩, fun hx => ?nsRange⟩,
    fun s par p i n h hp hi hn hlt => ?read, fun s par p i g n codes h hp hi hg hn hc hlt h₁ h₂ h₃ => ⟨fun hx => ?access, fun hx => ?accessRange⟩,
    fun s par p a h hp ha hlt => ⟨fun hk hs => ?bind, fun hs hb => ?release, fun hb => ?bound, ?assoc⟩,
    fun s par p key h hp hg hk ha hq h₁ h₂ => ⟨fun hs hb hd he => ?queue, fun hx => ?queueState⟩,
    fun s par p key b h hp hg hk hb => ⟨fun hs => ?enable, fun hs => ?notLive, fun hc => ?unbind, fun hc => ?holds⟩,
    fun s par p n h hp hn hi ht h₁ h₂ h₃ => ?view, fun s par p h hp ht => ?group⟩
  case write =>
    subst hp hi hst hvol
    refine up_command_gives h ((namespaceWrite_of_ranged (s := s.accepted targetSet targetSet 64 par) hlt h₁ h₂ h₃ h₄ h₅ h₆).trans (if_neg ?_))
    simp only [accepted_outOfService, accepted_ns, accepted_nsBusy]
    rintro (c | ⟨c, d⟩)
    · exact hx c
    · omega
  case busy =>
    subst hp hi hst hvol
    exact up_command_gives h ((namespaceWrite_of_ranged (s := s.accepted targetSet targetSet 64 par) hlt h₁ h₂ h₃ h₄ h₅ h₆).trans (if_pos hx))
  case nsRange =>
    subst hp hi hst hvol
    exact up_command_gives h (if_pos (.inr hx))
  case read =>
    subst hp hi hn
    exact up_command_gives h (if_neg (by omega))
  case access =>
    subst hp hi hg hn hc
    refine up_command_gives h (if_neg ?_)
    rintro (c | c | c | c | c)
    case inr.inr.inr.inr =>
      obtain ⟨x, hm, hl⟩ := List.any_eq_true.mp c
      exact absurd (hx x hm) (by simpa using hl)
    all_goals omega
  case accessRange =>
    subst hp hi hg hn hc
    obtain ⟨x, hm, hl⟩ := hx
    exact up_command_gives h (if_pos (.inr (.inr (.inr (.inr (List.any_eq_true.mpr ⟨x, hm, by simp [hl]⟩))))))
  case bind =>
    subst hp ha
    exact up_command_gives h ((if_neg (by omega)).trans (if_neg (by simp [hs])))
  case release =>
    subst hp ha
    refine up_command_gives h ((if_neg (by omega)).trans (if_neg ?_))
    rintro (c | c)
    · exact hs c
    · exact absurd (c.symm.trans hb) (by decide)
  case bound =>
    subst hp ha
    exact up_command_gives h ((if_neg (by omega)).trans (if_pos (.inr hb)))
  case assoc =>
    subst hp ha
    exact up_command_gives h (if_neg (by omega))
  case queue =>
    subst hp hk
    refine up_command_gives h ((if_neg (by simp [hg]; omega)).trans ((if_neg ?_).trans (if_neg (by simpa using he))))
    simp only [accepted_qp, State.accepted_tgt, hb, hd]
    simp
    omega
  case queueState =>
    subst hp hk
    refine up_command_gives h ((if_neg (by simp [hg]; omega)).trans (if_pos ?_))
    rcases hx with hx | hx | hx
    · exact .inl hx
    · exact .inr (.inl (Option.isSome_iff_ne_none.mpr hx))
    · exact .inr (.inr hx)
  case enable =>
    subst hp hk
    refine up_command_gives h ?_
    simp only [queueEnable, State.accepted_tgt, hb, accepted_genOk, hg, accepted_assoc, hs, Bool.not_true, Bool.false_eq_true, ne_eq, not_true, if_false]
  case notLive =>
    subst hp hk
    refine up_command_gives h ?_
    simp only [queueEnable, State.accepted_tgt, hb, accepted_genOk, hg, accepted_assoc, hs, Bool.not_true, Bool.false_eq_true, ne_eq, not_false_iff, if_false, if_true]
  case unbind =>
    subst hp hk
    refine up_command_gives h ((if_neg (by simp [hg, hb])).trans (if_neg ?_))
    exact fun c => absurd (c.symm.trans hc) (by decide)
  case holds =>
    subst hp hk
    exact up_command_gives h ((if_neg (by simp [hg, hb])).trans (if_pos hc))
  case view =>
    subst hp hn
    exact up_command_gives h (if_neg (by omega))
  case group =>
    subst hp
    exact up_command_gives h (if_neg (by omega))

end Sys2Proof.Machine
end

section
-- One proof at a time: hundreds at once need more threads than the memory limit of the check has room for.
set_option Elab.async false
/-! ### The target's command rows, its records and the staging of chunks (O17, O18) -/

namespace Sys2Proof.Machine
variable {s t u : State} {h kind op stt dw0 i : Nat} {c : Cmd} {dnr : Bool} {f : Cmd → State → State}

/-- A command that fails a check completes with its status; a reservation conflict is counted too (R194). -/
theorem checked_of_fails (hc : s.cmd h = some c) (hf : s.checkFails c kind = some (stt, dnr)) :
    checked h kind s f = complete h stt dnr 0 (if stt = 0x83 then s.count Ev.hostConf 0 else s) := by
  simp only [checked, hc, hf]

theorem checked_of_passes (hc : s.cmd h = some c) (hf : s.checkFails c kind = none) : checked h kind s f = f c s := by
  simp only [checked, hc, hf]

theorem checked_of_error (hc : s.cmd h = some c) (hf : s.checkFails c kind = some (stt, dnr)) (hs : stt ≠ 0x83) :
    checked h kind s f = complete h stt dnr 0 s := by
  rw [checked_of_fails hc hf, if_neg hs]

theorem answerAdmin_of_awaited (hc : s.cmd h = some c) (ha : s.awaitsNext h op true = true) :
    answerAdmin h op dw0 s = if c.conflict then complete h 0x03 true 0 s else if s.pwrStopped c then complete h 0x05 false 0 s else complete h 0x00 false dw0 s := by
  simp only [answerAdmin, ha, when_true, hc]

/-- Settles O17: a command that fails a check only completes; one that passes them all goes on to its opcode's effect. -/
theorem hostCommandsExecute : Obligations.HostCommandsExecute := by
  refine ⟨fun s h st c dnr hup hc hst => ⟨fun ha hf => ?_, fun ha hf => ?_, fun ha hf => ?_, fun ha hf => ?_, fun ha hf => ?_, fun ha hf => ?_⟩,
    fun s h c hup hc ha hf => ?conflict, fun s h c hup hc ha hf => ?flush, fun s t h c d hup hc ha hf ht hd => ?read, fun s t h c d hup hc ha hf ht hd => ?compare,
    fun s t h c d hup hc ha hf ht hd => ?write, fun s t h c d hup hc ha hf ht hd => ?zeroes, fun s t h c d hup hc ha hf ht hd => ⟨fun hb => ?ranges, fun hb => ?reserve⟩,
    fun s h c hup hc => ⟨fun ha => ?abort, fun ha => ?keepAlive⟩⟩
  iterate 6 exact act_leaves hup ((when_of ha).trans (checked_of_error hc hf hst))
  case conflict => exact act_leaves hup ((when_of ha).trans (checked_of_fails hc hf))
  case flush => exact act_leaves hup ((when_of ha).trans (checked_of_passes hc hf))
  case read =>
    subst ht
    refine act_leaves hup ((when_of ha).trans ((checked_of_passes hc hf).trans ?_))
    simp only [hd]
  case compare =>
    subst ht
    refine act_leaves hup ((when_of ha).trans ((checked_of_passes hc hf).trans ?_))
    simp only [hd]
  case write =>
    subst ht
    refine act_leaves hup ((when_of ha).trans ((checked_of_passes hc hf).trans ?_))
    simp only [hd]
  case zeroes =>
    subst ht
    refine act_leaves hup ((when_of ha).trans ((checked_of_passes hc hf).trans ?_))
    simp only [hd]
  case ranges =>
    subst ht
    refine act_leaves hup ((when_of ha).trans ((checked_of_passes hc hf).trans ?_))
    simp only [hd, hb, if_true]
  case reserve =>
    subst ht
    refine act_leaves hup ((when_of ha).trans ((checked_of_passes hc hf).trans ?_))
    simp only [hd, hb, Bool.false_eq_true, if_false]
  case abort => exact act_leaves hup (answerAdmin_of_awaited hc ha)
  case keepAlive => exact act_leaves hup (answerAdmin_of_awaited hc ha)

/-- A capsule for firmware that is the oldest of those (R191). -/
theorem inboxRoute_of_first (hc : s.cmd h = some c) (hp : c.phase = .parsed) (hr : c.ring = none) (h₁ : 1 ≤ c.route) (h₄ : c.route ≤ 4) (ht : s.targetRuns = true)
    (ho : ∀ x ∈ s.tgt.cmds, c.order ≤ x.2.order ∨ x.2.toInbox = false) :
    inboxRoute h s = if c.conflict then complete h 0x03 true 0 s
      else if s.pwrStopped c then complete h 0x05 false 0 s
      else if s.inboxFull ∨ s.tgt.inboxHeld ≠ [] then
        ({ s.onCmd h (fun c => { c with phase := .held }) with tgt.inboxHeld := s.tgt.inboxHeld ++ [h] }).count Ev.inboxHeld 0
      else inboxWrite h s := by
  have hi : c.toInbox = true := by simp [Cmd.toInbox, hp, hr, h₁, h₄]
  have ha : (s.tgt.cmds.all (fun x => decide (c.order ≤ x.2.order) || !x.2.toInbox)) = true := List.all_eq_true.mpr (fun x hx => by simpa using ho x hx)
  simp only [inboxRoute, hc, hi, ha, ht, Bool.and_self, when_true]

/-- The commit of a full stripe: its claim is asked for first, and once it is granted and the stripe is encrypted its writes and record go out (R245). -/
def stageFull (c : Cmd) (k : Chunk) (i : Nat) (s : State) : State :=
  let s := if !k.claimed then
      (match s.locate c.vol 0 k.lba with
       | some l => requestClaim (stripeKey l.group l.stripe) (.full c.order i) (onChunk c.order i (fun k => { k with key := stripeKey l.group l.stripe, claimed := true }) s)
       | none => s)
    else s
  match s.chunkOf c.order i with
  | some (_, k) =>
    if k.granted ∧ k.full then
      let s := encryptChunk c.order i s
      (match s.chunkOf c.order i with
       | some (_, k) => if k.enc.length = k.n then fullCommit c.order i (fullWrites c.order i s) else s
       | none => s)
    else s
  | none => s

/-- The record of a chunk that the cipher has encrypted completely (R217). -/
def stageOne (c : Cmd) (i : Nat) (s : State) : State :=
  let s := encryptChunk c.order i s
  match s.chunkOf c.order i with
  | some (_, k) =>
    if k.enc.length = k.n then
      onChunk c.order i (fun k => { k with staged := true, enc := [] })
        (stageRec { kind := 1, lseq := k.seq, vol := c.vol, group := (s.volume c.vol).elim 0 (fun v => v.group), lba := k.lba, count := k.n, n := k.n,
                    extra := recTag c, owner := .chunk c.order i } k.enc s)
    else s
  | none => s

/-- The record of a deallocating chunk, which holds no payload (R217). -/
def stageGap (c : Cmd) (k : Chunk) (i : Nat) (s : State) : State :=
  onChunk c.order i (fun k => { k with staged := true })
    (stageRec { kind := 2, lseq := k.seq, vol := c.vol, group := (s.volume c.vol).elim 0 (fun v => v.group), lba := k.lba, count := k.n, n := 0,
                extra := recTag c ++ le 4 (flagWord (k.gaps.map (fun g => (g, true)))), merged := k.gaps, owner := .chunk c.order i } [] s)

/-- A chunk of a staging command with its data at hand and room in the ledger (R196). -/
theorem chunkStage_of_ready {k : Chunk} (hc : s.cmd h = some c) (hk : c.chunks[i]? = some k) (hp : c.phase = .staging) (hb : c.bufReady = true) (hs : k.staged = false)
    (ho : s.led.isOpen = true) (hu : s.led.unstaged = []) (hl : s.objN 0x480011 0 ≠ 0) (ht : s.targetRuns = true)
    (hr : (if k.full then s.stagingRoom 3 else s.stagingRoom (1 + (if c.deallocates then 0 else k.n))) = true) :
    chunkStage h i s = if c.deallocates then stageGap c k i (readWindow h s)
      else if k.full then stageFull c k i (readWindow h s) else stageOne c i (readWindow h s) := by
  have hroom : (s.led.unstaged.isEmpty && s.stagingRoom (if k.full then 3 else 1 + (if c.deallocates then 0 else k.n))) = true := by
    rw [← apply_ite s.stagingRoom] at hr
    rw [hu, hr]
    rfl
  have hwait : (decide (c.phase = .staging) && c.bufReady && !k.staged && !k.waited && s.led.isOpen
      && !(s.led.unstaged.isEmpty && s.stagingRoom (if k.full then 3 else 1 + (if c.deallocates then 0 else k.n)))) = false := by
    rw [hroom, Bool.not_true, Bool.and_false]
  have hgo : (decide (c.phase = .staging) && c.bufReady && !k.staged && s.led.isOpen && decide (s.objN 0x480011 0 ≠ 0) && s.targetRuns
      && (s.led.unstaged.isEmpty && s.stagingRoom (if k.full then 3 else 1 + (if c.deallocates then 0 else k.n)))) = true := by
    rw [hroom, hp, hb, hs, ho, ht, decide_eq_true hl]
    rfl
  simp only [chunkStage, hc, hk, hwait, when_false, hgo, when_true]
  rfl

/-- Settles O18: a record goes to the inbox by its room, a chunk to staging by its kind. -/
theorem routingAndStagingCommandsTakeEffect : Obligations.RoutingAndStagingCommandsTakeEffect := by
  refine ⟨fun s h c hup hc hp hr h₁ h₄ ht ho => ⟨fun hx => ?conflict, fun hx hy => ?stopped, fun hx hy hf => ?held, fun hx hy hf he => ?route⟩,
    fun s h r hup hh hf ht => ?deliver, fun s x hup hc ht hx => ⟨fun hb => ?record, fun hb => ?discard⟩, fun s a hup hs hk he => ?keepAlive,
    fun s b t h i c d k j hup hb hc hk hp hbuf hs ho hu hl ht hr => ⟨fun hd => ?gap, fun hd hf hx hj hn => ?one, fun hd hf hx hj hn => ?claim, fun u e l hd hf hcl hj hg hx hl' hn => ?full⟩⟩
  case conflict => exact act_leaves hup ((inboxRoute_of_first hc hp hr h₁ h₄ ht ho).trans (if_pos hx))
  case stopped => exact act_leaves hup ((inboxRoute_of_first hc hp hr h₁ h₄ ht ho).trans ((if_neg (by simp [hx])).trans (if_pos hy)))
  case held => exact act_leaves hup ((inboxRoute_of_first hc hp hr h₁ h₄ ht ho).trans ((if_neg (by simp [hx])).trans ((if_neg (by simp [hy])).trans (if_pos hf))))
  case route =>
    exact act_leaves hup ((inboxRoute_of_first hc hp hr h₁ h₄ ht ho).trans ((if_neg (by simp [hx])).trans ((if_neg (by simp [hy])).trans (if_neg (by simp [hf, he])))))
  case deliver =>
    refine act_leaves hup ?_
    simp only [inboxHeldDeliver, hh, hf, ht, Bool.not_false, Bool.and_self, when_true]
  case record =>
    refine act_leaves hup ?_
    simp only [outboxRecord, decide_eq_true hc, ht, Bool.and_self, when_true, ← hx, hb, Bool.false_eq_true, if_false]
  case discard =>
    refine act_leaves hup ?_
    simp only [outboxRecord, decide_eq_true hc, ht, Bool.and_self, when_true, ← hx, hb, if_true]
  case keepAlive =>
    have hgo : (decide ((s.assoc a).state = 1) && decide ((s.assoc a).kato ≠ 0) && decide (katoBells (s.assoc a).kato ≤ s.since (s.assoc a).lastEdge)) = true := by
      have hl : katoBells (s.assoc a).kato ≤ s.since (s.assoc a).lastEdge := he
      rw [hs, decide_eq_true hk, decide_eq_true hl]
      rfl
    exact act_leaves hup (by simp only [keepAliveExpired, hgo, when_true])
  case gap =>
    subst hb
    exact act_leaves hup ((chunkStage_of_ready hc hk hp hbuf hs ho hu hl ht hr).trans (if_pos hd))
  case one =>
    subst hb
    refine act_leaves hup ((chunkStage_of_ready hc hk hp hbuf hs ho hu hl ht hr).trans ((if_neg (by simp [hd])).trans ((if_neg (by simp [hf])).trans ?_)))
    simp only [stageOne, ← hx, hj, hn, if_true]
  case claim =>
    subst hb
    refine act_leaves hup ((chunkStage_of_ready hc hk hp hbuf hs ho hu hl ht hr).trans ((if_neg (by simp [hd])).trans ((if_pos hf).trans ?_)))
    have ht : t = if !k.claimed then
        (match (readWindow h s).locate c.vol 0 k.lba with
          | some l => requestClaim (stripeKey l.group l.stripe) (.full c.order i) (onChunk c.order i (fun k => { k with key := stripeKey l.group l.stripe, claimed := true }) (readWindow h s))
          | none => readWindow h s)
        else readWindow h s := by
      rw [hx]
      cases k.claimed <;> rfl
    simp only [stageFull, ← ht, hj, if_neg (show ¬ (j.granted = true ∧ j.full = true) by simpa using hn)]
  case full =>
    subst hb
    refine act_leaves hup ((chunkStage_of_ready hc hk hp hbuf hs ho hu hl ht hr).trans ((if_neg (by simp [hd])).trans ((if_pos hf).trans ?_)))
    have hg' : j.granted = true ∧ j.full = true := by simpa using hg
    simp only [stageFull, hcl, Bool.not_true, Bool.false_eq_true, if_false, hj, if_pos hg', ← hx, hl', hn, if_true]

end Sys2Proof.Machine
end

section
-- One proof at a time: hundreds at once need more threads than the memory limit of the check has room for.
set_option Elab.async false
/-! ### The ledger's commands, copies and replay (O19, O20) -/

namespace Sys2Proof.Machine
variable {s t u : State} {par p : Bytes} {k st n : Nat}

@[simp] theorem accepted_bayLinked : (s.accepted k st n par).bayLinked = s.bayLinked := rfl
@[simp] theorem accepted_bayReady : (s.accepted k st n par).bayReady = s.bayReady := rfl
@[simp] theorem accepted_holdsCopy : (s.accepted k st n par).holdsCopy = s.holdsCopy := rfl
@[simp] theorem accepted_copyOf : (s.accepted k st n par).copyOf = s.copyOf := rfl
@[simp] theorem accepted_domOn' : (s.accepted k st n par).domOn = s.domOn := rfl

/-- Three bays are distinct when none is left out. -/
theorem three_distinct_iff (a b c : Nat) : ([a, b, c].eraseDups.length ≠ 3) ↔ ¬ (a ≠ b ∧ a ≠ c ∧ b ≠ c) := by
  rcases Decidable.em (a = b) with rfl | h₁
  · rcases Decidable.em (a = c) with rfl | h₂
    · simp [List.eraseDups_cons]
    · simp [List.eraseDups_cons, Ne.symm h₂]
  · rcases Decidable.em (a = c) with rfl | h₂
    · simp [List.eraseDups_cons, Ne.symm h₁]
    · rcases Decidable.em (b = c) with rfl | h₃
      · simp [List.eraseDups_cons, Ne.symm h₁]
      · simp [List.eraseDups_cons, h₁, h₂, Ne.symm h₁, Ne.symm h₂, h₃, Ne.symm h₃]

/-- Settles O19: each opcode by the ledger's phase, the time rows by their edge. -/
theorem ledgerCommandsTakeEffect : Obligations.LedgerCommandsTakeEffect := by
  refine ⟨fun s par p b h hp hb => ⟨fun ho hg hd hl hr => ?create, fun ho => ?opened, fun ho hg hd => ?same, fun ho hg hd hl hr => ?noRandom⟩,
    fun s par p slot bay n c h hp hs hy hc hn hlt hlt' ho hr hh hx => ?replace, fun s par h => ?drain, fun s p h hd hr => ?drained, fun s x h hm hx => ?submit,
    fun s place h he => ?release, fun s v i d h hi hd hj => ?checkpoint, fun s v h hv => ?refused, fun s h hl hw => ?warning⟩
  case create =>
    subst hp hb
    refine ⟨_, up_command_leaves h ((if_neg (by simp [ho, hg])).trans ((if_neg ?_).trans ((if_neg (by simp [hr])).trans rfl))),
      rfl, rfl, rfl, rfl, rfl, rfl, rfl, rfl, rfl, rfl, rfl, rfl, rfl⟩
    rintro (c | c)
    · exact (three_distinct_iff _ _ _).mp c hd
    · obtain ⟨x, hx, hn⟩ := List.any_eq_true.mp c
      exact absurd (hl x hx) (by simpa using hn)
  case opened => exact up_command_gives h (if_pos (.inl ho))
  case same =>
    subst hp hb
    exact up_command_gives h ((if_neg (by simp [ho, hg])).trans (if_pos (.inl ((three_distinct_iff _ _ _).mpr hd))))
  case noRandom =>
    subst hp hb
    refine up_command_gives h ((if_neg (by simp [ho, hg])).trans ((if_neg ?_).trans (if_pos hr)))
    rintro (c | c)
    · exact (three_distinct_iff _ _ _).mp c hd
    · obtain ⟨x, hx, hn⟩ := List.any_eq_true.mp c
      exact absurd (hl x hx) (by simpa using hn)
  case replace =>
    subst hp hs hy hc hn
    refine up_command_leaves h ((if_neg (by omega)).trans ((if_neg ?_).trans rfl))
    rintro (c | c | c | c | ⟨c, d⟩)
    · exact absurd ho (by simpa using c)
    · exact absurd hr (by simpa using c)
    · exact absurd (c.symm.trans hh) (by decide)
    · have c' : (s.copyOf (fld (padTo 80 par) 1 1)).st = 2 := c
      omega
    · have c' : (s.copyOf (fld (padTo 80 par) 1 1)).st = 1 := c
      obtain ⟨i, hi, hn⟩ := List.any_eq_true.mp d
      rcases hx with hx | hx | ⟨-, hx⟩
      · omega
      · omega
      · exact absurd (hx i hi) (Option.isSome_iff_ne_none.mp hn)
  case drain => exact up_command_gives h (ite_swap (by simp)) (by split <;> rfl)
  case drained =>
    have ha : s.led.recs.all (fun r => r.retired || decide (p ≤ r.place)) = true := List.all_eq_true.mpr (fun r hm => by simpa using hr r hm)
    refine up_gives h ?_ rfl
    simp only [drainComplete, hd, ha, when_true]
  case submit =>
    refine up_leaves h ((when_of hm).trans ?_)
    rw [hx]
  case release =>
    obtain ⟨e, hm, hp, hl⟩ := he
    have hs : 64 ≤ s.since e.2.1 := Nat.le_sub_of_add_le (by omega)
    have ha : s.led.buffer.any (fun e => decide (e.1 = place) && decide (64 ≤ s.since e.2.1)) = true :=
      List.any_eq_true.mpr ⟨e, hm, by rw [decide_eq_true hp, decide_eq_true hs]; rfl⟩
    exact up_gives h (when_of ha) rfl
  case checkpoint =>
    refine up_leaves h ?_
    have hn : ¬ ((s.descIdx s.led.persisted).any (fun j => decide (i < j)) = true) := by
      cases hq : s.descIdx s.led.persisted with
      | none => simp
      | some j => simpa using hj j hq
    simp only [checkpointPersisted, hi, if_neg hn, hd]
  case refused =>
    refine up_gives h ?_ rfl
    rcases hv with hv | ⟨i, j, hi, hj, hlt⟩
    · simp only [checkpointPersisted, hv]
    · simp only [checkpointPersisted, hi, hj, Option.any_some, decide_eq_true hlt, if_true]
  case warning =>
    have hgo : (decide (s.led.pwrLow = 2) && s.tgt.pwrfail.isNone) = true := by simp [hl, hw]
    exact up_gives h (when_of hgo) rfl

theorem retireAll_recs_of_nil (h : s.led.recs = []) : (retireAll s).led.recs = [] := by simp [retireAll, h]

/-- What a replay leaves in the ledger that it opens. -/
theorem replayOpen_led (d : Bytes) (found : List Bytes) (s : State) :
    (replayOpen d found s).led = { s.led with
      isOpen := true, nextPlace := (replayNext d found).1, nextBlock := (replayNext d found).2, epoch := fld d 40 4 + 1, epochFirst := (replayNext d found).1,
      nextLseq := replaySeq d found, paused := decide ((s.led.copies.filter (fun c => c.st = 1)).length < 2), persistedTail := fld d 8 8, persistedBlock := fld d 16 4,
      recs := (replayOpen d found s).led.recs, stagingUsed := (replayOpen d found s).led.stagingUsed } := by
  simp only [replayOpen, retireAll, State.count_led]
  split <;> split <;> rfl

/-- The copies of a descriptor that a replay could read. -/
def replayRead (d : Bytes) (x : ReplayScan) : List Nat := ((descCopies d).map (·.1)).filter (fun c => !x.failed.contains c)

/-- The records found that staging takes (R280). -/
def replayLoad (d : Bytes) (x : ReplayScan) : List (Bytes × List Nat) :=
  let scan := scanCopies d x (replayRead d x)
  let found := scan.1.map (·.1)
  scan.1.filter (fun b => appliedRec found (found.foldl (fun a b => max a (fld b 56 8)) (fld d 8 8)) b.1 && hKind b.1 < 7)

/-- What a replay rebuilds from the records it found. -/
def replayBuilt (d : Bytes) (x : ReplayScan) (s : State) : State :=
  let found := (scanCopies d x (replayRead d x)).1.map (·.1)
  let app := found.filter (appliedRec found (found.foldl (fun a b => max a (fld b 56 8)) (fld d 8 8)))
  replayRebuild d x (replayLoad d x) app (found.length - app.length) ((replayRead d x).filter (fun c => !(replayBad d x).contains c)) s

theorem replayComplete_of_room {d : Bytes} {x : ReplayScan} (hd : s.led.replaying = some d) (h₁ : (scanCopies d x (replayRead d x)).2 = false) (h₂ : replayRead d x ≠ [])
    (h₃ : ((replayLoad d x).map (fun b => 1 + hN b.1)).sum ≤ s.stagingBlocks) :
    ∃ r, replayComplete x s = (replayOpen d ((scanCopies d x (replayRead d x)).1.map (·.1)) (replayBuilt d x s)).done ledgerSet 0 r := by
  simp only [replayComplete, hd]
  refine ⟨_, if_neg ?_⟩
  rintro (c | c | c)
  · exact absurd (c.symm.trans h₁) (by decide)
  · exact h₂ (List.isEmpty_iff.mp c)
  · exact absurd h₃ (Nat.not_le.mpr c)

theorem replayOpen_recs_of_nil {d : Bytes} {found : List Bytes} (h : s.led.recs = []) : (replayOpen d found s).led.recs = [] := by
  refine retireAll_recs_of_nil ?_
  split <;> split <;> exact h

theorem foldl_copyFailed_led (l : List Nat) (s : State) : (l.foldl (fun s c => (s.faultAt 112 4 6 c).count Ev.cpFail c) s).led = s.led := by
  induction l generalizing s with
  | nil => rfl
  | cons c l ih => rw [List.foldl_cons, ih, State.count_led, State.faultAt_led]

/-- Where nothing was found, the ledger is the descriptor's with nothing staged (R284). -/
theorem replayBuilt_led_of_empty {d : Bytes} {x : ReplayScan} (hn : (scanCopies d x (replayRead d x)).1 = []) (hz : x.zones = []) (hz' : x.zonesLost = []) (hg : s.vol.groups = []) :
    (replayBuilt d x s).led = { s.led with
      recs := [], ready := [], unstaged := [], stageGap := 0, failing := [], imageWaits := [], stagingNext := 0, stagingUsed := 0, replaying := none, id := fld d 0 8,
      drain := none, buffer := [], copies := replayCopies d (replayBad d x) } := by
  have h₀ : replayLoad d x = [] := by simp only [replayLoad, hn, List.filter_nil]
  simp only [replayBuilt, h₀, hn, replayRebuild, hz, hz', hg, List.map_nil, List.filter_nil, List.eraseDups_nil, List.foldl_nil, List.length_nil, foldl_copyFailed_led, State.lateWaste_led]

/-- Settles O20: a copy's writes, its seeding and a replay by what is left of them. -/
theorem ledgerCopiesAndReplayTakeEffect : Obligations.LedgerCopiesAndReplayTakeEffect := by
  refine ⟨fun s copy place count bay ok c h hb hc => ?complete, fun s copy bay place n c h hb hm hc he => ?timeout, fun s u t copy c h hc hs hl hf hu ht => ?seeded,
    fun s par p h hp => ⟨fun ho hg h₁ h₂ h₃ hd => ?replay, fun hx => ?refused⟩,
    fun s x d read y found h hd hr hy hf => ⟨fun hx => ?lost, fun h₁ h₂ h₃ => ?opened, fun h₁ h₂ hn hz hz' hg => ?empty⟩⟩
  case complete =>
    refine act_leaves h ?_
    simp only [ledgerWriteComplete, hb, hc]
  case timeout =>
    refine act_leaves h ?_
    simp only [ledgerCopyTimeout, hb]
    refine when_of (List.any_eq_true.mpr ⟨c, hm, ?_⟩)
    have hl : s.objN 0x440007 7812500 ≤ s.since c.2.edge := by
      rw [State.since]
      omega
    rcases hc with hc | hc <;> simp only [hc, decide_true, Bool.true_and, decide_eq_true hl]
  case seeded =>
    subst hc hu ht
    have hgo : (decide ((s.copyOf copy).st = 2) && decide ((s.copyOf copy).seedLeft = 0) && !s.led.failing.contains (copy + 3)) = true := by
      rw [hs, hl, hf]
      rfl
    exact act_leaves h (if_pos hgo)
  case replay =>
    subst hp
    refine up_command_gives h (if_neg ?_)
    rintro (c | c | c | c | c | c)
    · exact absurd (c.symm.trans ho) (by decide)
    · exact hg c
    · exact absurd h₁ (by simpa using c)
    · exact absurd h₂ (by simpa using c)
    · exact absurd h₃ (by simpa using c)
    · obtain ⟨x, hm, hn⟩ := List.any_eq_true.mp c
      exact absurd (hd x hm) (by simpa using hn)
  case refused =>
    subst hp
    refine up_command_gives h (if_pos ?_)
    rcases hx with c | c | c | c | c | ⟨x, hm, hn⟩
    · exact .inl c
    · exact .inr (.inl c)
    · exact .inr (.inr (.inl (bnot_of c)))
    · exact .inr (.inr (.inr (.inl (bnot_of c))))
    · exact .inr (.inr (.inr (.inr (.inl (bnot_of c)))))
    · exact .inr (.inr (.inr (.inr (.inr (List.any_eq_true.mpr ⟨x, hm, bnot_of hn⟩)))))
  case lost =>
    refine up_gives h ?_ rfl
    subst hf hy hr
    simp only [replayComplete, hd]
    exact if_pos (by simpa [List.isEmpty_iff] using hx)
  case opened =>
    subst hf hy hr
    obtain ⟨r, ho⟩ := replayComplete_of_room hd h₁ h₂ h₃
    have hl := replayOpen_led d ((scanCopies d x (replayRead d x)).1.map (·.1)) (replayBuilt d x s)
    exact ⟨_, up_leaves h ho, congrArg LedgerState.isOpen hl, congrArg LedgerState.epoch hl, (congrArg LedgerState.epochFirst hl).trans (congrArg LedgerState.nextPlace hl).symm,
      congrArg LedgerState.nextLseq hl, congrArg (fun l => (l.nextPlace, l.nextBlock)) hl, rfl⟩
  case empty =>
    subst hf hy hr
    have h₀ : replayLoad d x = [] := by
      simp only [replayLoad, replayRead, List.map_eq_nil_iff.mp hn, List.filter_nil]
    obtain ⟨r, ho⟩ := replayComplete_of_room hd h₁ h₂ (by rw [h₀]; exact Nat.zero_le _)
    have he := List.map_eq_nil_iff.mp hn
    rw [show (scanCopies d x (replayRead d x)).1.map (·.1) = [] from hn] at ho
    have hl := (replayOpen_led d [] (replayBuilt d x s)).trans (by rw [replayBuilt_led_of_empty he hz hz' hg])
    have hrecs : (replayOpen d [] (replayBuilt d x s)).led.recs = [] := replayOpen_recs_of_nil (by rw [replayBuilt_led_of_empty he hz hz' hg])
    exact ⟨_, up_leaves h ho, congrArg LedgerState.isOpen hl, congrArg LedgerState.replaying hl, congrArg LedgerState.id hl, congrArg LedgerState.nextPlace hl,
      congrArg LedgerState.nextBlock hl, congrArg LedgerState.nextLseq hl, congrArg LedgerState.epoch hl, congrArg LedgerState.epochFirst hl,
      congrArg LedgerState.copies hl, hrecs, congrArg LedgerState.ready hl, rfl⟩

end Sys2Proof.Machine
end

section
-- One proof at a time: hundreds at once need more threads than the memory limit of the check has room for.
set_option Elab.async false
/-! ### Groups, volumes and reshapes (O21) -/

namespace Sys2Proof.Machine
variable {s t u : State} {par p : Bytes} {k st n : Nat}

@[simp] theorem accepted_group : (s.accepted k st n par).group = s.group := rfl
@[simp] theorem accepted_isSpare : (s.accepted k st n par).isSpare = s.isSpare := rfl
@[simp] theorem accepted_mapRoom : (s.accepted k st n par).mapRoom = s.mapRoom := rfl
@[simp] theorem accepted_volumesOf : (s.accepted k st n par).volumesOf = s.volumesOf := rfl
@[simp] theorem accepted_taken : (s.accepted k st n par).taken = s.taken := rfl
@[simp] theorem accepted_volumeMapped : (s.accepted k st n par).volumeMapped = s.volumeMapped := rfl
@[simp] theorem accepted_reshapeCount : (s.accepted k st n par).reshapeCount = s.reshapeCount := rfl

/-- An accepted command answers what its action leaves, which a lemma about the action names first. -/
theorem up_command_by {key set size : Nat} {act : Bytes → State → State} (h : s.takes set size par)
    (he : act (padTo size par) (s.accepted key set size par) = u) (hu : u = t) (hp : t.pending = s.pending := by rfl) :
    up s (fun v => v.command key set size par act) = .next t :=
  up_command_gives h (he.trans hu) hp

theorem up_command_leaves_by {key set size : Nat} {act : Bytes → State → State} (h : s.takes set size par)
    (he : act (padTo size par) (s.accepted key set size par) = u) (hu : u = t) :
    up s (fun v => v.command key set size par act) = .next { t with pending := s.pending } :=
  up_command_leaves h (he.trans hu)

theorem onVolume_pending (v : Nat) (f : Volume → Volume) (s : State) : (s.onVolume v f).pending = s.pending := by
  unfold State.onVolume
  split <;> rfl

theorem not_any_of {α : Type} {l : List α} {f : α → Bool} (h : ∀ x ∈ l, f x = false) : ¬ l.any f = true := fun c => by
  obtain ⟨x, hx, hf⟩ := List.any_eq_true.mp c
  exact absurd (hf.symm.trans (h x hx)) (by decide)

/-- The members of a GROUP_CREATE that pass their checks (R255). -/
theorem groupCreate_of_ranged {g : LGroup} (hg : g = newGroup p) (hi : fld p 1 1 < 32) (h₁ : 2 ≤ g.k) (h₂ : g.k ≤ 22) (hu : fld p 4 2 ∈ unitSizes) (hs : 8388608 ≤ g.start)
    (hc : g.count % g.u = 0) (h₃ : 16 ≤ g.f) (h₄ : g.f ≤ 65536) (hb : ∀ b ∈ g.bays.filterMap id, b < 24)
    (hd : (g.bays.filterMap id).eraseDups.length = (g.bays.filterMap id).length) (h₅ : g.nP ≤ 2 ^ 31) (h₆ : g.m + g.f < g.nP) :
    groupCreate p s =
      if (s.group (fld p 1 1)).isSome then s.done layoutSet 2
      else if (g.bays.filterMap id).any s.isSpare
        ∨ s.vol.groups.any (fun x => rangesMeet g.start g.count x.2.start x.2.count && x.2.bays.any (fun b => b.any (g.bays.filterMap id).contains)) then s.done layoutSet 3
      else match s.mapRoom g.mapBytes with
        | none => s.done layoutSet 4
        | some off => ((layMap (fld p 1 1) { s with vol.groups := tset s.vol.groups (fld p 1 1) { g with mapOff := off } }).persist).done layoutSet 0 := by
  subst hg
  have hb' : ¬ ((newGroup p).bays.filterMap id).any (fun b => decide (24 ≤ b)) = true := not_any_of (fun b hm => by simpa using hb b hm)
  have hu' : ¬ (!unitSizes.contains (fld p 4 2)) = true := not_bnot (List.contains_iff_mem.mpr hu)
  refine Eq.trans (if_neg ?_) ?_
  · rintro (c | c | c | c | c | c | c | c | c | c | c | c)
    case inr.inr.inr.inl => exact hu' c
    case inr.inr.inr.inr.inr.inr.inr.inr.inl => exact hb' c
    all_goals omega
  · cases s.mapRoom (newGroup p).mapBytes <;> rfl

/-- No group over an overlapping range uses one of the bays (R256). -/
theorem no_overlap {g : LGroup} {gs : List (Nat × LGroup)}
    (h : ∀ x ∈ gs, rangesMeet g.start g.count x.2.start x.2.count = true → ∀ b, some b ∈ x.2.bays → b ∉ g.bays.filterMap id) :
    ¬ gs.any (fun x => rangesMeet g.start g.count x.2.start x.2.count && x.2.bays.any (fun b => b.any (g.bays.filterMap id).contains)) = true := by
  refine not_any_of (fun x hx => ?_)
  cases hm : rangesMeet g.start g.count x.2.start x.2.count with
  | false => rfl
  | true =>
    rw [Bool.true_and, Bool.eq_false_iff]
    refine not_any_of (fun b hb => ?_)
    cases b with
    | none => rfl
    | some b =>
      rw [Option.any_some, Bool.eq_false_iff]
      exact fun c => h x hx hm b hb (List.contains_iff_mem.mp c)

/-- A group without volumes goes, and the records that are its own are retired (R263). -/
theorem groupDelete_of_empty (hi : fld p 1 1 < 32) (hs : (s.group (fld p 1 1)).isSome = true) (hv : s.volumesOf (fld p 1 1) = [])
    (ht : t = endItem (fld p 1 1) (endItem (scrubId (fld p 1 1)) s)) :
    groupDelete p s = { t with
      vol.groups := terase t.vol.groups (fld p 1 1)
      led.recs := t.led.recs.map (fun (r : Rec) => if r.vol = 0xFFFF ∧ r.group = fld p 1 1 ∧ r.durable = true then { r with retired := true } else r) }.persist.done layoutSet 0 := by
  have hn : ¬ ((s.group (fld p 1 1)).isNone = true ∨ s.volumesOf (fld p 1 1) ≠ []) := by
    rw [hv]
    cases hq : s.group (fld p 1 1) with
    | none => rw [hq] at hs; cases hs
    | some g => simp
  unfold groupDelete
  rw [if_neg (Nat.not_le.mpr hi), if_neg hn]
  simp only [← ht, Bool.and_eq_true, decide_eq_true_eq, and_assoc]

/-- A volume that nothing maps or reshapes goes, with its stripes' map, its cached blocks, its keys and its records (R259). -/
theorem volumeDelete_of_free {x : Volume} (hx : s.volume (fld p 2 2) = some x) (hm : s.volumeMapped (fld p 2 2) = false) (hr : x.reshape = none)
    (ht : t = eraseKeys (fun k => k.vol = fld p 2 2) (cacheRemove (fun e => e.vol = fld p 2 2)
      (unwrite x.group x.f ((s.group x.group).elim 0 (fun g => ceilDiv x.size g.d)) s))) :
    volumeDelete p s = { t with
      vol.volumes := terase t.vol.volumes (fld p 2 2)
      led.recs := t.led.recs.map (fun (r : Rec) =>
        if (r.kind = 1 ∨ r.kind = 2) ∧ r.vol = fld p 2 2 ∧ r.durable = true then { r with retired := true } else r) }.persist.done layoutSet 0 := by
  have hn : ¬ (s.volumeMapped (fld p 2 2) = true ∨ x.reshape.isSome = true) := by simp [hm, hr]
  unfold volumeDelete
  simp only [hx, if_neg hn]
  cases hg : s.group x.group <;> rw [hg] at ht <;>
    simp only [Option.elim] at ht <;> simp only [← ht, Bool.and_eq_true, Bool.or_eq_true, decide_eq_true_eq, and_assoc]

theorem volumeDelete_of_used {x : Volume} (hx : s.volume (fld p 2 2) = some x) (hm : s.volumeMapped (fld p 2 2) = true ∨ x.reshape.isSome = true) :
    volumeDelete p s = s.done layoutSet 2 := by
  simp only [volumeDelete, hx, if_pos hm]

/-- The stripes of a volume that a reshape may take (R264). -/
theorem reshapeStart_of_ranged {x : Volume} {g : LGroup} (hx : s.volume (fld p 2 2) = some x) (hi : fld p 4 1 < 32) (hg : s.group (fld p 4 1) = some g)
    (hl : fld p 8 4 + ceilDiv x.size g.d ≤ g.nL) :
    reshapeStart p s =
      if x.reshape.isSome ∨ (s.group x.group).any (fun g => g.state = 4) ∨ g.state = 4 ∨ g.map.any (fun e => fld p 8 4 ≤ e.1 ∧ e.1 < fld p 8 4 + ceilDiv x.size g.d ∧ e.2.2) then s.done layoutSet 2
      else if (s.taken (fld p 4 1) g (fld p 2 2)).any (fun r => rangesMeet (fld p 8 4) (ceilDiv x.size g.d) r.1 r.2) then s.done layoutSet 3
      else if 8 ≤ s.reshapeCount then s.done layoutSet 5
      else ((s.onVolume (fld p 2 2) (fun x => { x with reshape := some { target := fld p 4 1, ft := fld p 8 4 } })).persist).done layoutSet 0 := by
  simp only [reshapeStart, hx, if_pos hi, hg, if_neg (Nat.not_lt.mpr hl)]

/-- Nothing stands against a reshape of a volume that has none, between groups in service, into stripes that hold nothing (R264). -/
theorem reshape_free {x : Volume} {g : LGroup} {f m : Nat} (hr : x.reshape = none) (hs : ∀ g, s.group x.group = some g → g.state ≠ 4) (ht : g.state ≠ 4)
    (hm : ∀ e ∈ g.map, f ≤ e.1 → e.1 < f + m → e.2.2 = false) :
    ¬ (x.reshape.isSome = true ∨ (s.group x.group).any (fun g => g.state = 4) = true ∨ g.state = 4 ∨ g.map.any (fun e => f ≤ e.1 ∧ e.1 < f + m ∧ e.2.2) = true) := by
  rintro (c | c | c | c)
  · rw [hr] at c
    cases c
  · cases hy : s.group x.group with
    | none => rw [hy] at c; cases c
    | some y => rw [hy] at c; exact hs y hy (by simpa using c)
  · exact ht c
  · obtain ⟨e, he, hb⟩ := List.any_eq_true.mp c
    obtain ⟨h₁, h₂, h₃⟩ := of_decide_eq_true hb
    exact absurd (h₃.symm.trans (hm e he h₁ h₂)) (by decide)

/-- Where a volume's reshape stands, as VOLUME_QUERY answers it (R261). -/
def reshapeView (x : Volume) : Bytes :=
  match x.reshape with
  | some r => le 1 (if r.paused then 2 else 1) ++ le 1 r.target ++ zeros 2 ++ le 4 r.ft ++ le 8 (min r.c x.size)
  | none => zeros 16

theorem volumeQuery_of_volume {x : Volume} {m : Nat} (hx : s.volume (fld p 2 2) = some x)
    (hm : m = (s.group x.group).elim 0 (fun g => (g.lost.filter (fun e => e.vol = fld p 2 2)).length)) :
    volumeQuery p s = s.done layoutSet 0 (le 1 x.group ++ zeros 3 ++ le 4 x.f ++ le 8 x.size ++ (reshapeView x ++ le 4 m)) := by
  have hl : m = match s.group x.group with
      | some g => (g.lost.filter (fun e => e.vol = fld p 2 2)).length
      | none => 0 := by
    rw [hm]
    cases s.group x.group <;> rfl
  simp only [volumeQuery, hx]
  cases hr : x.reshape <;> cases hg : s.group x.group <;> simp only [hg, Option.elim] at hm <;> subst hm <;> simp only [reshapeView, hr, List.append_assoc]
  all_goals rfl

/-- A volume of a group of its range, as a VOLUME_CREATE finds it (R258). -/
theorem volumeCreate_of_ranged {g : LGroup} (hi : fld p 1 1 < 32) (hg : s.group (fld p 1 1) = some g) (hv : 1 ≤ fld p 2 2) (hv' : fld p 2 2 ≠ 0xFFFF) (hz : 1 ≤ fld p 16 8)
    (hl : fld p 8 4 + ceilDiv (fld p 16 8) g.d ≤ g.nL) :
    volumeCreate p s =
      if (s.volume (fld p 2 2)).isSome ∨ g.state = 4 then s.done layoutSet 2
      else if (s.taken (fld p 1 1) g (fld p 2 2)).any (fun r => rangesMeet (fld p 8 4) (ceilDiv (fld p 16 8) g.d) r.1 r.2) then s.done layoutSet 3
      else if s.ciph.epochNext = 0xFFFFFFFF then s.done layoutSet 5
      else { s with
        vol.volumes := tset s.vol.volumes (fld p 2 2) { group := fld p 1 1, f := fld p 8 4, size := fld p 16 8, epochBase := s.ciph.epochNext, epochCur := s.ciph.epochNext }
        ciph.epochNext := s.ciph.epochNext + 1 }.persist.done layoutSet 0 := by
  have hn : ¬ (fld p 2 2 = 0 ∨ fld p 2 2 = 0xFFFF ∨ fld p 16 8 = 0 ∨ g.nL < fld p 8 4 + ceilDiv (fld p 16 8) g.d) := by omega
  simp only [volumeCreate, if_pos hi, hg, if_neg hn]

/-- Settles O21: each opcode by the group or volume it names and what stands in its way. -/
theorem layoutCommandsTakeEffect : Obligations.LayoutCommandsTakeEffect := by
  refine ⟨fun s par p i g h hp hi hg hlt h₁ h₂ hu hst hc h₃ h₄ hb hd h₅ h₆ => ⟨fun hs => ?there, fun hn hs => ?spare, fun hn hs ho => ⟨fun hm => ?noMap, fun off hm => ?create⟩⟩,
    fun s t par p i h hp hi hlt hs ht => ⟨fun hv => ?used, fun hv => ?delete⟩, fun s par p i h hp hi hlt => ⟨fun hn => ?absent, fun g hg => ?query⟩,
    fun s par p i v f z g h hp hi hv hf hz hlt hg h₁ h₂ h₃ h₄ => ⟨fun hs => ?volExists, fun hn hst ht => ?taken, fun hn hst ht he => ?volume⟩,
    fun s t par p v x h hp hv hx => ⟨fun hm => ?mapped, fun hm hr ht => ?volDelete⟩,
    fun s par p v x n h hp hv hx hn => ⟨fun hr => ?plain, fun r hr => ?reshaped⟩,
    fun s par p v ti ft x g h hp hv hti hft hx hlt hg hl => ⟨fun hr => ?running, fun hr hst hst' hm ht => ⟨fun hc => ?eight, fun hc => ?start⟩⟩,
    fun s par p v x r h hp hv hx => ⟨fun hr => ?none, fun hr => ?pause⟩⟩
  case there =>
    subst hp hi
    exact up_command_by h (groupCreate_of_ranged hg hlt h₁ h₂ hu hst hc h₃ h₄ hb hd h₅ h₆) (if_pos hs)
  case spare =>
    subst hp hi
    obtain ⟨b, hm, hb'⟩ := hs
    exact up_command_by h (groupCreate_of_ranged hg hlt h₁ h₂ hu hst hc h₃ h₄ hb hd h₅ h₆) ((if_neg (by simp [hn])).trans
      (if_pos (.inl (List.any_eq_true.mpr ⟨b, hm, hb'⟩))))
  case noMap =>
    subst hp hi
    refine up_command_by h (groupCreate_of_ranged hg hlt h₁ h₂ hu hst hc h₃ h₄ hb hd h₅ h₆) ((if_neg (by simp [hn])).trans ((if_neg ?_).trans ?_))
    · exact not_or.mpr ⟨not_any_of hs, no_overlap ho⟩
    · simp only [accepted_mapRoom, hm]
  case create =>
    subst hp hi
    refine up_command_leaves_by h (groupCreate_of_ranged hg hlt h₁ h₂ hu hst hc h₃ h₄ hb hd h₅ h₆) ((if_neg (by simp [hn])).trans ((if_neg ?_).trans ?_))
    · exact not_or.mpr ⟨not_any_of hs, no_overlap ho⟩
    · simp only [accepted_mapRoom, hm, State.accepted_vol]
  case used =>
    subst hp hi
    exact up_command_gives h ((if_neg (by omega)).trans (if_pos (.inr hv)))
  case delete =>
    subst hp hi
    exact up_command_leaves h (groupDelete_of_empty hlt hs hv ht)
  case absent =>
    subst hp hi
    refine up_command_gives h ((if_neg (by omega)).trans ?_)
    simp only [accepted_group, hn]
    rfl
  case query =>
    subst hp hi
    refine up_command_gives h ((if_neg (by omega)).trans ?_)
    simp only [accepted_group, hg]
    rfl
  case volExists =>
    subst hp hi hv hf hz
    exact up_command_by h (volumeCreate_of_ranged hlt hg h₁ h₂ h₃ h₄) (if_pos (.inl hs))
  case taken =>
    subst hp hi hv hf hz
    exact up_command_by h (volumeCreate_of_ranged hlt hg h₁ h₂ h₃ h₄) ((if_neg (by simp [hn, hst])).trans (if_pos ht))
  case volume =>
    subst hp hi hv hf hz
    exact up_command_by h (volumeCreate_of_ranged hlt hg h₁ h₂ h₃ h₄) ((if_neg (by simp [hn, hst])).trans ((if_neg (Bool.eq_false_iff.mp ht)).trans (if_neg he)))
  case mapped =>
    subst hp hv
    exact up_command_gives h (volumeDelete_of_used hx hm)
  case volDelete =>
    subst hp hv
    exact up_command_leaves h (volumeDelete_of_free hx hm hr ht)
  case plain =>
    subst hp hv
    exact up_command_by h (volumeQuery_of_volume hx hn) (by simp only [reshapeView, hr, List.append_assoc]; rfl)
  case reshaped =>
    subst hp hv
    exact up_command_by h (volumeQuery_of_volume hx hn) (by simp only [reshapeView, hr, List.append_assoc])
  case running =>
    subst hp hv hti hft
    exact up_command_by h (reshapeStart_of_ranged hx hlt hg hl) (if_pos (.inl hr))
  case eight =>
    subst hp hv hti hft
    exact up_command_by h (reshapeStart_of_ranged hx hlt hg hl) ((if_neg (reshape_free hr hst hst' hm)).trans ((if_neg (Bool.eq_false_iff.mp ht)).trans (if_pos hc)))
  case start =>
    subst hp hv hti hft
    exact up_command_by h (reshapeStart_of_ranged hx hlt hg hl) ((if_neg (reshape_free hr hst hst' hm)).trans ((if_neg (Bool.eq_false_iff.mp ht)).trans
      (if_neg (Nat.not_le.mpr hc)))) (onVolume_pending _ _ (s.accepted layoutSet layoutSet 64 par))
  case none =>
    subst hp hv
    refine up_command_gives h ?_
    simp only [reshapePauseResume, accepted_volume, hx, hr, Option.isNone_none, if_true]
  case pause =>
    subst hp hv
    refine up_command_gives h ?_ (onVolume_pending _ _ (s.accepted layoutSet layoutSet 64 par))
    simp only [reshapePauseResume, accepted_volume, hx, hr, Option.isNone_some, Bool.false_eq_true, if_false]

end Sys2Proof.Machine
end

section
-- One proof at a time: hundreds at once need more threads than the memory limit of the check has room for.
set_option Elab.async false
/-! ### Spares, rebuild, scrub and reshape passes (O22) -/

namespace Sys2Proof.Machine
variable {s t u : State} {par p : Bytes} {k st n i : Nat} {g : LGroup}

@[simp] theorem accepted_fitting : (s.accepted k st n par).fitting = s.fitting := rfl

theorem onGroup_pending (i : Nat) (f : LGroup → LGroup) (s : State) : (s.onGroup i f).pending = s.pending := by
  unfold State.onGroup
  split <;> rfl

/-- The failures that SPARE_TAKE serves, up to the last of the group named (R249). -/
def servedSpares (i : Nat) (s : State) : List (Nat × Nat × Nat) :=
  ((s.waitingSpares.filter (fun x => x.1 < s.bell.edges)).reverse.dropWhile (fun x => x.2.1 ≠ i)).reverse

/-- One failure that waits for a spare is served, where its position still does. -/
def serveSpare (s : State) (x : Nat × Nat × Nat) : State :=
  match s.group x.2.1 with
  | some g => if g.unspared.contains x.2.2 then takeFor x.2.1 x.2.2 g s else s
  | none => s

theorem spareTake_of_waiting (hg : s.group i = some g) (hu : g.unspared ≠ []) (ha : s.objN 0x440006 1 = 1) (hs : g.state ≠ 4) :
    spareTake i s = (servedSpares i s).foldl serveSpare s := by
  have hgo : (decide (s.objN 0x440006 1 = 1) && decide (g.state ≠ 4) && decide (g.unspared ≠ [])) = true := by
    rw [ha, decide_eq_true hs, decide_eq_true hu]
    rfl
  simp only [spareTake, hg, hgo, when_true]
  rfl

theorem serveSpare_of_unspared {e pos : Nat} (hg : s.group i = some g) (hu : g.unspared.contains pos = true) : serveSpare s (e, i, pos) = takeFor i pos g s := by
  simp only [serveSpare, hg, hu, if_true]

theorem takeFor_of_fitting {pos m : Nat} (hf : s.fitting ((g.bays.getD pos none).getD 0xFF) = some m) :
    takeFor i pos g s = giveSpare ((g.bays.getD pos none).getD 0xFF) m s := by
  simp only [takeFor, hf]

theorem takeFor_of_none {pos : Nat} (hf : s.fitting ((g.bays.getD pos none).getD 0xFF) = none) :
    takeFor i pos g s = if g.waitingSpare then s else (s.onGroup i (fun g => { g with waitingSpare := true })).faultAt 99 4 5 i := by
  simp only [takeFor, hf]

/-- A rebuild item that has written its stripe and is not cancelled (R251). -/
theorem rebuildItemComplete_of_written {x : StripeItem} (hg : s.group i = some g) (hs : g.state ≠ 4) (hp : s.parityRuns = true) (hd : s.driveStops 113 = false)
    (hx : s.item i = some x) (hw : x.phase = .written) (hc : x.cancelled = false) :
    rebuildItemComplete i g.cursor s =
      if g.rebuilding ≠ [] ∧ x.parts.any (fun a => a.phys = g.cursor) ∧ x.targets = g.toRebuild g.cursor
      then endItem i (rebuildStep i (s.count Ev.rbStripe i)) else endItem i s := by
  have hgo : (decide (x.phase = .written) && !x.cancelled && decide (g.state ≠ 4) && s.parityRuns && !s.driveStops 113) = true := by
    rw [hw, hc, decide_eq_true hs, hp, hd]
    rfl
  simp only [rebuildItemComplete, hg, hx, ne_eq, not_true, if_false, hgo, when_true]

theorem rebuildStep_of_group (hg : s.group i = some g) :
    rebuildStep i s = checkpoint (g.cursor + 1) (s.onGroup i (fun g => (if g.pass2 then { g with cur2 := g.cur2 + 1 } else { g with cur1 := g.cur1 + 1 }).settleRebuild)) := by
  simp only [rebuildStep, hg]

theorem scrubPast_of_group (hg : s.group i = some g) : scrubPast i s = checkpoint (g.scrubCur + 1) (s.onGroup i LGroup.scrubStep) := by
  simp only [scrubPast, hg]

theorem count_group (c m a : Nat) : (s.count c m a).group i = s.group i := by rw [State.group, State.count_vol, State.group]

/-- The commit of a reshape's next step, where nothing of an earlier step is outstanding (R266). -/
theorem copyCommits_eq_false {v : Nat} (h : ∀ y ∈ s.unplaced ++ s.led.recs, y.kind = 7 ∨ y.kind = 8 → y.vol = v → y.durable = true) : s.copyCommits v = false := by
  refine Bool.eq_false_iff.mpr (not_any_of (fun y hm => ?_))
  by_cases hk : y.kind = 7 ∨ y.kind = 8
  · by_cases hv : y.vol = v
    · rw [h y hm hk hv, Bool.not_true, Bool.and_false]
    · rw [decide_eq_false hv, Bool.and_false, Bool.false_and]
  · rw [decide_eq_false hk, Bool.false_and, Bool.false_and]

/-- Settles O22: an item by the stripe at its cursor, a spare by the group it fits. -/
theorem membersAndPassesTakeEffect : Obligations.MembersAndPassesTakeEffect := by
  refine ⟨fun s i g l h hg hu ha hs hl => ⟨?serve, fun e pos bay hl' hc hb => ⟨fun n hf => ?give, fun hf => ?wait⟩⟩,
    fun s par p i pos bay g r h hp hi hlt hg => ⟨fun hu => ?spared, fun hu hb => ⟨fun hf => ?none, fun n hf hs => ?start⟩⟩,
    fun s i g h hg hs hp hd => ⟨fun x hx hw hc => ⟨fun hr he ht => ?step, fun hn => ?other⟩, fun hx hr hn => ?skip⟩,
    fun s i g h hg hs hp hd => ⟨fun x hx hw hc => ?scrubbed, fun hx hr hn => ?scrubSkip⟩,
    fun s par p i g h hp hi hlt hg => ⟨fun hm hs => ?control, fun hm hs => ?offline, ?lost, fun b hw hc hb => ?fail, fun hw hc => ?failed⟩,
    fun s v x r g t h hx hr hg ht hpa hy hs hst ho hlp hp hd hroom => ⟨fun hc => ?switch, fun y hc hi hw hcan => ?copy⟩⟩
  case serve =>
    subst hl
    exact up_leaves h (spareTake_of_waiting hg hu ha hs)
  case give =>
    subst hb
    have hl'' : servedSpares i s = [(e, i, pos)] := hl.symm.trans hl'
    refine up_leaves h ?_
    rw [spareTake_of_waiting hg hu ha hs, hl'', List.foldl_cons, List.foldl_nil, serveSpare_of_unspared hg hc, takeFor_of_fitting hf]
  case wait =>
    subst hb
    have hl'' : servedSpares i s = [(e, i, pos)] := hl.symm.trans hl'
    refine up_gives h ?_ ?_
    · rw [spareTake_of_waiting hg hu ha hs, hl'', List.foldl_cons, List.foldl_nil, serveSpare_of_unspared hg hc, takeFor_of_none hf]
    · split
      · rfl
      · exact onGroup_pending _ _ s
  case spared =>
    subst hp hi
    refine up_command_gives h ?_
    simp only [rebuildStart, if_pos hlt, accepted_group, hg, hu]
  case none =>
    subst hp hi hb
    refine up_command_gives h ?_
    simp only [rebuildStart, if_pos hlt, accepted_group, hg, hu, accepted_fitting, hf]
  case start =>
    subst hp hi hb
    refine up_command_leaves h ?_
    simp only [rebuildStart, if_pos hlt, accepted_group, hg, hu, accepted_fitting, hf, if_neg hs]
  case step =>
    exact act_leaves h ((rebuildItemComplete_of_written hg hs hp hd hx hw hc).trans (if_pos ⟨hr, by simpa using he, ht⟩))
  case other =>
    exact act_leaves h ((rebuildItemComplete_of_written hg hs hp hd hx hw hc).trans (if_neg (by simpa using hn)))
  case skip =>
    have hgo : (s.rebuilds g && (s.needsClaim i g g.cursor).isNone) = true := by
      rw [State.rebuilds, decide_eq_true hr, decide_eq_true hs, hp, hd, hn]
      rfl
    refine act_leaves h ?_
    simp only [rebuildItemComplete, hg, hx, ne_eq, not_true, if_false, hgo, when_true]
    exact rebuildStep_of_group ((count_group _ _ _).trans hg)
  case scrubbed =>
    have hgo : (decide (x.phase = .written) && !x.cancelled && decide (g.state ≠ 4) && s.parityRuns && !s.driveStops 114) = true := by
      rw [hw, hc, decide_eq_true hs, hp, hd]
      rfl
    refine act_leaves h ?_
    simp only [scrubItemComplete, hg, hx, ne_eq, not_true, if_false, hgo, when_true]
    rw [scrubPast_of_group ((count_group _ _ _).trans hg)]
  case scrubSkip =>
    have hgo : (s.scrubs g && (s.scrubTarget i g).isNone) = true := by
      rw [State.scrubs, decide_eq_true hr, decide_eq_true hs, hp, hd, hn]
      rfl
    refine act_leaves h ?_
    simp only [scrubItemComplete, hg, hx, ne_eq, not_true, if_false, hgo, when_true]
    exact scrubPast_of_group hg
  case control =>
    subst hp hi
    refine up_command_gives h ?_ (onGroup_pending _ _ (s.accepted layoutSet layoutSet 64 par))
    simp only [scrubControl, if_pos hlt, accepted_group, hg, if_neg (Nat.not_lt.mpr hm), if_neg hs]
  case offline =>
    subst hp hi
    refine up_command_gives h ?_
    simp only [scrubControl, if_pos hlt, accepted_group, hg, if_neg (Nat.not_lt.mpr hm), if_pos hs]
  case lost =>
    subst hp hi
    refine up_command_gives h ?_
    simp only [lostListFetch, if_pos hlt, accepted_group, hg]
  case fail =>
    subst hp hi
    refine act_command_leaves h ?_
    simp only [memberFailCommand, if_pos hlt, accepted_group, hg, if_neg (Nat.not_le.mpr hw), hc, Bool.false_eq_true, if_false, hb]
  case failed =>
    subst hp hi
    refine act_command_leaves h ?_
    simp only [memberFailCommand, if_pos hlt, accepted_group, hg, if_neg (Nat.not_le.mpr hw), hc, if_true]
  case switch =>
    have hok : (s.reshapes g t r && !s.copyCommits v && !s.led.paused && s.stagingRoom 1) = true := by
      rw [State.reshapes, hpa, decide_eq_true hs, decide_eq_true hst, ho, hp, hd, copyCommits_eq_false hy, hlp, hroom]
      rfl
    refine act_leaves h ?_
    simp only [reshapeCopyCommit, hx, hr, hg, ht, if_pos hc, hok, when_true]
  case copy =>
    have hok : (s.reshapes g t r && !s.copyCommits v && !s.led.paused && s.stagingRoom 1 && decide (y.phase = .written) && !y.cancelled) = true := by
      rw [State.reshapes, hpa, decide_eq_true hs, decide_eq_true hst, ho, hp, hd, copyCommits_eq_false hy, hlp, hroom, hw, hcan]
      rfl
    refine act_leaves h ?_
    simp only [reshapeCopyCommit, hx, hr, hg, ht, if_neg (Nat.not_le.mpr hc), hi, hok, when_true]

end Sys2Proof.Machine
end

section
-- One proof at a time: hundreds at once need more threads than the memory limit of the check has room for.
set_option Elab.async false
/-! ### Merges, claims and drive completions; keys, grants and services (O23, O24) -/

namespace Sys2Proof.Machine
variable {s t u : State} {par p : Bytes} {k st n i : Nat} {g : LGroup}

/-- A stripe that may be merged (R235). -/
def mayMerge (key : Nat) (g : LGroup) (r : Rec) (s : State) : Bool :=
  let held := s.led.drain.isNone && s.since r.durEdge < s.objN 0x440009 64
  g.state ≠ 4 && s.led.isOpen && !s.led.paused && s.runs 4 5 && !s.driveStops 112 && !held && !(s.claimsOn key).contains .merge

theorem mergeStart_of_mergeable {r : Rec} {l : List Rec} (hg : s.group i = some g) (hr : s.mergeable (stripeKey i st) = r :: l)
    (hm : mayMerge (stripeKey i st) g r s = true) :
    mergeStart i st s = match (r :: l).find? (fun x => s.beingCopied x.vol x.lba x.count) with
      | some x => s.count Ev.rsHeld x.vol
      | none => requestClaim (stripeKey i st) .merge s := by
  have hm' := hm
  simp only [mayMerge] at hm'
  cases hx : (r :: l).find? (fun x => s.beingCopied x.vol x.lba x.count) <;> simp only [mergeStart, hg, hr, hx, hm', when_true]

theorem mayMerge_of {key : Nat} {r : Rec} (hs : g.state ≠ 4) (ho : s.led.isOpen = true) (hp : s.led.paused = false) (hr : s.runs 4 5 = true) (hd : s.driveStops 112 = false)
    (he : s.led.drain = none → r.durEdge + s.objN 0x440009 64 ≤ s.bell.edges) (hc : (s.claimsOn key).contains .merge = false) : mayMerge key g r s = true := by
  have hh : (s.led.drain.isNone && decide (s.since r.durEdge < s.objN 0x440009 64)) = false := by
    cases hq : s.led.drain with
    | some d => rfl
    | none =>
      have hl := he hq
      rw [State.since, decide_eq_false (by omega), Bool.and_false]
  rw [mayMerge, decide_eq_true hs, ho, hp, hr, hd, hh, hc]
  rfl

/-- A drive command that no read or write of the stripe's place overlaps (R244). -/
def driveOverlaps (lo m : Nat) (c : DriveCmd) : Bool := c.op ≠ 0 && c.lba < lo + m && lo < c.lba + c.n

theorem driveOverlaps_eq_false {lo m : Nat} {c : DriveCmd} (h : c.op ≠ 0 → c.lba + c.n ≤ lo ∨ lo + m ≤ c.lba) : driveOverlaps lo m c = false := by
  by_cases ho : c.op = 0
  · simp [driveOverlaps, ho]
  · have := h ho
    simp [driveOverlaps]
    omega

/-- No drive of a group has a command for a place that none overlaps (R244). -/
theorem place_idle {lo m : Nat} (hb : ∀ b ∈ s.bay.bays, ∀ c ∈ b.2.drive.out, c.2.op ≠ 0 → c.2.lba + c.2.n ≤ lo ∨ lo + m ≤ c.2.lba)
    (hw : ∀ c ∈ s.bay.waiting, c.2.op ≠ 0 → c.2.lba + c.2.n ≤ lo ∨ lo + m ≤ c.2.lba) (b : Nat) :
    ((s.bayOf b).drive.out.any (fun c => driveOverlaps lo m c.2) || (List.range' 0 128).any (fun q => (s.queue 2 b q).items.any (fun i => (tget s.bay.waiting i.ref).any (driveOverlaps lo m)))) = false := by
  rw [Bool.or_eq_false_iff]
  constructor
  · refine Bool.eq_false_iff.mpr (not_any_of (fun c hc => driveOverlaps_eq_false ?_))
    rw [State.bayOf, tgetD] at hc
    cases hq : tget s.bay.bays b with
    | none => rw [hq] at hc; cases hc
    | some y => rw [hq] at hc; exact hb _ (mem_of_tget _ _ _ hq) c hc
  · refine Bool.eq_false_iff.mpr (not_any_of (fun q _ => Bool.eq_false_iff.mpr (not_any_of (fun x _ => ?_))))
    cases hq : tget s.bay.waiting x.ref with
    | none => rfl
    | some c => exact driveOverlaps_eq_false (hw _ (mem_of_tget _ _ _ hq))

/-- Settles O23: a merge by its records, a claim by the slots, a drive's command by its completion or its age. -/
theorem mergesClaimsAndCompletionsTakeEffect : Obligations.MergesClaimsAndCompletionsTakeEffect := by
  refine ⟨fun s i st g r l h hg hr hs ho hp hrun hd he hc => ⟨fun hx => ?merge, fun x hx => ?held⟩, fun s i st key x l h hk hn hc => ⟨fun hx => ?noSlots, fun hx => ?grant⟩,
    fun s i st key m h hk hm hp ho hpa hr => ?commit, fun s i phys g h hg hp hb hw => ?float, fun s t u bay cid c r h hn hc hr ht hu => ?completion,
    fun s bay r h ha => ?admin, fun s bay cid c h hc he => ?timeout⟩
  case merge =>
    have hx' : (r :: l).find? (fun x => s.beingCopied x.vol x.lba x.count) = none := List.find?_eq_none.mpr (fun x hm => by simp [hx x hm])
    refine act_leaves h ((mergeStart_of_mergeable hg hr (mayMerge_of hs ho hp hrun hd he hc)).trans ?_)
    rw [hx']
  case held =>
    refine act_leaves h ((mergeStart_of_mergeable hg hr (mayMerge_of hs ho hp hrun hd he hc)).trans ?_)
    rw [hx]
  case noSlots =>
    subst hk
    refine act_leaves h ((if_neg (Bool.eq_false_iff.mp hn)).trans ?_)
    rw [hc]
    exact if_pos hx
  case grant =>
    subst hk
    refine act_leaves h ((if_neg (Bool.eq_false_iff.mp hn)).trans ?_)
    rw [hc]
    refine (if_neg (Nat.not_lt.mpr hx)).trans ?_
    cases x <;> rfl
  case commit =>
    subst hk
    have hgo : (decide (m.phase = .written) && s.led.isOpen && !s.led.paused && s.stagingRoom 1) = true := by
      rw [hp, ho, hpa, hr]
      rfl
    refine act_leaves h ?_
    simp only [mergeCommitSubmit, hm, hgo, when_true]
  case float =>
    refine act_leaves h ?_
    simp only [floatReturn, hg]
    refine when_of ?_
    rw [List.contains_iff_mem.mpr hp, Bool.true_and, Bool.not_eq_true', Bool.eq_false_iff]
    refine not_any_of (fun b hm => ?_)
    cases b with
    | none => rfl
    | some b => exact place_idle hb hw b
  case completion =>
    subst hu ht
    refine act_leaves h ((if_neg hn).trans ?_)
    simp only [hc, hr, when_true]
  case admin => exact act_leaves h ((if_pos rfl).trans (when_of ha))
  case timeout =>
    refine act_leaves h ?_
    simp only [memberTimeout, hc]
    exact when_of (decide_eq_true (Nat.le_sub_of_add_le (by omega)))

/-- Settles O24: each row by its time, its limit or its signature. -/
theorem keysGrantsAndServicesTakeEffect : Obligations.KeysGrantsAndServicesTakeEffect := by
  refine ⟨fun s lane vol e k h hk hv he hl => ?hold, fun s v h => ⟨fun h₁ h₂ => ?grant, fun hx => ?refuse⟩, fun s x h hn hc hr hx => ?descriptor, fun s r x h hs hl hx => ?served,
    fun s h hr => ?health, fun s slot signed key h hs hl => ⟨fun hg hk => ?unsigned, fun hz hk hg => ?last, fun hz hg => ?key⟩, fun s par p v h hp hv hx he => ?rekey,
    fun s par p h hp => ⟨fun ha => ?ready, fun ha => ?restore, fun v hv => ?epochs, fun hv => ?noVolume⟩⟩
  case hold =>
    have hany : (s.lane lane).keys.any (fun k => decide (k.vol = vol) && decide (k.epoch = e) && decide (s.objN 0x50000B 4 ≤ s.since k.last)) = true := by
      refine List.any_eq_true.mpr ⟨k, hk, ?_⟩
      have hl' : s.objN 0x50000B 4 ≤ s.since k.last := Nat.le_sub_of_add_le (by omega)
      rw [decide_eq_true hv, decide_eq_true he, decide_eq_true hl']
      rfl
    exact up_gives h (if_pos hany) rfl
  case grant => exact up_gives h (if_pos ⟨h₁, h₂⟩) rfl
  case refuse => exact up_gives h (if_neg (by omega)) rfl
  case descriptor =>
    have hgo : (s.ciph.svc.isNone && decide (s.objN 0x500032 0 ≠ s.ciph.svcCons) && s.cipherRuns) = true := by
      rw [hn, decide_eq_true hc, hr]
      rfl
    refine up_leaves h ?_
    simp only [serviceDescriptor, hgo, when_true, ← hx]
  case served =>
    refine up_leaves h ?_
    simp only [serviceDescriptorComplete, hs]
    refine (when_of (decide_eq_true hl)).trans ?_
    rw [hx]
    rfl
  case health => exact up_gives h (when_of (bnot_of hr)) rfl
  case unsigned => exact up_gives h ((if_neg (by omega)).trans ((if_neg (by omega)).trans (if_pos (by simp [hg, hk])))) rfl
  case last =>
    exact up_gives h ((if_neg (by omega)).trans ((if_neg (by omega)).trans ((if_neg (by rcases hg with hg | hg <;> simp [hg])).trans (if_pos ⟨hz, List.all_eq_true.mpr (fun i hi => decide_eq_true (hk i hi))⟩)))) rfl
  case key =>
    exact up_gives h ((if_neg (by omega)).trans ((if_neg (by omega)).trans ((if_neg (by rcases hg with hg | hg <;> simp [hg])).trans (if_neg (fun c => hz c.1))))) rfl
  case rekey =>
    subst hp hv
    refine up_command_gives h (if_neg ?_) ?_
    · rintro (c | c)
      · exact absurd (Option.isNone_iff_eq_none.mp c) (Option.isSome_iff_ne_none.mp hx)
      · exact he c
    · refine (State.count_pending _ _ _ _).trans ?_
      exact onVolume_pending _ _ { s.accepted cipherSet cipherSet 160 par with ciph.epochNext := s.ciph.epochNext + 1 }
  case ready => exact up_command_gives h (if_pos ha)
  case restore =>
    subst hp
    exact up_command_gives h (if_neg (Bool.eq_false_iff.mp ha))
  case epochs =>
    subst hp
    refine up_command_gives h ?_
    simp only [volumeEpochQuery, accepted_volume, hv]
  case noVolume =>
    subst hp
    refine up_command_gives h ?_
    simp only [volumeEpochQuery, accepted_volume, hv]

end Sys2Proof.Machine
end

section
-- One proof at a time: hundreds at once need more threads than the memory limit of the check has room for.
set_option Elab.async false
/-! ### The shelf root key and the firmware's commands (O25) -/

namespace Sys2Proof.Machine
variable {s t u : State} {par p : Bytes} {k st n i : Nat}

/-- A wrap takes one free value of the state, and nothing else of it (R325). -/
theorem wrapFor_state (target pub root : Bytes) (shelf : Nat) (s : State) : (wrapFor target pub root shelf s).1 = { s with freeIdx := s.freeIdx + 1 } := rfl

/-- Two states with the same free values give the same wrap. -/
theorem wrapFor_congr (target pub root : Bytes) (shelf : Nat) (h : s.freeIdx = t.freeIdx) : (wrapFor target pub root shelf s).2 = (wrapFor target pub root shelf t).2 := by
  simp only [wrapFor, State.free, h]

theorem rootCreate_of_clear (hr : s.ciph.root = none) (hi : s.ciph.identityOk = true) (hf : s.ciph.randomFailed = false) :
    rootCreate true p s =
      { s with ciph.root := some (le 32 (Config.freeNat s.freeIdx)), ciph.shelfId := Config.freeNat (s.freeIdx + 1) % 2 ^ 64, ciph.wseqNext := 1, ciph.wseqLimit := 1,
               ciph.epochNext := 1, freeIdx := s.freeIdx + 3 }.done cipherSet 0
        (le 8 (Config.freeNat (s.freeIdx + 1) % 2 ^ 64) ++ rootCheck (le 32 (Config.freeNat s.freeIdx)) (Config.freeNat (s.freeIdx + 1) % 2 ^ 64)
          ++ (wrapFor (padTo 32 signPub) agreePub (le 32 (Config.freeNat s.freeIdx)) (Config.freeNat (s.freeIdx + 1) % 2 ^ 64) { s with freeIdx := s.freeIdx + 2 }).2) := by
  have h : ¬ (s.ciph.root.isSome = true ∨ (!s.ciph.identityOk) = true) := by simp [hr, hi]
  simp only [rootCreate, Bool.not_true, Bool.false_eq_true, if_false, if_neg h, hf, wrapFor_state, State.took, State.free, Nat.add_assoc, Nat.reduceAdd]

/-- A wrap to this device that opens, whose check value agrees (R324). -/
theorem unwrap_of_clear {w wk : Bytes} {r : Bytes × Bool} (hr : s.ciph.root = none) (hi : s.ciph.identityOk = true) (hw : w = sub p 16 128)
    (hk : wk = derive (Config.xShared agreePriv (sub w 32 32)) 0x42 (zeros 6) (be 8 (fld w 120 8)))
    (hg : r = Config.gcmOpen wk (zeros 12) (w.take 32 ++ sub w 32 32 ++ be 8 (fld w 120 8)) (sub w 64 32) (sub w 96 16)) :
    unwrap p s = if w.take 32 = padTo 32 signPub ∧ r.2 = true ∧ rootCheck r.1 (fld w 120 8) = sub w 112 8
      then { s with ciph.root := some r.1, ciph.shelfId := fld w 120 8 }.done cipherSet 0 else (s.faultAt 130 4 10 0).done cipherSet 3 := by
  have h : ¬ (s.ciph.root.isSome = true ∨ (!s.ciph.identityOk) = true) := by simp [hr, hi]
  unfold unwrap
  simp only [if_neg h, ← hw, ← hk, ← hg]
  refine ite_swap ?_
  rw [Decidable.not_and_iff_not_or_not, Decidable.not_and_iff_not_or_not, Bool.not_eq_true, Bool.not_eq_true']

theorem rollbackAdvance_unsigned : rollbackAdvance false p s = s.done fwSet 5 := rfl

theorem oemRevoke_unsigned : oemRevoke false p s = s.done fwSet 5 := rfl

theorem rollbackAdvance_signed : rollbackAdvance true p s =
    if fld p 1 1 < s.ciph.rollback ∨ s.ciph.runningSvn < fld p 1 1 then s.done fwSet 1 else { s with ciph.rollback := fld p 1 1 }.done fwSet 0 := rfl

theorem oemRevoke_signed : oemRevoke true p s =
    if 3 < fld p 1 1 ∨ fld p 1 1 = s.ciph.signer ∨ s.ciph.revoked ||| 2 ^ fld p 1 1 = 15 then s.done fwSet 1
    else { s with ciph.revoked := s.ciph.revoked ||| 2 ^ fld p 1 1 }.done fwSet 0 := rfl

/-- A root key is wrapped for the identity that the block names (R323). -/
theorem enroll_of_root {root : Bytes} (hr : s.ciph.root = some root) (hf : s.ciph.randomFailed = false) :
    enroll true p s = if !identityBlockOk (sub p 16 136) then s.done cipherSet 4
      else { s with freeIdx := s.freeIdx + 1 }.done cipherSet 0 (wrapFor ((sub p 16 136).take 32) (sub (sub p 16 136) 32 32) root s.ciph.shelfId s).2 := by
  simp only [enroll, Bool.not_true, Bool.false_eq_true, if_false, hr, hf, wrapFor_state]

theorem escrowExport_of_root {root : Bytes} (hr : s.ciph.root = some root) (hf : s.ciph.randomFailed = false) :
    escrowExport true p s = { s with freeIdx := s.freeIdx + 1 }.done cipherSet 0 (wrapFor (zeros 32) (sub p 16 32) root s.ciph.shelfId s).2 := by
  simp only [escrowExport, Bool.not_true, Bool.false_eq_true, if_false, hr, hf, wrapFor_state]

/-- Settles O25: each opcode by the root key, the signature and the random source, in that order. -/
theorem rootKeyAndFirmwareCommandsTakeEffect : Obligations.RootKeyAndFirmwareCommandsTakeEffect := by
  refine ⟨fun s par h => ⟨?unsigned, fun hx => ?rootState, fun hr hi hf => ?noRandom, fun hr hi hf => ?create⟩, fun s par w wk r h hw hr hi hk hg => ?unwrap, fun s par h hx => ?unwrapState,
    fun s par p root h hp hr hf => ⟨fun hb => ?enroll, fun hb => ?badBlock, ?escrow⟩, fun s par h => ⟨?enrollUnsigned, ?escrowUnsigned, fun hr => ⟨?enrollNoRoot, ?escrowNoRoot⟩⟩, fun s par h => ?unload,
    fun s par p i h hp hi => ⟨fun h₂ h₇ => ?measure, fun ho => ?attest, fun ho => ?noIdentity, fun h₁ h₂ => ?rollback, fun hx => ?rollbackRange, fun h₃ hs hl => ?revoke, fun hs => ?signer, ?unsignedFw⟩⟩
  case unsigned => exact up_command_gives h (if_pos rfl)
  case rootState =>
    refine up_command_gives h ((if_neg Bool.false_ne_true).trans (if_pos ?_))
    exact hx.imp id bnot_of
  case noRandom => exact up_command_gives h ((if_neg Bool.false_ne_true).trans ((if_neg (by simp [hr, hi])).trans (if_pos hf)))
  case create => exact ⟨_, up_command_leaves h (rootCreate_of_clear hr hi hf), _, _, _, rfl, rfl, rfl, rfl⟩
  case unwrap => exact up_command_by h (unwrap_of_clear hr hi hw hk hg) rfl (by split <;> rfl)
  case unwrapState => exact up_command_gives h (if_pos (hx.imp id bnot_of))
  case enroll =>
    subst hp
    refine up_command_by h (enroll_of_root hr hf) ((if_neg (not_bnot hb)).trans ?_)
    rw [wrapFor_congr _ _ _ _ (show (s.accepted cipherSet cipherSet 160 par).freeIdx = s.freeIdx from rfl)]
    rfl
  case badBlock =>
    subst hp
    exact up_command_by h (enroll_of_root hr hf) (if_pos (bnot_of hb))
  case escrow =>
    subst hp
    refine up_command_by h (escrowExport_of_root hr hf) ?_
    rw [wrapFor_congr _ _ _ _ (show (s.accepted cipherSet cipherSet 160 par).freeIdx = s.freeIdx from rfl)]
    rfl
  case enrollUnsigned => exact up_command_gives h (if_pos rfl)
  case escrowUnsigned => exact up_command_gives h (if_pos rfl)
  case enrollNoRoot =>
    refine up_command_gives h ((if_neg Bool.false_ne_true).trans ?_)
    simp only [State.accepted_ciph, hr]
  case escrowNoRoot =>
    refine up_command_gives h ((if_neg Bool.false_ne_true).trans ?_)
    simp only [State.accepted_ciph, hr]
  case unload => exact up_command_gives h rfl (by split <;> rfl)
  case measure =>
    subst hp hi
    exact up_command_gives h (if_neg (by omega))
  case attest =>
    subst hp hi
    exact up_command_gives h (if_neg (not_bnot ho))
  case noIdentity => exact up_command_gives h (if_pos (bnot_of ho))
  case rollback =>
    subst hp hi
    exact up_command_gives h (rollbackAdvance_signed.trans (if_neg (not_or.mpr ⟨Nat.not_lt.mpr h₁, Nat.not_lt.mpr h₂⟩)))
  case rollbackRange =>
    subst hp hi
    exact up_command_gives h (rollbackAdvance_signed.trans (if_pos hx))
  case revoke =>
    subst hp hi
    exact up_command_gives h (oemRevoke_signed.trans (if_neg (not_or.mpr ⟨Nat.not_lt.mpr h₃, not_or.mpr ⟨hs, hl⟩⟩)))
  case signer =>
    subst hp hi
    exact up_command_gives h (oemRevoke_signed.trans (if_pos (.inr (.inl hs))))
  case unsignedFw =>
    simp only [List.forall_mem_cons, List.not_mem_nil, false_imp_iff, implies_true, and_true]
    exact ⟨up_command_gives h rollbackAdvance_unsigned, up_command_gives h oemRevoke_unsigned⟩

end Sys2Proof.Machine
end

section
-- One proof at a time: hundreds at once need more threads than the memory limit of the check has room for.
set_option Elab.async false
/-! ### Bay faults and bay commands (O26, O27) -/

namespace Sys2Proof.Machine
variable {s t u : State} {par p : Bytes} {n : Nat}

theorem bayOf_onBay (s : State) (n : Nat) (f : Bay → Bay) : (s.onBay n f).bayOf n = f (s.bayOf n) := by simp [State.bayOf, State.onBay, tmod]

theorem bayOf_onDrive (s : State) (n : Nat) (f : Drive → Drive) : (s.onDrive n f).bayOf n = { s.bayOf n with drive := f (s.bayOf n).drive } := bayOf_onBay s n _

theorem bayOf_count (s : State) (c i a : Nat) : (s.count c i a).bayOf = s.bayOf := by
  unfold State.count
  split <;> rfl

theorem bayOf_bayEvent (src m : Nat) (s : State) : (bayEvent src m s).bayOf = s.bayOf := rfl

theorem driveGone_of_off (h : (s.bayOf n).drive.state = 0) : driveGone n s = s := if_pos h

/-- A dark bay has both gates off (R345). -/
theorem bayOf_darken (h : (s.bayOf n).drive.state = 0) :
    ((darken n s).bayOf n).gate = false ∧ ((darken n s).bayOf n).history = (s.bayOf n).history ∧ ((darken n s).bayOf n).cause = (s.bayOf n).cause := by
  simp only [darken]
  rw [driveGone_of_off (by rw [bayOf_onBay]; exact h), bayOf_onDrive, bayOf_onBay]
  exact ⟨rfl, rfl, rfl⟩

theorem bayOf_leaveFor {st : Nat} (h : (s.bayOf n).drive.state = 0) (hs : (s.bayOf n).state ≠ 3) :
    ((leaveFor n st s).bayOf n).state = st ∧ ((leaveFor n st s).bayOf n).gate = false ∧ ((leaveFor n st s).bayOf n).history = (s.bayOf n).history ∧
      ((leaveFor n st s).bayOf n).cause = (s.bayOf n).cause := by
  have hl : leaveFor n st s = (darken n s).onBay n (fun b => { b with state := st }) := if_neg hs
  rw [hl, bayOf_onBay]
  exact ⟨rfl, bayOf_darken h⟩

/-- A bay as a fault of it is noted, before its gates are turned off (R346). -/
def faultNoted (n cause : Nat) (s : State) : State :=
  ((bayEvent (causeSource cause) n s).count (Ev.bayF1 + (cause - 1)) n).onBay n
    (fun b => { b with history := b.history ++ [s.bell.edges], cause := cause, evaluated := true, trip := false })

theorem bayOf_faultNoted (n cause : Nat) (s : State) :
    (faultNoted n cause s).bayOf n = { s.bayOf n with history := (s.bayOf n).history ++ [s.bell.edges], cause := cause, evaluated := true, trip := false } := by
  rw [faultNoted, bayOf_onBay, bayOf_count]
  rfl

theorem recentFaults_faultNoted (n cause : Nat) (s : State) : (faultNoted n cause s).recentFaults n =
    (((s.bayOf n).history ++ [s.bell.edges]).filter (fun e => s.bell.edges - e < s.objN 0x61000C 585937500)).length := by
  rw [State.recentFaults, bayOf_faultNoted]
  rfl

theorem bayFault_eq (n cause : Nat) (s : State) : bayFault n cause s =
    if s.objN 0x61000B 3 ≤ (((s.bayOf n).history ++ [s.bell.edges]).filter (fun e => s.bell.edges - e < s.objN 0x61000C 585937500)).length
    then (bayEvent 149 n (leaveFor n 5 (faultNoted n cause s))).count Ev.latches n
    else (leaveFor n 4 (faultNoted n cause s)).onBay n (fun b => { b with retry := some s.bell.edges }) := by
  rw [← recentFaults_faultNoted n cause s]
  rfl

/-- What a bay fault leaves of a bay that was not on (R346, R348). -/
theorem bayOf_bayFault {cause : Nat} (hs : (s.bayOf n).state ≠ 3) (hd : (s.bayOf n).drive.state = 0) :
    ((bayFault n cause s).bayOf n).history = (s.bayOf n).history ++ [s.bell.edges] ∧ ((bayFault n cause s).bayOf n).cause = cause ∧ ((bayFault n cause s).bayOf n).gate = false ∧
      ((bayFault n cause s).bayOf n).state =
        (if s.objN 0x61000B 3 ≤ (((s.bayOf n).history ++ [s.bell.edges]).filter (fun e => s.bell.edges - e < s.objN 0x61000C 585937500)).length then 5 else 4) := by
  have hn := bayOf_faultNoted n cause s
  have hd' : ((faultNoted n cause s).bayOf n).drive.state = 0 := by rw [hn]; exact hd
  have hs' : ((faultNoted n cause s).bayOf n).state ≠ 3 := by rw [hn]; exact hs
  rw [bayFault_eq]
  split
  · obtain ⟨h₁, h₂, h₃, h₄⟩ := bayOf_leaveFor (st := 5) hd' hs'
    rw [bayOf_count, bayOf_bayEvent]
    exact ⟨h₃.trans (congrArg Bay.history hn), h₄.trans (congrArg Bay.cause hn), h₂, h₁⟩
  · obtain ⟨h₁, h₂, h₃, h₄⟩ := bayOf_leaveFor (st := 4) hd' hs'
    rw [bayOf_onBay]
    exact ⟨h₃.trans (congrArg Bay.history hn), h₄.trans (congrArg Bay.cause hn), h₂, h₁⟩

theorem ofEndedBell_congr {f g : State → State} (h : f { s with flt.events := [] } = g { s with flt.events := [] }) : ofEndedBell f s = ofEndedBell g s := by
  simp only [ofEndedBell, h]

/-- A bay fault that is due while the supervisor runs acts as one of the bell that has ended (R347). -/
theorem ofEndedBell_of_due {c : Nat} {f : State → State} (hs : s.supervised = true) (hd : s.dueFault n = some c) :
    ofEndedBell (fun s => s.when (s.supervised && decide (s.dueFault n = some c)) f) s = ofEndedBell f s := by
  have hgo : ({ s with flt.events := [] }.supervised && decide ({ s with flt.events := [] }.dueFault n = some c)) = true := by
    have hd' : { s with flt.events := [] }.dueFault n = some c := hd
    rw [decide_eq_true hd', Bool.and_true]
    exact hs
  exact ofEndedBell_congr (when_of hgo)

theorem count_zero (c i : Nat) (s : State) : s.count c i 0 = s := if_pos rfl

/-- Before the Saddle's release a pin's command leaves its level (R561). -/
theorem pin_held_gives {f g : State → State} (h : ¬ s.isUp) (hg : g s = t) (hp : t.pending = s.pending := by rfl) : pin s f g = .next t := by
  subst hg
  rw [pin_of_held s f g h, ← hp]

theorem pin_up_gives {f g : State → State} (h : s.isUp) (hf : f s = t) (hp : t.pending = s.pending := by rfl) : pin s f g = .next t :=
  (pin_of_isUp s f g h).trans (up_gives h hf hp)

/-- Settles O26: each fault acts when the supervisor finds it due, in the bell that has ended. -/
theorem bayFaultsTakeEffect : Obligations.BayFaultsTakeEffect := by
  refine ⟨fun s bay a b h hb => ?presence, fun s bay a b h hb => ?pins, fun s bay h hb => ?trip,
    fun s bay h hs => ⟨fun hd => ?fuse12, fun hd => ?fuseAux, fun hd => ?stuck, fun hd => ?window, fun hd => ?timeout, fun hd hc => ?short⟩,
    fun s bay cause hs hd => bayOf_bayFault hs hd, fun s bay ch stop h hb hc hs hx => ?adc⟩
  case presence =>
    refine (pin_of_isUp s _ _ h).trans (up_gives h ((when_of (decide_eq_true hb)).trans ?_) ?_)
    · cases a <;> cases b <;> cases (s.bayOf bay).seated <;> simp [b2n, count_zero]
    · exact (State.count_pending _ _ _ _).trans (State.count_pending _ _ _ _)
  case pins =>
    exact pin_held_gives h (if_pos (decide_eq_true hb))
  case trip => exact up_gives h (when_of (decide_eq_true hb)) rfl
  case fuse12 => exact act_leaves h (ofEndedBell_of_due hs hd)
  case fuseAux => exact act_leaves h (ofEndedBell_of_due hs hd)
  case stuck => exact act_leaves h (ofEndedBell_of_due hs hd)
  case window => exact act_leaves h (ofEndedBell_of_due hs hd)
  case timeout => exact act_leaves h (ofEndedBell_of_due hs hd)
  case short =>
    have hgo : ({ s with flt.events := [] }.supervised && decide ({ s with flt.events := [] }.dueFault bay = some 5)
        && !(decide (({ s with flt.events := [] }.bayOf bay).state = 5) && decide (({ s with flt.events := [] }.bayOf bay).cause = 5))) = true := by
      have hd' : { s with flt.events := [] }.dueFault bay = some 5 := hd
      have hs' : { s with flt.events := [] }.supervised = true := hs
      have hc' : ¬ (({ s with flt.events := [] }.bayOf bay).state = 5 ∧ ({ s with flt.events := [] }.bayOf bay).cause = 5) := fun c => hc c.1 c.2
      rw [decide_eq_true hd', hs', ← Bool.decide_and, decide_eq_false hc']
      rfl
    exact up_leaves h (ofEndedBell_congr (if_pos hgo))
  case adc =>
    have hgo : (decide (bay < 24) && decide (ch < 5) && s.supervised && (stop || (decide (16 ≤ tgetD (s.bayOf bay).adcOut ch 0) && !(s.bayOf bay).adcFault))) = true := by
      rw [decide_eq_true hb, decide_eq_true hc, hs]
      rcases hx with hx | ⟨hx, hf⟩
      · rw [hx]
        rfl
      · rw [decide_eq_true hx, hf]
        cases stop <;> rfl
    exact up_gives h (when_of hgo) rfl

/-- What a command of a bay that exists leaves. -/
theorem up_bayCommand_gives {bay : Nat} {act : Bytes → State → State} (hb : bay < 24) (h : s.takes (baySet bay) 8 par)
    (hf : act (padTo 8 par) (s.accepted (baySet bay) (baySet bay) 8 par) = t) (hp : t.pending = s.pending := by rfl) : up s (bayCommand bay par act) = .next t :=
  up_gives h.1 ((if_neg (Nat.not_le.mpr hb)).trans ((command_of_takes s _ _ _ par act h).trans hf)) hp

theorem act_bayCommand_leaves {bay : Nat} {act : Bytes → State → State} (hb : bay < 24) (h : s.takes (baySet bay) 8 par)
    (hf : act (padTo 8 par) (s.accepted (baySet bay) (baySet bay) 8 par) = t) :
    Sys2Proof.Machine.act s (bayCommand bay par act) = .next { settle t with pending := s.pending } :=
  act_leaves h.1 ((if_neg (Nat.not_le.mpr hb)).trans ((command_of_takes s _ _ _ par act h).trans hf))

/-- A ramp starts with the aux gate alone, and ends the command of a power cycle (R344, R350). -/
theorem startRamp_bayOf (n : Nat) (s : State) : (startRamp n s).bayOf n =
    { s.bayOf n with state := 2, auxGate := true, gate := false, gateNv := 0, rampEdge := s.bell.edges, gateMet := false, retry := none, short := 0, shortAux := 0, cycle := false } := by
  rw [← bayOf_onBay s n (fun b => { b with state := 2, auxGate := true, gate := false, gateNv := 0, rampEdge := s.bell.edges, gateMet := false, retry := none, short := 0, shortAux := 0, cycle := false }),
    ← bayOf_count _ Ev.ramps n 1]
  simp only [startRamp]
  split <;> rfl

theorem startRamp_res (h : (s.bayOf n).cycle = true) : ((startRamp n s).res (baySet n)).ready = true ∧ ((startRamp n s).res (baySet n)).outcome = 0 := by
  simp only [startRamp, h, if_true]
  exact res_doneNow _ _ _

/-- Settles O27: each row by the state of its bay and the edges that have passed. -/
theorem bayCommandsTakeEffect : Obligations.BayCommandsTakeEffect := by
  refine ⟨fun s bay h hs ht he hf hsup hev => ?seated, fun s bay e h hsup hs hr ht he hf hev => ?retry,
    fun s bay => ⟨congrArg Bay.state (startRamp_bayOf bay s), congrArg Bay.gate (startRamp_bayOf bay s), congrArg Bay.auxGate (startRamp_bayOf bay s),
      congrArg Bay.rampEdge (startRamp_bayOf bay s), fun hc => startRamp_res hc⟩,
    fun s bay e h hs hp hg ht hd hf hst => ?perst, fun s bay h hs hn => ⟨?shutdown, fun ht => ?timeout⟩, fun s bay e h hs hp ht => ⟨fun hc => ?cycle, fun hc => ?off⟩,
    fun s bay v h hb hv => ?enable, fun s bay par h hb => ⟨fun hs h₁ h₂ => ?release, fun hx => ?notLatched, ?energy, ?history, fun hs => ?power, fun hs => ?noPower⟩⟩
  case seated =>
    have hgo : (decide ((s.bayOf bay).state = 1) && decide (bells100ms ≤ (s.bayOf bay).seat) && decide (s.bayObj bay 0x01 0 = 1) && !s.stby.fenceIn && s.supervised && !(s.bayOf bay).evaluated)
        = true := by
      rw [hs, decide_eq_true ht, he, hf, hsup, hev]
      rfl
    exact up_leaves h (when_of hgo)
  case retry =>
    have hl : s.bayObj bay 0x0E 976563 ≤ s.since e := Nat.le_sub_of_add_le (by omega)
    have hgo : (s.supervised && decide ((s.bayOf bay).state = 4) && (s.bayOf bay).retry.any (fun e => decide (s.bayObj bay 0x0E 976563 ≤ s.since e)) && decide (s.bayObj bay 0x01 0 = 1)
        && !s.stby.fenceIn && !(s.bayOf bay).evaluated) = true := by
      rw [hsup, hs, hr, Option.any_some, decide_eq_true hl, he, hf, hev]
      rfl
    refine up_leaves h ((if_pos hgo).trans (congrArg (startRamp bay) ?_))
    cases hc : (s.bayOf bay).cycle
    · exact if_neg Bool.false_ne_true
    · exact (if_pos rfl).trans (count_zero _ _ s).symm
  case perst =>
    have hl : bells100ms ≤ s.since e := Nat.le_sub_of_add_le (by rw [bells100ms]; omega)
    have hgo : (decide ((s.bayOf bay).state = 3) && !(s.bayOf bay).perst && (s.bayOf bay).pgEdge.any (fun e => decide (bells100ms ≤ s.since e)) && s.domOn (portDomain bay)
        && !s.stby.fenceIn && !s.rst.stretch) = true := by
      rw [hs, hp, hg, Option.any_some, decide_eq_true hl, hd, hf, hst]
      rfl
    exact up_gives h (if_pos hgo) rfl
  case shutdown =>
    have hgo : (decide ((s.bayOf bay).state = 7) && (s.bayOf bay).shutPerst.isNone) = true := by rw [hs, hn]; rfl
    exact up_leaves h (when_of hgo)
  case timeout =>
    have hl : s.objN 0x610008 9765625 ≤ s.since (s.bayOf bay).shutEdge := Nat.le_sub_of_add_le (by omega)
    have hgo : (decide ((s.bayOf bay).state = 7) && (s.bayOf bay).shutPerst.isNone && decide (s.objN 0x610008 9765625 ≤ s.since (s.bayOf bay).shutEdge)) = true := by
      rw [hs, hn, decide_eq_true hl]
      rfl
    exact up_leaves h (if_pos hgo)
  case cycle =>
    have hl : 977 ≤ s.since e := Nat.le_sub_of_add_le (by omega)
    have hgo : (decide ((s.bayOf bay).state = 7) && (s.bayOf bay).shutPerst.any (fun e => decide (977 ≤ s.since e))) = true := by
      rw [hs, hp, Option.any_some, decide_eq_true hl]
      rfl
    exact act_leaves h ((if_pos hgo).trans (if_pos hc))
  case off =>
    have hl : 977 ≤ s.since e := Nat.le_sub_of_add_le (by omega)
    have hgo : (decide ((s.bayOf bay).state = 7) && (s.bayOf bay).shutPerst.any (fun e => decide (977 ≤ s.since e))) = true := by
      rw [hs, hp, Option.any_some, decide_eq_true hl]
      rfl
    exact act_leaves h ((if_pos hgo).trans (if_neg (by simp [hc])))
  case enable =>
    have hiff : (v = 1 ∧ (s.stby.fenceIn = true ∨ s.outOfService = true)) ↔ (v = 1 ∧ (s.stby.fenceIn = true ∨ s.stby.role = 0 ∨ s.stby.role = 1 ∨ s.stby.role = 4)) := by
      simp [State.outOfService, or_assoc]
    refine up_gives h ((if_neg (by omega)).trans ((if_neg (by omega)).trans (ite_congr (propext hiff) (fun _ => rfl) (fun _ => rfl)))) (by split <;> rfl)
  case release =>
    exact up_bayCommand_gives hb h (if_neg (not_or.mpr ⟨not_not_intro hs, Nat.not_le.mpr (Nat.max_lt.mpr ⟨h₁, h₂⟩)⟩))
  case notLatched =>
    exact up_bayCommand_gives hb h (if_pos (hx.imp id (Or.rec (Nat.le_trans · (Nat.le_max_left ..)) (Nat.le_trans · (Nat.le_max_right ..)))))
  case energy => exact up_bayCommand_gives hb h rfl
  case history => exact up_bayCommand_gives hb h rfl
  case power => exact act_bayCommand_leaves hb h (if_neg (not_not_intro hs))
  case noPower => exact act_bayCommand_leaves hb h (if_pos hs)

end Sys2Proof.Machine
end

section
-- One proof at a time: hundreds at once need more threads than the memory limit of the check has room for.
set_option Elab.async false
/-! ### Drives: bring-up, links, sideband and commands (O28, O29) -/

namespace Sys2Proof.Machine
variable {s t u : State} {par p : Bytes} {n bay : Nat}

/-- A time that has passed since an edge. -/
theorem le_since {d e : Nat} (h : e + d ≤ s.bell.edges) : d ≤ s.since e := Nat.le_sub_of_add_le (Nat.add_comm d e ▸ h)

theorem and_true_of {a b : Bool} (ha : a = true) (hb : b = true) : (a && b) = true := by rw [ha, hb]; rfl

theorem bayOf_onBay_ne {m : Nat} (f : Bay → Bay) (h : m ≠ n) : (s.onBay n f).bayOf m = s.bayOf m := by
  simp only [State.bayOf, State.onBay, tgetD, tget_tmod_ne _ _ _ _ _ h]

/-- A port that runs, of a drive that is not off. -/
theorem portGo {a : Prop} [Decidable a] (hb : bay < 24) (ha : a) (hr : s.runs 4 (portRegion bay) = true) :
    (decide (bay < 24) && decide a && s.runs 4 (portRegion bay)) = true := by
  rw [decide_eq_true hb, decide_eq_true ha, hr]
  rfl

theorem identifyOk_iff (i : DriveIdentify) :
    identifyOk i = true ↔ (i.sgls % 4 ≠ 0 ∧ (i.mdts = 0 ∨ 1064960 ≤ 2 ^ i.mdts * 2 ^ (12 + i.mpsMin)) ∧ i.oncs.testBit 5 = true) := by
  simp [identifyOk, and_assoc]

theorem cfsPoll_of_due {cfs : Bool} (hd : s.driveIn bay 5 = true) (he : (s.bayOf bay).drive.lastCfs + s.objN 0x610009 977 ≤ s.bell.edges)
    (hu : u = s.onDrive bay (fun d => { d with lastCfs := s.bell.edges })) :
    cfsPoll bay cfs s = if cfs then bayLost bay 1 (portEvent 153 bay (driveState bay 7 u)) else u := by
  subst hu
  exact if_pos (and_true_of hd (decide_eq_true (le_since he)))

/-- Settles O28: each row by the drive's state and its time, a loss by what it cuts off. -/
theorem driveBringUpTakesEffect : Obligations.DriveBringUpTakesEffect := by
  refine ⟨fun s bay l c h hd hl => ?linkUp, fun s t bay l c h hb hs hr hre ht => ?retrained, fun s bay h hd he => ?linkTimeout,
    fun s bay ams h hd => ⟨fun n hl => ?ready, fun he => ?enableTimeout⟩, fun s t bay i h hd ht => ?identified, fun s bay h hd => ⟨?queues, ?noQueues⟩,
    fun s bay h hd he => ⟨?poll, ?cfs⟩, fun s t bay h hb hs hr ht => ?linkDown, fun s t bay h hb hs hr ht => ?aer, fun s bay st => ⟨?_, ?_, fun n hn => ?_⟩⟩
  case linkUp => exact up_leaves h (if_pos (and_true_of hd (bnot_of hl)))
  case retrained =>
    subst ht
    have hn : ¬ (s.driveIn bay 1 && !(s.bayOf bay).drive.linkHeld) = true := by
      rw [State.driveIn, decide_eq_false hs, Bool.and_false, Bool.false_and, Bool.false_and]
      exact Bool.false_ne_true
    have hgo : (decide (bay < 24) && (s.bayOf bay).drive.retrain && s.runs 4 (portRegion bay)) = true := by
      rw [decide_eq_true hb, hre, hr]
      rfl
    exact up_leaves h ((if_neg hn).trans (if_pos hgo))
  case linkTimeout => exact up_gives h (if_pos (and_true_of hd (decide_eq_true (le_since he)))) rfl
  case ready =>
    exact up_gives h ((if_pos (and_true_of hd (bnot_of hl))).trans (ite_swap Nat.not_le.symm)) (by split <;> rfl)
  case enableTimeout => exact up_gives h (if_pos (and_true_of hd (decide_eq_true (le_since he)))) rfl
  case identified =>
    subst ht
    refine up_gives h ((when_of hd).trans (ite_congr (propext ?_) (fun _ => rfl) (fun _ => ite_congr (propext ?_) (fun _ => rfl) (fun _ => rfl)))) ?_
    · rw [Bool.or_eq_true, Bool.not_eq_true', Bool.not_eq_true', ← Bool.not_eq_true (identifyOk i), identifyOk_iff]
    · simp [or_assoc]
    · split
      · rfl
      · split <;> rfl
  case queues => exact up_gives h (when_of hd) rfl
  case noQueues => exact up_gives h (when_of hd) rfl
  case poll => exact act_leaves h ((cfsPoll_of_due hd he rfl).trans (if_neg Bool.false_ne_true))
  case cfs => exact act_leaves h ((cfsPoll_of_due hd he rfl).trans (if_pos rfl))
  case linkDown =>
    subst ht
    exact act_leaves h (if_pos (portGo hb hs hr))
  case aer =>
    subst ht
    exact act_leaves h (if_pos (portGo hb hs hr))
  · exact congrArg (fun b => b.drive.state) (bayOf_onDrive s bay _)
  · exact congrArg (fun b => b.drive.stateEdge) (bayOf_onDrive s bay _)
  · exact bayOf_onBay_ne _ hn

/-- How a poll of the sideband ends (R357, R358). -/
def sidebandEnd (bay : Nat) (how : SidebandEnd) (temp warn : Nat) (s : State) : State :=
  match how with
  | .nak => s.count Ev.sbNak bay
  | .clockLow => s.count Ev.sbClk bay
  | .ack => if warn % 256 = 0 then s.onDrive bay (fun d => { d with temp := temp % 65536, warning := warn % 256 })
      else bayEvent 155 bay (s.onDrive bay (fun d => { d with temp := temp % 65536, warning := warn % 256 }))

theorem sidebandPoll_of_due {how : SidebandEnd} {temp warn : Nat} (hb : bay < 24) (hs : (s.bayOf bay).state = 3) (hp : s.objN 0x61000A 976563 ≠ 0)
    (he : (s.bayOf bay).drive.lastSb + s.objN 0x61000A 976563 ≤ s.bell.edges)
    (ht : t = ((s.count Ev.sbPoll bay).onDrive bay (fun d => { d with lastSb := s.bell.edges })).emit (.sideband bay (s.bayObj bay 0x12 1) 0 0x6A [0] 8)) :
    sidebandPoll bay how temp warn s = sidebandEnd bay how temp warn t := by
  have hgo : (decide (bay < 24) && decide ((s.bayOf bay).state = 3) && decide (s.objN 0x61000A 976563 ≠ 0) && decide (s.objN 0x61000A 976563 ≤ s.since (s.bayOf bay).drive.lastSb)) = true := by
    rw [decide_eq_true hb, hs, decide_eq_true hp, decide_eq_true (le_since he)]
    rfl
  subst ht
  refine (if_pos hgo).trans ?_
  cases how <;> rfl

/-- Firmware's command goes to the admin queue of a drive that is ready or fit for admin commands (R360). -/
theorem adminPassthrough_of_on (hb : fld p 1 1 < 24) (hs : (s.bayOf (fld p 1 1)).drive.state = 5 ∨ (s.bayOf (fld p 1 1)).drive.state = 6) :
    adminPassthrough p s = (((s.hbmPut (s.sqeAddr (fld p 1 1) 0 (tgetD (s.bayOf (fld p 1 1)).drive.sqTail 0 0)) (sub p 16 2 ++ le 2 65535 ++ sub p 20 60)).onDrive (fld p 1 1)
      (fun d => { d with admin := some s.bell.edges, sqTail := ringStep 32 0 d.sqTail, sqRing := oncePer 0 d.sqRing })).count Ev.drAdm (fld p 1 1)).emit
        (.driveAdmin (fld p 1 1) (sub p 16 2 ++ le 2 65535 ++ sub p 20 60)) :=
  (if_neg (Nat.not_le.mpr hb)).trans (if_neg (fun c => hs.elim c.1 c.2))

theorem controllerReset_of_on (hb : fld p 1 1 < 24) (h₁ : 5 ≤ (s.bayOf (fld p 1 1)).drive.state) (h₂ : (s.bayOf (fld p 1 1)).drive.state ≤ 7) :
    controllerReset p s = (driveState (fld p 1 1) 2 (s.onDrive (fld p 1 1) (fun d => { d with failed := none, queues := 0 }))).done driveSet 0 :=
  (if_neg (Nat.not_le.mpr hb)).trans (if_neg (not_or.mpr ⟨Nat.not_lt.mpr h₁, Nat.not_lt.mpr h₂⟩))

theorem driveReset_pending (n : Nat) (f : Drive → Drive) (s : State) : ((driveState n 2 (s.onDrive n f)).done driveSet 0).pending = s.pending := rfl

/-- How a transfer over the sideband ends (R359). -/
def transferEnd (how : SidebandEnd) (rd : Bytes) (bay m : Nat) (s : State) : State :=
  match how with
  | .ack => s.done driveSet 0 (padTo m rd)
  | .nak => (s.count Ev.sbNak bay).done driveSet 4
  | .clockLow => (s.count Ev.sbClk bay).done driveSet 4

theorem sidebandTransfer_of_on {how : SidebandEnd} {rd : Bytes} (hb : fld p 1 1 < 24) (h₁ : fld p 2 1 ≤ 1) (h₂ : fld p 4 1 ≤ 64) (h₃ : fld p 5 1 ≤ 64)
    (hs : (s.bayOf (fld p 1 1)).state = 3)
    (ht : t = (s.count Ev.sbXfer (fld p 1 1)).emit (.sideband (fld p 1 1) (s.bayObj (fld p 1 1) 0x12 1) (fld p 2 1) (fld p 3 1) (sub p 16 (fld p 4 1)) (fld p 5 1))) :
    sidebandTransfer how rd p s = transferEnd how rd (fld p 1 1) (fld p 5 1) t := by
  subst ht
  refine (if_neg (by omega)).trans ((if_neg (not_not_intro hs)).trans ?_)
  cases how <;> rfl

/-- Settles O29: each row by the drive's or bay's state, with the sideband's answer. -/
theorem driveCommandsTakeEffect : Obligations.DriveCommandsTakeEffect := by
  refine ⟨fun s t bay temp warn h hb hs hp he ht => ⟨?nak, ?clockLow, fun hw => ?noWarning, fun hw => ?warning⟩, fun s h he => ?leds,
    fun s par p bay h hp hbay hb => ⟨fun hs e he => ?admin, fun h₁ h₂ => ?adminState, fun h₁ h₂ => ?reset, fun hs => ?resetState, fun hs => ?retrain, fun hs => ?retrainState⟩,
    fun s par p h hp hb => ?noBay, fun s bay e h ha he => ?adminTimeout, fun s t par p rd bay h hp hbay hb h₁ h₂ h₃ ht => ⟨fun hs => ⟨?ack, ?xNak, ?xClock⟩, fun a hs => ?xState⟩,
    fun s bay q io h hb hq hs => ?io⟩
  case nak => exact up_leaves h (sidebandPoll_of_due hb hs hp he ht)
  case clockLow => exact up_leaves h (sidebandPoll_of_due hb hs hp he ht)
  case noWarning => exact up_leaves h ((sidebandPoll_of_due hb hs hp he ht).trans (by rw [sidebandEnd, if_pos hw, hw]))
  case warning => exact up_leaves h ((sidebandPoll_of_due hb hs hp he ht).trans (if_neg hw))
  case leds => exact up_gives h (if_pos (decide_eq_true (le_since he))) rfl
  case admin =>
    subst hp hbay he
    exact up_command_by h (adminPassthrough_of_on hb hs) rfl (State.count_pending _ _ _ _)
  case adminState =>
    subst hp hbay
    exact up_command_gives h ((if_neg (Nat.not_le.mpr hb)).trans (if_pos ⟨h₁, h₂⟩))
  case reset =>
    subst hp hbay
    exact up_command_by h (controllerReset_of_on hb h₁ h₂) rfl (driveReset_pending _ _ (s.accepted driveSet driveSet 96 par))
  case resetState =>
    subst hp hbay
    exact up_command_gives h ((if_neg (Nat.not_le.mpr hb)).trans (if_pos (.inl hs)))
  case retrain =>
    subst hp hbay
    exact up_command_gives h ((if_neg (Nat.not_le.mpr hb)).trans (if_neg (not_not_intro hs)))
  case retrainState =>
    subst hp hbay
    exact up_command_gives h ((if_neg (Nat.not_le.mpr hb)).trans (if_pos hs))
  case noBay =>
    subst hp
    simp only [List.forall_mem_cons, List.not_mem_nil, false_imp_iff, implies_true, and_true]
    exact ⟨up_command_gives h (if_pos hb), up_command_gives h (if_pos hb), up_command_gives h (if_pos hb)⟩
  case adminTimeout =>
    have hgo : (s.bayOf bay).drive.admin.any (fun e => decide (s.objN 0x610007 9765625 ≤ s.since e)) = true := by
      rw [ha]
      exact decide_eq_true (le_since he)
    exact up_gives h (if_pos hgo) rfl
  case ack =>
    subst hp hbay
    exact up_command_by h (sidebandTransfer_of_on hb h₁ h₂ h₃ hs ht) rfl (by rw [ht]; exact State.count_pending _ _ _ _)
  case xNak =>
    subst hp hbay
    exact up_command_by h (sidebandTransfer_of_on hb h₁ h₂ h₃ hs ht) rfl ((State.count_pending _ _ _ _).trans (by rw [ht]; exact State.count_pending _ _ _ _))
  case xClock =>
    subst hp hbay
    exact up_command_by h (sidebandTransfer_of_on hb h₁ h₂ h₃ hs ht) rfl ((State.count_pending _ _ _ _).trans (by rw [ht]; exact State.count_pending _ _ _ _))
  case xState =>
    subst hp hbay
    exact up_command_gives h ((if_neg (by omega)).trans (if_pos hs))
  case io =>
    have hgo : (decide (bay < 24) && (decide (q = 0) || (decide (116 ≤ q) && decide (q ≤ 127))) && decide ((s.bayOf bay).drive.state = 5)) = true := by
      rw [decide_eq_true hb, hs]
      simpa using hq
    exact up_leaves h (when_of hgo)

end Sys2Proof.Machine
end

section
-- One proof at a time: hundreds at once need more threads than the memory limit of the check has room for.
set_option Elab.async false
/-! ### The standby unit: roles, fence, beat and lease (O30, O31) -/

namespace Sys2Proof.Machine
variable {s t u : State} {par p : Bytes}

/-- Settles O31: the beat by its hold, the peer by its edges, the lease by its number and deadline. -/
theorem beatAndLeaseTakeEffect : Obligations.BeatAndLeaseTakeEffect := by
  refine ⟨fun s v h => ⟨?refresh, fun hv => ?refreshRange⟩, fun s b h hb he => ?hold, fun s b h hb he => ?toggle, fun s l h => ⟨fun hl => ?edge, fun hl => ?same⟩, fun s l h => ?level,
    fun s h he => ?window, fun s h ha hp he => ?peer, fun s h hr hs hp he => ?silence, fun s v h => ⟨fun hr hc => ?confirm, fun hr => ?role, fun c hr hc hv => ?number⟩,
    fun s c h hr hc hl hd => ?deadline⟩
  case refresh => exact up_gives h (if_neg (not_not_intro rfl)) rfl
  case refreshRange => exact up_gives h (if_pos hv) rfl
  case hold =>
    have hall : s.stby.hb.all (fun e => decide (s.objN 0x540004 195313 < s.since e)) = true := by
      cases hq : s.stby.hb with
      | none => rfl
      | some e =>
        have hl : s.objN 0x540004 195313 < s.since e := Nat.lt_sub_of_add_lt (Nat.add_comm e _ ▸ he e hq)
        exact decide_eq_true hl
    exact up_gives h (if_pos (and_true_of (by rw [hb]; rfl) hall)) rfl
  case toggle =>
    have hgo : s.stby.beat.any (fun e => decide (488 ≤ s.since e)) = true := by
      rw [hb]
      exact decide_eq_true (le_since he)
    exact up_gives h (if_pos hgo) rfl
  case edge => exact pin_up_gives (f := activeInEdge l) (g := fun s => { s with stby.activeIn := l }) h (if_pos (bne_iff_ne.mpr hl))
  case same => exact pin_up_gives (f := activeInEdge l) (g := fun s => { s with stby.activeIn := l }) h (if_neg (by simp [hl]))
  case level => exact pin_held_gives (g := fun s => { s with stby.activeIn := l }) h rfl
  case window => exact up_gives h (if_pos (decide_eq_true he)) rfl
  case peer => exact up_gives h (if_pos (and_true_of (and_true_of ha (bnot_of hp)) (decide_eq_true (le_since he)))) rfl
  case silence =>
    exact up_gives h (if_pos (and_true_of (and_true_of (and_true_of (decide_eq_true hr) (bnot_of hs)) (bnot_of hp)) (decide_eq_true (le_since he)))) rfl
  case confirm =>
    have hn : ¬ s.stby.confirm.any (fun c => decide (v ≤ c)) = true := by
      cases hq : s.stby.confirm with
      | none => exact Bool.false_ne_true
      | some c => simpa using hc c hq
    exact up_gives h ((if_neg (not_not_intro hr)).trans (if_neg hn)) rfl
  case role => exact up_gives h (if_pos hr) rfl
  case number =>
    have ha : s.stby.confirm.any (fun c => decide (v ≤ c)) = true := by
      rw [hc]
      exact decide_eq_true hv
    exact up_gives h ((if_neg (not_not_intro hr)).trans (if_pos ha)) rfl
  case deadline =>
    refine up_gives h (if_pos (and_true_of (and_true_of (and_true_of (decide_eq_true hr) (by rw [hc]; rfl)) (bnot_of hl)) (decide_eq_true hd))) ?_
    unfold withdrawFor
    split <;> rfl

/-- The role a withdrawal or a resignation leaves is the one set (R377, R378). -/
theorem setRole_stby (s : State) (r : Nat) : (s.setRole r).stby = { s.stby with role := r } := by
  unfold State.setRole
  split <;> rfl

theorem foldl_setObj_stby (key : Nat → Nat) (b : Bytes) (l : List Nat) (s : State) : (l.foldl (fun s n => s.setObj (key n) b) s).stby = s.stby := by
  induction l generalizing s with
  | nil => rfl
  | cons n l ih => exact (ih _).trans rfl

theorem foldl_setObj_bell (key : Nat → Nat) (b : Bytes) (l : List Nat) (s : State) : (l.foldl (fun s n => s.setObj (key n) b) s).bell = s.bell := by
  induction l generalizing s with
  | nil => rfl
  | cons n l ih => exact (ih _).trans rfl

/-- What a withdrawal leaves (R378, R379). -/
def withdrawn (c : Nat) (s : State) : State :=
  let t := { s.setRole 4 with stby.cause := c, stby.stopped := true, stby.withdrawal := none, stby.pend := none, stby.take := none, stby.beat := none, stby.activeOut := c ≠ 1 }
  if s.stby.take.isSome || s.stby.pend = some 2 then t.doneNow standbySet (if c = 1 then 3 else 5) else t

theorem withdraw_of_due {c e : Nat} (hw : s.stby.withdrawal = some (c, e)) (he : e < s.bell.edges) : withdraw s = withdrawn c s := by
  simp only [withdraw, hw, decide_eq_true he, when_true]
  rfl

theorem withdrawn_stby (c : Nat) (s : State) : (withdrawn c s).stby =
    { s.stby with role := 4, cause := c, stopped := true, withdrawal := none, pend := none, take := none, beat := none, activeOut := c ≠ 1 } := by
  unfold withdrawn
  split <;> simp [State.doneNow, State.onRes, setRole_stby]

/-- A taking over that a withdrawal cuts off ends its command (R378). -/
theorem withdrawn_res {c : Nat} (h : s.stby.take.isSome = true ∨ s.stby.pend = some 2) :
    ((withdrawn c s).res standbySet).ready = true ∧ ((withdrawn c s).res standbySet).outcome = (if c = 1 then 3 else 5) := by
  have hr : (s.stby.take.isSome || decide (s.stby.pend = some 2)) = true := by simpa using h
  simp only [withdrawn, hr, if_true]
  exact res_doneNow _ _ _

/-- Settles O30: each command by the role it needs, the waits by their deadlines. -/
theorem rolesAndTheFenceTakeEffect : Obligations.RolesAndTheFenceTakeEffect := by
  refine ⟨fun s par h => ⟨fun hr => ?enter, fun hr => ?entered, fun hr hf => ?take, fun hx => ?noTake, fun hr hp hb => ?release, fun hx => ?noRelease, fun hr => ⟨?resign, ?unsigned⟩, fun g hr => ?noResign⟩,
    fun s hp => ?begin, fun s hp hr => ?resigned, fun s t h ht hw => ⟨fun ha => ?allOn, fun hx he => ?late⟩, fun s t e h ht hw he hf hwd hr => ?stagger,
    fun s u h hf hu => ?fence, fun s c => ⟨?kept, fun hr hw => ?first, fun h₂ h₃ hp => ?unmoved⟩, fun s => ?fenceRelease, fun s h => ?pin, fun s c e h hw he => ?withdraw⟩
  case enter => exact up_command_gives h (if_neg (not_not_intro hr))
  case entered => exact up_command_gives h (if_pos hr)
  case take => exact up_command_gives h (if_neg (by simp [hr, hf]))
  case noTake => exact up_command_gives h (if_pos hx)
  case release => exact up_command_gives h (if_neg (by simp [hr, hp, hb]))
  case noRelease => exact up_command_gives h (if_pos hx)
  case resign => exact up_command_gives h ((if_neg (not_not_intro hr)).trans (if_neg Bool.false_ne_true))
  case unsigned => exact up_command_gives h ((if_neg (not_not_intro hr)).trans (if_pos rfl))
  case noResign => exact up_command_gives h (if_pos hr)
  case begin =>
    have hb : standbyPend s = takeOverBegin { s with stby.pend := none } := by simp only [standbyPend, hp]
    rw [hb]
    refine ⟨rfl, ?_, ?_⟩
    · simp only [takeOverBegin, foldl_setObj_stby]
    · simp only [takeOverBegin, foldl_setObj_bell]
      rfl
  case resigned =>
    have hb : standbyPend s = { s.setRole 1 with stby.pend := none, stby.stopped := true, stby.beat := none, stby.activeOut := false } := by
      simp only [standbyPend, hp, hr, if_true]
    rw [hb]
    exact ⟨congrArg StandbyState.role (setRole_stby s 1), rfl, rfl, rfl⟩
  case allOn =>
    refine up_gives h ?_ rfl
    have hall : t.bays.all (fun n => decide ((s.bayOf n).state = 3)) = true := List.all_eq_true.mpr (fun n hn => decide_eq_true (ha n hn))
    simp only [handoverWaitEnd, ht, hw, hall, Option.isNone_none, Bool.true_or, Bool.and_self, when_true, if_true]
  case late =>
    refine up_gives h ?_ rfl
    obtain ⟨n, hn, hs⟩ := hx
    have hall : t.bays.all (fun n => decide ((s.bayOf n).state = 3)) = false := List.all_eq_false.mpr ⟨n, hn, by simpa using hs⟩
    simp only [handoverWaitEnd, ht, hw, hall, Option.isNone_none, Bool.false_or, Bool.true_and, decide_eq_true (le_since he), when_true, Bool.false_eq_true, if_false]
  case stagger =>
    refine up_gives h ?_ rfl
    have hgo : (t.waitEnd.any (fun e => decide (s.objN 0x54000A 64 ≤ s.since e)) && !s.stby.fenceIn && s.stby.withdrawal.isNone && decide (s.stby.role = 2)) = true := by
      rw [hw, Option.any_some, decide_eq_true (le_since he), hf, hwd, hr]
      rfl
    simp only [fenceStaggerExpiry, ht, hgo, when_true]
  case fence =>
    subst hu
    exact (pin_of_isUp s fenceInAssert (fun s => { s with stby.fenceIn := true }) h).trans (up_leaves (f := fenceInAssert) h (if_pos (bnot_of hf)))
  case kept =>
    unfold withdrawFor
    split <;> rfl
  case first =>
    rw [withdrawFor, if_pos hr]
    simp only [hw]
  case unmoved => exact if_neg (not_or.mpr ⟨h₂, not_or.mpr ⟨h₃, hp⟩⟩)
  case fenceRelease =>
    by_cases h : s.isUp
    · exact pin_up_gives (f := fenceInRelease) h rfl
    · exact pin_held_gives (g := fenceInRelease) h rfl
  case pin => exact pin_held_gives (g := fun s => { s with stby.fenceIn := true }) h rfl
  case withdraw => 
    have hs := withdrawn_stby c s
    exact ⟨_, up_leaves h (withdraw_of_due hw he), congrArg StandbyState.role hs, congrArg StandbyState.cause hs, congrArg StandbyState.stopped hs,
      congrArg StandbyState.withdrawal hs, congrArg StandbyState.pend hs, congrArg StandbyState.take hs, congrArg StandbyState.activeOut hs, fun hr => withdrawn_res hr⟩

end Sys2Proof.Machine
end

section
-- One proof at a time: hundreds at once need more threads than the memory limit of the check has room for.
set_option Elab.async false
/-! ### The host endpoint (O32, O33) -/

namespace Sys2Proof.Machine
variable {s t u : State} {par p : Bytes} {tag : Nat}

theorem bne_or_of {m : Nat} {flit : Bool} (h : m = 6 → flit = true) : (decide (m ≠ 6) || flit) = true := by
  by_cases hm : m = 6
  · rw [h hm, Bool.or_true]
  · rw [decide_eq_true hm, Bool.true_or]

/-- A link that the caps allow (R387). -/
theorem epLinkUp_of_allowed {speed width : Nat} {flit : Bool} (hd : s.domOn 14 = true) (hr : s.runs 4 2 = true) (hp : s.ep.perst = false) (h₁ : 1 ≤ speed)
    (h₂ : speed ≤ s.objN 0x700002 6) (h₃ : width ≤ s.objN 0x700003 16) (hw : widthOk width = true) (hf : speed = 6 → flit = true)
    (ht : t = { s with ep.link := true, ep.speed := speed, ep.width := width, ep.flit := flit, ep.last := some (speed, width) }.count Ev.epTrain 0)
    (hu : u = (if s.ep.last.any (fun l => l.1 != speed || l.2 != width) then (t.epEvent 0).count Ev.epSpeed 0 else t)) :
    epLinkUp speed width flit s = if speed < s.objN 0x700002 6 ∨ width < s.objN 0x700003 16 then u.epFault 176 (speed * 256 + width) else u := by
  subst hu ht
  exact if_pos (and_true_of (and_true_of (and_true_of (and_true_of (and_true_of (and_true_of (and_true_of hd hr) (bnot_of hp)) (decide_eq_true h₁)) (decide_eq_true h₂))
    (decide_eq_true h₃)) hw) (bne_or_of hf))

theorem epGo (hr : s.runs 4 2 = true) (hp : s.ep.perst = false) (hl : s.ep.link = true) : (s.runs 4 2 && !s.ep.perst && s.ep.link) = true :=
  and_true_of (and_true_of hr (bnot_of hp)) hl

/-- A configuration register whose bits are only written, under its byte enables (R389). -/
theorem cfgWrite_of_plain {o be data m : Nat} (h₁ : o ≠ 0x44) (h₂ : o ≠ 0x88) (hc : cfgClear o = 0) (hm : s.cfgMask o ≠ 0) (he : m = s.cfgMask o &&& byteMask be) :
    cfgWrite o be data s = { s with ep.cfg := tset s.ep.cfg o (s.cfgVal o - (s.cfgVal o &&& m) + (data &&& m)) } := by
  subst he
  simp [cfgWrite, h₁, h₂, hc, hm]

theorem barGo (hr : s.epRuns = true) (hl : s.ep.link = true) : (s.epRuns && s.ep.link) = true := and_true_of hr hl

theorem not_poisonedWrite {wr poisoned : Bool} (h : wr = false ∨ poisoned = false) : ¬ (wr = true ∧ poisoned = true) := by
  rintro ⟨h₁, h₂⟩
  rcases h with h | h
  · exact Bool.false_ne_true (h.symm.trans h₁)
  · exact Bool.false_ne_true (h.symm.trans h₂)

theorem closed_of {a b c d : Bool} (h : a = false ∨ b = true ∨ c = false ∨ d = false) : (!a) = true ∨ b = true ∨ (!c) = true ∨ (!d) = true := by
  simpa using h

theorem not_closed_of {a b c d : Bool} (ha : a = true) (hb : b = false) (hc : c = true) (hd : d = true) :
    ¬ ((!a) = true ∨ b = true ∨ (!c) = true ∨ (!d) = true) := by
  simp [ha, hb, hc, hd]

/-- An access of a BAR4 that is decoded, over HBM whose stacks are on (R395). -/
theorem bar4Access_of_open {x : Bar4Access} (hr : s.epRuns = true) (hl : s.ep.link = true) (hx : x.wr = false ∨ x.poisoned = false) (hm : s.memSpace = true) (hd : s.d3 = false)
    (h₁ : s.domOn 17 = true) (h₂ : s.domOn 18 = true)
    (h : (if !(s.count Ev.bar4 0).apertureOk x.wr x.off x.len then
        (if x.wr then unsupported true ((s.count Ev.bar4 0).count Ev.apRef 0) else (unsupported false ((s.count Ev.bar4 0).count Ev.apRef 0)).emit (.barCpl 1 false x.ro []))
      else if x.wr then bar4Write x.off (padTo x.len x.data) (s.count Ev.bar4 0)
      else ((s.count Ev.bar4 0).hbmGet (212 + b2n (inStackB x.off)) 0 x.off x.len).1.emit
        (.barCpl 0 ((s.count Ev.bar4 0).hbmGet (212 + b2n (inStackB x.off)) 0 x.off x.len).2.2 x.ro ((s.count Ev.bar4 0).hbmGet (212 + b2n (inStackB x.off)) 0 x.off x.len).2.1)) = t) :
    bar4Access x s = t := by
  refine (if_pos (barGo hr hl)).trans ((if_neg (not_poisonedWrite hx)).trans ((if_neg (not_closed_of hm hd h₁ h₂)).trans (Eq.trans ?_ h)))
  obtain ⟨wr, off, len, data, poisoned, ro⟩ := x
  cases wr <;> rfl

/-- Settles O32: an access by the link and the decoded BAR, a reset by what it leaves running. -/
theorem endpointLinkResetsAndConfigTakeEffect : Obligations.EndpointLinkResetsAndConfigTakeEffect := by
  refine ⟨fun s t u speed width flit h hd hr hp h₁ h₂ h₃ hw hf ht hu => ?linkUp, fun s v h => ?ready,
    fun s wr off o be data h hr hp hl ho => ⟨fun hx => ?retry, fun hv hf => ⟨?read, ?write⟩⟩, fun s o be data m h₁ h₂ hc hm he => ?merge,
    fun s x h hr hl => ⟨fun hw hp => ?poisoned, fun hx hy => ?closed, fun hx hm hd h₁ h₂ => ⟨fun ha => ?noWindow, fun ha hw => ?barWrite, fun y ha hw hy => ?barRead⟩⟩,
    fun s k h => ⟨fun hp hd => ?fundamental, fun hp hd => ?unreleased, fun hp => ?again, ?deassert⟩, fun s p h => ?pin, fun s r h hr hp hl hres => ⟨?hot, ?flr⟩, fun s e h hr hp hf => ?flrDone,
    fun s => ⟨rfl, rfl, rfl, rfl, rfl, rfl, rfl, rfl, rfl, rfl, rfl, rfl⟩⟩
  case linkUp => exact up_leaves h (epLinkUp_of_allowed hd hr hp h₁ h₂ h₃ hw hf ht hu)
  case ready => exact up_gives h rfl (by split <;> rfl)
  case retry =>
    subst ho
    exact up_gives h ((if_pos (epGo hr hp hl)).trans (if_pos hx)) rfl
  case read =>
    subst ho
    exact up_gives h ((if_pos (epGo hr hp hl)).trans ((if_neg (by simp [hv, hf])).trans (if_neg Bool.false_ne_true))) rfl
  case write =>
    subst ho
    exact up_leaves h ((if_pos (epGo hr hp hl)).trans ((if_neg (by simp [hv, hf])).trans (if_pos rfl)))
  case merge =>
    rw [cfgWrite_of_plain h₁ h₂ hc hm he]
    exact ⟨tgetD_tset_self _ _ _ _, fun p hp => tgetD_tset_ne _ _ _ _ _ hp⟩
  case poisoned => exact up_leaves h ((if_pos (and_true_of hr hl)).trans (if_pos ⟨hw, hp⟩))
  case closed =>
    refine up_leaves h ((if_pos (barGo hr hl)).trans ((if_neg (not_poisonedWrite hx)).trans ((if_pos (closed_of hy)).trans ?_)))
    obtain ⟨wr, off, len, data, poisoned, ro⟩ := x
    cases wr <;> rfl
  case noWindow => exact up_leaves h (bar4Access_of_open hr hl hx hm hd h₁ h₂ (if_pos (bnot_of ha)))
  case barWrite => exact up_leaves h (bar4Access_of_open hr hl hx hm hd h₁ h₂ ((if_neg (not_bnot ha)).trans (if_pos hw)))
  case barRead =>
    subst hy
    exact up_leaves h (bar4Access_of_open hr hl hx hm hd h₁ h₂ ((if_neg (not_bnot ha)).trans (if_neg (by rw [hw]; exact Bool.false_ne_true))))
  case fundamental => exact (pin_of_isUp s (epFundamentalReset ⟨true, k⟩) (fun s => { s with ep.perst := true }) h).trans (up_leaves h ((if_pos (bnot_of hp)).trans (if_pos hd)))
  case unreleased =>
    exact pin_up_gives (f := epFundamentalReset ⟨true, k⟩) (g := fun s => { s with ep.perst := true }) h ((if_pos (bnot_of hp)).trans (if_neg (ne_true_of_eq_false hd))) rfl
  case again =>
    refine pin_up_gives (f := epFundamentalReset ⟨true, k⟩) (g := fun s => { s with ep.perst := true }) h ((if_neg (not_bnot hp)).trans ?_) rfl
    exact congrArg (fun b => { s with ep.perst := b }) hp.symm
  case deassert => exact pin_up_gives (f := epFundamentalReset ⟨false, k⟩) (g := fun s => { s with ep.perst := false }) h (if_neg Bool.false_ne_true) rfl
  case pin => exact pin_held_gives (f := epFundamentalReset p) (g := fun s => { s with ep.perst := p.asserted }) h rfl
  case hot =>
    subst hres
    exact up_leaves h (if_pos (epGo hr hp hl))
  case flr =>
    subst hres
    exact up_leaves h (if_pos (epGo hr hp hl))
  case flrDone => exact up_gives h (if_pos (and_true_of (and_true_of (by rw [hf]; rfl) hr) (bnot_of hp))) rfl

theorem epCompletionTimeout_of_free (ht : tget s.ep.tags tag = none) : epCompletionTimeout tag s = s := by
  simp only [epCompletionTimeout, ht]

theorem epCompletionTimeout_of_early {u : TagUse} (ht : tget s.ep.tags tag = some u) (he : s.bell.edges - u.edge < s.cplTimeout) : epCompletionTimeout tag s = s := by
  simp only [epCompletionTimeout, ht]
  exact if_neg (fun h => Nat.not_le.mpr he (of_decide_eq_true h))

theorem epCompletionReceive_of_free {c : Completion} (hr : s.runs 4 2 = true) (hp : s.ep.perst = false) (hl : s.ep.link = true) (ht : tget s.ep.tags tag = none) :
    epCompletionReceive tag c s = unexpectedCompletion s := by
  refine (if_pos (epGo hr hp hl)).trans ?_
  simp only [epCompletionTimeout_of_free ht, ht]

/-- What a completion does to the read of its tag (R405). -/
def takeCompletion (tag : Nat) (c : Completion) (t : TagUse) (s : State) : State :=
  if c.status ≠ 0 ∨ c.poisoned then
    let s := { s with ep.tags := terase s.ep.tags tag }
    let s := if c.poisoned then poisonedTlp true s else s
    let s := if c.status = 1 then s.cfgSet 0x04 0x20000000 else if c.status = 4 then s.cfgSet 0x04 0x10000000 else s
    readFailed t.use 2 s
  else
    let b := t.data ++ c.data
    if t.len ≤ b.length then readDone t.use (b.take t.len) { s with ep.tags := terase s.ep.tags tag }
    else { s with ep.tags := tset s.ep.tags tag { t with data := b } }

theorem epCompletionReceive_of_used {c : Completion} {u : TagUse} (hr : s.runs 4 2 = true) (hp : s.ep.perst = false) (hl : s.ep.link = true) (ht : tget s.ep.tags tag = some u)
    (he : s.bell.edges - u.edge < s.cplTimeout) : epCompletionReceive tag c s = takeCompletion tag c u s := by
  refine (if_pos (epGo hr hp hl)).trans ?_
  simp only [epCompletionTimeout_of_early ht he, ht]
  rfl

/-- Settles O33: a completion by the read of its tag, a tag by its age. -/
theorem endpointMessagesAndReadsTakeEffect : Obligations.EndpointMessagesAndReadsTakeEffect := by
  refine ⟨fun s r e h hr he hj hres => ?record, fun s v h hv ho => ?send, fun s tag t h ht he => ?timeout, fun s tag e h hq he => ?quarantine,
    fun s tag c h hr hp hl ht => ?unexpected, fun s tag c t h hr hp hl ht he => ⟨fun hs hx => ?error, fun hs hx => ?poisoned, fun hs hx hl' => ?last, fun hs hx hl' => ?more⟩⟩
  case record =>
    subst hres
    have ha : s.cor.rings.all (fun r => r.2.jobs.all (fun j => j.ended.any (fun x => decide (x < s.bell.edges)))) = true := by
      refine List.all_eq_true.mpr (fun q hq => List.all_eq_true.mpr (fun j hm => ?_))
      obtain ⟨n, hn, hl⟩ := hj q hq j hm
      rw [hn]
      exact decide_eq_true hl
    exact up_leaves h (if_pos (and_true_of (by rw [hr]; exact decide_eq_true he) ha))
  case send => exact up_leaves h (if_pos (and_true_of hv ho))
  case timeout =>
    refine up_leaves h ?_
    simp only [epCompletionTimeout, ht]
    exact if_pos (decide_eq_true (le_since he))
  case quarantine => exact up_gives h (if_pos (by rw [hq]; exact decide_eq_true he)) rfl
  case unexpected => exact act_leaves h (epCompletionReceive_of_free hr hp hl ht)
  case error =>
    refine act_leaves h ((epCompletionReceive_of_used hr hp hl ht he).trans ((if_pos (Or.inl hs)).trans ?_))
    simp only [hx] <;> rfl
  case poisoned =>
    refine act_leaves h ((epCompletionReceive_of_used hr hp hl ht he).trans ((if_pos (Or.inr hx)).trans ?_))
    simp only [hx, hs] <;> rfl
  case last => exact act_leaves h ((epCompletionReceive_of_used hr hp hl ht he).trans ((if_neg (by simp [hs, hx])).trans (if_pos (by simpa using hl'))))
  case more => exact act_leaves h ((epCompletionReceive_of_used hr hp hl ht he).trans ((if_neg (by simp [hs, hx])).trans (if_neg (by simpa using hl'))))

end Sys2Proof.Machine
end

section
-- One proof at a time: hundreds at once need more threads than the memory limit of the check has room for.
set_option Elab.async false
/-! ### The Corolo rings (O34, O35, O36) -/

namespace Sys2Proof.Machine
variable {s t : State} {q op idx : Nat} {es : List Bytes} {x : State × Nat} {act : Nat → List Bytes → State → State}

/-! #### A job whose turn has come -/

theorem startJob_of_refused {f : Bool} {code : Nat} (hn : s.nextJob q = some (es, f)) (ho : fld (es.getD 0 []) 0 1 = op) (ht : s.jobTurn q = true) (hx : x = takeJob q es s)
    (hr : x.1.jobRefused q op f = some code) : startJob q op act s = failUnknown 64 q (endJob q x.2 (some (1, code, 0)) x.1) := by
  subst hx ho
  simp only [startJob, hn]
  refine (if_neg (by simp [ht])).trans ?_
  simp only [hr]

theorem startJob_of_notRefused {f : Bool} (hn : s.nextJob q = some (es, f)) (ho : fld (es.getD 0 []) 0 1 = op) (ht : s.jobTurn q = true) (hx : x = takeJob q es s)
    (hr : x.1.jobRefused q op f = none) : startJob q op act s = failUnknown 64 q (act x.2 es x.1) := by
  subst hx ho
  simp only [startJob, hn]
  refine (if_neg (by simp [ht])).trans ?_
  simp only [hr]

theorem startJob_of_flags (hn : s.nextJob q = some (es, false)) (ho : fld (es.getD 0 []) 0 1 = op) (ht : s.jobTurn q = true) (hx : x = takeJob q es s) :
    startJob q op act s = failUnknown 64 q (endJob q x.2 (some (1, 2, 0)) x.1) :=
  startJob_of_refused hn ho ht hx rfl

theorem startJob_of_wrongRing (hn : s.nextJob q = some (es, true)) (ho : fld (es.getD 0 []) 0 1 = op) (ht : s.jobTurn q = true) (hx : x = takeJob q es s)
    (hj : jobOps.contains op = true) (ha : x.1.opAllowed q op = false) : startJob q op act s = failUnknown 64 q (endJob q x.2 (some (1, 6, 0)) x.1) :=
  startJob_of_refused hn ho ht hx ((if_neg Bool.false_ne_true).trans ((if_neg (not_bnot hj)).trans (if_pos (bnot_of ha))))

theorem startJob_of_allowed (hn : s.nextJob q = some (es, true)) (ho : fld (es.getD 0 []) 0 1 = op) (ht : s.jobTurn q = true) (hx : x = takeJob q es s)
    (hj : jobOps.contains op = true) (ha : x.1.opAllowed q op = true) : startJob q op act s = failUnknown 64 q (act x.2 es x.1) :=
  startJob_of_notRefused hn ho ht hx ((if_neg Bool.false_ne_true).trans ((if_neg (not_bnot hj)).trans (if_neg (not_bnot ha))))

theorem volumeJob_of_fails {kind : Nat} {r : Nat × Nat × Nat} (h : s.jobFails (s.ring q).assoc kind es = some r) :
    volumeJob q kind act idx es s = endJob q idx (some r) (if r.2.1 % 32768 = 0x83 then s.count Ev.hostConf 0 else s) := by
  simp only [volumeJob, h]

theorem volumeJob_of_passes {kind : Nat} (h : s.jobFails (s.ring q).assoc kind es = none) : volumeJob q kind act idx es s = act idx es s := by
  simp only [volumeJob, h]

/-- Settles O34: a job whose turn has come is refused by its flags or ring, fails a check, or starts. -/
theorem volumeJobsAndExchangesTakeEffect : Obligations.VolumeJobsAndExchangesTakeEffect := by
  refine ⟨fun s q op c msg es f x h hm hn ho ht hx => ⟨fun hf => ?flags, fun hf ha => ?wrongRing⟩, fun s q op kind c es x r h hm hn ho ht hx ha hr => ?fails,
    fun s q es e x y h hn he ht hx => ⟨fun ho ha hj hy => ?read, fun ho ha hj hy => ?write, fun ho ha hj => ?flush, fun ho ha hj hy => ?deallocate, fun msg ho ha => ?exchange⟩,
    fun s q es => rfl⟩
  case flags =>
    subst hf
    simp only [List.mem_cons, Prod.mk.injEq, List.not_mem_nil, or_false] at hm
    rcases hm with ⟨rfl, rfl⟩ | ⟨rfl, rfl⟩ | ⟨rfl, rfl⟩ | ⟨rfl, rfl⟩ | ⟨rfl, rfl⟩ <;> exact act_leaves h (startJob_of_flags hn ho ht hx)
  case wrongRing =>
    subst hf
    simp only [List.mem_cons, Prod.mk.injEq, List.not_mem_nil, or_false] at hm
    rcases hm with ⟨rfl, rfl⟩ | ⟨rfl, rfl⟩ | ⟨rfl, rfl⟩ | ⟨rfl, rfl⟩ | ⟨rfl, rfl⟩ <;> exact act_leaves h (startJob_of_wrongRing hn ho ht hx rfl ha)
  case fails =>
    simp only [List.mem_cons, Prod.mk.injEq, List.not_mem_nil, or_false] at hm
    rcases hm with ⟨rfl, rfl, rfl⟩ | ⟨rfl, rfl, rfl⟩ | ⟨rfl, rfl, rfl⟩ | ⟨rfl, rfl, rfl⟩ <;>
      exact act_leaves h ((startJob_of_allowed hn ho ht hx rfl ha).trans (congrArg _ (volumeJob_of_fails hr)))
  case read =>
    subst he hy
    exact act_leaves h ((startJob_of_allowed hn ho ht hx rfl ha).trans (congrArg _ (volumeJob_of_passes hj)))
  case write =>
    subst he hy
    exact act_leaves h ((startJob_of_allowed hn ho ht hx rfl ha).trans (congrArg _ (volumeJob_of_passes hj)))
  case flush =>
    subst he
    exact act_leaves h ((startJob_of_allowed hn ho ht hx rfl ha).trans (congrArg _ (volumeJob_of_passes hj)))
  case deallocate =>
    subst he hy
    exact act_leaves h ((startJob_of_allowed hn ho ht hx rfl ha).trans (congrArg _ (volumeJob_of_passes hj)))
  case exchange =>
    subst he
    exact act_leaves h (startJob_of_allowed hn ho ht hx rfl ha)

/-! #### The admin ring -/

section
variable {accept : Nat → Bool} {go : Nat → Nat → Bytes → State → State}

/-- A job of the admin ring on a ring number out of range (R429). -/
theorem adminJob_of_range (hl : es.length = 1) (hq : q = fld (es.getD 0 []) 8 2) (h : q = 0 ∨ 4096 ≤ q) :
    adminJob accept go idx es s = endJob 0 idx (some (4, 1, 0)) s := by
  subst hq
  exact (if_neg (not_not_intro hl)).trans (if_pos h)

/-- A job on a ring in another state, or with a change that waits. -/
theorem adminJob_of_state (hl : es.length = 1) (hq : q = fld (es.getD 0 []) 8 2) (h₁ : q ≠ 0) (h₂ : q < 4096) (h : accept (s.ring q).state = false ∨ (s.ring q).change ≠ none) :
    adminJob accept go idx es s = endJob 0 idx (some (4, 2, 0)) s := by
  subst hq
  refine (if_neg (not_not_intro hl)).trans ((if_neg (by omega)).trans (if_pos ?_))
  exact h.imp bnot_of Option.isSome_iff_ne_none.mpr

theorem adminJob_of_accepted (hl : es.length = 1) (hq : q = fld (es.getD 0 []) 8 2) (h₁ : q ≠ 0) (h₂ : q < 4096) (ha : accept (s.ring q).state = true)
    (hc : (s.ring q).change = none) : adminJob accept go idx es s = go q idx (es.getD 0 []) s := by
  subst hq
  refine (if_neg (not_not_intro hl)).trans ((if_neg (by omega)).trans (if_neg (not_or.mpr ⟨not_bnot ha, ?_⟩)))
  rw [hc]
  exact Bool.false_ne_true

end

/-- A write of an open BAR (R395). -/
theorem barWrite_of_open {ev : Nat} {f : State → State} (hb : s.barOpen = true) : barWrite ev 4 f s = f (s.count ev 0) := by
  have hl : (s.epRuns && s.ep.link) = true := by
    simp only [State.barOpen, Bool.and_eq_true] at hb
    exact and_true_of hb.1.1.1 hb.1.1.2
  refine (if_pos hl).trans (if_neg ?_)
  rintro (h | h)
  · exact not_bnot (show (s.count ev 0).barOpen = true from hb) h
  · exact h.1 rfl

theorem adminOn_of_free (hs : (s.ring 0).state = 0 ∨ (s.ring 0).state = 4) (hu : s.cor.setupOk = true) (hr : s.cor.reset = none) :
    adminOn s =
      { s with cor.enable := true }.onRing 0 (fun r => { r with base := s.cor.base, size := s.cor.size, headAddr := s.cor.headAddr, excBase := s.cor.excBase, excSize := s.cor.excSize, vector := s.cor.vector, modCount := s.cor.modCount, modTime := s.cor.modTime, mgmt := true, change := some (.run s.cor.start) }) :=
  if_pos ⟨hs, hu, by rw [show s.muted = s.cor.reset.isSome from rfl, hr]; rfl⟩

/-- Settles O35: an admin job is refused by the number or state of the ring it names, or changes it. -/
theorem adminJobsTakeEffect : Obligations.AdminJobsTakeEffect := by
  refine ⟨fun s op c es e q x h hm hn he ho ht hx hq hl => ⟨fun hr => ?range, fun h₁ h₂ hs => ?wrongState⟩,
    fun s es e q x t h hn he ht hx hq hl h₁ h₂ hc hf => ⟨fun ho hs hb hz hxb hxz hh ha hv hg => ?create, fun ho hs => ?disable, fun ho hs => ?free, fun ho hs hs' => ?destroy,
      fun ho hs => ?moderate, fun ho hs => ?enable⟩, fun s t h hb ht => ⟨fun hs hu hr => ?adminOn, fun hs => ?adminOff, ?clear⟩⟩
  case range =>
    subst he
    simp only [List.mem_cons, Prod.mk.injEq, List.not_mem_nil, or_false] at hm
    rcases hm with ⟨rfl, rfl⟩ | ⟨rfl, rfl⟩ | ⟨rfl, rfl⟩ | ⟨rfl, rfl⟩ | ⟨rfl, rfl⟩ <;>
      exact up_leaves h ((startJob_of_allowed hn ho ht hx rfl rfl).trans (congrArg _ (adminJob_of_range hl hq hr)))
  case wrongState =>
    subst he
    simp only [List.mem_cons, Prod.mk.injEq, List.not_mem_nil, or_false] at hm
    rcases hm with ⟨rfl, rfl⟩ | ⟨rfl, rfl⟩ | ⟨rfl, rfl⟩ | ⟨rfl, rfl⟩ | ⟨rfl, rfl⟩ <;>
      exact up_leaves h ((startJob_of_allowed hn ho ht hx rfl rfl).trans (congrArg _ (adminJob_of_state hl hq h₁ h₂ (by simpa using hs.symm))))
  case create =>
    subst he
    refine up_leaves h ((startJob_of_allowed hn ho ht hx rfl rfl).trans (congrArg _ ((adminJob_of_accepted hl hq h₁ h₂ (decide_eq_true hs) hc).trans ?_)))
    refine (if_neg (by simp only [hb, hz, hxb, hxz, hh]; decide)).trans ((if_neg (not_bnot ha)).trans ((if_neg (Nat.not_le.mpr hv)).trans (if_neg ?_)))
    rintro ⟨hm, h0⟩
    exact hg hm h0
  case disable =>
    subst he
    exact up_leaves h ((startJob_of_allowed hn ho ht hx rfl rfl).trans (congrArg _ (adminJob_of_accepted hl hq h₁ h₂ (by simpa using hs) hc)))
  case free =>
    subst he
    refine up_leaves h ((startJob_of_allowed hn ho ht hx rfl rfl).trans (congrArg _ ((adminJob_of_accepted hl hq h₁ h₂ ?_ hc).trans (if_pos hs))))
    rw [hs]
    rfl
  case destroy =>
    subst he
    exact up_leaves h ((startJob_of_allowed hn ho ht hx rfl rfl).trans (congrArg _ ((adminJob_of_accepted hl hq h₁ h₂ (decide_eq_true hs) hc).trans (if_neg hs'))))
  case moderate =>
    subst he
    exact up_leaves h ((startJob_of_allowed hn ho ht hx rfl rfl).trans (congrArg _ (adminJob_of_accepted hl hq h₁ h₂ (decide_eq_true hs) hc)))
  case enable =>
    subst he
    exact up_leaves h ((startJob_of_allowed hn ho ht hx rfl rfl).trans (congrArg _ (adminJob_of_accepted hl hq h₁ h₂ (decide_eq_true hs) hc)))
  case adminOn =>
    subst ht
    exact up_leaves h ((barWrite_of_open hb).trans (adminOn_of_free hs hu hr))
  case adminOff =>
    subst ht
    exact up_leaves h ((barWrite_of_open hb).trans (if_pos hs))
  case clear =>
    subst ht
    exact up_leaves h (barWrite_of_open hb)

end Sys2Proof.Machine
end

section
-- One proof at a time: hundreds at once need more threads than the memory limit of the check has room for.
set_option Elab.async false
/-! ### Doorbells and heads (O36) -/

namespace Sys2Proof.Machine
variable {s t : State} {q ev tag : Nat} {f : State → State}

theorem doorbell_of_barOpen (hq : q < 4096) (hb : s.barOpen = true) :
    doorbell ev q f s = if ((s.count Ev.bar2 0).ring q).state = 1 ∧ !(s.count Ev.bar2 0).ep.dead
      then f (if ev = 0 then s.count Ev.bar2 0 else (s.count Ev.bar2 0).count ev q) else (if ev = 0 then s.count Ev.bar2 0 else (s.count Ev.bar2 0).count ev q).count Ev.dbIgn q := by
  have hd : s.d3 = false := by
    simp only [State.barOpen, Bool.and_eq_true] at hb
    exact (Bool.not_eq_true' _).mp hb.2
  refine (if_pos (decide_eq_true hq)).trans ((if_neg (by rw [hd, Bool.and_false]; exact Bool.false_ne_true)).trans ((barWrite_of_open hb).trans ?_))
  by_cases he : ev = 0
  · simp only [if_pos he]
  · simp only [if_neg he] <;> rfl

/-- A doorbell of a ring that runs (R424). -/
theorem doorbell_of_running (hq : q < 4096) (hb : s.barOpen = true) (hs : (s.ring q).state = 1) (hd : s.ep.dead = false) :
    doorbell ev q f s = f (if ev = 0 then s.count Ev.bar2 0 else (s.count Ev.bar2 0).count ev q) :=
  (doorbell_of_barOpen hq hb).trans (if_pos ⟨hs, bnot_of hd⟩)

/-- A doorbell of a ring that does not run is ignored and counted. -/
theorem doorbell_of_stopped (hq : q < 4096) (hb : s.barOpen = true) (h : (s.ring q).state ≠ 1 ∨ s.ep.dead = true) :
    doorbell ev q f s = (if ev = 0 then s.count Ev.bar2 0 else (s.count Ev.bar2 0).count ev q).count Ev.dbIgn q := by
  refine (doorbell_of_barOpen hq hb).trans (if_neg ?_)
  rintro ⟨hs, hd⟩
  rcases h with h | h
  · exact h hs
  · exact not_bnot h hd

theorem onRing_congr {f g : Ring → Ring} (h : f (s.ring q) = g (s.ring q)) : s.onRing q f = s.onRing q g :=
  congrArg (fun r => { s with cor.rings := tset s.cor.rings q r }) h

/-- A push that advances the tail within the ring takes what stands in the push slot (R424). -/
theorem newTail_of_pushed {v : Nat} {r : Ring} (hr : r = s.ring q) (h0 : 0 < sub32 v r.tail) (hl : sub32 v r.tail < 2 ^ 31) (hb : sub32 v r.head ≤ r.size) :
    newTail true q v s = (s.onRing q (fun x => { x with tail := v % 2 ^ 32, pushed := (List.range' 0 (min 4 (sub32 v r.tail))).foldl (fun p i => tset p (add32 r.tail i) (sub r.push (64 * i) 64)) x.pushed })).count Ev.pushed q (min 4 (sub32 v r.tail)) := by
  subst hr
  simp only [newTail, if_neg (Nat.ne_of_gt h0), if_neg (Nat.not_le.mpr hl), if_neg (Nat.not_lt.mpr hb), if_true]
  exact congrArg (State.count · Ev.pushed q _) (onRing_congr rfl)

/-- A ring with a passable job and room for its posted writes (R426). -/
theorem headPublish_of_passable {j : Job} {l : List Job} (hm : s.muted = false) (he : s.epSends = true) (hw : s.ep.writes = []) (h₁ : 1 ≤ (s.ring q).state) (h₃ : (s.ring q).state ≤ 3)
    (hj : (s.ring q).jobs = j :: l) (hp : Job.passable s.bell.edges j = true) : headPublish q s = publish q s :=
  if_pos (and_true_of (and_true_of (and_true_of (and_true_of (and_true_of (bnot_of hm) he) (by rw [hw]; rfl)) (decide_eq_true h₁)) (decide_eq_true h₃)) (by rw [hj]; exact hp))

theorem modTimeExpiry_of_due (hm : s.muted = false) (ht : (s.ring q).modTime ≠ 0) (hp : (s.ring q).passed ≠ 0) (he : (s.ring q).passEdge + (s.ring q).modTime ≤ s.bell.edges) :
    modTimeExpiry q s = ringMessage q s :=
  if_pos (and_true_of (and_true_of (and_true_of (bnot_of hm) (decide_eq_true ht)) (decide_eq_true hp)) (decide_eq_true (le_since he)))

theorem all_ended {l : List Job} {e : Nat} (h : ∀ j ∈ l, ∃ n, j.ended = some n ∧ n < e) : l.all (fun j => j.ended.any (· < e)) = true := by
  refine List.all_eq_true.mpr (fun j hj => ?_)
  obtain ⟨n, hn, hl⟩ := h j hj
  rw [hn]
  exact decide_eq_true hl

theorem entryFetchComplete_of_oldest {u : TagUse} {es : List Bytes} {status : Nat} (h : s.ep.tags.find? (fun t => t.2.use.entriesOf q) = some (tag, u)) :
    entryFetchComplete q es status s = epCompletionReceive tag { status := if status = 8 then 0 else status, poisoned := status = 8, data := es.flatMap (padTo 64) } s := by
  simp only [entryFetchComplete, h]

/-- Settles O36: a tail by its distance from the old one, a fetch by its completion, a head by its jobs. -/
theorem doorbellsAndHeadsTakeEffect : Obligations.DoorbellsAndHeadsTakeEffect := by
  refine ⟨fun s t q v d r h hq hb ht hr hs he hd => ⟨fun h0 => ?tailSame, fun hl => ?tailBehind, fun h0 hl hb' => ?tailBeyond, fun h0 hl hb' => ?tail⟩,
    fun s t q v d r h hq hb ht hr hs he hd => ⟨fun h0 => ?pushSame, fun hl => ?pushBehind, fun h0 hl hb' => ?pushBeyond, fun h0 hl hb' => ?push⟩,
    fun s q v h hq hb => ⟨fun hs he => ?excCons, fun hs => ⟨?excIgnored, ?tailIgnored, ?pushIgnored⟩⟩,
    fun s t q tag u es b h hb hf hu hr hp hl he ht => ⟨fun hle => ?last, fun hle => ?more, ?unsupported, ?aborted, ?poisoned⟩,
    fun s q j l h hm he hw h₁ h₃ hj hp => ?publish, fun s q h hm ht hp he => ?moderation, fun s a b d q r h hr hs hm hg hj ha hb hd => ?drained⟩
  case tailSame =>
    subst ht hr hd
    exact up_leaves h ((doorbell_of_running hq hb hs he).trans (if_pos h0))
  case tailBehind =>
    subst ht hr hd
    exact up_leaves h ((doorbell_of_running hq hb hs he).trans ((if_neg (Nat.ne_of_gt (Nat.lt_of_lt_of_le (Nat.two_pow_pos 31) hl))).trans (if_pos hl)))
  case tailBeyond =>
    subst ht hr hd
    exact up_leaves h ((doorbell_of_running hq hb hs he).trans ((if_neg (Nat.ne_of_gt h0)).trans ((if_neg (Nat.not_le.mpr hl)).trans (if_pos hb'))))
  case tail =>
    subst ht hr hd
    exact up_leaves h ((doorbell_of_running hq hb hs he).trans ((if_neg (Nat.ne_of_gt h0)).trans ((if_neg (Nat.not_le.mpr hl)).trans ((if_neg (Nat.not_lt.mpr hb')).trans (if_neg Bool.false_ne_true)))))
  case pushSame =>
    subst ht hr hd
    exact up_leaves h ((doorbell_of_running hq hb hs he).trans (if_pos h0))
  case pushBehind =>
    subst ht hr hd
    exact up_leaves h ((doorbell_of_running hq hb hs he).trans ((if_neg (Nat.ne_of_gt (Nat.lt_of_lt_of_le (Nat.two_pow_pos 31) hl))).trans (if_pos hl)))
  case pushBeyond =>
    subst ht hr hd
    exact up_leaves h ((doorbell_of_running hq hb hs he).trans ((if_neg (Nat.ne_of_gt h0)).trans ((if_neg (Nat.not_le.mpr hl)).trans (if_pos hb'))))
  case push =>
    have hr' : r = t.ring q := by
      rw [hr, ht] <;> rfl
    subst hd
    refine up_leaves h ((doorbell_of_running hq hb (by rw [← hr]; exact hs) he).trans (Eq.trans ?_ (newTail_of_pushed hr' h0 hl hb')))
    rw [ht] <;> rfl
  case excCons => exact up_leaves h (doorbell_of_running hq hb hs he)
  case excIgnored => exact up_leaves h (doorbell_of_stopped hq hb hs)
  case tailIgnored => exact up_leaves h (doorbell_of_stopped hq hb hs)
  case pushIgnored => exact up_leaves h (doorbell_of_stopped hq hb hs)
  case last =>
    subst hb ht
    exact act_leaves h ((entryFetchComplete_of_oldest hf).trans ((epCompletionReceive_of_used hr hp hl hu he).trans ((if_neg (by simp)).trans (if_pos hle))))
  case more =>
    subst hb ht
    exact act_leaves h ((entryFetchComplete_of_oldest hf).trans ((epCompletionReceive_of_used hr hp hl hu he).trans ((if_neg (by simp)).trans (if_neg (Nat.not_le.mpr hle)))))
  case unsupported =>
    subst hb ht
    exact act_leaves h ((entryFetchComplete_of_oldest hf).trans ((epCompletionReceive_of_used hr hp hl hu he).trans (if_pos (Or.inl (by simp)))))
  case aborted =>
    subst hb ht
    exact act_leaves h ((entryFetchComplete_of_oldest hf).trans ((epCompletionReceive_of_used hr hp hl hu he).trans (if_pos (Or.inl (by simp)))))
  case poisoned =>
    subst hb ht
    exact act_leaves h ((entryFetchComplete_of_oldest hf).trans ((epCompletionReceive_of_used hr hp hl hu he).trans (if_pos (Or.inr rfl))))
  case publish => exact up_leaves h (headPublish_of_passable hm he hw h₁ h₃ hj hp)
  case moderation => exact up_leaves h (modTimeExpiry_of_due hm ht hp he)
  case drained =>
    subst hd hb ha hr
    exact up_leaves h (if_pos (and_true_of (and_true_of (and_true_of (decide_eq_true hs) (bnot_of hm)) hg) (all_ended hj)))

end Sys2Proof.Machine
end

section
-- One proof at a time: hundreds at once need more threads than the memory limit of the check has room for.
set_option Elab.async false
/-! ### Faults and memory protection (O37, O38) -/

namespace Sys2Proof.Machine
variable {s t : State} {par p : Bytes} {n e : Nat}

/-! #### The fault collector's objects -/

theorem sourceCfgWrite_of_severities {j : Nat} {v : Bytes} (hj : j < 16) (hl : v.length ≤ 32) (hs : ∀ i < 32, fld (padTo 32 v) i 1 % 8 < 5) :
    sourceCfgWrite j v s = ((s.setObj (0x780040 + j) ((List.range' 0 32).map (fun i => if (defaultSeverity (32 * j + i)).isSome then (padTo 32 v).getD i 0 &&& 0x87#8 else 0#8))).persist).status 0 := by
  refine (if_neg (Nat.not_le.mpr hj)).trans ((if_neg (Nat.not_lt.mpr hl)).trans (if_neg (fun h => ?_)))
  obtain ⟨i, hi, h₅⟩ := List.any_eq_true.mp h
  exact Nat.not_le.mpr (hs i (by simpa using hi)) (of_decide_eq_true h₅)

theorem sourceCfgWrite_of_badSeverity {j i : Nat} {v : Bytes} (hj : j < 16) (hl : v.length ≤ 32) (hi : i < 32) (h₅ : 5 ≤ fld (padTo 32 v) i 1 % 8) : sourceCfgWrite j v s = s.status 4 :=
  (if_neg (Nat.not_le.mpr hj)).trans ((if_neg (Nat.not_lt.mpr hl)).trans (if_pos (List.any_eq_true.mpr ⟨i, by simpa using hi, decide_eq_true h₅⟩)))

/-- A time that lies more than the quiet period back (R474). -/
theorem quietSince_of (h : e + s.objN 0x780002 1048576 < s.bell.edges) : s.quietSince e = true :=
  and_true_of (decide_eq_true (by omega)) (decide_eq_true (Nat.le_sub_one_of_lt h))

/-- The regions a halt fences (R470): those of the ridges but their links' region, and the Saddle's but PD-AO. -/
theorem mem_haltRegions (d r : Nat) : (d, r) ∈ haltRegions ↔ d < 4 ∧ r < 5 ∨ d = 4 ∧ r < 7 ∧ r ≠ 2 := by
  simp only [haltRegions, List.mem_append, List.mem_flatMap, List.mem_map, List.mem_range'_1, List.mem_cons, Prod.mk.injEq, List.not_mem_nil, or_false]
  constructor
  · rintro (⟨a, ha, b, hb, rfl, rfl⟩ | h)
    · omega
    · omega
  · rintro (⟨hd, hr⟩ | h)
    · exact Or.inl ⟨d, by omega, r, by omega, rfl, rfl⟩
    · omega

theorem faultFenceRelease_of_quiet {d r : Nat} {f : FaultFence} (hf : tget s.flt.fences (regionKey d r) = some f) (hp : f.permanent = false) (hq : s.quietSince f.lastEdge = true)
    (ht : t = { s with flt.fences := terase s.flt.fences (regionKey d r) }.count Ev.fncRel 0) :
    faultFenceRelease d r s = if t.fenced d r then t else runMems d r t := by
  subst ht
  simp only [faultFenceRelease, hf]
  exact if_pos (and_true_of (bnot_of hp) hq)

/-- Settles O37: a value by its range, a source or fence by the quiet period. -/
theorem faultObjectsAndRecoveryTakeEffect : Obligations.FaultObjectsAndRecoveryTakeEffect := by
  refine ⟨fun s j v h hj => ⟨fun hl hs => ?cfg, fun hl hs => ?cfgSeverity, fun hl => ?cfgLong⟩, fun s sev v w h hs hw => ⟨fun ha => ?actions, fun h₁ h₂ => ?noActions⟩,
    fun s par h hl => ⟨fun hd => ?inject, fun hd => ?unused⟩, fun s v h => ⟨fun hv => ?hold, fun hv => ?badHold, ?rearm, fun hv => ?badRearm⟩,
    fun s e h he hl => ?halt, mem_haltRegions, fun s e h he hl => ?pulse, fun s src x h hx ha hl => ?recovery, fun s t d r f h hf hp hl ht => ?release⟩
  case cfg => exact up_gives h (sourceCfgWrite_of_severities hj hl hs) rfl
  case cfgSeverity =>
    obtain ⟨i, hi, h₅⟩ := hs
    exact up_gives h (sourceCfgWrite_of_badSeverity hj hl hi h₅) rfl
  case cfgLong => exact up_gives h ((if_neg (Nat.not_le.mpr hj)).trans (if_pos hl)) rfl
  case actions =>
    subst hw
    exact up_gives h ((if_neg (Nat.not_le.mpr hs)).trans (if_neg (by omega))) rfl
  case noActions =>
    subst hw
    exact up_gives h ((if_neg (Nat.not_le.mpr hs)).trans (if_pos ⟨h₁, h₂⟩)) rfl
  case inject => exact up_leaves h ((if_neg (Nat.not_lt.mpr hl)).trans (if_neg (by rw [Option.isNone_iff_eq_none]; exact Option.isSome_iff_ne_none.mp hd)))
  case unused => exact up_gives h ((if_neg (Nat.not_lt.mpr hl)).trans (if_pos (by rw [hd]; rfl))) rfl
  case hold => exact up_gives h (if_pos hv) rfl
  case badHold => exact up_gives h (if_neg (Nat.not_lt.mpr hv)) rfl
  case rearm => exact up_gives h (if_pos rfl) rfl
  case badRearm => exact up_gives h (if_neg hv) rfl
  case halt => exact up_leaves h (if_pos (by rw [he]; exact decide_eq_true hl))
  case pulse => exact up_gives h (if_pos (by rw [he]; exact decide_eq_true (le_since hl))) rfl
  case recovery =>
    subst hx
    exact up_gives h (if_pos (and_true_of (decide_eq_true ha) (quietSince_of hl))) rfl
  case release => exact up_leaves h (faultFenceRelease_of_quiet hf hp (quietSince_of hl) ht)

/-! #### Fills, checker tests and corrected words -/

section
variable {go : Nat → MemDesc → Nat → State → State} {m : MemDesc}

theorem testAccess_of_none (h : memOf (fld p 2 2) = none) : testAccess p s go = s.done mpSet 1 := by
  simp only [testAccess, h]

theorem testAccess_of_past (h : memOf (fld p 2 2) = some m) (ha : m.bytes ≤ fld p 8 8 * 8) : testAccess p s go = s.done mpSet 1 := by
  simp only [testAccess, h, if_pos ha]

theorem testAccess_of_unfenced (h : memOf (fld p 2 2) = some m) (ha : fld p 8 8 * 8 < m.bytes) (hi : isStack (fld p 2 2) = false) (hf : s.cmdFenced (fld p 2 2 / 256) m.region = false) :
    testAccess p s go = s.done mpSet 2 := by
  simp only [testAccess, h, if_neg (Nat.not_le.mpr ha)]
  exact if_pos (and_true_of (bnot_of hi) (bnot_of hf))

theorem testAccess_of_fenced (h : memOf (fld p 2 2) = some m) (ha : fld p 8 8 * 8 < m.bytes) (hf : s.cmdFenced (fld p 2 2 / 256) m.region = true) :
    testAccess p s go = go (fld p 2 2) m (fld p 8 8) s := by
  simp only [testAccess, h, if_neg (Nat.not_le.mpr ha)]
  exact if_neg (by rw [hf, Bool.not_true, Bool.and_false]; exact Bool.false_ne_true)

theorem testAccess_of_stack (h : memOf (fld p 2 2) = some m) (ha : fld p 8 8 * 8 < m.bytes) (hi : isStack (fld p 2 2) = true) :
    testAccess p s go = go (fld p 2 2) m (fld p 8 8) s := by
  simp only [testAccess, h, if_neg (Nat.not_le.mpr ha)]
  exact if_neg (by rw [hi]; exact Bool.false_ne_true)

end

/-- The checker test of a stack's word writes its bytes and its check bits (R483). -/
theorem testWrite_of_stack {m : MemDesc} (h : memOf (fld p 2 2) = some m) (ha : fld p 8 8 * 8 < m.bytes) (hi : isStack (fld p 2 2) = true) :
    testWrite p s =
      { s with mem := ((s.mem.write (stackByte (fld p 2 2) (fld p 8 8)) (sub p 16 8)).markPages (stackByte (fld p 2 2) (fld p 8 8) / 4096) 1).setCheck (stackByte (fld p 2 2) (fld p 8 8) / 8) (fld p 24 5 % (if m.wide then 256 else 2 ^ 40)) }.done mpSet 0 := by
  refine (testAccess_of_stack h ha hi).trans ?_
  simp only [hi, if_true]

theorem testRead_of_stack {m : MemDesc} {x d c : Nat} {w : Bool} (h : memOf (fld p 2 2) = some m) (ha : fld p 8 8 * 8 < m.bytes) (hi : isStack (fld p 2 2) = true)
    (hx : stackByte (fld p 2 2) (fld p 8 8) = x) (hd : ofLe (s.mem.read x 8) = d) (hc : (tget s.mem.checks (x / 8)).getD (Config.eccEncode true d) = c) (hw : s.mem.pageWritten x = w) :
    testRead p s = s.done mpSet 0 (le 8 d ++ le 5 c ++ le 5 (Config.eccCheck m.wide d c).1 ++ le 1 (if w then (Config.eccCheck m.wide d c).2 else 3)) := by
  subst hx hd hc hw
  refine (testAccess_of_stack h ha hi).trans ?_
  simp only [hi, if_true]

theorem done_mem_pending (s : State) (m : Hbm) : ({ s with mem := m }.done mpSet 0).pending = s.pending := rfl

theorem fillComplete_of_due {f : FillRun} (hf : s.mp.fill = some f) (hb : f.bells ≤ s.since f.edge + 1) :
    fillComplete s = (fillWords f { s with mp.fill := none }).1.doneNow mpSet 0 (le 8 (fillWords f { s with mp.fill := none }).2) := by
  simp only [fillComplete, hf]
  exact if_pos (decide_eq_true hb)

/-- A fill of HBM with both stacks on leaves its pattern in every word. -/
theorem fillWords_of_hbm {f : FillRun} (hh : f.hbm = true) (h₁ : s.domReleased 17 = true) (h₂ : s.domReleased 18 = true) :
    (fillWords f s).1.mem = (s.mem.lay f.base f.len (.word f.pattern)).markPages (f.base / 4096) (f.len / 4096) := by
  have hd : ∀ m, dropOffStacks { s with mem := m } = { s with mem := m } := by
    intro m
    have hn : (if ({ s with mem := m } : State).domReleased 17 then ({ s with mem := m } : State) else { s with mem := m.lose false }) = { s with mem := m } := if_pos h₁
    simp only [dropOffStacks, hn]
    exact if_pos h₂
  simp only [fillWords, hh, if_true, hd, State.count_mem]

theorem fillWords_length_of_hbm {f : FillRun} (hh : f.hbm = true) : (fillWords f s).2 = f.len := by
  simp only [fillWords, hh, if_true]

theorem correctedWriteback_of_waiting {i a : Nat} (h : (s.memInst i).writeBack.contains a = true)
    (ht : t = (s.onMem i (fun m => { m with writeBack := m.writeBack.filter (· ≠ a) })).count Ev.mWb i) {u : State}
    (hu : (if isStack i then
        match tget t.mem.checks (stackByte i a / 8) with
        | some c => t.hbmPut (stackByte i a) (le 8 (Config.eccFix (ofLe (t.mem.read (stackByte i a) 8)) c))
        | none => t
      else t) = u) : correctedWriteback i a s = u := by
  subst ht hu
  exact if_pos h

/-- Settles O38: a checker test by its instance and fence, a fill by its bells. -/
theorem memoryFillsTestsAndErrorsTakeEffect : Obligations.MemoryFillsTestsAndErrorsTakeEffect := by
  refine ⟨fun s t par p h hp ht => ⟨fun hr hf => ?fill, fun hr => ?noRegion, fun hr hf => ?unfenced, fun hb hl hs => ?hbm, fun hb => ?badRange, fun hm => ?query,
      fun hm => ⟨?noInstance, ?noWrite, ?noRead⟩⟩,
    fun s t par p i a m h hp ht hi ha hm => ⟨fun hl => ⟨?writePast, ?readPast⟩, fun hl hs hf => ⟨?writeUnfenced, ?readUnfenced⟩, fun hl hs hf => ⟨?write, fun x d c v hw => ?read⟩,
      fun hl hs => ⟨fun x hx => ?stackWrite, fun x d c hx hd hc => ?stackRead⟩⟩,
    fun s t f h hf hb ht => ⟨?filled, fun hh => ?pattern⟩, fun s t i a h hw ht => ⟨fun hs => ?word, fun c hs hc => ?stackWord⟩, fun s i h he hl hp => ?leak⟩
  case fill =>
    subst hp ht
    exact up_command_gives h ((if_neg (Nat.not_le.mpr hr)).trans (if_neg (not_bnot hf))) rfl
  case noRegion =>
    subst hp ht
    exact up_command_gives h (if_pos hr) rfl
  case unfenced =>
    subst hp ht
    exact up_command_gives h ((if_neg (Nat.not_le.mpr hr)).trans (if_pos (bnot_of hf))) rfl
  case hbm =>
    subst hp ht
    exact up_command_gives h (if_neg (by simp [hb, hl, hs])) rfl
  case badRange =>
    subst hp ht
    exact up_command_gives h (if_pos hb) rfl
  case query =>
    subst hp ht
    exact up_command_gives h (if_neg (by rw [Option.isNone_iff_eq_none]; exact Option.isSome_iff_ne_none.mp hm)) rfl
  case noInstance =>
    subst hp ht
    exact up_command_gives h (if_pos (by rw [hm]; rfl)) rfl
  case noWrite =>
    subst hp ht
    exact up_command_gives h (testAccess_of_none hm) rfl
  case noRead =>
    subst hp ht
    exact up_command_gives h (testAccess_of_none hm) rfl
  case writePast =>
    subst hp ht hi ha
    exact up_command_gives h (testAccess_of_past hm hl) rfl
  case readPast =>
    subst hp ht hi ha
    exact up_command_gives h (testAccess_of_past hm hl) rfl
  case writeUnfenced =>
    subst hp ht hi ha
    exact up_command_gives h (testAccess_of_unfenced hm hl hs hf) rfl
  case readUnfenced =>
    subst hp ht hi ha
    exact up_command_gives h (testAccess_of_unfenced hm hl hs hf) rfl
  case write =>
    subst hp ht hi ha
    exact up_command_gives h ((testAccess_of_fenced (s := s.accepted mpSet mpSet 40 par) hm hl hf).trans (congrArg (State.done · mpSet 0) (if_neg (ne_true_of_eq_false hs)))) rfl
  case read =>
    subst hp ht hi ha
    refine up_command_leaves h ((testAccess_of_fenced (s := s.accepted mpSet mpSet 40 par) hm hl hf).trans ?_)
    simp only [hs, Bool.false_eq_true, if_false, hw]
  case stackWrite =>
    subst hp ht hi ha hx
    exact up_command_gives h (testWrite_of_stack hm hl hs) (done_mem_pending _ _)
  case stackRead =>
    subst hp ht hi ha
    refine up_command_gives h (testRead_of_stack hm hl hs hx.symm ?_ ?_ ?_) rfl
    · rw [State.accepted_mem, hd]
    · rw [State.accepted_mem, hc]
    · rw [State.accepted_mem]
  case filled =>
    subst ht
    exact up_leaves h (fillComplete_of_due hf hb)
  case pattern =>
    subst ht
    exact ⟨fillWords_length_of_hbm hh, fun h₁ h₂ => fillWords_of_hbm hh h₁ h₂⟩
  case word => exact up_leaves h (correctedWriteback_of_waiting hw ht (if_neg (ne_true_of_eq_false hs)))
  case stackWord =>
    refine up_leaves h (correctedWriteback_of_waiting hw ht ((if_pos hs).trans ?_))
    subst ht
    have hc' : tget ((s.onMem i (fun m => { m with writeBack := m.writeBack.filter (· ≠ a) })).count Ev.mWb i).mem.checks (stackByte i a / 8) = some c := hc
    simp only [hc'] <;> rfl
  case leak => exact up_gives h (if_pos (and_true_of (and_true_of (decide_eq_true he) (decide_eq_true hl)) (decide_eq_true hp))) rfl

end Sys2Proof.Machine
end

section
-- One proof at a time: hundreds at once need more threads than the memory limit of the check has room for.
set_option Elab.async false
/-! ### Reset and bring-up (O39) -/

namespace Sys2Proof.Machine
variable {s t u : State} {d k : Nat}

/-! #### The reset causes -/

theorem takeCause_eq (k : Nat) (s : State) : takeCause k s = if s.rst.phase = .up then resetTaken k s else causeAgain k s := by
  unfold takeCause
  cases s.rst.phase <;> rfl

theorem mem_putIn (x : Nat) (l : List Nat) : x ∈ putIn x l := by
  unfold putIn
  split
  · next h => exact List.contains_iff_mem.mp h
  · exact List.mem_append_right _ (List.mem_singleton_self x)

theorem takeCause_phase (k : Nat) (s : State) : (takeCause k s).rst.phase = .cause := by
  rw [takeCause_eq]
  split <;> rfl

theorem mem_takeCause_holding (k : Nat) (s : State) : k ∈ (takeCause k s).rst.holding := by
  rw [takeCause_eq]
  split
  · exact List.mem_singleton_self k
  · exact mem_putIn k _

theorem takeCause_deciding (k : Nat) (s : State) : (takeCause k s).rst.deciding = if s.rst.phase = .up then k else min k s.rst.deciding := by
  rw [takeCause_eq]
  split <;> rfl

theorem takeCause_clockGood (k : Nat) (s : State) : (takeCause k s).hier.clockGood = [false, false, false, false, false, false] := by
  rw [takeCause_eq]
  split <;> rfl

theorem takeCause_fuseStatus (k : Nat) (s : State) : (takeCause k s).rst.fuseStatus = 0 := by
  rw [takeCause_eq]
  split <;> rfl

/-! #### The fuse load -/

/-- The events of `l` whose condition holds are recorded, in its order (R500). -/
def recordAll (die : Nat) (l : List (Bool × Nat)) (s : State) : State := l.foldl (fun s x => if x.1 then recordEvent x.2 die s else s) s

theorem recordAll_rst (die : Nat) (l : List (Bool × Nat)) (s : State) : (recordAll die l s).rst =
    { s.rst with recorded := s.rst.recorded ++ (l.filter (·.1)).map (fun x => { source := x.2, die := die, region := houseRegion die }) } := by
  induction l generalizing s with
  | nil => simp [recordAll]
  | cons x l ih =>
    obtain ⟨b, n⟩ := x
    cases b
    · exact ih s
    · refine (ih (recordEvent n die s)).trans ?_
      simp [recordEvent]

/-- The conditions and events of a die's fuse load. -/
def fuseEvents (die : Nat) (r : FuseResult) : List (Bool × Nat) := [(r.retried, 232), (!r.mapOk, 233), (!r.trimsOk, 234), (decide (die = 4) && !r.identityOk, 134)]

/-- The sixth die's fuse load starts the clocks. -/
def fuseEnd (s : State) : State :=
  if s.rst.valid.length = 6 then { s with rst.phase := .clocks, hier.clockGood := s.hier.clockGood.set 5 true } else s

theorem fuseEnd_rst (s : State) : (fuseEnd s).rst = { s.rst with phase := if s.rst.valid.length = 6 then .clocks else s.rst.phase } := by
  unfold fuseEnd
  split <;> rfl

theorem fuseLoadComplete_rst {r : FuseResult} (hp : s.rst.phase = .fuses) (hd : d < 6) (hv : d ∉ s.rst.valid) : (fuseLoadComplete d r s).rst =
    { s.rst with
      phase := if (putIn d s.rst.valid).length = 6 then .clocks else .fuses
      valid := putIn d s.rst.valid
      fuseStatus := s.rst.fuseStatus ||| flagWord [(d, !r.mapOk), (6 + d, !r.trimsOk), (12, d = 4 && !r.identityOk), (13, r.retried)]
      recorded := s.rst.recorded ++ ((fuseEvents d r).filter (·.1)).map (fun x => { source := x.2, die := d, region := houseRegion d }) } := by
  have hg : (s.rst.phase = .fuses && decide (d < 6) && !s.rst.valid.contains d) = true := and_true_of (and_true_of (decide_eq_true hp) (decide_eq_true hd)) (by simpa using hv)
  have hf : fuseLoadComplete d r s = fuseEnd (recordAll d (fuseEvents d r) { s with
      rst.valid := putIn d s.rst.valid
      rst.fuseStatus := s.rst.fuseStatus ||| flagWord [(d, !r.mapOk), (6 + d, !r.trimsOk), (12, d = 4 && !r.identityOk), (13, r.retried)]
      ciph.identityOk := s.ciph.identityOk && !(decide (d = 4) && !r.identityOk) }) := by
    refine (if_pos hg).trans ?_
    obtain ⟨re, m, tr, i⟩ := r
    cases m <;> cases tr <;> rfl
  rw [hf, fuseEnd_rst, recordAll_rst, hp]

/-! #### The Saddle's release -/

theorem foldl_onMem (f : MemInst → MemInst) (l : List Nat) (s : State) : ∃ m, l.foldl (fun s i => s.onMem i f) s = { s with mp := m } := by
  induction l generalizing s with
  | nil => exact ⟨s.mp, rfl⟩
  | cons i l ih =>
    obtain ⟨m, hm⟩ := ih (s.onMem i f)
    exact ⟨m, hm⟩

/-- The state that the Saddle's release leaves of `s`, its events those recorded (R501). -/
def saddleReleased (c : Nat) (r : ResetState) (m : Hbm) (s : State) : State :=
  { s with
    mem := if r.keep then ((m.unwrite false).unwrite true).markPages (r.dump.retBase / 4096) (r.dump.retLen / 4096) else {}
    rst := { r with
      phase := .up
      cause := c
      warm := if r.deciding = 3 then (r.warm + 1) % 2 ^ 32 else 0
      booting := true
      dump := if r.keep then { retained := true, retBase := r.dump.retBase, retLen := r.dump.retLen } else {}
      recorded := [] }
    flt.events := r.recorded }

theorem saddleReleased_retained (c : Nat) (r : ResetState) (m : Hbm) (s : State) : (saddleReleased c r m s).rst.dump.retained = r.keep := by
  unfold saddleReleased
  cases r.keep <;> rfl

theorem saddleRelease_of_settled (hp : s.rst.phase = .clocks) (hs : s.clocksSettled = true) :
    ∃ m, saddleRelease s = if 3 ≤ s.causeCode then (saddleReleased s.causeCode s.rst s.mem { s with mp := m }).fault 238 0 else saddleReleased s.causeCode s.rst s.mem { s with mp := m } := by
  obtain ⟨m, hm⟩ := foldl_onMem (fun m => { m with filled := some 0, ran := true }) [9, 265, 521, 777, 1034, 1281] s
  have hf : fillHouse s = { s with mp := m } := hm
  refine ⟨m, (if_pos (and_true_of (decide_eq_true hp) hs)).trans ?_⟩
  rw [hf] <;> rfl

theorem slotValid_emit (s : State) (e : Emission) (b : BootSlot) : (s.emit e).slotValid b = s.slotValid b := rfl

/-- The boot from slot `i`, read into `x`, or from the other slot, read into `y` (R334). -/
theorem erralVerifyComplete_of_booting {a b x y : BootSlot} {i : Nat} (hb : s.rst.booting = true) (hi : b2n (slotSvn a < slotSvn b) = i) (hx : x = (if i = 1 then b else a))
    (hy : y = (if i = 1 then a else b)) (hu : u = (s.emit (.norRead (slotBase (1 - i)) 256)).emit (.norRead (slotBase i) (256 + min (slotLen x) 3145728)))
    (ht : t = u.emit (.norRead (slotBase (1 - i)) (256 + min (slotLen y) 3145728))) :
    erralVerifyComplete a b s = if s.slotValid x then bootFrom i x false u else if s.slotValid y then bootFrom (1 - i) y true t
      else { t with rst.booting := false, ciph.bootHeld := true, flt.erralHold := true, ciph.measure := tset s.ciph.measure 0 Config.romDigest }.faultAt 135 4 9 0 := by
  subst hi hx hy hu ht
  refine (if_pos hb).trans ?_
  simp only [readSlot, slotValid_emit] <;> rfl

/-- Settles O39: each row by the phase of the reset it belongs to. -/
theorem resetAndBringUpTakeEffect : Obligations.ResetAndBringUpTakeEffect := by
  refine ⟨fun s t c k hm ht => ?cause, fun s a b f hp => ?causeEnd, fun s hp hs => ?stretchEnd, fun s t d r hp hd hv ht => ?fuses, fun s d r => ⟨_, rfl⟩, fun s d hp hd hh => ?clock,
    fun s d hp hc hh => ⟨fun hd => ?stopped, fun hd => ?heldOut⟩, fun s hp hs => ?release, fun s u v a b x y i h hb hi hx hy hu hv => ?boot, fun s k b w => ?booted,
    fun s t par h ht => ⟨fun hi => ?bringUp, fun hi => ?again⟩⟩
  case cause =>
    have hf : exec c s = .next { takeCause k s with pending := s.pending } := by
      simp only [List.mem_cons, Prod.mk.injEq, List.not_mem_nil, or_false] at hm
      rcases hm with ⟨rfl, rfl⟩ | ⟨rfl, rfl⟩ | ⟨rfl, rfl⟩ <;> rfl
    rw [← takeCause_eq] at ht
    subst ht
    refine ⟨hf, takeCause_phase k s, mem_takeCause_holding k s, takeCause_deciding k s, fun d hd => ?_, takeCause_fuseStatus k s⟩
    rw [show ({ takeCause k s with pending := s.pending } : State).hier = (takeCause k s).hier from rfl, takeCause_clockGood]
    have hall : ∀ d < 6, [false, false, false, false, false, false].getD d true = false := by decide
    exact hall d hd
  case causeEnd => exact effect_gives (if_pos (decide_eq_true hp)) rfl
  case stretchEnd => exact effect_gives (if_pos (and_true_of (decide_eq_true hp) hs)) rfl
  case fuses =>
    have hr : t.rst = (fuseLoadComplete d r s).rst := by
      cases ht
      rfl
    rw [hr, fuseLoadComplete_rst hp hd hv]
    exact ⟨rfl, rfl, rfl, rfl⟩
  case clock =>
    refine effect_gives (if_pos (and_true_of (and_true_of ?_ (decide_eq_true hd)) ?_)) rfl
    · rcases hp with hp | hp <;> rw [hp] <;> rfl
    · simpa using hh
  case stopped =>
    subst hd
    exact effect_gives ((if_pos (and_true_of (and_true_of (and_true_of (decide_eq_true hp) rfl) (bnot_of hc)) (by simpa using hh))).trans (if_pos rfl)) rfl
  case heldOut =>
    exact effect_gives ((if_pos (and_true_of (and_true_of (and_true_of (decide_eq_true hp) (decide_eq_true (Nat.lt_succ_of_lt hd))) (bnot_of hc)) (by simpa using hh))).trans (if_neg (Nat.ne_of_lt hd))) rfl
  case release =>
    obtain ⟨m, hr⟩ := saddleRelease_of_settled hp hs
    have he : saddleReleaseEdge s = sampleObjects (saddleRelease s) := if_pos ⟨by rw [hp]; decide, by rw [hr]; split <;> rfl⟩
    refine ⟨_, rfl, ?_⟩
    rw [he, hr]
    split
    · exact ⟨rfl, rfl, rfl, rfl, rfl, List.take_left' rfl, saddleReleased_retained s.causeCode s.rst s.mem { s with mp := m }⟩
    · exact ⟨rfl, rfl, rfl, rfl, rfl, List.take_length .., saddleReleased_retained s.causeCode s.rst s.mem { s with mp := m }⟩
  case boot =>
    have hi' : b2n (slotSvn a < slotSvn b) = i := by
      simp [hi, b2n]
    exact up_leaves h (erralVerifyComplete_of_booting hb hi' hx hy hu hv)
  case booted => cases w <;> exact ⟨rfl, rfl, rfl, rfl, rfl, rfl⟩
  case bringUp =>
    subst ht
    exact up_command_gives h (if_neg (ne_true_of_eq_false hi)) rfl
  case again =>
    subst ht
    exact up_command_gives h (if_pos hi) rfl

end Sys2Proof.Machine
end

section
-- One proof at a time: hundreds at once need more threads than the memory limit of the check has room for.
set_option Elab.async false
/-! ### Self-test, dump and test access (O40, O41) -/

namespace Sys2Proof.Machine
variable {s t u : State} {d k n : Nat} {p : Bytes}

/-! #### The built-in self-test -/

theorem bistStart_of_none (h : bistNamed p = none) : bistStart k p s = s.done bistSet 1 := by
  simp only [bistStart, h]

/-- One region that may not be tested (R504). -/
theorem bistStart_of_ineligible {r : Nat} (h : bistNamed p = some [r]) (h₁ : fld p 1 1 ≠ 0xFF) (h₂ : fld p 2 1 ≠ 0xFF) (hr : r ∉ testable ∨ s.bistSkip r ≠ 0) :
    bistStart k p s = s.done bistSet 2 := by
  simp only [bistStart, h]
  refine if_pos (and_true_of (and_true_of (decide_eq_true h₁) (decide_eq_true h₂)) ?_)
  simpa using hr

theorem foldl_of_fixed {α β : Type} {f : α → β → α} {a : α} {l : List β} (h : ∀ b ∈ l, f a b = a) : l.foldl f a = a := by
  induction l with
  | nil => rfl
  | cons b l ih =>
    rw [List.foldl_cons, h b List.mem_cons_self]
    exact ih (fun c hc => h c (List.mem_cons_of_mem _ hc))

/-- Named regions that may all be tested. -/
theorem bistStart_of_eligible {ks : List Nat} (h : bistNamed p = some ks) (hn : ks ≠ []) (hk : ∀ r ∈ ks, r ∈ testable ∧ s.bistSkip r = 0) :
    bistStart k p s = { s with rst.bist := some { kind := k, patterns := if fld p 4 4 = 0 then 65536 else fld p 4 4, seed := if fld p 8 8 = 0 then 1 else fld p 8 8, todo := ks, results := ks.foldl (fun r j => tset r j { kind := k, status := 0 }) [] } } := by
  have hall : ks.any (fun r => !testable.contains r || decide (s.bistSkip r ≠ 0)) = false := by
    refine List.any_eq_false.mpr (fun r hr => ?_)
    obtain ⟨ht, h0⟩ := hk r hr
    simp [ht, h0]
  have hf : ks.filter (fun k => decide (s.bistSkip k = 0)) = ks := List.filter_eq_self.mpr (fun r hr => decide_eq_true (hk r hr).2)
  have hc : ks.foldl (fun s k => let w := s.bistSkip k; if w = 0 then s else s.count (Ev.bistS2 + (w - 2)) 0) s = s := foldl_of_fixed (fun r hr => if_pos (hk r hr).2)
  have hr : ks.foldl (fun t r => tset t r { kind := k, status := s.bistSkip r }) ([] : Tbl BistEntry) = ks.foldl (fun t r => tset t r { kind := k, status := 0 }) [] :=
    List.foldl_rel rfl (fun r hm t u htu => by rw [htu, (hk r hm).2])
  have he : ¬ ks.isEmpty = true := by simpa using hn
  simp only [bistStart, h, hall, hf, hc, hr, if_neg he, Bool.and_false, Bool.false_eq_true, if_false]

theorem bistRegionComplete_of_next {r m : Nat} {b : BistRun} (hb : s.rst.bist = some b) (hr : r < 256) (hk : regionKey d r ∈ b.todo.take 4) (hs : s.bistSkip (regionKey d r) = 0)
    (hn : n = (if b.kind = 1 then 0 else m)) (ht : t = (if 0 < n then ((regionReset d r s).count (Ev.bistT1 + (b.kind - 1)) 0).faultAt 236 d r 0 else (regionReset d r s).count (Ev.bistT1 + (b.kind - 1)) 0)) :
    bistRegionComplete d r m s = bistNext { b with todo := b.todo.filter (· ≠ regionKey d r), results := tset b.results (regionKey d r) { kind := b.kind, status := 1, mismatches := n, logic := if b.kind = 2 then 0 else (Config.misr false (regionKey d r) Config.siliconRev b.seed b.patterns).toNat, memory := if b.kind = 1 then 0 else (Config.misr true (regionKey d r) Config.siliconRev b.seed b.patterns).toNat } } t := by
  subst hn ht
  simp only [bistRegionComplete, hb]
  refine (if_pos (and_true_of (List.contains_iff_mem.mpr hk) (decide_eq_true hr))).trans ((if_neg (not_not_intro hs)).trans rfl)

/-! #### The post-mortem dump -/

theorem dumpClose_fits {fs ss : List DumpSection} (hb : s.dumpBase ≠ 0) (hp : fld p 1 1 ≤ 8) (hk : ∀ e ∈ fs, 0x80 ≤ e.kind) (hl : sectionsEnd ss ≤ dumpArea) :
    ¬ (s.dumpBase = 0 ∨ 8 < fld p 1 1 ∨ fs.any (fun e => decide (e.kind < 0x80)) = true ∨ dumpArea < sectionsEnd ss) := by
  rintro (h | h | h | h)
  · exact hb h
  · exact Nat.not_lt.mpr hp h
  · obtain ⟨e, he, hlt⟩ := List.any_eq_true.mp h
    exact Nat.not_lt.mpr (hk e he) (of_decide_eq_true hlt)
  · exact Nat.not_lt.mpr hl h

theorem dumpClose_of_untaken {fs ss : List DumpSection} (hb : s.dumpBase ≠ 0) (hp : fld p 1 1 ≤ 8) (hf : fs = fwSections p (fld p 1 1) 0 (sectionsEnd s.rst.dump.sections))
    (hs : ss = s.rst.dump.sections ++ fs) (hk : ∀ e ∈ fs, 0x80 ≤ e.kind) (hl : sectionsEnd ss ≤ dumpArea)
    (h : s.rst.dump.captured = false ∨ s.rst.dump.closed = true ∨ s.hbmOn = false) : dumpClose p s = s.done resetSet 2 := by
  subst hs hf
  exact (if_neg (dumpClose_fits hb hp hk hl)).trans (if_pos (h.imp bnot_of (Or.imp id bnot_of)))

theorem dumpClose_of_taken {fs ss : List DumpSection} (hb : s.dumpBase ≠ 0) (hp : fld p 1 1 ≤ 8) (hf : fs = fwSections p (fld p 1 1) 0 (sectionsEnd s.rst.dump.sections))
    (hs : ss = s.rst.dump.sections ++ fs) (hk : ∀ e ∈ fs, 0x80 ≤ e.kind) (hl : sectionsEnd ss ≤ dumpArea) (ht : s.rst.dump.captured = true) (hc : s.rst.dump.closed = false) (ho : s.hbmOn = true) :
    dumpClose p s = ({ s.hbmPut s.dumpBase (putAt (dumpHeader ss (sectionsEnd ss) s) 120 (le 8 (crc64 (dumpHeader ss (sectionsEnd ss) s ++ s.mem.read (s.dumpBase + 4096) (sectionsEnd ss - 4096))))) with
      rst.dump := { s.rst.dump with closed := true, length := sectionsEnd ss, sections := ss } }.count Ev.dumpCl 0).done resetSet 0 := by
  subst hs hf
  exact (if_neg (dumpClose_fits hb hp hk hl)).trans (if_neg (by simp [ht, hc, ho]))

/-- Settles O40: a test by the regions it names, the dump by its base and state. -/
theorem selfTestAndDumpTakeEffect : Obligations.SelfTestAndDumpTakeEffect := by
  refine ⟨fun s t par p c k h hp ht hm => ⟨fun hn => ?nothing, fun r hn h₁ h₂ hr => ?ineligible, fun ks hn hk hr => ?start⟩,
    fun s t d r m n b x h hb hr hk hs hn hx ht => ?region,
    fun s t par p h hp ht => ⟨fun hb => ⟨?captureNoBase, ?closeNoBase⟩, fun hb hc => ?captureClosed, fun hb hc => ?capture, ?clear,
      fun fs ss hb hn hf hs hk hl => ⟨fun hc => ?closeRefused, fun hc hd ho => ?close⟩⟩,
    fun s lens m kinds h hr hk => ?captured⟩
  case nothing =>
    subst hp ht
    simp only [List.mem_cons, Prod.mk.injEq, List.not_mem_nil, or_false] at hm
    rcases hm with ⟨rfl, rfl⟩ | ⟨rfl, rfl⟩ | ⟨rfl, rfl⟩ <;> exact up_command_gives h (bistStart_of_none hn) rfl
  case ineligible =>
    subst hp ht
    simp only [List.mem_cons, Prod.mk.injEq, List.not_mem_nil, or_false] at hm
    rcases hm with ⟨rfl, rfl⟩ | ⟨rfl, rfl⟩ | ⟨rfl, rfl⟩ <;> exact up_command_gives h (bistStart_of_ineligible hn h₁ h₂ hr) rfl
  case start =>
    subst hp ht
    simp only [List.mem_cons, Prod.mk.injEq, List.not_mem_nil, or_false] at hm
    rcases hm with ⟨rfl, rfl⟩ | ⟨rfl, rfl⟩ | ⟨rfl, rfl⟩ <;> exact up_command_gives h (bistStart_of_eligible hn hk hr) rfl
  case region =>
    refine up_leaves h ((bistRegionComplete_of_next hb hr hk hs hn ht).trans ?_)
    rw [← hx, bistNext]
    simp only [List.isEmpty_iff]
  case captureNoBase =>
    subst hp ht
    exact up_command_gives h (if_pos hb) rfl
  case closeNoBase =>
    subst hp ht
    exact up_command_gives h (if_pos (Or.inl hb)) rfl
  case captureClosed =>
    subst hp ht
    exact up_command_gives h ((if_neg hb).trans (if_pos hc)) rfl
  case capture =>
    subst hp ht
    exact up_command_gives h ((if_neg hb).trans (if_neg (ne_true_of_eq_false hc))) rfl
  case clear =>
    subst hp ht
    exact up_command_gives h rfl rfl
  case closeRefused =>
    subst hp ht
    exact up_command_gives h (dumpClose_of_untaken hb hn hf hs hk hl hc) rfl
  case close =>
    subst hp ht
    exact up_command_leaves h (dumpClose_of_taken hb hn hf hs hk hl hc hd ho)
  case captured =>
    subst hk
    refine up_leaves h ?_
    simp only [dumpCaptureComplete, hr]

/-- The TAP is held in reset while the power-on detector or PORST_N holds (R513). -/
theorem tapFree_of (h₁ : 1 ∉ s.rst.holding) (h₂ : 2 ∉ s.rst.holding) : (!s.rst.holding.contains 1 && !s.rst.holding.contains 2) = true := by
  simp [h₁, h₂]

theorem tapHeld_of (h : 1 ∈ s.rst.holding ∨ 2 ∈ s.rst.holding) : ¬ (!s.rst.holding.contains 1 && !s.rst.holding.contains 2) = true := by
  rcases h with h | h <;> simp [h]

/-- Settles O41: the TAP is free where neither cause holds, and a row then loads its instruction. -/
theorem testAccessTakesEffect : Obligations.TestAccessTakesEffect := by
  refine ⟨fun s => rfl, fun s b h₁ h₂ => ?taken, fun s b hh c hc => ?held, ?code⟩
  case taken =>
    have hg := tapFree_of h₁ h₂
    exact ⟨effect_gives (if_pos hg) rfl, effect_gives (if_pos hg) rfl, effect_gives (if_pos hg) rfl, effect_gives (if_pos hg) rfl, effect_gives (if_pos hg) rfl, effect_gives (if_pos hg) rfl⟩
  case held =>
    have hg := tapHeld_of hh
    simp only [List.mem_cons, List.not_mem_nil, or_false] at hc
    rcases hc with rfl | rfl | rfl | rfl | rfl | rfl <;> exact effect_gives (if_neg hg) rfl
  case code => exact ⟨_, _, rfl⟩

end Sys2Proof.Machine
end

section
-- One proof at a time: hundreds at once need more threads than the memory limit of the check has room for.
set_option Elab.async false
/-! ### Counters, pins and the dictionary (O42, O43, O45) -/

namespace Sys2Proof.Machine
variable {s t u : State} {p par : Bytes} {k n : Nat}

/-! #### Counters -/

/-- A snapshot at its target, once in an edge (R530). -/
theorem snapshotTarget_of_due (hk : k = s.objN 0x800002 0) (h0 : k ≠ 0) (ha : s.ctr.armEdge < s.bell.edges) (hn : k ≤ s.bell.number ∨ s.bell.rebased = true) (hs : s.ctr.snapEdge ≠ some s.bell.edges) :
    snapshotTarget s = { ({ s with ctr.snap := s.ctr.live, ctr.snapTaken := s.bell.number, ctr.snapEra := s.bell.era, ctr.snapCount := (s.ctr.snapCount + 1) % 2 ^ 32, ctr.snapEdge := some s.bell.edges }.setObj 0x800002 (le 8 (nextTarget k (s.objN 0x800003 0) s.bell.number s.bell.rebased))) with ctr.armEdge := s.bell.edges } := by
  subst hk
  have ht : takeSnapshot s = { s with ctr.snap := s.ctr.live, ctr.snapTaken := s.bell.number, ctr.snapEra := s.bell.era, ctr.snapCount := (s.ctr.snapCount + 1) % 2 ^ 32, ctr.snapEdge := some s.bell.edges } := if_neg hs
  have hg : (s.objN 0x800002 0 ≠ 0 && s.ctr.armEdge < s.bell.edges && (s.objN 0x800002 0 ≤ s.bell.number || s.bell.rebased)) = true := by
    refine and_true_of (and_true_of (decide_eq_true h0) (decide_eq_true ha)) ?_
    simpa using hn
  refine (if_pos hg).trans ?_
  rw [ht] <;> rfl

/-- The next target of the period lies within one period after the bell (R530). -/
theorem nextTarget_spec {t p n : Nat} (hp : 0 < p) (ht : t ≤ n) : nextTarget t p n false = t + ((n - t) / p + 1) * p := by
  simp only [nextTarget, Nat.ne_of_gt hp, if_false, Bool.false_eq_true, false_or, if_neg (Nat.not_lt.mpr ht)]

/-- Settles O42: each opcode as written, and the arithmetic of the next target. -/
theorem counterCommandsAndSnapshotsTakeEffect : Obligations.CounterCommandsAndSnapshotsTakeEffect := by
  refine ⟨fun s t par p h hp ht => ⟨?clearAll, fun h₁ h₁₃ => ?stage, fun hs => ?badStage, ?selectable, ?now, fun b hb hk ho h₁ h₁₆ hl => ?read, fun hr => ?badRead⟩,
    fun s k h hk h0 ha hn hs => ?target, fun t p n hp ht => ?next⟩
  case clearAll =>
    subst hp ht
    exact up_command_gives h rfl rfl
  case stage =>
    subst hp ht
    exact up_command_gives h (if_neg (by omega)) rfl
  case badStage =>
    subst hp ht
    exact up_command_gives h (if_pos (by omega)) rfl
  case selectable =>
    subst hp ht
    exact up_command_gives h rfl rfl
  case now =>
    subst hp ht
    exact up_command_gives h rfl rfl
  case read =>
    subst hp ht hb
    exact up_command_gives h (if_neg (by omega)) rfl
  case badRead =>
    subst hp ht
    exact up_command_gives h (if_pos (by omega)) rfl
  case target => exact up_gives h (snapshotTarget_of_due hk h0 ha hn hs) rfl
  case next =>
    rw [nextTarget_spec hp ht]
    have hd := Nat.div_add_mod (n - t) p
    have hm := Nat.mod_lt (n - t) hp
    have he : ((n - t) / p + 1) * p = p * ((n - t) / p) + p := by rw [Nat.succ_mul, Nat.mul_comm]
    refine ⟨by omega, by omega, ?_, rfl, ?_⟩
    · rw [Nat.add_sub_cancel_left, Nat.mul_mod_left]
    · exact (if_neg (Nat.ne_of_gt hp)).trans (if_pos (Or.inl rfl))

/-! #### Pins and temperatures -/

theorem wholeSecond_spec (h : s.wholeSecond = some k) : k % 10 ^ 9 = 0 ∧ s.bell.ptp ≤ k ∧ k < s.bell.ptp + s.bellSpan.1 := by
  unfold State.wholeSecond at h
  simp only [Option.ite_none_right_eq_some, Option.some.injEq] at h
  obtain ⟨hl, rfl⟩ := h
  refine ⟨?_, ?_, hl⟩
  · split <;> omega
  · split <;> omega

/-- The temperatures of an update: a stack's reading is not available while its domain is off (R552). -/
def tempsOf (ts : List (Option Int)) (s : State) : List (Option Int) :=
  (List.range' 0 8).map (fun i => if (i = 6 ∧ !s.domOn 17) ∨ (i = 7 ∧ !s.domOn 18) then none else ts.getD i none)

theorem getD_map_range {α : Type} (f : Nat → α) (d : α) {i n : Nat} (h : i < n) : ((List.range' 0 n).map f).getD i d = f i := by
  simp [List.getD, h]

/-- The updates in a row at or above the limit, by die. -/
def hotOf (ts : List (Option Int)) (s : State) : List Nat :=
  (List.range' 0 6).map (fun i => if ((tempsOf ts s).getD i none).any (fun v => ((s.objN 0x140022 125 * 10 : Nat) : Int) ≤ v) then s.pins.hot.getD i 0 + 1 else 0)

theorem any_hotOf (ts : List (Option Int)) (s : State) : (hotOf ts s).any (fun n => decide (8 ≤ n)) = true ↔ ∃ d < 6, 8 ≤ (hotOf ts s).getD d 0 := by
  constructor
  · intro h
    obtain ⟨n, hn, h₈⟩ := List.any_eq_true.mp h
    obtain ⟨d, hd, rfl⟩ := List.mem_map.mp hn
    have hl : d < 6 := by simpa using hd
    exact ⟨d, hl, by rw [hotOf, getD_map_range _ _ hl]; exact of_decide_eq_true h₈⟩
  · rintro ⟨d, hl, h₈⟩
    rw [hotOf, getD_map_range _ _ hl] at h₈
    exact List.any_eq_true.mpr ⟨_, List.mem_map_of_mem (by simpa using hl), decide_eq_true h₈⟩

theorem tempsOf_getD (ts : List (Option Int)) (s : State) {i : Nat} (h : i < 8) :
    (tempsOf ts s).getD i none = if i = 6 ∧ s.domOn 17 = false ∨ i = 7 ∧ s.domOn 18 = false then none else ts.getD i none := by
  rw [tempsOf, getD_map_range _ _ h]
  simp only [Bool.not_eq_true']

/-- The sensors' state after an update, with `hot` the updates in a row at or above the limit. -/
def sensed (ts : List (Option Int)) (hot : List Nat) (s : State) : State :=
  { s with pins := { s.pins with
    temps := tempsOf ts s
    peaks := (List.range' 0 8).map (fun i => hotter (s.pins.peaks.getD i none) ((tempsOf ts s).getD i none))
    hot := hot
    tempEdge := s.bell.edges
    tripped := s.pins.tripped || hot.any (fun n => decide (8 ≤ n)) } }

theorem tempSensorUpdate_of_due {ts : List (Option Int)} (h : s.pins.tempEdge + 1024 ≤ s.bell.edges) : tempSensorUpdate ts s = sensed ts (hotOf ts s) s := by
  refine (if_pos (decide_eq_true (le_since h))).trans (congrArg (fun hot => sensed ts hot s) (List.map_congr_left (fun i _ => ?_)))
  rw [← tempsOf]
  cases (tempsOf ts s).getD i none with
  | none => rfl
  | some v => simp

/-- Settles O43: the whole second of a bell, and one entry for each sensor. -/
theorem pinsAndTemperaturesTakeEffect : Obligations.PinsAndTemperaturesTakeEffect := by
  refine ⟨fun s t h => up_gives h rfl rfl, fun s k h hk hv ha hp => ⟨?rise, wholeSecond_spec hk⟩, fun s k h hk hl => ?fall, fun s ts h ht => ?temps⟩
  case rise =>
    refine up_gives h ?_ rfl
    simp only [ppsOutRise, hk]
    exact if_pos (and_true_of (and_true_of (decide_eq_true hv) ha) (by rw [hp]; rfl))
  case fall =>
    have hg : s.pins.ppsOut.any (fun k => decide (k + 100000000 < s.bell.ptp + s.bellSpan.1)) = true := by
      rw [hk, Option.any_some]
      exact decide_eq_true hl
    exact up_gives h (if_pos hg) rfl
  case temps =>
    refine ⟨_, up_gives h (tempSensorUpdate_of_due ht) rfl, fun i hi => ⟨?_, getD_map_range _ _ hi⟩, fun d hd => getD_map_range _ _ hd, rfl, ?_, rfl⟩
    · exact tempsOf_getD ts s hi
    · exact (Bool.or_eq_true ..).to_iff.trans (or_congr Iff.rfl (any_hotOf ts s))

/-! #### The dictionary -/

/-- What a readable snapshot's bytes change: its entries in order, `persist_gen` kept (R442). -/
def importRead (b : Bytes) (s : State) : State :=
  let y := (parseEntries b (fld b 16 4) 32).foldl (importEntry s.opKeysSet.isEmpty) (s, {})
  (({ y.1 with dict.persistGen := s.dict.persistGen }).count Ev.imports 0).done dictSet 0 (le 4 y.2.applied ++ le 4 y.2.skipped ++ le 2 (y.2.first / 256) ++ le 1 (y.2.first % 256))

theorem dictExport_of_long (hr : snapRange p = true) (ho : s.hbmOn = true) (hl : fld p 16 4 < (snapshot s).length) : dictExport p s = s.done dictSet 3 :=
  (if_neg (not_bnot hr)).trans ((if_neg (not_bnot ho)).trans (if_pos hl))

theorem dictExport_of_fits (hr : snapRange p = true) (ho : s.hbmOn = true) (hl : (snapshot s).length ≤ fld p 16 4) :
    dictExport p s = ((s.hbmPut (fld p 8 8) (snapshot s)).count Ev.exports 0).done dictSet 0 (le 8 s.dict.persistGen ++ le 4 (snapshot s).length ++ le 4 (snapEntries s).length) :=
  (if_neg (not_bnot hr)).trans ((if_neg (not_bnot ho)).trans (if_neg (Nat.not_lt.mpr hl)))

theorem dictImport_of_range (hr : snapRange p = false) : dictImport true p s = s.done dictSet 1 := if_pos (bnot_of hr)

theorem dictImport_of_state (hr : snapRange p = true) (h : s.anyReady = true ∨ s.hbmOn = false) : dictImport true p s = s.done dictSet 2 :=
  (if_neg (not_bnot hr)).trans (if_pos (Or.inr (h.imp id bnot_of)))

section
variable {x : State × Bytes × Bool}

theorem dictImport_of_read (hr : snapRange p = true) (ho : s.hbmOn = true) (ha : s.anyReady = false) (hx : x = s.hbmGet (if inStackB (fld p 8 8) then 213 else 212) 0 (fld p 8 8) (fld p 16 4)) :
    dictImport true p s = if x.2.2 = true ∨ (!snapshotOk x.2.1 (fld p 16 4)) = true then x.1.done dictSet 1 else importRead x.2.1 x.1 := by
  subst hx
  exact (if_neg (not_bnot hr)).trans ((if_neg (by simp [ha, ho])).trans rfl)

end

theorem importEntry_counts (f : Bool) (x : State × ImportCount) (e : Nat × Nat × Bytes) : (importEntry f x e).2.applied + (importEntry f x e).2.skipped = x.2.applied + x.2.skipped + 1 := by
  obtain ⟨s, c⟩ := x
  unfold importEntry
  dsimp only
  split
  · exact Nat.add_right_comm ..
  · rfl

theorem foldl_importEntry_counts (f : Bool) (es : List (Nat × Nat × Bytes)) (x : State × ImportCount) :
    (es.foldl (importEntry f) x).2.applied + (es.foldl (importEntry f) x).2.skipped = x.2.applied + x.2.skipped + es.length := by
  induction es generalizing x with
  | nil => rfl
  | cons e es ih =>
    rw [List.foldl_cons, ih, importEntry_counts, List.length_cons]
    omega

/-- Settles O45: the range, the stacks and the bytes read are checked in that order; each entry counts once. -/
theorem dictionaryCommandsTakeEffect : Obligations.DictionaryCommandsTakeEffect := by
  refine ⟨fun s t par p h hp ht => ⟨fun hr => ⟨?exportRange, ?importRange⟩, fun hr ho => ⟨?exportOff, ?importOff⟩, fun hr ho => ⟨fun hl => ?exportLong, fun hl => ?exported, fun ha => ?importReady,
      fun x ha hx => ⟨fun hb => ?importBad, fun y hb hs hy => ?imported⟩⟩, ?clear⟩, fun f s es y hy => ?counts⟩
  case exportRange =>
    subst hp ht
    exact up_command_gives h (if_pos (bnot_of hr)) rfl
  case importRange =>
    subst hp ht
    exact act_command_leaves h (dictImport_of_range hr)
  case exportOff =>
    subst hp ht
    exact up_command_gives h ((if_neg (not_bnot hr)).trans (if_pos (bnot_of ho))) rfl
  case importOff =>
    subst hp ht
    exact act_command_leaves h (dictImport_of_state hr (Or.inr ho))
  case exportLong =>
    subst hp ht
    exact up_command_gives h (dictExport_of_long hr ho hl) rfl
  case exported =>
    subst hp ht
    exact up_command_leaves h (dictExport_of_fits hr ho hl)
  case importReady =>
    subst hp ht
    exact act_command_leaves h (dictImport_of_state hr (Or.inl ha))
  case importBad =>
    subst hp ht
    exact act_command_leaves h ((dictImport_of_read (s := s.accepted dictSet dictSet 32 par) hr ho ha hx).trans (if_pos (hb.imp id bnot_of)))
  case imported =>
    subst hp ht hy
    exact act_command_leaves h ((dictImport_of_read (s := s.accepted dictSet dictSet 32 par) hr ho ha hx).trans (if_neg (by simp [hb, hs])))
  case clear =>
    subst hp ht
    exact up_command_gives h rfl rfl
  case counts =>
    subst hy
    exact (foldl_importEntry_counts f es (s, {})).trans (Nat.zero_add _)

end Sys2Proof.Machine
end
